-- ==== Sys2Proof/Word.lean ====
section
/-! DEFINITION. The word types of the device and the shape of its sparse storage. -/

namespace Sys2Proof

/-- One byte. -/
abbrev Byte := BitVec 8

/-- A 32-bit register word, or half of a 64-bit one. -/
abbrev Word32 := BitVec 32

/-- A 64-bit register or bundle word. -/
abbrev Word64 := BitVec 64

/-- Sparse storage indexed by a number, listed by strictly rising index.  An index that is not listed holds the
default that the owner of the storage names. -/
abbrev SMap (α : Type) := List (Nat × α)

end Sys2Proof
end

