-- ==== Sys2Proof/Syntax.lean ====
section
/-! DEFINITION. The commands of the device: one constructor of `Instr` per row of spec/opcode_table.json, and the
instructions that the bundles of Orders hold (R68). -/

namespace Sys2Proof

/-- A source queue of bundles (R47): a host order queue, the console, the in-band queue or the pair queue. -/
inductive OrderQueue
  | host (n : Fin 16)
  | console
  | inband
  | pair
  deriving DecidableEq, Repr

/-- An instruction of a bundle as its words decode (R61, R68). Operand values are those of the named fields; words of
records that a subsystem chapter lays out are kept whole. -/
inductive OrderInstr
  | nop
  | set (off : Nat) (w64 fromG : Bool) (value mask : Word64)
  | get (g off : Nat) (w64 : Bool)
  | check (g test : Nat) (mask value : Word64)
  | waitEpoch (rel : Bool) (epoch : Nat)
  | waitEvent (code unit timeout : Nat)
  | fence (edge : Bool)
  | stageBegin
  | stageEnd
  | commit (epoch : Nat)
  | abort
  | tblIns (pipes : Nat) (wide learned : Bool) (words : List Word64)
  | tblDel (pipes : Nat) (wide learned : Bool) (words : List Word64)
  | tblMod (pipes : Nat) (wide : Bool) (words : List Word64)
  | tcamWr (pipe index : Nat) (egress invalidate : Bool) (words : List Word64)
  | parseLoad (pipes first : Nat) (words : List Word64)
  | patLoad (pipes first : Nat) (words : List Word64)
  | leafWr (outLane outTu inLane inTu : Nat) (unequipped : Bool)
  | leafSwap (epoch : Nat)
  | tuMap (lane tu label : Nat)
  | chanBind (port lane : Nat) (unbind : Bool) (lo hi : Word64)
  | portUp (port lane lanes speed fec mode : Nat)
  | portDown (port : Nat)
  | laneCfg (lane param value : Nat)
  | qCfg (queue port tier group : Nat) (w0 w1 : Word64)
  | meterCfg (meter alg : Nat) (colourAware : Bool) (w0 w1 : Word64)
  | rsvDecl (flow meter queue : Nat) (withdraw : Bool) (w0 w1 : Word64)
  | tbStep (tb : Nat) (abs : Bool) (w0 w1 : Word64)
  | tbRate (tb rate : Nat)
  | tbRearm (tb : Nat)
  | pulseSet (tpo tb : Nat) (enable train : Bool) (startSec startNs period : Word64)
  | snap (block unit : Nat)
  | pairRole (active : Bool)
  | pairSwap (epoch : Nat)
  | sprintArm (arm : Bool)
  | freezePermit (duration : Nat)
  | fwLoad (slot : Nat) (addr len : Word64)
  | keyEnrol (slot : Nat) (words : List Word64)
  | keyRevoke (slot : Nat)
  | charterSet (source number : Nat) (addr len : Word64)
  | attest (nonce : List Word64) (addr limit : Word64)
  deriving DecidableEq, Repr

/-- A PCIe or console access to BAR0 (R436, R437): offset, length in bytes, byte enables of the first doubleword
[3:0] and of the last [7:4] of an access longer than one, the value of a write, and the requester. -/
structure Access where
  off : Nat
  len : Nat
  be : Nat
  value : Word64
  requester : Nat
  deriving DecidableEq, Repr

/-- The bytes of one console request (R455), field by field. -/
structure ConsoleRequest where
  sync : Nat
  op : Nat
  tag : Nat
  zero : Nat
  addr : Nat
  len : Nat
  payload : List Byte
  crc : Nat
  deriving DecidableEq, Repr

/-- What the read of a cell meets (R321, R332, R333). -/
inductive CellFault
  | dataCorrected
  | dataLost
  | linkCorrected
  | linkLost
  deriving DecidableEq, Repr

/-- Which of a ring's registers a write names. -/
inductive RingReg
  | base
  | size
  | cplBase
  deriving DecidableEq, Repr

/-! ### What the Psius link carries (R413) -/

/-- A heartbeat (R414), with the corrected reference time of the sender's epoch edge where it carries an edge marker, and the
word that a device sends with it: 0 none, 1 take over, 2 fenced, 3 the sender swapped roles at its edge `epoch` (R428). -/
structure Heartbeat where
  role : Nat
  pin : Bool
  ready : Bool
  serial : Word64
  epoch : Nat
  marker : Option Nat
  word : Nat
  deriving DecidableEq, Repr

/-- One record of the table change list (R422): 0 a write of T0, 1 a removal by aging, 2 a freeze; with the pipelines, the
key and RESULT word 0. -/
structure TableChange where
  kind : Nat
  pipes : List Nat
  key : List Word64
  result : Nat
  deriving DecidableEq, Repr

/-- A capture of the state that can diverge (R421): the active epoch, meter buckets, queue tags, virtual times, shaper
buckets of queues and of groups and ports, HIT and IDLE by place, the table changes, time servo state of each time base
(consecutive intervals, last rates, then STATE, rate in use and servo error registers), SEQ fields and timestamp indices by
register offset, and the event ring sequence.  A slice holds counter values at the last capture edge.  `learned` are the
entries of a bulk copy. -/
structure Sideboard where
  epoch : Nat
  meters : SMap (Nat × Nat)
  tags : SMap (Nat × Nat)
  virtual : SMap Nat
  queueBuckets : SMap Int
  buckets : SMap Int
  hits : SMap (Bool × Bool)
  changes : List TableChange
  servos : List (Nat × List (Int × Nat) × Option Int × List Nat)
  seqs : SMap Nat
  rseq : Nat
  slice : Option (Nat × SMap Nat)
  learned : Option (List (Nat × List Word64 × Nat × Nat))
  deriving DecidableEq, Repr

/-- A command of the device: one constructor per row of spec/opcode_table.json. -/
inductive Instr
  /-- NOP (R68). Instruction that does nothing. -/
  | nop (q : OrderQueue)
  /-- SET (R70). Instruction that writes an OW register under a mask as an unversioned change. -/
  | set (q : OrderQueue) (off : Nat) (w64 fromG : Bool) (value mask : Word64)
  /-- GET (R68). Instruction that loads a register into a G register. -/
  | get (q : OrderQueue) (g off : Nat) (w64 : Bool)
  /-- CHECK (R68). Instruction that sets C from a masked test of a G register and, with HALT, ends the bundle on a false result. -/
  | check (q : OrderQueue) (g test : Nat) (mask value : Word64)
  /-- WAIT_EPOCH (R76). Instruction that parks the bundle until a target epoch edge has passed. -/
  | waitEpoch (q : OrderQueue) (rel : Bool) (epoch : Nat)
  /-- WAIT_EVENT (R77). Instruction that parks the bundle until a named event is raised or a timeout expires. -/
  | waitEvent (q : OrderQueue) (code unit timeout : Nat)
  /-- FENCE (R78). Instruction that parks the bundle until its earlier instructions have had full effect, and with EDGE until the next edge. -/
  | fence (q : OrderQueue) (edge : Bool)
  /-- STAGE_BEGIN (R71). Instruction that opens the bundle's stage set. -/
  | stageBegin (q : OrderQueue)
  /-- STAGE_END (R71). Instruction that closes the stage set without committing it. -/
  | stageEnd (q : OrderQueue)
  /-- COMMIT (R72). Instruction that runs admission, sends the staged state to the affected islands and parks until the commit applies, is withdrawn or is refused. -/
  | commit (q : OrderQueue) (epoch : Nat)
  /-- ABORT (R71). Instruction that discards the held stage set; the bundle continues. -/
  | abort (q : OrderQueue)
  /-- TBL_INS (R293). Instruction that inserts an exact-match entry directly or stages it, or with LEARNED makes a learned insert. -/
  | tblIns (q : OrderQueue) (pipes : Nat) (wide learned : Bool) (words : List Word64) (errors : List (Fin 8 × Nat × Bool))
  /-- TBL_DEL (R293). Instruction that deletes an exact-match entry directly or closes it at COMMIT. -/
  | tblDel (q : OrderQueue) (pipes : Nat) (wide learned : Bool) (words : List Word64) (errors : List (Fin 8 × Nat × Bool))
  /-- TBL_MOD (R293). Instruction that replaces an exact-match entry's result directly or by a staged replacement. -/
  | tblMod (q : OrderQueue) (pipes : Nat) (wide : Bool) (words : List Word64) (errors : List (Fin 8 × Nat × Bool))
  /-- TCAM_WR (R265). Instruction that claims a TCAM index and stages a new entry or closes an open one. -/
  | tcamWr (q : OrderQueue) (pipe index : Nat) (egress invalidate : Bool) (words : List Word64)
  /-- PARSE_LOAD (R254). Instruction that claims the standby parse bank and writes parse-graph nodes into it. -/
  | parseLoad (q : OrderQueue) (pipes first : Nat) (words : List Word64)
  /-- PAT_LOAD (R274). Instruction that claims pattern slots to load or close payload patterns. -/
  | patLoad (q : OrderQueue) (pipes first : Nat) (words : List Word64)
  /-- LEAF_WR (R233). Instruction that writes one connection of the standby Leaf, at once or when its set is staged. -/
  | leafWr (q : OrderQueue) (outLane outTu inLane inTu : Nat) (unequipped : Bool)
  /-- LEAF_SWAP (R234). Instruction that forms a swap-only commit or marks the stage set to carry LEAF_SWAP. -/
  | leafSwap (q : OrderQueue) (epoch : Nat)
  /-- TU_MAP (R195). Instruction that sets a TU's transmitted and expected signal labels. -/
  | tuMap (q : OrderQueue) (lane tu label : Nat)
  /-- CHAN_BIND (R244). Instruction that binds TUs of an STF lane into a packet channel or, with UNBIND, requests its disable. -/
  | chanBind (q : OrderQueue) (port lane : Nat) (unbind : Bool) (lo hi : Word64)
  /-- PORT_UP (R155). Instruction that records a port form and makes an enable request for the port. -/
  | portUp (q : OrderQueue) (port lane lanes speed fec mode : Nat)
  /-- PORT_DOWN (R156). Instruction that makes a disable request for a port. -/
  | portDown (q : OrderQueue) (port : Nat)
  /-- LANE_CFG (R134). Instruction that sets one lane parameter, applied at the commit edge. -/
  | laneCfg (q : OrderQueue) (lane param value : Nat)
  /-- RECAL (R131). LANE.CFG parameter that recalibrates a lane, taking it out of service for up to 5 ms if On. -/
  | recal (q : OrderQueue) (lane : Nat)
  /-- TEST_EN (R129). LANE.CFG parameter that makes an enable or disable request for a lane in no port. -/
  | testEn (q : OrderQueue) (lane value : Nat)
  /-- GEN (R137). LANE.CFG parameter that sets the pattern generator, ignored on a lane whose port is Starting or On. -/
  | gen (q : OrderQueue) (lane value : Nat)
  /-- INJ_FIRE (R139). LANE.CFG parameter that fires a single or burst error injection. -/
  | injFire (q : OrderQueue) (lane : Nat)
  /-- CHK_CLEAR (R138). LANE.CFG parameter that zeroes the checker counters at its edge. -/
  | chkClear (q : OrderQueue) (lane : Nat)
  /-- Q_CFG (R355). Instruction that assigns, parameterises, moves or releases a hardware queue. -/
  | qCfg (q : OrderQueue) (queue port tier group : Nat) (w0 w1 : Word64)
  /-- METER_CFG (R351). Instruction that configures a meter's algorithm, rates and bursts. -/
  | meterCfg (q : OrderQueue) (meter alg : Nat) (colourAware : Bool) (w0 w1 : Word64)
  /-- RSV_DECL (R362). Instruction that declares, replaces or withdraws a reserved flow. -/
  | rsvDecl (q : OrderQueue) (flow meter queue : Nat) (withdraw : Bool) (w0 w1 : Word64)
  /-- TB_STEP (R384). Instruction that steps a time base, relatively or at an ABS instant, under the step-once rule. -/
  | tbStep (q : OrderQueue) (tb : Nat) (abs : Bool) (w0 w1 : Word64)
  /-- TB_RATE (R381). Instruction that writes RATE_SW of a time base. -/
  | tbRate (q : OrderQueue) (tb rate : Nat)
  /-- TB_REARM (R386). Instruction that re-arms the step-once rule of a time base. -/
  | tbRearm (q : OrderQueue) (tb : Nat)
  /-- PULSE_SET (R401). Instruction that programmes a time pulse output and makes its enable or disable request. -/
  | pulseSet (q : OrderQueue) (tpo tb : Nat) (enable train : Bool) (startSec startNs period : Word64)
  /-- SNAP (R459). Instruction that requests a counter snapshot of a unit at the next edge. -/
  | snap (q : OrderQueue) (block unit : Nat)
  /-- PAIR_ROLE (R411). Instruction that sets this device's pair role to ACTIVE or SYNCING. -/
  | pairRole (q : OrderQueue) (active : Bool)
  /-- PAIR_SWAP (R428). Instruction that schedules a planned swap of pair roles at an epoch. -/
  | pairSwap (q : OrderQueue) (epoch : Nat)
  /-- SPRINT_ARM (R477). Instruction that makes an enable or disable request for Sprint. -/
  | sprintArm (q : OrderQueue) (arm : Bool)
  /-- FREEZE_PERMIT (R487). Instruction that sets or withdraws the freeze permission duration. -/
  | freezePermit (q : OrderQueue) (duration : Nat)
  /-- FW_LOAD (R107). Instruction that verifies a firmware extension image, writes it to flash and places it in Bureau RAM. -/
  | fwLoad (q : OrderQueue) (slot : Nat) (addr len : Word64) (image : Option (List Byte))
  /-- KEY_ENROL (R102). Instruction that burns the key digests and ENROLLED fuse of an Empty owner slot. -/
  | keyEnrol (q : OrderQueue) (slot : Nat) (words : List Word64)
  /-- KEY_REVOKE (R104). Instruction that burns the REVOKED fuse of an Enrolled owner slot. -/
  | keyRevoke (q : OrderQueue) (slot : Nat)
  /-- CHARTER_SET (R88). Instruction that tests a Charter record, writes it to boot flash and installs it. -/
  | charterSet (q : OrderQueue) (source number : Nat) (addr len : Word64)
  /-- ATTEST (R112). Instruction that captures the report body and parks while the report is dual-signed. -/
  | attest (q : OrderQueue) (nonce : List Word64) (addr limit : Word64)
  /-- FREEZE_ORDER (R486). SET of FREEZE in PWR_FREEZE_CTL that freezes the device at its commit edge if permitted. -/
  | freezeOrder (q : OrderQueue) (value mask : Word64)
  /-- FREEZE_BURN (R487). Sovereign SET of FREEZE_BURN in AUTH_OTP_CTL that burns the freeze fuse. -/
  | freezeBurn (q : OrderQueue) (value mask : Word64)
  /-- ROLLBACK_TO (R109). Sovereign SET of ROLLBACK_TO that advances the anti-rollback counter. -/
  | rollbackTo (q : OrderQueue) (value mask : Word64)
  /-- SCRUB (R335). SET of CELL_QUAR_RET that scrubs one or every quarantined cell. -/
  | scrub (q : OrderQueue) (value mask : Word64)
  /-- LEAF_EN (R236). SET of LEAF_EN in TSI_CFG that makes enable or disable requests for the quadrants' Leaf switching. -/
  | leafEn (q : OrderQueue) (value mask : Word64)
  /-- PAT_EN (R279). SET of PAT_EN that makes an enable or disable request for a pattern engine. -/
  | patEn (q : OrderQueue) (pipe : Nat) (value mask : Word64)
  /-- TSI_XP (R238). SET of a TSI_XP register that forms or removes an express pair. -/
  | tsiXp (q : OrderQueue) (pair : Nat) (value mask : Word64)
  /-- SOURCE (R379). SET of SOURCE in TIME_TB_CFG that changes a time base's source and moves its state. -/
  | source (q : OrderQueue) (tb : Nat) (value mask : Word64)
  /-- LOCK_DECL (R379). SET of LOCK_DECL that declares lock or holdover for a software-sourced time base. -/
  | lockDecl (q : OrderQueue) (tb : Nat) (value mask : Word64)
  /-- ORD_OQ_TAIL (R52). Host write of an order queue's TAIL doorbell, discarded if it overfills the ring. -/
  | ordOqTail (n : Fin 16) (value : Word32)
  /-- ORD_OQ_SIZE (R52). Host write of an order queue's BASE, SIZE or CPL_BASE, taken only while the queue is idle. -/
  | ordOqSize (n : Fin 16) (reg : RingReg) (value : Word64)
  /-- ORD_OQ_CPL_HEAD (R54). Host write of the completion ring head, making room for held completion records. -/
  | ordOqCplHead (n : Fin 16) (value : Word32)
  /-- SEQUENCE_WRITE_BACK (R439). Host write to an SQ register that clears the written status bits if its SEQ matches. -/
  | sequenceWriteBack (off : Nat) (value : Word32)
  /-- DEV_SNAP_TRIG (R459). Host write that requests a snapshot of a block's unit at the next edge. -/
  | devSnapTrig (value : Word32) (requester : Nat)
  /-- HDMA_EVR_SIZE (R444). Host write of the event ring size, disabling it or enabling it with indices reset. -/
  | hdmaEvrSize (value : Word32)
  /-- HDMA_EVR_BASE (R444). Host write of the event ring base, taken only while SIZE is 0. -/
  | hdmaEvrBase (value : Word64)
  /-- HDMA_EVR_HEAD (R444). Host write of the event ring head, discarded if it would pass TAIL. -/
  | hdmaEvrHead (value : Word32)
  /-- HDMA_RING_TAIL (R448). Host doorbell write on a transmit or receive ring, clearing HALTED. -/
  | hdmaRingTail (ring : Fin 128) (value : Word32)
  /-- HDMA_RING_SIZE (R52). Host write of a packet ring's BASE or SIZE, taken only while idle. -/
  | hdmaRingSize (ring : Fin 128) (reg : RingReg) (value : Word64)
  /-- TBL_SHADOW_TAIL (R312). Host doorbell write that posts shadow compare segments. -/
  | tblShadowTail (value : Word32)
  /-- TBL_SHADOW_SIZE (R312). Host write of the shadow ring BASE or SIZE, taken only while idle. -/
  | tblShadowSize (reg : RingReg) (value : Word64)
  /-- PORT_TSF_RD (R399). Host write of a timestamp FIFO read index, discarded unless between RD and WR. -/
  | portTsfRd (port : Fin 1024) (value : Word32)
  /-- MSIX_TABLE_WRITE (R442). Host write of an MSI-X table entry; unmasking sends a pending message. -/
  | msixTableWrite (entry : Fin 256) (dword : Fin 4) (value : Word32)
  /-- LH_LOW_WORD_READ (R440). Host read of an LH register's low word that latches its high word. -/
  | lhLowWordRead (off : Nat) (wide : Bool)
  /-- HOST_REGISTER_WRITE (R437). Host write to any register without its own row, applied by field class or discarded as a bus error. -/
  | hostRegisterWrite (a : Access)
  /-- UNSUPPORTED_REQUEST (R437). Host read that is a bus error, answered with Unsupported Request and logged. -/
  | unsupportedRequest (a : Access)
  /-- STORE_WRITE (R456). Console operation that writes bytes to the object store. -/
  | storeWrite (r : ConsoleRequest)
  /-- STORE_READ (R456). Console operation that returns bytes from the object store. -/
  | storeRead (r : ConsoleRequest)
  /-- SUBMIT (R458). Console operation that copies a bundle from the store onto the console queue. -/
  | submit (r : ConsoleRequest)
  /-- CPL_READ (R456). Console operation that removes and returns the oldest console completion record. -/
  | cplRead (r : ConsoleRequest)
  /-- REG_READ (R456). Console operation that reads a BAR0 register. -/
  | regRead (r : ConsoleRequest)
  /-- DUSTSHEET_READ_OUT (R489). Console STORE_READ in freeze that returns bytes of the Dustsheet image. -/
  | dustsheetReadOut (r : ConsoleRequest)
  /-- BYPASS (R492). JTAG instruction selecting the bypass register. -/
  | bypass 
  /-- IDCODE (R492). JTAG instruction selecting the identification register. -/
  | idcode 
  /-- SAMPLE_PRELOAD (R492). JTAG instruction that samples or preloads the boundary scan. -/
  | samplePreload (levels preload : List Bool)
  /-- EXTEST (R492). JTAG instruction that drives and tests the balls through boundary scan. -/
  | extest (levels : List Bool)
  /-- DUSTSHEET (R492). JTAG instruction whose Capture-DR loads the next Dustsheet image word in freeze. -/
  | dustsheet 
  /-- BUNDLE_FETCH (R53). Completion of a descriptor and bundle fetch into Bureau RAM, followed by acceptance checks 1 to 3. -/
  | bundleFetch (n : Fin 16) (addr : Word64) (len rsv : Word32) (words : Option (List Word64))
  /-- ORD_FETCH_TIMEOUT (R53). A descriptor or bundle fetch not complete within 1 ms halts the queue. -/
  | ordFetchTimeout (n : Fin 16)
  /-- SIGNATURE_VERIFIED (R60). Trestle T3 finishes check 4; checks 5 to 7 run and execution starts or the bundle is refused. -/
  | signatureVerified (q : OrderQueue) (reads : List (Option (List Byte)))
  /-- APPLY_AFTER_RELEASE (R58). A bundle held for APPLY_AFTER starts executing once that epoch's edge has passed. -/
  | applyAfterRelease (q : OrderQueue)
  /-- COMPLETION_RECORD_WRITE (R54). A finished bundle's completion record is written once the ring has room and the journal is durable. -/
  | completionRecordWrite (q : OrderQueue)
  /-- JOURNAL_APPEND (R99). Completion of a sequence journal append to boot flash. -/
  | journalAppend (ok : Bool)
  /-- JOURNAL_RETRY (R99). Once-per-second retry of a failed journal append. -/
  | journalRetry (ok : Bool)
  /-- INBAND_SEGMENT (R55). An in-band bundle segment is taken into reassembly. -/
  | inbandSegment 
  /-- INBAND_REASSEMBLY_TIMEOUT (R55). A reassembly not complete 100 ms after its first segment is dropped. -/
  | inbandReassemblyTimeout (charter id : Nat)
  /-- WAIT_EVENT_ARRIVAL (R77). A matching event resumes a bundle parked in WAIT.EVENT with C set to 1. -/
  | waitEventArrival (q : OrderQueue)
  /-- WAIT_EVENT_TIMEOUT (R77). The WAIT.EVENT timeout expires, setting C to 0 or ending the bundle with HALT. -/
  | waitEventTimeout (q : OrderQueue)
  /-- WAIT_EPOCH_RESUME (R76). A bundle parked in WAIT.EPOCH resumes after its target edge. -/
  | waitEpochResume (q : OrderQueue)
  /-- FENCE_RELEASE (R78). A bundle parked in FENCE resumes when all earlier effects are complete. -/
  | fenceRelease (q : OrderQueue)
  /-- ATTEST_SIGNED (R112). The IS37 signing engine finishes a report, which is written to its address. -/
  | attestSigned (q : OrderQueue)
  /-- ISLAND_ACK (R27). An island acknowledges that it holds its part of a commit's staged state. -/
  | islandAck (q : OrderQueue) (island : Fin 40)
  /-- EDGE_CUTOFF (R28). Ten microseconds before an edge, the Bureau settles which commits that edge carries. -/
  | edgeCutoff 
  /-- ACK_WINDOW_EXPIRY (R29). A commit's acknowledgement window expires; the staged state is withdrawn and re-sent or aborted. -/
  | ackWindowExpiry (q : OrderQueue)
  /-- EPOCH_EDGE (R13). An epoch edge reaches every island and each carries out the edge's actions. -/
  | epochEdge (freqs : List (Fin 512 × Int))
  /-- FRAME_RECEIVE (R162). The receive MAC takes a frame and applies its checks and counters. -/
  | frameReceive (port : Fin 1024) (bytes : List Byte) (codeError truncated : Bool) (badBlocks time : Nat)
  /-- FRAME_INGRESS (R252). A frame enters its ingress pipeline, is parsed, classified, looked up, metered and its copies admitted. -/
  | frameIngress (port : Fin 1024) (early : Option (Nat × List Byte)) (errors : List (Nat × Bool)) (time : Nat)
  /-- PATTERN_SCAN (R275). The pattern engine scans a queued frame's window and runs the second TCAM pass. -/
  | patternScan (pipe : Fin 8) (errors : List (Nat × Bool))
  /-- FRAME_DEQUEUE (R356). The port scheduler selects a frame, checks its lifetime, looks up egress and starts transmission. -/
  | frameDequeue (port : Fin 1024) (fault : Option CellFault) (time point : Nat)
  /-- CELL_RELEASE (R327). A copy releases a cell, checked for generation and double release. -/
  | cellRelease (port : Fin 1024) (cell gen : Nat) (fault : Option CellFault)
  /-- UNDERRUN (R175). The transmit MAC needs a byte of a cut-through frame whose cell is not yet written. -/
  | underrun (port : Fin 1024)
  /-- TIMESTAMP_POINT (R397). A stamped frame's timestamp point leaves the balls and a FIFO record is written. -/
  | timestampPoint (port : Fin 512) (time : Nat)
  /-- PFC_FRAME_RECEIVE (R169). A received PFC frame loads the pause timers of its enabled priorities. -/
  | pfcFrameReceive (port : Fin 1024)
  /-- PAUSE_FRAME_RECEIVE (R170). A received PAUSE frame pauses every queue of the port if enabled. -/
  | pauseFrameReceive (port : Fin 1024)
  /-- PAUSE_TIMER_EXPIRY (R169). A priority's pause timer reaches zero and the priority is released. -/
  | pauseTimerExpiry (port : Fin 1024) (priority : Fin 8)
  /-- PFC_FRAME_SEND (R172). The MAC sends a PFC frame after an XOFF assertion or release. -/
  | pfcFrameSend (port : Fin 1024)
  /-- PFC_RESEND (R172). Half of QUANTA has elapsed and the PFC frame is resent. -/
  | pfcResend (port : Fin 1024)
  /-- FEC_CODEWORD (R160). An RS(544,514) codeword is decoded, corrected or marked uncorrectable. -/
  | fecCodeword (port : Fin 512) (symbols : Nat)
  /-- CUPBOARD_REFILL (R323). A block of free cells arrives in a quadrant's Cupboard cache. -/
  | cupboardRefill (quadrant : Fin 4)
  /-- TX_DESCRIPTOR (R448). A host transmit descriptor is fetched and its frame or segments enqueued or refused. -/
  | txDescriptor (ring : Fin 64) (words : List Word64) (frame payload : List Byte) (time : Nat)
  /-- HDMA_FETCH_TIMEOUT (R448). A packet ring fetch that fails or exceeds 1 ms halts the ring. -/
  | hdmaFetchTimeout (ring : Fin 128)
  /-- HOST_RX_DELIVERY (R451). A slow-path or management frame is written to a host receive buffer. -/
  | hostRxDelivery (ring : Fin 64) (addr : Word64) (bufLen : BitVec 16)
  /-- EVENT_RECORD_WRITE (R444). An event record is written to the event ring, or counted lost. -/
  | eventRecordWrite 
  /-- HOLDOFF_EXPIRY (R443). A vector's holdoff ends and one MSI-X message announces the pending work. -/
  | holdoffExpiry (vector : Fin 256)
  /-- LANE_STARTING_END (R128). A lane's Starting ends in On, or in Stopping on a PLL or calibration fault. -/
  | laneStartingEnd (lane : Fin 512) (ok : Bool)
  /-- LANE_STOPPING_END (R128). A lane's Stopping ends with both directions Dark. -/
  | laneStoppingEnd (lane : Fin 512)
  /-- REFCLK_LOSS (R121). An octet loses its reference clock and switches to the other one. -/
  | refclkLoss (octet : Fin 64)
  /-- BACKGROUND_RECAL (R130). Once-per-second background recalibration of an Active or Quiet lane. -/
  | backgroundRecal (lane : Fin 512)
  /-- RECAL_DONE (R131). A parked lane finishes recalibration on exit and a held widening may continue. -/
  | recalDone (lane : Fin 512)
  /-- CHECKER_SAMPLE (R138). The pattern checker evaluates received bits, gaining or losing lock and counting errors. -/
  | checkerSample (lane : Fin 512) (bits : List Bool)
  /-- SIG_DET_LOSS (R124). No signal on the receive balls for 100 ns clears SIG_DET. -/
  | sigDetLoss (lane : Fin 512)
  /-- LOS_CLEAR (R209). SIG_DET has been 1 for 10 µs and LOS clears. -/
  | losClear (lane : Fin 512)
  /-- ALIGNMENT_MARKER_LOCK (R127). An Ethernet lane gains or loses alignment-marker lock, changing LINK_UP. -/
  | alignmentMarkerLock (lane : Fin 512) (locked deskewed : Bool)
  /-- LANE_CONTROL_WORD_SLOT (R148). A word slot sends the next lane-control or hold word of a thinning announcement. -/
  | laneControlWordSlot (port : Fin 512)
  /-- LANE_CONTROL_WORD_RECEIVE (R149). A receiver takes a lane-control word and prepares its lanes for the switch. -/
  | laneControlWordReceive (port : Fin 512) (word : BitVec 24)
  /-- THIN_SWITCH (R148). At the boundary after COUNT 0 the port changes width and parks or wakes lanes. -/
  | thinSwitch (port : Fin 512) (received : Bool)
  /-- HOLD_WORD_TIMEOUT (R151). No hold word for 1 µs or one frame, so the sender continues its countdown. -/
  | holdWordTimeout (port : Fin 512)
  /-- STF_BLOCK_RECEIVE (R125). An STF block is received and drives block lock, FAW hunting and SYNC checks. `time` is the reference time
  of its arrival. -/
  | stfBlockReceive (lane : Fin 512) (header : BitVec 2) (word : Word64) (time : Nat)
  /-- STF_FRAME_RECEIVE (R200). A received STF frame in SYNC is checked for BIP, traces and section defects. -/
  | stfFrameReceive (lane : Fin 512)
  /-- STF_FRAME_START (R198). An STF lane starts transmitting a frame, with pointers and stuffing decided per span. -/
  | stfFrameStart (lane : Fin 512) (time : Nat)
  /-- CONTAINER_RECEIVE (R201). A TU container is received and its PBIP, label, trace and TU defects integrated. -/
  | containerReceive (lane : Fin 512) (tu : Fin 78)
  /-- PARKED_MASK_EXPIRY (R211). Eight frame periods after a waking switch the lane's defects are unmasked. -/
  | parkedMaskExpiry (lane : Fin 512)
  /-- MGMT_FRAME_RECEIVE (R214). A management channel frame is delineated and delivered or dropped. -/
  | mgmtFrameReceive (lane : Fin 512)
  /-- CHANNEL_HEADER_RECEIVE (R249). A packet-channel header is taken and delineation state advances. -/
  | channelHeaderReceive (channel : Fin 512)
  /-- PRESYNC_TIMEOUT (R249). Delineation has not confirmed two headers within 250 µs and returns to HUNT. -/
  | presyncTimeout (mgmt : Bool) (n : Fin 512)
  /-- PORT_STARTING_END (R156). A port's Starting ends with every lane On and the MAC ready. -/
  | portStartingEnd (port : Fin 512)
  /-- PORT_DRAIN_EXPIRY (R156). The 1 ms drain of a Stopping port ends and remaining frames are flushed. -/
  | portDrainExpiry (port : Fin 1024)
  /-- PORT_STOPPING_END (R156). A port's Stopping ends with cells freed and lanes Off. -/
  | portStoppingEnd (port : Fin 512)
  /-- CHANNEL_STARTING_END (R244). The first frame carrying a packet channel is sent and it reaches On. -/
  | channelStartingEnd (channel : Fin 512)
  /-- CHANNEL_STOPPING_END (R244). A channel's Stopping ends with the first unequipped frame sent. -/
  | channelStoppingEnd (channel : Fin 512)
  /-- TSI_QUADRANT_TRANSITION_END (R236). A quadrant's Leaf switching ends Starting or Stopping. -/
  | tsiQuadrantTransitionEnd (quadrant : Fin 4)
  /-- LEAF_COPY_END (R234). The follow-copy after a swap ends and held LEAF.WR proceed. -/
  | leafCopyEnd (quadrant : Fin 4)
  /-- PATTERN_ENGINE_TRANSITION_END (R279). A pattern engine ends Starting or Stopping. -/
  | patternEngineTransitionEnd (pipe : Fin 8)
  /-- TPO_TRANSITION_END (R401). A time pulse output ends Starting or Stopping. -/
  | tpoTransitionEnd (tpo : Fin 16)
  /-- PULSE_EMIT (R402). A time pulse begins when its time base reaches the scheduled time. -/
  | pulseEmit (tpo : Fin 16)
  /-- SERVO_UPDATE (R380). Trestle T9 updates a time base's rate once per second and moves its lock state. -/
  | servoUpdate (tb : Fin 8)
  /-- TB_STEP_APPLY (R384). An accepted step takes effect on its time base. -/
  | tbStepApply (tb : Fin 8)
  /-- TIN_EDGE (R404). An edge on a reference input is accepted and captured, or rejected. -/
  | tinEdge (tin : Fin 4) (rising : Bool) (time : Nat)
  /-- TIN_LOSS_TIMEOUT (R405). No accepted edge for 1.5 s or 1 µs sets LOST. -/
  | tinLossTimeout (tin : Fin 4)
  /-- LEARN_NOTICE (R299). Trestle T0 handles a learn notice, settling races and flapping. -/
  | learnNotice (pipe : Fin 8) (errors : List (Fin 8 × Nat × Bool))
  /-- LEARN_ACK_TIMEOUT (R300). ACK_MS expires on a pending notice. -/
  | learnAckTimeout (pipe : Fin 8) (key : Word64)
  /-- AGE_SWEEP_VISIT (R307). Trestle T1 visits an agable entry, clearing HIT, setting IDLE or removing it. `late` names a hit in the
  cycle of the visit's read (false) or of the removal's re-read (true). -/
  | ageSweepVisit (pipe : Fin 8) (place : Nat) (late : Option Bool) (errors : List (Fin 8 × Nat × Bool))
  /-- SHADOW_SEGMENT (R313). Trestle T2 compares a fetched shadow segment against every replica. -/
  | shadowSegment (addr : Word64) (count flags rsv : Nat) (words : Option (List Word64)) (errors : List (Fin 8 × Nat × Bool))
  /-- SHADOW_FINAL_SCAN (R313). After the LAST segment T2 scans for unmarked entries and ends the run. -/
  | shadowFinalScan (errors : List (Fin 8 × Nat × Bool))
  /-- SHADOW_FETCH_TIMEOUT (R312). A shadow descriptor or read that fails or exceeds 1 ms ends the run. -/
  | shadowFetchTimeout 
  /-- HEARTBEAT_RECEIVE (R414). A Psius heartbeat is taken, updating peer state and edge pairing. -/
  | heartbeatReceive (hb : Heartbeat)
  /-- HEARTBEAT_TIMEOUT (R414). No valid heartbeat for HB_US and the peer is taken as lost. -/
  | heartbeatTimeout 
  /-- SIDEBOARD_COPY_RECEIVE (R421). The standby receives a Sideboard copy for application at its next paired edge. -/
  | sideboardCopyReceive (copy : Sideboard)
  /-- FORWARDED_BUNDLE (R416). A bundle forwarded by the active device arrives on the pair queue. -/
  | forwardedBundle (n : Nat) (words : List Word64) (apply : Nat)
  /-- PAIR_READINESS (R418). The peer's readiness message for a pair commit is received. -/
  | pairReadiness (n : Nat) (commit : Bool)
  /-- PEER_COMPLETION_RECORD (R419). The standby's completion record is compared with the active device's own. -/
  | peerCompletionRecord (n : Nat) (words : List Word64)
  /-- PEER_RECORD_TIMEOUT (R419). No peer completion record within 1 ms counts as a divergence. -/
  | peerRecordTimeout (n : Nat)
  /-- PEER_FAIL_ASSERTED (R425). PAIR_FAIL has been low from the peer for 1 µs. -/
  | peerFailAsserted (low : Bool)
  /-- PEER_FENCE_ASSERTED (R426). PAIR_FENCE has been low from the peer for 1 µs and an ACTIVE device becomes FENCED. -/
  | peerFenceAsserted (low : Bool)
  /-- TXSEL_DEADLINE_EXPIRY (R426). IS39 deasserts TXSEL 250 µs after a fence was found, in any case. -/
  | txselDeadlineExpiry 
  /-- ISLAND_POLL (R427). IS39 polls IS32 and IS36 each 1 µs and declares a failure after 10 unanswered polls. -/
  | islandPoll (answered32 answered36 : Bool)
  /-- RESET (R468). RESET_N low returns every register and function to its reset state. -/
  | reset 
  /-- BOOT (R469). RESET_N rises and boot steps 1 to 5 run. -/
  | boot (pin readable : Bool) (bad : List Nat) (flashMs : Nat)
  /-- BOOT_COMPLETE (R469). Boot step 6 enters the extensions and orders are accepted. -/
  | bootComplete (readyMs : Nat)
  /-- SUPPLY_FAULT (R466). A core or SerDes supply falls 6 % below nominal for 1 µs. -/
  | supplyFault 
  /-- TJ_SAMPLE (R483). The temperature sensors are sampled every 20 µs. -/
  | tjSample (readings : List (Option Int))
  /-- ICORE_SAMPLE (R484). The core current is sampled every 1 µs. -/
  | icoreSample (amperes : Nat)
  /-- CREDIT_EXHAUSTED (R479). Sprint CREDIT reaches 0 and Sprint exits. -/
  | creditExhausted (time : Nat)
  /-- SPRINT_CLOCK_STEP (R480). The core clock moves one frequency step within the allowed window. -/
  | sprintClockStep (time : Nat)
  /-- FREEZE_N_ASSERTED (R486). FREEZE_N has been low for 100 ns. -/
  | freezeNAsserted (trip : Bool)
  /-- FREEZE_PERMIT_EXPIRY (R487). The freeze permission counts down to zero. -/
  | freezePermitExpiry 
  /-- FUNCTION_LEVEL_RESET (R434). A PCIe function level reset resets the host side only. -/
  | functionLevelReset 
  /-- D3HOT_ENTRY (R433). The function enters D3hot and stops fetching and writing records. -/
  | d3hotEntry 
  /-- D0_RETURN (R433). The function returns to D0 and DMA resumes. -/
  | d0Return 
  /-- QUEUE_STOPPING_END (R355). The Stopping of a queue that a Q.CFG moved or released ends once its frames are flushed, within 10 µs. A moved queue then receives an enable request if its new port is Starting or On. -/
  | queueStoppingEnd (queue : Fin 65536)
  /-- CELL_SCRUB_END (R335). The scrub work of a CELL_QUAR_RET SET ends, which sets LAST_SCRUB and raises EV_CELL_SCRUB. -/
  | cellScrubEnd (failed : List Nat)
  /-- EMPTY_QUEUE_VISIT (R358). The port scheduler visits an empty queue at least every 128 core cycles and sets its finish tag F to V when F is not after V. -/
  | emptyQueueVisit (queue : Fin 65536)
  /-- PSIUS_LANE_ALIGNMENT (R413). A Psius link lane gains or loses alignment. This changes LANES between 0, 4 and 8, and raises LINK_UP when four lanes are aligned, so a link that comes up with both devices ACTIVE triggers the fence choice of R417. -/
  | psiusLaneAlignment (lane : Fin 8) (aligned : Bool)
  /-- LINK_FAULT_SIGNALLING (R159). The reconciliation sublayer begins or stops reporting local or remote fault. This changes LOCAL_FAULT, REMOTE_FAULT and LINK_UP and raises EV_PORT_LINK. -/
  | linkFaultSignalling (port : Fin 512) (localFault remoteFault : Bool)
  /-- CLAUSE_73_NEXT_PAGE (R144). Auto-negotiation receives the partner's unformatted next page under Izinfin's OUI, which sets PARTNER_THIN when capability bit 0 is set. -/
  | clause73NextPage (port : Fin 512) (capability : Nat)
  deriving DecidableEq, Repr

end Sys2Proof
end

