-- ==== Sys2Proof/Config.lean ====
section
/-! DEFINITION. What the manual leaves open: constants without a body, so that no proof can see their values.  Each is named
in the assumption log. -/

namespace Sys2Proof.Config

/-- The fused serial number of the device (R56, AUTH_SERIAL). -/
opaque serial : Word64

/-- The n-th value that the manual calls free or random where no operand decides it. -/
opaque freeWord : Nat → Word64

/-- The source address of the MAC control frames that a port sends (R172). -/
opaque portAddress : Nat → BitVec 48

/-- The vendor root's private keys, which are outside the device: lower bits of the two factors of its RSA modulus, and its SLH-DSA
seeds (R106). -/
opaque vendorP : BitVec 1534
@[inherit_doc vendorP] opaque vendorQ : BitVec 1534
@[inherit_doc vendorP] opaque vendorSkSeed : BitVec 192
@[inherit_doc vendorP] opaque vendorSkPrf : BitVec 192
@[inherit_doc vendorP] opaque vendorPkSeed : BitVec 192

/-- The identity keys that the device generated at manufacture (R110), in the same form. -/
opaque identityP : BitVec 1534
@[inherit_doc identityP] opaque identityQ : BitVec 1534
@[inherit_doc identityP] opaque identitySkSeed : BitVec 192
@[inherit_doc identityP] opaque identitySkPrf : BitVec 192
@[inherit_doc identityP] opaque identityPkSeed : BitVec 192

/-- The manufacture week in BCD and whether the ordering code is that of DX-5120-E, in the identity record (R111). -/
opaque manufactureWeek : BitVec 32
@[inherit_doc manufactureWeek] opaque orderingE : Bool

/-- The randomness of the vendor's signatures in the identity record (R111). -/
opaque vendorSalt : BitVec 384
@[inherit_doc vendorSalt] opaque vendorRandom : BitVec 192

/-- The bytes of the ROM (R113). -/
opaque rom : Nat → Byte

/-- The proportional and the integral gain of the loop that steers phase with a time constant in seconds (R380): units of rate per
2^-16 ns of phase error. -/
opaque servoGains : Nat → Int × Int

/-- A stamp that an adjustment takes below zero (R390, R404), in units of 2^-64 ns. -/
opaque stampBelow : Int → BitVec 128

/-- correctionField where the sum is no signed 64-bit number (R394, R396). -/
opaque correctionBeyond : Int → BitVec 64

/-- The identification code of the JTAG port (R492). -/
opaque idcode : BitVec 32

/-- The length of an island's section of a Dustsheet image, in blocks of 64 bytes (R490). -/
opaque sectionBlocks : Nat → BitVec 20

/-- A word of an island's section, and an island's cycle count, for a freeze (R490, R491). -/
opaque sectionWord : Nat → Nat → Nat → Word64
@[inherit_doc sectionWord] opaque islandCycles : Nat → Nat → BitVec 48

end Sys2Proof.Config
end

