-- ==== Sys2Proof/Machine/RegMap.lean ====
section
/-! DEFINITION. The registers of BAR0 (R435): for each register its offset, its instances, its width and its fields with
their access classes (R4) and stated ranges (R70), as the register sections of every chapter of spec/ give them, and the
value that each offset holds after reset. -/

namespace Sys2Proof.Machine

/-- The access class of a field (R4).  `owNamed` is an OW field that only a named instruction writes (R70). -/
inductive Acc
  | ro | rw | ow | owNamed | wo | sq | sn | lh
  deriving DecidableEq, Repr

/-- One field of a register: its bits, its access class and the values that its chapter states as its range. -/
structure FieldSpec where
  hi : Nat
  lo : Nat
  acc : Acc
  least : Nat
  most : Nat
  deriving DecidableEq, Repr

/-- One register, or an array of like registers.  Instance `n` lies at `base + (n / n2) * s1 + (n mod n2) * s2`. -/
structure RegSpec where
  base : Nat
  n1 : Nat
  s1 : Nat
  n2 : Nat
  s2 : Nat
  wide : Bool
  fields : List FieldSpec
  deriving DecidableEq, Repr

/-- A named field of a named register. -/
structure Fld where
  reg : RegSpec
  hi : Nat
  lo : Nat
  deriving DecidableEq, Repr

/-- The number of instances. -/
def RegSpec.count (r : RegSpec) : Nat := r.n1 * r.n2

/-- The BAR0 offset of instance `n`. -/
def RegSpec.addr (r : RegSpec) (n : Nat) : Nat := r.base + (n / r.n2) * r.s1 + (n % r.n2) * r.s2

/-- The instance whose bytes cover an offset, if any. -/
def RegSpec.instanceAt (r : RegSpec) (off : Nat) : Option Nat :=
  if off < r.base then none
  else
    let d := off - r.base
    let i := d / r.s1
    let e := d % r.s1
    let j := e / r.s2
    if i < r.n1 && j < r.n2 && e % r.s2 < (if r.wide then 8 else 4) then some (i * r.n2 + j) else none

namespace R

/-- 01_architecture, current epoch number. -/
def DEV_EPOCH_NUM : RegSpec :=
  ⟨0x100, 1, 0x8, 1, 0x8, true, [⟨47, 0, .ro, 0, 0xffffffffffff⟩]⟩
@[inherit_doc DEV_EPOCH_NUM] def DEV_EPOCH_NUM_EPOCH : Fld := ⟨DEV_EPOCH_NUM, 47, 0⟩

/-- 01_architecture, epoch and commit status. -/
def DEV_EPOCH_STAT : RegSpec :=
  ⟨0x108, 1, 0x8, 1, 0x8, false, [⟨31, 24, .sq, 0, 255⟩, ⟨23, 16, .ro, 0, 255⟩, ⟨15, 10, .ro, 0, 63⟩, ⟨3, 3, .sq, 0, 1⟩,
    ⟨2, 2, .sq, 0, 1⟩, ⟨1, 1, .sq, 0, 1⟩, ⟨0, 0, .sq, 0, 1⟩]⟩
@[inherit_doc DEV_EPOCH_STAT] def DEV_EPOCH_STAT_SEQ : Fld := ⟨DEV_EPOCH_STAT, 31, 24⟩
@[inherit_doc DEV_EPOCH_STAT] def DEV_EPOCH_STAT_LAST_ACT : Fld := ⟨DEV_EPOCH_STAT, 23, 16⟩
@[inherit_doc DEV_EPOCH_STAT] def DEV_EPOCH_STAT_ISLAND : Fld := ⟨DEV_EPOCH_STAT, 15, 10⟩
@[inherit_doc DEV_EPOCH_STAT] def DEV_EPOCH_STAT_EPOCH_GAP : Fld := ⟨DEV_EPOCH_STAT, 3, 3⟩
@[inherit_doc DEV_EPOCH_STAT] def DEV_EPOCH_STAT_ABORT : Fld := ⟨DEV_EPOCH_STAT, 2, 2⟩
@[inherit_doc DEV_EPOCH_STAT] def DEV_EPOCH_STAT_INCOMPLETE : Fld := ⟨DEV_EPOCH_STAT, 1, 1⟩
@[inherit_doc DEV_EPOCH_STAT] def DEV_EPOCH_STAT_VER_FULL : Fld := ⟨DEV_EPOCH_STAT, 0, 0⟩

/-- 01_architecture, rule versions. -/
def DEV_VERSION : RegSpec :=
  ⟨0x110, 1, 0x8, 1, 0x8, false, [⟨26, 24, .ro, 0, 7⟩, ⟨15, 8, .ro, 0, 255⟩, ⟨7, 0, .ro, 0, 255⟩]⟩
@[inherit_doc DEV_VERSION] def DEV_VERSION_LIVE : Fld := ⟨DEV_VERSION, 26, 24⟩
@[inherit_doc DEV_VERSION] def DEV_VERSION_OLDEST : Fld := ⟨DEV_VERSION, 15, 8⟩
@[inherit_doc DEV_VERSION] def DEV_VERSION_CURRENT : Fld := ⟨DEV_VERSION, 7, 0⟩

/-- 01_architecture, frame lifetime limit. -/
def DEV_LIFETIME : RegSpec :=
  ⟨0x114, 1, 0x8, 1, 0x8, false, [⟨6, 0, .ow, 1, 100⟩]⟩
@[inherit_doc DEV_LIFETIME] def DEV_LIFETIME_LIMIT_MS : Fld := ⟨DEV_LIFETIME, 6, 0⟩

/-- 01_architecture, frames discarded at dequeue. -/
def DEV_LIFETIME_DROPS : RegSpec :=
  ⟨0x118, 1, 0x8, 1, 0x8, true, [⟨47, 0, .ro, 0, 0xffffffffffff⟩]⟩
@[inherit_doc DEV_LIFETIME_DROPS] def DEV_LIFETIME_DROPS_COUNT : Fld := ⟨DEV_LIFETIME_DROPS, 47, 0⟩

/-- 01_architecture, outstanding acknowledgements. -/
def DEV_ISLAND_WAIT : RegSpec :=
  ⟨0x120, 1, 0x8, 1, 0x8, true, [⟨39, 0, .ro, 0, 0xffffffffff⟩]⟩
@[inherit_doc DEV_ISLAND_WAIT] def DEV_ISLAND_WAIT_WAIT : Fld := ⟨DEV_ISLAND_WAIT, 39, 0⟩

/-- 14_host_and_registers, part identity. -/
def DEV_ID : RegSpec :=
  ⟨0x0, 1, 0x8, 1, 0x8, false, [⟨31, 16, .ro, 0, 65535⟩, ⟨15, 8, .ro, 0, 255⟩]⟩
@[inherit_doc DEV_ID] def DEV_ID_PART : Fld := ⟨DEV_ID, 31, 16⟩
@[inherit_doc DEV_ID] def DEV_ID_STEP : Fld := ⟨DEV_ID, 15, 8⟩

/-- 14_host_and_registers, firmware interface version. -/
def DEV_IF_VER : RegSpec :=
  ⟨0x4, 1, 0x8, 1, 0x8, false, [⟨31, 16, .ro, 0, 65535⟩, ⟨15, 0, .ro, 0, 65535⟩]⟩
@[inherit_doc DEV_IF_VER] def DEV_IF_VER_MAJOR : Fld := ⟨DEV_IF_VER, 31, 16⟩
@[inherit_doc DEV_IF_VER] def DEV_IF_VER_MINOR : Fld := ⟨DEV_IF_VER, 15, 0⟩

/-- 14_host_and_registers, device events. -/
def DEV_EVT : RegSpec :=
  ⟨0x8, 1, 0x8, 1, 0x8, false, [⟨31, 24, .sq, 0, 255⟩, ⟨2, 2, .sq, 0, 1⟩, ⟨1, 1, .sq, 0, 1⟩, ⟨0, 0, .sq, 0, 1⟩]⟩
@[inherit_doc DEV_EVT] def DEV_EVT_SEQ : Fld := ⟨DEV_EVT, 31, 24⟩
@[inherit_doc DEV_EVT] def DEV_EVT_SNAP_OVF : Fld := ⟨DEV_EVT, 2, 2⟩
@[inherit_doc DEV_EVT] def DEV_EVT_SNAP_DONE : Fld := ⟨DEV_EVT, 1, 1⟩
@[inherit_doc DEV_EVT] def DEV_EVT_BUSERR : Fld := ⟨DEV_EVT, 0, 0⟩

/-- 14_host_and_registers, last bus error. -/
def DEV_BUSERR_INFO : RegSpec :=
  ⟨0xC, 1, 0x8, 1, 0x8, false, [⟨31, 16, .ro, 0, 65535⟩, ⟨15, 8, .ro, 0, 255⟩, ⟨7, 7, .ro, 0, 1⟩, ⟨6, 4, .ro, 0, 7⟩,
    ⟨3, 0, .ro, 0, 15⟩]⟩
@[inherit_doc DEV_BUSERR_INFO] def DEV_BUSERR_INFO_REQUESTER : Fld := ⟨DEV_BUSERR_INFO, 31, 16⟩
@[inherit_doc DEV_BUSERR_INFO] def DEV_BUSERR_INFO_COUNT : Fld := ⟨DEV_BUSERR_INFO, 15, 8⟩
@[inherit_doc DEV_BUSERR_INFO] def DEV_BUSERR_INFO_WRITE : Fld := ⟨DEV_BUSERR_INFO, 7, 7⟩
@[inherit_doc DEV_BUSERR_INFO] def DEV_BUSERR_INFO_CAUSE : Fld := ⟨DEV_BUSERR_INFO, 6, 4⟩
@[inherit_doc DEV_BUSERR_INFO] def DEV_BUSERR_INFO_FIRST_BE : Fld := ⟨DEV_BUSERR_INFO, 3, 0⟩

/-- 14_host_and_registers, last bus error offset. -/
def DEV_BUSERR_ADDR : RegSpec :=
  ⟨0x10, 1, 0x8, 1, 0x8, true, [⟨24, 0, .ro, 0, 33554431⟩]⟩
@[inherit_doc DEV_BUSERR_ADDR] def DEV_BUSERR_ADDR_OFFSET : Fld := ⟨DEV_BUSERR_ADDR, 24, 0⟩

/-- 14_host_and_registers, snapshot trigger. -/
def DEV_SNAP_TRIG : RegSpec :=
  ⟨0x18, 1, 0x8, 1, 0x8, false, [⟨23, 16, .wo, 0, 255⟩, ⟨11, 0, .wo, 0, 4095⟩]⟩
@[inherit_doc DEV_SNAP_TRIG] def DEV_SNAP_TRIG_BLOCK : Fld := ⟨DEV_SNAP_TRIG, 23, 16⟩
@[inherit_doc DEV_SNAP_TRIG] def DEV_SNAP_TRIG_UNIT : Fld := ⟨DEV_SNAP_TRIG, 11, 0⟩

/-- 14_host_and_registers, last snapshot. -/
def DEV_SNAP_EPOCH : RegSpec :=
  ⟨0x20, 1, 0x8, 1, 0x8, true, [⟨47, 0, .ro, 0, 0xffffffffffff⟩]⟩
@[inherit_doc DEV_SNAP_EPOCH] def DEV_SNAP_EPOCH_EPOCH : Fld := ⟨DEV_SNAP_EPOCH, 47, 0⟩

/-- 02_orders, descriptor ring base. -/
def ORD_OQ_BASE : RegSpec :=
  ⟨0x10000, 1, 0x400, 16, 0x40, true, [⟨63, 4, .rw, 0, 0xfffffffffffffff⟩]⟩
@[inherit_doc ORD_OQ_BASE] def ORD_OQ_BASE_BASE : Fld := ⟨ORD_OQ_BASE, 63, 4⟩

/-- 02_orders, ring size. -/
def ORD_OQ_SIZE : RegSpec :=
  ⟨0x10008, 1, 0x400, 16, 0x40, false, [⟨12, 0, .rw, 0, 8191⟩]⟩
@[inherit_doc ORD_OQ_SIZE] def ORD_OQ_SIZE_SIZE : Fld := ⟨ORD_OQ_SIZE, 12, 0⟩

/-- 02_orders, descriptor doorbell. -/
def ORD_OQ_TAIL : RegSpec :=
  ⟨0x1000C, 1, 0x400, 16, 0x40, false, [⟨15, 0, .rw, 0, 65535⟩]⟩
@[inherit_doc ORD_OQ_TAIL] def ORD_OQ_TAIL_TAIL : Fld := ⟨ORD_OQ_TAIL, 15, 0⟩

/-- 02_orders, descriptor consumption. -/
def ORD_OQ_HEAD : RegSpec :=
  ⟨0x10010, 1, 0x400, 16, 0x40, false, [⟨15, 0, .ro, 0, 65535⟩]⟩
@[inherit_doc ORD_OQ_HEAD] def ORD_OQ_HEAD_HEAD : Fld := ⟨ORD_OQ_HEAD, 15, 0⟩

/-- 02_orders, completion ring base. -/
def ORD_OQ_CPL_BASE : RegSpec :=
  ⟨0x10018, 1, 0x400, 16, 0x40, true, [⟨63, 5, .rw, 0, 0x7ffffffffffffff⟩]⟩
@[inherit_doc ORD_OQ_CPL_BASE] def ORD_OQ_CPL_BASE_BASE : Fld := ⟨ORD_OQ_CPL_BASE, 63, 5⟩

/-- 02_orders, completion consumption. -/
def ORD_OQ_CPL_HEAD : RegSpec :=
  ⟨0x10020, 1, 0x400, 16, 0x40, false, [⟨15, 0, .rw, 0, 65535⟩]⟩
@[inherit_doc ORD_OQ_CPL_HEAD] def ORD_OQ_CPL_HEAD_CPL_HEAD : Fld := ⟨ORD_OQ_CPL_HEAD, 15, 0⟩

/-- 02_orders, completion production. -/
def ORD_OQ_CPL_TAIL : RegSpec :=
  ⟨0x10024, 1, 0x400, 16, 0x40, false, [⟨15, 0, .ro, 0, 65535⟩]⟩
@[inherit_doc ORD_OQ_CPL_TAIL] def ORD_OQ_CPL_TAIL_CPL_TAIL : Fld := ⟨ORD_OQ_CPL_TAIL, 15, 0⟩

/-- 02_orders, queue status. -/
def ORD_OQ_STAT : RegSpec :=
  ⟨0x10028, 1, 0x400, 16, 0x40, false, [⟨31, 24, .sq, 0, 255⟩, ⟨23, 16, .ro, 0, 255⟩, ⟨7, 7, .ro, 0, 1⟩, ⟨6, 6, .ro, 0, 1⟩,
    ⟨5, 5, .ro, 0, 1⟩, ⟨3, 3, .sq, 0, 1⟩, ⟨2, 2, .sq, 0, 1⟩, ⟨1, 1, .sq, 0, 1⟩,
    ⟨0, 0, .sq, 0, 1⟩]⟩
@[inherit_doc ORD_OQ_STAT] def ORD_OQ_STAT_SEQ : Fld := ⟨ORD_OQ_STAT, 31, 24⟩
@[inherit_doc ORD_OQ_STAT] def ORD_OQ_STAT_LAST_STATUS : Fld := ⟨ORD_OQ_STAT, 23, 16⟩
@[inherit_doc ORD_OQ_STAT] def ORD_OQ_STAT_BUSY : Fld := ⟨ORD_OQ_STAT, 7, 7⟩
@[inherit_doc ORD_OQ_STAT] def ORD_OQ_STAT_CPL_FULL : Fld := ⟨ORD_OQ_STAT, 6, 6⟩
@[inherit_doc ORD_OQ_STAT] def ORD_OQ_STAT_HALTED : Fld := ⟨ORD_OQ_STAT, 5, 5⟩
@[inherit_doc ORD_OQ_STAT] def ORD_OQ_STAT_REFUSED : Fld := ⟨ORD_OQ_STAT, 3, 3⟩
@[inherit_doc ORD_OQ_STAT] def ORD_OQ_STAT_RING_ERR : Fld := ⟨ORD_OQ_STAT, 2, 2⟩
@[inherit_doc ORD_OQ_STAT] def ORD_OQ_STAT_FETCH_ERR : Fld := ⟨ORD_OQ_STAT, 1, 1⟩
@[inherit_doc ORD_OQ_STAT] def ORD_OQ_STAT_DONE : Fld := ⟨ORD_OQ_STAT, 0, 0⟩

/-- 02_orders, Bureau status. -/
def ORD_BUREAU_STAT : RegSpec :=
  ⟨0x10800, 1, 0x8, 1, 0x8, false, [⟨31, 24, .sq, 0, 255⟩, ⟨11, 8, .ro, 0, 15⟩, ⟨7, 4, .ro, 0, 15⟩, ⟨1, 1, .sq, 0, 1⟩,
    ⟨0, 0, .sq, 0, 1⟩]⟩
@[inherit_doc ORD_BUREAU_STAT] def ORD_BUREAU_STAT_SEQ : Fld := ⟨ORD_BUREAU_STAT, 31, 24⟩
@[inherit_doc ORD_BUREAU_STAT] def ORD_BUREAU_STAT_RUNNING : Fld := ⟨ORD_BUREAU_STAT, 11, 8⟩
@[inherit_doc ORD_BUREAU_STAT] def ORD_BUREAU_STAT_PARKED : Fld := ⟨ORD_BUREAU_STAT, 7, 4⟩
@[inherit_doc ORD_BUREAU_STAT] def ORD_BUREAU_STAT_INBAND_DROP : Fld := ⟨ORD_BUREAU_STAT, 1, 1⟩
@[inherit_doc ORD_BUREAU_STAT] def ORD_BUREAU_STAT_INBAND_DONE : Fld := ⟨ORD_BUREAU_STAT, 0, 0⟩

/-- 03_authority, security status. -/
def AUTH_STAT : RegSpec :=
  ⟨0x20000, 1, 0x8, 1, 0x8, false, [⟨31, 24, .sq, 0, 255⟩, ⟨7, 7, .sq, 0, 1⟩, ⟨6, 6, .sq, 0, 1⟩, ⟨5, 5, .sq, 0, 1⟩,
    ⟨4, 4, .sq, 0, 1⟩, ⟨3, 3, .sq, 0, 1⟩, ⟨2, 2, .sq, 0, 1⟩, ⟨1, 1, .sq, 0, 1⟩,
    ⟨0, 0, .sq, 0, 1⟩]⟩
@[inherit_doc AUTH_STAT] def AUTH_STAT_SEQ : Fld := ⟨AUTH_STAT, 31, 24⟩
@[inherit_doc AUTH_STAT] def AUTH_STAT_ATTEST_DONE : Fld := ⟨AUTH_STAT, 7, 7⟩
@[inherit_doc AUTH_STAT] def AUTH_STAT_ROLLBACK : Fld := ⟨AUTH_STAT, 6, 6⟩
@[inherit_doc AUTH_STAT] def AUTH_STAT_JOURNAL : Fld := ⟨AUTH_STAT, 5, 5⟩
@[inherit_doc AUTH_STAT] def AUTH_STAT_FW_BAD : Fld := ⟨AUTH_STAT, 4, 4⟩
@[inherit_doc AUTH_STAT] def AUTH_STAT_FW_LOADED : Fld := ⟨AUTH_STAT, 3, 3⟩
@[inherit_doc AUTH_STAT] def AUTH_STAT_CHARTER_BAD : Fld := ⟨AUTH_STAT, 2, 2⟩
@[inherit_doc AUTH_STAT] def AUTH_STAT_CHARTER : Fld := ⟨AUTH_STAT, 1, 1⟩
@[inherit_doc AUTH_STAT] def AUTH_STAT_KEY : Fld := ⟨AUTH_STAT, 0, 0⟩

/-- 03_authority, device serial number. -/
def AUTH_SERIAL : RegSpec :=
  ⟨0x20008, 1, 0x8, 1, 0x8, true, [⟨63, 0, .ro, 0, 0xffffffffffffffff⟩]⟩
@[inherit_doc AUTH_SERIAL] def AUTH_SERIAL_SERIAL : Fld := ⟨AUTH_SERIAL, 63, 0⟩

/-- 03_authority, most recent refusal. -/
def AUTH_REFUSE_LAST : RegSpec :=
  ⟨0x20010, 1, 0x8, 1, 0x8, true, [⟨63, 56, .ro, 0, 255⟩, ⟨55, 52, .ro, 0, 15⟩, ⟨51, 48, .ro, 0, 15⟩, ⟨47, 40, .ro, 0, 255⟩,
    ⟨39, 0, .ro, 0, 0xffffffffff⟩]⟩
@[inherit_doc AUTH_REFUSE_LAST] def AUTH_REFUSE_LAST_STATUS : Fld := ⟨AUTH_REFUSE_LAST, 63, 56⟩
@[inherit_doc AUTH_REFUSE_LAST] def AUTH_REFUSE_LAST_SOURCE : Fld := ⟨AUTH_REFUSE_LAST, 55, 52⟩
@[inherit_doc AUTH_REFUSE_LAST] def AUTH_REFUSE_LAST_NUMBER : Fld := ⟨AUTH_REFUSE_LAST, 51, 48⟩
@[inherit_doc AUTH_REFUSE_LAST] def AUTH_REFUSE_LAST_REASON : Fld := ⟨AUTH_REFUSE_LAST, 47, 40⟩
@[inherit_doc AUTH_REFUSE_LAST] def AUTH_REFUSE_LAST_EPOCH : Fld := ⟨AUTH_REFUSE_LAST, 39, 0⟩

/-- 03_authority, refusals. -/
def AUTH_REFUSE_COUNT : RegSpec :=
  ⟨0x20018, 1, 0x8, 1, 0x8, false, [⟨31, 0, .ro, 0, 4294967295⟩]⟩
@[inherit_doc AUTH_REFUSE_COUNT] def AUTH_REFUSE_COUNT_COUNT : Fld := ⟨AUTH_REFUSE_COUNT, 31, 0⟩

/-- 03_authority, fuse state. -/
def AUTH_OTP_STAT : RegSpec :=
  ⟨0x2001C, 1, 0x8, 1, 0x8, false, [⟨23, 16, .ro, 0, 255⟩, ⟨15, 8, .ro, 0, 255⟩, ⟨7, 7, .ro, 0, 1⟩, ⟨6, 0, .ro, 0, 127⟩]⟩
@[inherit_doc AUTH_OTP_STAT] def AUTH_OTP_STAT_REVOKED : Fld := ⟨AUTH_OTP_STAT, 23, 16⟩
@[inherit_doc AUTH_OTP_STAT] def AUTH_OTP_STAT_ENROLLED : Fld := ⟨AUTH_OTP_STAT, 15, 8⟩
@[inherit_doc AUTH_OTP_STAT] def AUTH_OTP_STAT_FREEZE_ALLOW : Fld := ⟨AUTH_OTP_STAT, 7, 7⟩
@[inherit_doc AUTH_OTP_STAT] def AUTH_OTP_STAT_ROLLBACK : Fld := ⟨AUTH_OTP_STAT, 6, 0⟩

/-- 03_authority, fuse control. -/
def AUTH_OTP_CTL : RegSpec :=
  ⟨0x20020, 1, 0x8, 1, 0x8, false, [⟨8, 8, .ow, 0, 1⟩, ⟨6, 0, .ow, 0, 127⟩]⟩
@[inherit_doc AUTH_OTP_CTL] def AUTH_OTP_CTL_FREEZE_BURN : Fld := ⟨AUTH_OTP_CTL, 8, 8⟩
@[inherit_doc AUTH_OTP_CTL] def AUTH_OTP_CTL_ROLLBACK_TO : Fld := ⟨AUTH_OTP_CTL, 6, 0⟩

/-- 03_authority, freshness state, one per slot. -/
def AUTH_SEQ_HIGH : RegSpec :=
  ⟨0x20100, 1, 0x40, 8, 0x8, true, [⟨63, 0, .ro, 0, 0xffffffffffffffff⟩]⟩
@[inherit_doc AUTH_SEQ_HIGH] def AUTH_SEQ_HIGH_HIGH_SEQ : Fld := ⟨AUTH_SEQ_HIGH, 63, 0⟩

/-- 03_authority, Charter summary, one per index. -/
def AUTH_CHARTER : RegSpec :=
  ⟨0x20200, 1, 0x88, 34, 0x4, false, [⟨5, 4, .ro, 0, 3⟩, ⟨2, 0, .ro, 0, 7⟩]⟩
@[inherit_doc AUTH_CHARTER] def AUTH_CHARTER_ORIGIN : Fld := ⟨AUTH_CHARTER, 5, 4⟩
@[inherit_doc AUTH_CHARTER] def AUTH_CHARTER_GRANT : Fld := ⟨AUTH_CHARTER, 2, 0⟩

/-- 03_authority, extension slots, one per slot. -/
def AUTH_FW_SLOT : RegSpec :=
  ⟨0x20300, 1, 0x40, 16, 0x4, false, [⟨31, 24, .ro, 0, 255⟩, ⟨1, 0, .ro, 0, 3⟩]⟩
@[inherit_doc AUTH_FW_SLOT] def AUTH_FW_SLOT_SVN : Fld := ⟨AUTH_FW_SLOT, 31, 24⟩
@[inherit_doc AUTH_FW_SLOT] def AUTH_FW_SLOT_STATE : Fld := ⟨AUTH_FW_SLOT, 1, 0⟩

/-- 04_lanes, lane status. -/
def LANE_STAT : RegSpec :=
  ⟨0x100000, 64, 0x4000, 8, 0x400, false, [⟨31, 29, .ro, 0, 7⟩, ⟨28, 26, .ro, 0, 7⟩, ⟨25, 24, .ro, 0, 3⟩, ⟨17, 16, .ro, 0, 3⟩,
    ⟨15, 15, .ro, 0, 1⟩, ⟨14, 14, .ro, 0, 1⟩, ⟨13, 13, .ro, 0, 1⟩, ⟨12, 12, .ro, 0, 1⟩,
    ⟨11, 11, .ro, 0, 1⟩, ⟨10, 10, .ro, 0, 1⟩, ⟨3, 0, .ro, 0, 15⟩]⟩
@[inherit_doc LANE_STAT] def LANE_STAT_TX_PWR : Fld := ⟨LANE_STAT, 31, 29⟩
@[inherit_doc LANE_STAT] def LANE_STAT_RX_PWR : Fld := ⟨LANE_STAT, 28, 26⟩
@[inherit_doc LANE_STAT] def LANE_STAT_CLASS : Fld := ⟨LANE_STAT, 25, 24⟩
@[inherit_doc LANE_STAT] def LANE_STAT_WIDTH : Fld := ⟨LANE_STAT, 17, 16⟩
@[inherit_doc LANE_STAT] def LANE_STAT_SIG_DET : Fld := ⟨LANE_STAT, 15, 15⟩
@[inherit_doc LANE_STAT] def LANE_STAT_CDR_LOCK : Fld := ⟨LANE_STAT, 14, 14⟩
@[inherit_doc LANE_STAT] def LANE_STAT_BLOCK_LOCK : Fld := ⟨LANE_STAT, 13, 13⟩
@[inherit_doc LANE_STAT] def LANE_STAT_AM_LOCK : Fld := ⟨LANE_STAT, 12, 12⟩
@[inherit_doc LANE_STAT] def LANE_STAT_CHK_LOCK : Fld := ⟨LANE_STAT, 11, 11⟩
@[inherit_doc LANE_STAT] def LANE_STAT_PARTNER_THIN : Fld := ⟨LANE_STAT, 10, 10⟩
@[inherit_doc LANE_STAT] def LANE_STAT_LC : Fld := ⟨LANE_STAT, 3, 0⟩

/-- 04_lanes, lane events. -/
def LANE_EVT : RegSpec :=
  ⟨0x100004, 64, 0x4000, 8, 0x400, false, [⟨31, 24, .sq, 0, 255⟩, ⟨6, 6, .sq, 0, 1⟩, ⟨5, 5, .sq, 0, 1⟩, ⟨4, 4, .sq, 0, 1⟩,
    ⟨3, 3, .sq, 0, 1⟩, ⟨2, 2, .sq, 0, 1⟩, ⟨1, 1, .sq, 0, 1⟩, ⟨0, 0, .sq, 0, 1⟩]⟩
@[inherit_doc LANE_EVT] def LANE_EVT_SEQ : Fld := ⟨LANE_EVT, 31, 24⟩
@[inherit_doc LANE_EVT] def LANE_EVT_CFG_IGNORED : Fld := ⟨LANE_EVT, 6, 6⟩
@[inherit_doc LANE_EVT] def LANE_EVT_THIN : Fld := ⟨LANE_EVT, 5, 5⟩
@[inherit_doc LANE_EVT] def LANE_EVT_CHK : Fld := ⟨LANE_EVT, 4, 4⟩
@[inherit_doc LANE_EVT] def LANE_EVT_FREQ : Fld := ⟨LANE_EVT, 3, 3⟩
@[inherit_doc LANE_EVT] def LANE_EVT_LOCK : Fld := ⟨LANE_EVT, 2, 2⟩
@[inherit_doc LANE_EVT] def LANE_EVT_START_FAIL : Fld := ⟨LANE_EVT, 1, 1⟩
@[inherit_doc LANE_EVT] def LANE_EVT_STATE : Fld := ⟨LANE_EVT, 0, 0⟩

/-- 04_lanes, lane settings. -/
def LANE_CFG : RegSpec :=
  ⟨0x100008, 64, 0x4000, 8, 0x400, false, [⟨22, 20, .owNamed, 0, 7⟩, ⟨18, 16, .owNamed, 0, 7⟩, ⟨13, 12, .owNamed, 0, 3⟩, ⟨8, 8, .owNamed, 0, 1⟩,
    ⟨5, 4, .owNamed, 0, 3⟩, ⟨0, 0, .owNamed, 0, 1⟩]⟩
@[inherit_doc LANE_CFG] def LANE_CFG_TX_FLOOR : Fld := ⟨LANE_CFG, 22, 20⟩
@[inherit_doc LANE_CFG] def LANE_CFG_RX_FLOOR : Fld := ⟨LANE_CFG, 18, 16⟩
@[inherit_doc LANE_CFG] def LANE_CFG_LOOPBACK : Fld := ⟨LANE_CFG, 13, 12⟩
@[inherit_doc LANE_CFG] def LANE_CFG_TXEQ_FIXED : Fld := ⟨LANE_CFG, 8, 8⟩
@[inherit_doc LANE_CFG] def LANE_CFG_RX_ADAPT : Fld := ⟨LANE_CFG, 5, 4⟩
@[inherit_doc LANE_CFG] def LANE_CFG_TEST_EN : Fld := ⟨LANE_CFG, 0, 0⟩

/-- 04_lanes, programmed transmit taps. -/
def LANE_TXEQ : RegSpec :=
  ⟨0x100010, 64, 0x4000, 8, 0x400, true, [⟨39, 32, .owNamed, 0, 255⟩, ⟨31, 24, .owNamed, 0, 255⟩, ⟨23, 16, .owNamed, 0, 255⟩, ⟨15, 8, .owNamed, 0, 255⟩,
    ⟨7, 0, .owNamed, 0, 255⟩]⟩
@[inherit_doc LANE_TXEQ] def LANE_TXEQ_PRE3 : Fld := ⟨LANE_TXEQ, 39, 32⟩
@[inherit_doc LANE_TXEQ] def LANE_TXEQ_PRE2 : Fld := ⟨LANE_TXEQ, 31, 24⟩
@[inherit_doc LANE_TXEQ] def LANE_TXEQ_PRE1 : Fld := ⟨LANE_TXEQ, 23, 16⟩
@[inherit_doc LANE_TXEQ] def LANE_TXEQ_MAIN : Fld := ⟨LANE_TXEQ, 15, 8⟩
@[inherit_doc LANE_TXEQ] def LANE_TXEQ_POST1 : Fld := ⟨LANE_TXEQ, 7, 0⟩

/-- 04_lanes, taps in use. -/
def LANE_TXEQ_CUR : RegSpec :=
  ⟨0x100018, 64, 0x4000, 8, 0x400, true, [⟨39, 0, .ro, 0, 0xffffffffff⟩]⟩
@[inherit_doc LANE_TXEQ_CUR] def LANE_TXEQ_CUR_TAPS : Fld := ⟨LANE_TXEQ_CUR, 39, 0⟩

/-- 04_lanes, receiver state. -/
def LANE_RXEQ : RegSpec :=
  ⟨0x100020, 64, 0x4000, 8, 0x400, false, [⟨31, 24, .ro, 0, 255⟩, ⟨23, 16, .ro, 0, 255⟩, ⟨15, 8, .ro, 0, 255⟩, ⟨7, 0, .ro, 0, 255⟩]⟩
@[inherit_doc LANE_RXEQ] def LANE_RXEQ_CTLE : Fld := ⟨LANE_RXEQ, 31, 24⟩
@[inherit_doc LANE_RXEQ] def LANE_RXEQ_DFE1 : Fld := ⟨LANE_RXEQ, 23, 16⟩
@[inherit_doc LANE_RXEQ] def LANE_RXEQ_EYE_H : Fld := ⟨LANE_RXEQ, 15, 8⟩
@[inherit_doc LANE_RXEQ] def LANE_RXEQ_EYE_W : Fld := ⟨LANE_RXEQ, 7, 0⟩

/-- 04_lanes, test settings. -/
def LANE_TEST : RegSpec :=
  ⟨0x100028, 64, 0x4000, 8, 0x400, false, [⟨21, 16, .owNamed, 0, 63⟩, ⟨13, 12, .owNamed, 0, 3⟩, ⟨11, 11, .owNamed, 0, 1⟩, ⟨10, 8, .owNamed, 0, 7⟩,
    ⟨3, 3, .owNamed, 0, 1⟩, ⟨2, 0, .owNamed, 0, 7⟩]⟩
@[inherit_doc LANE_TEST] def LANE_TEST_INJ_BURST : Fld := ⟨LANE_TEST, 21, 16⟩
@[inherit_doc LANE_TEST] def LANE_TEST_INJ_MODE : Fld := ⟨LANE_TEST, 13, 12⟩
@[inherit_doc LANE_TEST] def LANE_TEST_CHK_INV : Fld := ⟨LANE_TEST, 11, 11⟩
@[inherit_doc LANE_TEST] def LANE_TEST_CHK_PAT : Fld := ⟨LANE_TEST, 10, 8⟩
@[inherit_doc LANE_TEST] def LANE_TEST_GEN_INV : Fld := ⟨LANE_TEST, 3, 3⟩
@[inherit_doc LANE_TEST] def LANE_TEST_GEN_PAT : Fld := ⟨LANE_TEST, 2, 0⟩

/-- 04_lanes, user pattern. -/
def LANE_USER_PAT : RegSpec :=
  ⟨0x100030, 64, 0x4000, 8, 0x400, true, [⟨63, 0, .owNamed, 0, 0xffffffffffffffff⟩]⟩
@[inherit_doc LANE_USER_PAT] def LANE_USER_PAT_PATTERN : Fld := ⟨LANE_USER_PAT, 63, 0⟩

/-- 04_lanes, injection interval. -/
def LANE_INJ_INTERVAL : RegSpec :=
  ⟨0x100038, 64, 0x4000, 8, 0x400, false, [⟨31, 0, .owNamed, 0, 4294967295⟩]⟩
@[inherit_doc LANE_INJ_INTERVAL] def LANE_INJ_INTERVAL_INTERVAL : Fld := ⟨LANE_INJ_INTERVAL, 31, 0⟩

/-- 04_lanes, measured receive frequency. -/
def LANE_FREQ : RegSpec :=
  ⟨0x100058, 64, 0x4000, 8, 0x400, false, [⟨31, 0, .ro, 0, 4294967295⟩]⟩
@[inherit_doc LANE_FREQ] def LANE_FREQ_OFFSET : Fld := ⟨LANE_FREQ, 31, 0⟩

/-- 04_lanes, thinning parameters. -/
def LANE_THIN : RegSpec :=
  ⟨0x10005C, 64, 0x4000, 8, 0x400, false, [⟨30, 24, .owNamed, 0, 127⟩, ⟨22, 16, .owNamed, 0, 127⟩, ⟨14, 8, .owNamed, 0, 127⟩, ⟨6, 4, .owNamed, 0, 7⟩,
    ⟨3, 2, .owNamed, 0, 3⟩, ⟨1, 1, .owNamed, 0, 1⟩, ⟨0, 0, .owNamed, 0, 1⟩]⟩
@[inherit_doc LANE_THIN] def LANE_THIN_HIGH : Fld := ⟨LANE_THIN, 30, 24⟩
@[inherit_doc LANE_THIN] def LANE_THIN_LOW : Fld := ⟨LANE_THIN, 22, 16⟩
@[inherit_doc LANE_THIN] def LANE_THIN_EPOCHS : Fld := ⟨LANE_THIN, 14, 8⟩
@[inherit_doc LANE_THIN] def LANE_THIN_PARK : Fld := ⟨LANE_THIN, 6, 4⟩
@[inherit_doc LANE_THIN] def LANE_THIN_MIN : Fld := ⟨LANE_THIN, 3, 2⟩
@[inherit_doc LANE_THIN] def LANE_THIN_PARTNER_DECL : Fld := ⟨LANE_THIN, 1, 1⟩
@[inherit_doc LANE_THIN] def LANE_THIN_AUTO : Fld := ⟨LANE_THIN, 0, 0⟩

/-- 04_lanes, wake threshold. -/
def LANE_THIN_WAKE : RegSpec :=
  ⟨0x100060, 64, 0x4000, 8, 0x400, false, [⟨15, 0, .owNamed, 0, 65535⟩]⟩
@[inherit_doc LANE_THIN_WAKE] def LANE_THIN_WAKE_KIB : Fld := ⟨LANE_THIN_WAKE, 15, 0⟩

/-- 04_lanes, test counters. -/
def LANE_CHK_BITS : RegSpec :=
  ⟨0x100040, 64, 0x4000, 8, 0x400, true, [⟨47, 0, .ro, 0, 0xffffffffffff⟩]⟩
@[inherit_doc LANE_CHK_BITS] def LANE_CHK_BITS_COUNT : Fld := ⟨LANE_CHK_BITS, 47, 0⟩

/-- 04_lanes, test counters. -/
def LANE_CHK_ERRS : RegSpec :=
  ⟨0x100048, 64, 0x4000, 8, 0x400, true, [⟨47, 0, .ro, 0, 0xffffffffffff⟩]⟩
@[inherit_doc LANE_CHK_ERRS] def LANE_CHK_ERRS_COUNT : Fld := ⟨LANE_CHK_ERRS, 47, 0⟩

/-- 04_lanes, test counters. -/
def LANE_INJ_COUNT : RegSpec :=
  ⟨0x100050, 64, 0x4000, 8, 0x400, true, [⟨47, 0, .ro, 0, 0xffffffffffff⟩]⟩
@[inherit_doc LANE_INJ_COUNT] def LANE_INJ_COUNT_COUNT : Fld := ⟨LANE_INJ_COUNT, 47, 0⟩

/-- 04_lanes, octet reference status. -/
def LANE_OCT_STAT : RegSpec :=
  ⟨0x102000, 64, 0x4000, 1, 0x4, false, [⟨31, 24, .sq, 0, 255⟩, ⟨3, 3, .sq, 0, 1⟩, ⟨2, 2, .ro, 0, 1⟩, ⟨1, 1, .ro, 0, 1⟩,
    ⟨0, 0, .ro, 0, 1⟩]⟩
@[inherit_doc LANE_OCT_STAT] def LANE_OCT_STAT_SEQ : Fld := ⟨LANE_OCT_STAT, 31, 24⟩
@[inherit_doc LANE_OCT_STAT] def LANE_OCT_STAT_REF_LOST : Fld := ⟨LANE_OCT_STAT, 3, 3⟩
@[inherit_doc LANE_OCT_STAT] def LANE_OCT_STAT_ON_NEIGHBOUR : Fld := ⟨LANE_OCT_STAT, 2, 2⟩
@[inherit_doc LANE_OCT_STAT] def LANE_OCT_STAT_PLL_LOCK : Fld := ⟨LANE_OCT_STAT, 1, 1⟩
@[inherit_doc LANE_OCT_STAT] def LANE_OCT_STAT_REF_PRESENT : Fld := ⟨LANE_OCT_STAT, 0, 0⟩

/-- 04_lanes, octet reference selection. -/
def LANE_OCT_REF : RegSpec :=
  ⟨0x102004, 64, 0x4000, 1, 0x4, false, [⟨1, 1, .owNamed, 0, 1⟩, ⟨0, 0, .owNamed, 0, 1⟩]⟩
@[inherit_doc LANE_OCT_REF] def LANE_OCT_REF_AUTO_BACKUP : Fld := ⟨LANE_OCT_REF, 1, 1⟩
@[inherit_doc LANE_OCT_REF] def LANE_OCT_REF_SOURCE : Fld := ⟨LANE_OCT_REF, 0, 0⟩

/-- 05_ethernet_ports, port status. -/
def PORT_STAT : RegSpec :=
  ⟨0x200000, 1024, 0x1000, 1, 0x8, false, [⟨31, 31, .ro, 0, 1⟩, ⟨30, 30, .ro, 0, 1⟩, ⟨29, 29, .ro, 0, 1⟩, ⟨28, 28, .ro, 0, 1⟩,
    ⟨27, 25, .ro, 0, 7⟩, ⟨24, 23, .ro, 0, 3⟩, ⟨22, 14, .ro, 0, 511⟩, ⟨13, 12, .ro, 0, 3⟩,
    ⟨3, 0, .ro, 0, 15⟩]⟩
@[inherit_doc PORT_STAT] def PORT_STAT_LINK_UP : Fld := ⟨PORT_STAT, 31, 31⟩
@[inherit_doc PORT_STAT] def PORT_STAT_LOCAL_FAULT : Fld := ⟨PORT_STAT, 30, 30⟩
@[inherit_doc PORT_STAT] def PORT_STAT_REMOTE_FAULT : Fld := ⟨PORT_STAT, 29, 29⟩
@[inherit_doc PORT_STAT] def PORT_STAT_FEC : Fld := ⟨PORT_STAT, 28, 28⟩
@[inherit_doc PORT_STAT] def PORT_STAT_SPEED : Fld := ⟨PORT_STAT, 27, 25⟩
@[inherit_doc PORT_STAT] def PORT_STAT_LANES : Fld := ⟨PORT_STAT, 24, 23⟩
@[inherit_doc PORT_STAT] def PORT_STAT_FIRST_LANE : Fld := ⟨PORT_STAT, 22, 14⟩
@[inherit_doc PORT_STAT] def PORT_STAT_MODE : Fld := ⟨PORT_STAT, 13, 12⟩
@[inherit_doc PORT_STAT] def PORT_STAT_LC : Fld := ⟨PORT_STAT, 3, 0⟩

/-- 05_ethernet_ports, port events. -/
def PORT_EVT : RegSpec :=
  ⟨0x200004, 1024, 0x1000, 1, 0x8, false, [⟨31, 24, .sq, 0, 255⟩, ⟨8, 8, .sq, 0, 1⟩, ⟨7, 7, .sq, 0, 1⟩, ⟨6, 6, .sq, 0, 1⟩,
    ⟨5, 5, .sq, 0, 1⟩, ⟨4, 4, .sq, 0, 1⟩, ⟨3, 3, .sq, 0, 1⟩, ⟨2, 2, .sq, 0, 1⟩,
    ⟨1, 1, .sq, 0, 1⟩, ⟨0, 0, .sq, 0, 1⟩]⟩
@[inherit_doc PORT_EVT] def PORT_EVT_SEQ : Fld := ⟨PORT_EVT, 31, 24⟩
@[inherit_doc PORT_EVT] def PORT_EVT_SEG_BAD : Fld := ⟨PORT_EVT, 8, 8⟩
@[inherit_doc PORT_EVT] def PORT_EVT_CTR_HALF : Fld := ⟨PORT_EVT, 7, 7⟩
@[inherit_doc PORT_EVT] def PORT_EVT_PFC_IGNORED : Fld := ⟨PORT_EVT, 6, 6⟩
@[inherit_doc PORT_EVT] def PORT_EVT_FEC_UNCORR : Fld := ⟨PORT_EVT, 5, 5⟩
@[inherit_doc PORT_EVT] def PORT_EVT_CT_MAX : Fld := ⟨PORT_EVT, 4, 4⟩
@[inherit_doc PORT_EVT] def PORT_EVT_UNDERRUN : Fld := ⟨PORT_EVT, 3, 3⟩
@[inherit_doc PORT_EVT] def PORT_EVT_LINK : Fld := ⟨PORT_EVT, 2, 2⟩
@[inherit_doc PORT_EVT] def PORT_EVT_START_FAIL : Fld := ⟨PORT_EVT, 1, 1⟩
@[inherit_doc PORT_EVT] def PORT_EVT_STATE : Fld := ⟨PORT_EVT, 0, 0⟩

/-- 05_ethernet_ports, MAC settings. -/
def PORT_CFG : RegSpec :=
  ⟨0x200008, 1024, 0x1000, 1, 0x8, false, [⟨29, 16, .ow, 64, 16383⟩, ⟨8, 8, .ow, 0, 1⟩, ⟨4, 4, .ow, 0, 1⟩]⟩
@[inherit_doc PORT_CFG] def PORT_CFG_MAX_FRAME : Fld := ⟨PORT_CFG, 29, 16⟩
@[inherit_doc PORT_CFG] def PORT_CFG_PAUSE_RX_EN : Fld := ⟨PORT_CFG, 8, 8⟩
@[inherit_doc PORT_CFG] def PORT_CFG_CT_EN : Fld := ⟨PORT_CFG, 4, 4⟩

/-- 05_ethernet_ports, priority flow control settings. -/
def PORT_PFC : RegSpec :=
  ⟨0x20000C, 1024, 0x1000, 1, 0x8, false, [⟨31, 16, .ow, 1, 65535⟩, ⟨15, 8, .ow, 0, 255⟩, ⟨7, 0, .ow, 0, 255⟩]⟩
@[inherit_doc PORT_PFC] def PORT_PFC_QUANTA : Fld := ⟨PORT_PFC, 31, 16⟩
@[inherit_doc PORT_PFC] def PORT_PFC_TX_EN : Fld := ⟨PORT_PFC, 15, 8⟩
@[inherit_doc PORT_PFC] def PORT_PFC_RX_EN : Fld := ⟨PORT_PFC, 7, 0⟩

/-- 05_ethernet_ports, priority flow control state. -/
def PORT_PFC_STAT : RegSpec :=
  ⟨0x200010, 1024, 0x1000, 1, 0x8, false, [⟨15, 8, .ro, 0, 255⟩, ⟨7, 0, .ro, 0, 255⟩]⟩
@[inherit_doc PORT_PFC_STAT] def PORT_PFC_STAT_XOFF_SENT : Fld := ⟨PORT_PFC_STAT, 15, 8⟩
@[inherit_doc PORT_PFC_STAT] def PORT_PFC_STAT_PAUSED : Fld := ⟨PORT_PFC_STAT, 7, 0⟩

/-- 05_ethernet_ports, cut-through start threshold. -/
def PORT_CT_THRESH : RegSpec :=
  ⟨0x200014, 1024, 0x1000, 1, 0x8, false, [⟨19, 16, .ro, 0, 15⟩, ⟨15, 0, .ro, 0, 65535⟩]⟩
@[inherit_doc PORT_CT_THRESH] def PORT_CT_THRESH_THRESH : Fld := ⟨PORT_CT_THRESH, 19, 16⟩
@[inherit_doc PORT_CT_THRESH] def PORT_CT_THRESH_CLEAN : Fld := ⟨PORT_CT_THRESH, 15, 0⟩

/-- 05_ethernet_ports, half-range crossings. -/
def PORT_CTR_HALF : RegSpec :=
  ⟨0x200018, 1024, 0x1000, 1, 0x8, true, [⟨63, 0, .ro, 0, 0xffffffffffffffff⟩]⟩
@[inherit_doc PORT_CTR_HALF] def PORT_CTR_HALF_HALF : Fld := ⟨PORT_CTR_HALF, 63, 0⟩

/-- 05_ethernet_ports, live counters. -/
def PORT_CTR : RegSpec :=
  ⟨0x200400, 1024, 0x1000, 64, 0x8, true, [⟨47, 0, .ro, 0, 0xffffffffffff⟩]⟩
@[inherit_doc PORT_CTR] def PORT_CTR_COUNT : Fld := ⟨PORT_CTR, 47, 0⟩

/-- 06_stf_frame, lane framing status. -/
def STF_STAT : RegSpec :=
  ⟨0x600000, 512, 0x2000, 1, 0x8, false, [⟨31, 31, .ro, 0, 1⟩, ⟨30, 30, .ro, 0, 1⟩, ⟨29, 29, .ro, 0, 1⟩, ⟨28, 28, .ro, 0, 1⟩,
    ⟨27, 27, .ro, 0, 1⟩, ⟨26, 26, .ro, 0, 1⟩, ⟨25, 25, .ro, 0, 1⟩, ⟨24, 24, .ro, 0, 1⟩,
    ⟨17, 16, .ro, 0, 3⟩, ⟨12, 8, .ro, 0, 31⟩, ⟨7, 4, .ro, 0, 15⟩, ⟨3, 0, .ro, 0, 15⟩]⟩
@[inherit_doc STF_STAT] def STF_STAT_LOS : Fld := ⟨STF_STAT, 31, 31⟩
@[inherit_doc STF_STAT] def STF_STAT_LOB : Fld := ⟨STF_STAT, 30, 30⟩
@[inherit_doc STF_STAT] def STF_STAT_LOF : Fld := ⟨STF_STAT, 29, 29⟩
@[inherit_doc STF_STAT] def STF_STAT_AIS : Fld := ⟨STF_STAT, 28, 28⟩
@[inherit_doc STF_STAT] def STF_STAT_RDI : Fld := ⟨STF_STAT, 27, 27⟩
@[inherit_doc STF_STAT] def STF_STAT_TIM : Fld := ⟨STF_STAT, 26, 26⟩
@[inherit_doc STF_STAT] def STF_STAT_PARKED : Fld := ⟨STF_STAT, 25, 25⟩
@[inherit_doc STF_STAT] def STF_STAT_EXPRESS : Fld := ⟨STF_STAT, 24, 24⟩
@[inherit_doc STF_STAT] def STF_STAT_ALIGN : Fld := ⟨STF_STAT, 17, 16⟩
@[inherit_doc STF_STAT] def STF_STAT_CANDS : Fld := ⟨STF_STAT, 12, 8⟩
@[inherit_doc STF_STAT] def STF_STAT_LAST_BIP : Fld := ⟨STF_STAT, 7, 4⟩
@[inherit_doc STF_STAT] def STF_STAT_LAST_REI : Fld := ⟨STF_STAT, 3, 0⟩

/-- 06_stf_frame, lane framing events. -/
def STF_EVT : RegSpec :=
  ⟨0x600004, 512, 0x2000, 1, 0x8, false, [⟨31, 24, .sq, 0, 255⟩, ⟨4, 4, .sq, 0, 1⟩, ⟨3, 3, .sq, 0, 1⟩, ⟨2, 2, .sq, 0, 1⟩,
    ⟨1, 1, .sq, 0, 1⟩, ⟨0, 0, .sq, 0, 1⟩]⟩
@[inherit_doc STF_EVT] def STF_EVT_SEQ : Fld := ⟨STF_EVT, 31, 24⟩
@[inherit_doc STF_EVT] def STF_EVT_MGMT_DROP : Fld := ⟨STF_EVT, 4, 4⟩
@[inherit_doc STF_EVT] def STF_EVT_DOUBLE : Fld := ⟨STF_EVT, 3, 3⟩
@[inherit_doc STF_EVT] def STF_EVT_HUNT_OVF : Fld := ⟨STF_EVT, 2, 2⟩
@[inherit_doc STF_EVT] def STF_EVT_DEFECT : Fld := ⟨STF_EVT, 1, 1⟩
@[inherit_doc STF_EVT] def STF_EVT_ALIGN : Fld := ⟨STF_EVT, 0, 0⟩

/-- 06_stf_frame, lane framing settings. -/
def STF_CFG : RegSpec :=
  ⟨0x600008, 512, 0x2000, 1, 0x8, false, [⟨27, 24, .ow, 2, 15⟩, ⟨19, 16, .ow, 2, 8⟩, ⟨4, 4, .ow, 0, 1⟩, ⟨3, 3, .ow, 0, 1⟩,
    ⟨2, 2, .ow, 0, 1⟩, ⟨1, 1, .ow, 0, 1⟩, ⟨0, 0, .ow, 0, 1⟩]⟩
@[inherit_doc STF_CFG] def STF_CFG_LOSS_M : Fld := ⟨STF_CFG, 27, 24⟩
@[inherit_doc STF_CFG] def STF_CFG_CONFIRM_N : Fld := ⟨STF_CFG, 19, 16⟩
@[inherit_doc STF_CFG] def STF_CFG_TIM_AIS_SEC : Fld := ⟨STF_CFG, 4, 4⟩
@[inherit_doc STF_CFG] def STF_CFG_TIM_AIS_PATH : Fld := ⟨STF_CFG, 3, 3⟩
@[inherit_doc STF_CFG] def STF_CFG_RDI_FORCE : Fld := ⟨STF_CFG, 2, 2⟩
@[inherit_doc STF_CFG] def STF_CFG_AIS_FORCE : Fld := ⟨STF_CFG, 1, 1⟩
@[inherit_doc STF_CFG] def STF_CFG_MGMT_EN : Fld := ⟨STF_CFG, 0, 0⟩

/-- 06_stf_frame, lane identity. -/
def STF_ID : RegSpec :=
  ⟨0x60000C, 512, 0x2000, 1, 0x8, false, [⟨31, 16, .ow, 0, 65535⟩, ⟨15, 0, .ow, 0, 65535⟩]⟩
@[inherit_doc STF_ID] def STF_ID_TX_ID : Fld := ⟨STF_ID, 31, 16⟩
@[inherit_doc STF_ID] def STF_ID_EXP_ID : Fld := ⟨STF_ID, 15, 0⟩

/-- 06_stf_frame, received frame identity. -/
def STF_RX_FRAME : RegSpec :=
  ⟨0x600010, 512, 0x2000, 1, 0x8, true, [⟨63, 48, .ro, 0, 65535⟩, ⟨47, 32, .ro, 0, 65535⟩, ⟨31, 0, .ro, 0, 4294967295⟩]⟩
@[inherit_doc STF_RX_FRAME] def STF_RX_FRAME_RX_FLAGS : Fld := ⟨STF_RX_FRAME, 63, 48⟩
@[inherit_doc STF_RX_FRAME] def STF_RX_FRAME_RX_ID : Fld := ⟨STF_RX_FRAME, 47, 32⟩
@[inherit_doc STF_RX_FRAME] def STF_RX_FRAME_RX_FN : Fld := ⟨STF_RX_FRAME, 31, 0⟩

/-- 06_stf_frame, received frame phase. -/
def STF_RX_PHASE : RegSpec :=
  ⟨0x600018, 512, 0x2000, 1, 0x8, false, [⟨31, 0, .ro, 0, 4294967295⟩]⟩
@[inherit_doc STF_RX_PHASE] def STF_RX_PHASE_PHASE : Fld := ⟨STF_RX_PHASE, 31, 0⟩

/-- 06_stf_frame, path trace capture selection. -/
def STF_TRACE_SEL : RegSpec :=
  ⟨0x60001C, 512, 0x2000, 1, 0x8, false, [⟨6, 0, .ow, 0, 77⟩]⟩
@[inherit_doc STF_TRACE_SEL] def STF_TRACE_SEL_TU : Fld := ⟨STF_TRACE_SEL, 6, 0⟩

/-- 06_stf_frame, section and path traces. -/
def STF_SEC_TRACE_TX : RegSpec :=
  ⟨0x600020, 512, 0x2000, 2, 0x8, true, [⟨63, 0, .ow, 0, 0xffffffffffffffff⟩]⟩
@[inherit_doc STF_SEC_TRACE_TX] def STF_SEC_TRACE_TX_TRACE : Fld := ⟨STF_SEC_TRACE_TX, 63, 0⟩

/-- 06_stf_frame, section and path traces. -/
def STF_SEC_TRACE_EXP : RegSpec :=
  ⟨0x600030, 512, 0x2000, 2, 0x8, true, [⟨63, 0, .ow, 0, 0xffffffffffffffff⟩]⟩
@[inherit_doc STF_SEC_TRACE_EXP] def STF_SEC_TRACE_EXP_TRACE : Fld := ⟨STF_SEC_TRACE_EXP, 63, 0⟩

/-- 06_stf_frame, section and path traces. -/
def STF_SEC_TRACE_RX : RegSpec :=
  ⟨0x600040, 512, 0x2000, 2, 0x8, true, [⟨63, 0, .ro, 0, 0xffffffffffffffff⟩]⟩
@[inherit_doc STF_SEC_TRACE_RX] def STF_SEC_TRACE_RX_TRACE : Fld := ⟨STF_SEC_TRACE_RX, 63, 0⟩

/-- 06_stf_frame, section and path traces. -/
def STF_PATH_TRACE_CAP : RegSpec :=
  ⟨0x600050, 512, 0x2000, 2, 0x8, true, [⟨63, 0, .ro, 0, 0xffffffffffffffff⟩]⟩
@[inherit_doc STF_PATH_TRACE_CAP] def STF_PATH_TRACE_CAP_TRACE : Fld := ⟨STF_PATH_TRACE_CAP, 63, 0⟩

/-- 06_stf_frame, section and path traces. -/
def STF_PATH_TRACE_TX : RegSpec :=
  ⟨0x600060, 512, 0x2000, 2, 0x8, true, [⟨63, 0, .ow, 0, 0xffffffffffffffff⟩]⟩
@[inherit_doc STF_PATH_TRACE_TX] def STF_PATH_TRACE_TX_TRACE : Fld := ⟨STF_PATH_TRACE_TX, 63, 0⟩

/-- 06_stf_frame, expected path trace. -/
def STF_PATH_TRACE_EXP : RegSpec :=
  ⟨0x600200, 512, 0x2000, 156, 0x8, true, [⟨63, 0, .ow, 0, 0xffffffffffffffff⟩]⟩
@[inherit_doc STF_PATH_TRACE_EXP] def STF_PATH_TRACE_EXP_TRACE : Fld := ⟨STF_PATH_TRACE_EXP, 63, 0⟩

/-- 06_stf_frame, lane counters. -/
def STF_CTR : RegSpec :=
  ⟨0x600100, 512, 0x2000, 32, 0x8, true, [⟨47, 0, .ro, 0, 0xffffffffffff⟩]⟩
@[inherit_doc STF_CTR] def STF_CTR_COUNT : Fld := ⟨STF_CTR, 47, 0⟩

/-- 06_stf_frame, TU status. -/
def STF_TU_STAT : RegSpec :=
  ⟨0x600800, 512, 0x2000, 78, 0x40, false, [⟨31, 24, .ro, 0, 255⟩, ⟨16, 16, .ro, 0, 1⟩, ⟨15, 12, .ro, 0, 15⟩, ⟨11, 8, .ro, 0, 15⟩,
    ⟨5, 5, .ro, 0, 1⟩, ⟨4, 4, .ro, 0, 1⟩, ⟨3, 3, .ro, 0, 1⟩, ⟨2, 2, .ro, 0, 1⟩,
    ⟨1, 1, .ro, 0, 1⟩, ⟨0, 0, .ro, 0, 1⟩]⟩
@[inherit_doc STF_TU_STAT] def STF_TU_STAT_RX_LABEL : Fld := ⟨STF_TU_STAT, 31, 24⟩
@[inherit_doc STF_TU_STAT] def STF_TU_STAT_TERM : Fld := ⟨STF_TU_STAT, 16, 16⟩
@[inherit_doc STF_TU_STAT] def STF_TU_STAT_LAST_REI : Fld := ⟨STF_TU_STAT, 15, 12⟩
@[inherit_doc STF_TU_STAT] def STF_TU_STAT_LAST_BIP : Fld := ⟨STF_TU_STAT, 11, 8⟩
@[inherit_doc STF_TU_STAT] def STF_TU_STAT_AIS : Fld := ⟨STF_TU_STAT, 5, 5⟩
@[inherit_doc STF_TU_STAT] def STF_TU_STAT_LOP : Fld := ⟨STF_TU_STAT, 4, 4⟩
@[inherit_doc STF_TU_STAT] def STF_TU_STAT_UNEQ : Fld := ⟨STF_TU_STAT, 3, 3⟩
@[inherit_doc STF_TU_STAT] def STF_TU_STAT_PLM : Fld := ⟨STF_TU_STAT, 2, 2⟩
@[inherit_doc STF_TU_STAT] def STF_TU_STAT_TIM : Fld := ⟨STF_TU_STAT, 1, 1⟩
@[inherit_doc STF_TU_STAT] def STF_TU_STAT_RDI : Fld := ⟨STF_TU_STAT, 0, 0⟩

/-- 06_stf_frame, TU events. -/
def STF_TU_EVT : RegSpec :=
  ⟨0x600804, 512, 0x2000, 78, 0x40, false, [⟨31, 24, .sq, 0, 255⟩, ⟨0, 0, .sq, 0, 1⟩]⟩
@[inherit_doc STF_TU_EVT] def STF_TU_EVT_SEQ : Fld := ⟨STF_TU_EVT, 31, 24⟩
@[inherit_doc STF_TU_EVT] def STF_TU_EVT_DEFECT : Fld := ⟨STF_TU_EVT, 0, 0⟩

/-- 06_stf_frame, signal labels. -/
def STF_TU_LABEL : RegSpec :=
  ⟨0x600808, 512, 0x2000, 78, 0x40, false, [⟨15, 8, .owNamed, 0, 255⟩, ⟨7, 0, .owNamed, 0, 255⟩]⟩
@[inherit_doc STF_TU_LABEL] def STF_TU_LABEL_TX_LABEL : Fld := ⟨STF_TU_LABEL, 15, 8⟩
@[inherit_doc STF_TU_LABEL] def STF_TU_LABEL_EXP_LABEL : Fld := ⟨STF_TU_LABEL, 7, 0⟩

/-- 06_stf_frame, path counters. -/
def STF_TU_BIP : RegSpec :=
  ⟨0x600810, 512, 0x2000, 78, 0x40, true, [⟨47, 0, .ro, 0, 0xffffffffffff⟩]⟩
@[inherit_doc STF_TU_BIP] def STF_TU_BIP_COUNT : Fld := ⟨STF_TU_BIP, 47, 0⟩

/-- 06_stf_frame, path counters. -/
def STF_TU_REI : RegSpec :=
  ⟨0x600818, 512, 0x2000, 78, 0x40, true, [⟨47, 0, .ro, 0, 0xffffffffffff⟩]⟩
@[inherit_doc STF_TU_REI] def STF_TU_REI_COUNT : Fld := ⟨STF_TU_REI, 47, 0⟩

/-- 07_tributaries_and_tsi, pointer state. -/
def STF_TU_PTR : RegSpec :=
  ⟨0x600820, 512, 0x2000, 78, 0x40, false, [⟨31, 30, .ro, 0, 3⟩, ⟨27, 16, .ro, 0, 4095⟩, ⟨15, 14, .ro, 0, 3⟩, ⟨11, 0, .ro, 0, 4095⟩]⟩
@[inherit_doc STF_TU_PTR] def STF_TU_PTR_RX_STATE : Fld := ⟨STF_TU_PTR, 31, 30⟩
@[inherit_doc STF_TU_PTR] def STF_TU_PTR_RX_VALUE : Fld := ⟨STF_TU_PTR, 27, 16⟩
@[inherit_doc STF_TU_PTR] def STF_TU_PTR_TX_MODE : Fld := ⟨STF_TU_PTR, 15, 14⟩
@[inherit_doc STF_TU_PTR] def STF_TU_PTR_TX_VALUE : Fld := ⟨STF_TU_PTR, 11, 0⟩

/-- 07_tributaries_and_tsi, elastic store. -/
def STF_TU_FILL : RegSpec :=
  ⟨0x600824, 512, 0x2000, 78, 0x40, false, [⟨6, 0, .ro, 0, 127⟩]⟩
@[inherit_doc STF_TU_FILL] def STF_TU_FILL_FILL : Fld := ⟨STF_TU_FILL, 6, 0⟩

/-- 07_tributaries_and_tsi, pointer counters. -/
def STF_TU_PJ_RX : RegSpec :=
  ⟨0x600828, 512, 0x2000, 78, 0x40, true, [⟨63, 32, .ro, 0, 4294967295⟩, ⟨31, 0, .ro, 0, 4294967295⟩]⟩
@[inherit_doc STF_TU_PJ_RX] def STF_TU_PJ_RX_RX_INC : Fld := ⟨STF_TU_PJ_RX, 63, 32⟩
@[inherit_doc STF_TU_PJ_RX] def STF_TU_PJ_RX_RX_DEC : Fld := ⟨STF_TU_PJ_RX, 31, 0⟩

/-- 07_tributaries_and_tsi, pointer counters. -/
def STF_TU_PJ_TX : RegSpec :=
  ⟨0x600830, 512, 0x2000, 78, 0x40, true, [⟨63, 32, .ro, 0, 4294967295⟩, ⟨31, 0, .ro, 0, 4294967295⟩]⟩
@[inherit_doc STF_TU_PJ_TX] def STF_TU_PJ_TX_TX_INC : Fld := ⟨STF_TU_PJ_TX, 63, 32⟩
@[inherit_doc STF_TU_PJ_TX] def STF_TU_PJ_TX_TX_DEC : Fld := ⟨STF_TU_PJ_TX, 31, 0⟩

/-- 07_tributaries_and_tsi, pointer counters. -/
def STF_TU_PTR_CTR : RegSpec :=
  ⟨0x600838, 512, 0x2000, 78, 0x40, true, [⟨63, 32, .ro, 0, 4294967295⟩, ⟨31, 0, .ro, 0, 4294967295⟩]⟩
@[inherit_doc STF_TU_PTR_CTR] def STF_TU_PTR_CTR_RX_NDF : Fld := ⟨STF_TU_PTR_CTR, 63, 32⟩
@[inherit_doc STF_TU_PTR_CTR] def STF_TU_PTR_CTR_SLIP : Fld := ⟨STF_TU_PTR_CTR, 31, 0⟩

/-- 07_tributaries_and_tsi, Leaf switching enables. -/
def TSI_CFG : RegSpec :=
  ⟨0xA00000, 1, 0x8, 1, 0x8, false, [⟨3, 0, .ow, 0, 15⟩]⟩
@[inherit_doc TSI_CFG] def TSI_CFG_LEAF_EN : Fld := ⟨TSI_CFG, 3, 0⟩

/-- 07_tributaries_and_tsi, TSI events. -/
def TSI_EVT : RegSpec :=
  ⟨0xA00004, 1, 0x8, 1, 0x8, false, [⟨31, 24, .sq, 0, 255⟩, ⟨3, 3, .sq, 0, 1⟩, ⟨2, 2, .sq, 0, 1⟩, ⟨1, 1, .sq, 0, 1⟩,
    ⟨0, 0, .sq, 0, 1⟩]⟩
@[inherit_doc TSI_EVT] def TSI_EVT_SEQ : Fld := ⟨TSI_EVT, 31, 24⟩
@[inherit_doc TSI_EVT] def TSI_EVT_SLIP : Fld := ⟨TSI_EVT, 3, 3⟩
@[inherit_doc TSI_EVT] def TSI_EVT_XP : Fld := ⟨TSI_EVT, 2, 2⟩
@[inherit_doc TSI_EVT] def TSI_EVT_SWAP : Fld := ⟨TSI_EVT, 1, 1⟩
@[inherit_doc TSI_EVT] def TSI_EVT_STATE : Fld := ⟨TSI_EVT, 0, 0⟩

/-- 07_tributaries_and_tsi, quadrant status, one per quadrant. -/
def TSI_Q_STAT : RegSpec :=
  ⟨0xA00010, 1, 0x10, 4, 0x4, false, [⟨31, 31, .ro, 0, 1⟩, ⟨30, 30, .ro, 0, 1⟩, ⟨28, 16, .ro, 0, 8191⟩, ⟨3, 0, .ro, 0, 15⟩]⟩
@[inherit_doc TSI_Q_STAT] def TSI_Q_STAT_ACTIVE : Fld := ⟨TSI_Q_STAT, 31, 31⟩
@[inherit_doc TSI_Q_STAT] def TSI_Q_STAT_COPYING : Fld := ⟨TSI_Q_STAT, 30, 30⟩
@[inherit_doc TSI_Q_STAT] def TSI_Q_STAT_CONN : Fld := ⟨TSI_Q_STAT, 28, 16⟩
@[inherit_doc TSI_Q_STAT] def TSI_Q_STAT_LC : Fld := ⟨TSI_Q_STAT, 3, 0⟩

/-- 07_tributaries_and_tsi, express pair, one per pair. -/
def TSI_XP : RegSpec :=
  ⟨0xA00400, 1, 0x400, 256, 0x4, false, [⟨31, 31, .ow, 0, 1⟩, ⟨30, 30, .ro, 0, 1⟩, ⟨29, 29, .ro, 0, 1⟩, ⟨28, 28, .ro, 0, 1⟩,
    ⟨24, 16, .ow, 0, 511⟩, ⟨8, 0, .ow, 0, 511⟩]⟩
@[inherit_doc TSI_XP] def TSI_XP_EN : Fld := ⟨TSI_XP, 31, 31⟩
@[inherit_doc TSI_XP] def TSI_XP_XP_ACTIVE : Fld := ⟨TSI_XP, 30, 30⟩
@[inherit_doc TSI_XP] def TSI_XP_SLAVED_AB : Fld := ⟨TSI_XP, 29, 29⟩
@[inherit_doc TSI_XP] def TSI_XP_SLAVED_BA : Fld := ⟨TSI_XP, 28, 28⟩
@[inherit_doc TSI_XP] def TSI_XP_LANE_B : Fld := ⟨TSI_XP, 24, 16⟩
@[inherit_doc TSI_XP] def TSI_XP_LANE_A : Fld := ⟨TSI_XP, 8, 0⟩

/-- 07_tributaries_and_tsi, Leaf entries. -/
def TSI_LEAF_A : RegSpec :=
  ⟨0xA10000, 512, 0x200, 78, 0x4, false, [⟨31, 31, .ro, 0, 1⟩, ⟨30, 30, .ro, 0, 1⟩, ⟨24, 16, .ro, 0, 511⟩, ⟨6, 0, .ro, 0, 127⟩]⟩
@[inherit_doc TSI_LEAF_A] def TSI_LEAF_A_CONN : Fld := ⟨TSI_LEAF_A, 31, 31⟩
@[inherit_doc TSI_LEAF_A] def TSI_LEAF_A_EXPRESS : Fld := ⟨TSI_LEAF_A, 30, 30⟩
@[inherit_doc TSI_LEAF_A] def TSI_LEAF_A_IN_LANE : Fld := ⟨TSI_LEAF_A, 24, 16⟩
@[inherit_doc TSI_LEAF_A] def TSI_LEAF_A_IN_TU : Fld := ⟨TSI_LEAF_A, 6, 0⟩

/-- 07_tributaries_and_tsi, Leaf entries. -/
def TSI_LEAF_B : RegSpec :=
  ⟨0xA50000, 512, 0x200, 78, 0x4, false, [⟨31, 31, .ro, 0, 1⟩, ⟨30, 30, .ro, 0, 1⟩, ⟨24, 16, .ro, 0, 511⟩, ⟨6, 0, .ro, 0, 127⟩]⟩
@[inherit_doc TSI_LEAF_B] def TSI_LEAF_B_CONN : Fld := ⟨TSI_LEAF_B, 31, 31⟩
@[inherit_doc TSI_LEAF_B] def TSI_LEAF_B_EXPRESS : Fld := ⟨TSI_LEAF_B, 30, 30⟩
@[inherit_doc TSI_LEAF_B] def TSI_LEAF_B_IN_LANE : Fld := ⟨TSI_LEAF_B, 24, 16⟩
@[inherit_doc TSI_LEAF_B] def TSI_LEAF_B_IN_TU : Fld := ⟨TSI_LEAF_B, 6, 0⟩

/-- 07_tributaries_and_tsi, channel binding. -/
def PORT_CHAN_BIND : RegSpec :=
  ⟨0x400800, 512, 0x1000, 1, 0x8, false, [⟨24, 16, .owNamed, 0, 511⟩, ⟨6, 0, .owNamed, 0, 127⟩]⟩
@[inherit_doc PORT_CHAN_BIND] def PORT_CHAN_BIND_LANE : Fld := ⟨PORT_CHAN_BIND, 24, 16⟩
@[inherit_doc PORT_CHAN_BIND] def PORT_CHAN_BIND_MEMBERS : Fld := ⟨PORT_CHAN_BIND, 6, 0⟩

/-- 07_tributaries_and_tsi, member bitmap. -/
def PORT_CHAN_TU_LO : RegSpec :=
  ⟨0x400808, 512, 0x1000, 1, 0x8, true, [⟨63, 0, .owNamed, 0, 0xffffffffffffffff⟩]⟩
@[inherit_doc PORT_CHAN_TU_LO] def PORT_CHAN_TU_LO_TUS : Fld := ⟨PORT_CHAN_TU_LO, 63, 0⟩

/-- 07_tributaries_and_tsi, member bitmap. -/
def PORT_CHAN_TU_HI : RegSpec :=
  ⟨0x400810, 512, 0x1000, 1, 0x8, true, [⟨13, 0, .owNamed, 0, 16383⟩]⟩
@[inherit_doc PORT_CHAN_TU_HI] def PORT_CHAN_TU_HI_TUS : Fld := ⟨PORT_CHAN_TU_HI, 13, 0⟩

/-- 07_tributaries_and_tsi, delineation status. -/
def PORT_CHAN_STAT : RegSpec :=
  ⟨0x400818, 512, 0x1000, 1, 0x8, false, [⟨17, 16, .ro, 0, 3⟩, ⟨15, 15, .ro, 0, 1⟩, ⟨14, 14, .ro, 0, 1⟩]⟩
@[inherit_doc PORT_CHAN_STAT] def PORT_CHAN_STAT_DELIN : Fld := ⟨PORT_CHAN_STAT, 17, 16⟩
@[inherit_doc PORT_CHAN_STAT] def PORT_CHAN_STAT_RX_FAIL : Fld := ⟨PORT_CHAN_STAT, 15, 15⟩
@[inherit_doc PORT_CHAN_STAT] def PORT_CHAN_STAT_SKEW : Fld := ⟨PORT_CHAN_STAT, 14, 14⟩

/-- 07_tributaries_and_tsi, delineation counters. -/
def PORT_CHAN_HDR_ERR : RegSpec :=
  ⟨0x400820, 512, 0x1000, 1, 0x8, true, [⟨47, 0, .ro, 0, 0xffffffffffff⟩]⟩
@[inherit_doc PORT_CHAN_HDR_ERR] def PORT_CHAN_HDR_ERR_COUNT : Fld := ⟨PORT_CHAN_HDR_ERR, 47, 0⟩

/-- 07_tributaries_and_tsi, delineation counters. -/
def PORT_CHAN_SYNC_LOSS : RegSpec :=
  ⟨0x400828, 512, 0x1000, 1, 0x8, true, [⟨47, 0, .ro, 0, 0xffffffffffff⟩]⟩
@[inherit_doc PORT_CHAN_SYNC_LOSS] def PORT_CHAN_SYNC_LOSS_COUNT : Fld := ⟨PORT_CHAN_SYNC_LOSS, 47, 0⟩

/-- 08_parse_and_classify, pipeline events. -/
def PIPE_EVT : RegSpec :=
  ⟨0xB00000, 8, 0x20000, 1, 0x8, false, [⟨31, 24, .sq, 0, 255⟩, ⟨4, 4, .sq, 0, 1⟩, ⟨3, 3, .sq, 0, 1⟩, ⟨2, 2, .sq, 0, 1⟩,
    ⟨1, 1, .sq, 0, 1⟩, ⟨0, 0, .sq, 0, 1⟩]⟩
@[inherit_doc PIPE_EVT] def PIPE_EVT_SEQ : Fld := ⟨PIPE_EVT, 31, 24⟩
@[inherit_doc PIPE_EVT] def PIPE_EVT_NO_MATCH : Fld := ⟨PIPE_EVT, 4, 4⟩
@[inherit_doc PIPE_EVT] def PIPE_EVT_SLOW_DROP : Fld := ⟨PIPE_EVT, 3, 3⟩
@[inherit_doc PIPE_EVT] def PIPE_EVT_PAT_RSV_OVER : Fld := ⟨PIPE_EVT, 2, 2⟩
@[inherit_doc PIPE_EVT] def PIPE_EVT_PAT_OVER : Fld := ⟨PIPE_EVT, 1, 1⟩
@[inherit_doc PIPE_EVT] def PIPE_EVT_PAT_STATE : Fld := ⟨PIPE_EVT, 0, 0⟩

/-- 08_parse_and_classify, parse graph banks. -/
def PIPE_PARSE_STAT : RegSpec :=
  ⟨0xB00008, 8, 0x20000, 1, 0x8, false, [⟨31, 31, .ro, 0, 1⟩, ⟨30, 30, .ro, 0, 1⟩, ⟨29, 29, .ro, 0, 1⟩, ⟨15, 8, .ro, 0, 255⟩,
    ⟨7, 0, .ro, 0, 255⟩]⟩
@[inherit_doc PIPE_PARSE_STAT] def PIPE_PARSE_STAT_CUR_BANK : Fld := ⟨PIPE_PARSE_STAT, 31, 31⟩
@[inherit_doc PIPE_PARSE_STAT] def PIPE_PARSE_STAT_CLAIMED : Fld := ⟨PIPE_PARSE_STAT, 30, 30⟩
@[inherit_doc PIPE_PARSE_STAT] def PIPE_PARSE_STAT_STANDBY_LIVE : Fld := ⟨PIPE_PARSE_STAT, 29, 29⟩
@[inherit_doc PIPE_PARSE_STAT] def PIPE_PARSE_STAT_FROM_STANDBY : Fld := ⟨PIPE_PARSE_STAT, 15, 8⟩
@[inherit_doc PIPE_PARSE_STAT] def PIPE_PARSE_STAT_FROM_CUR : Fld := ⟨PIPE_PARSE_STAT, 7, 0⟩

/-- 08_parse_and_classify, free TCAM indices. -/
def PIPE_TCAM_STAT : RegSpec :=
  ⟨0xB0000C, 8, 0x20000, 1, 0x8, false, [⟨31, 16, .ro, 0, 65535⟩, ⟨15, 0, .ro, 0, 65535⟩]⟩
@[inherit_doc PIPE_TCAM_STAT] def PIPE_TCAM_STAT_ING_FREE : Fld := ⟨PIPE_TCAM_STAT, 31, 16⟩
@[inherit_doc PIPE_TCAM_STAT] def PIPE_TCAM_STAT_EG_FREE : Fld := ⟨PIPE_TCAM_STAT, 15, 0⟩

/-- 08_parse_and_classify, pattern engine enable. -/
def PIPE_PAT_CFG : RegSpec :=
  ⟨0xB00010, 8, 0x20000, 1, 0x8, false, [⟨0, 0, .ow, 0, 1⟩]⟩
@[inherit_doc PIPE_PAT_CFG] def PIPE_PAT_CFG_PAT_EN : Fld := ⟨PIPE_PAT_CFG, 0, 0⟩

/-- 08_parse_and_classify, pattern engine status. -/
def PIPE_PAT_STAT : RegSpec :=
  ⟨0xB00014, 8, 0x20000, 1, 0x8, false, [⟨31, 19, .ro, 0, 8191⟩, ⟨3, 0, .ro, 0, 15⟩]⟩
@[inherit_doc PIPE_PAT_STAT] def PIPE_PAT_STAT_FREE : Fld := ⟨PIPE_PAT_STAT, 31, 19⟩
@[inherit_doc PIPE_PAT_STAT] def PIPE_PAT_STAT_LC : Fld := ⟨PIPE_PAT_STAT, 3, 0⟩

/-- 08_parse_and_classify, scan admission figures. -/
def PIPE_PAT_BUDGET : RegSpec :=
  ⟨0xB00018, 8, 0x20000, 1, 0x8, true, [⟨63, 32, .ro, 0, 4294967295⟩, ⟨31, 0, .ro, 0, 4294967295⟩]⟩
@[inherit_doc PIPE_PAT_BUDGET] def PIPE_PAT_BUDGET_DEMAND : Fld := ⟨PIPE_PAT_BUDGET, 63, 32⟩
@[inherit_doc PIPE_PAT_BUDGET] def PIPE_PAT_BUDGET_CAPACITY : Fld := ⟨PIPE_PAT_BUDGET, 31, 0⟩

/-- 08_parse_and_classify, entry read-back selection. -/
def PIPE_TCAM_RD_SEL : RegSpec :=
  ⟨0xB00020, 8, 0x20000, 1, 0x8, false, [⟨15, 15, .ow, 0, 1⟩, ⟨13, 0, .ow, 0, 16383⟩]⟩
@[inherit_doc PIPE_TCAM_RD_SEL] def PIPE_TCAM_RD_SEL_EGRESS : Fld := ⟨PIPE_TCAM_RD_SEL, 15, 15⟩
@[inherit_doc PIPE_TCAM_RD_SEL] def PIPE_TCAM_RD_SEL_INDEX : Fld := ⟨PIPE_TCAM_RD_SEL, 13, 0⟩

/-- 08_parse_and_classify, selected entry state. -/
def PIPE_TCAM_RD_META : RegSpec :=
  ⟨0xB00024, 8, 0x20000, 1, 0x8, false, [⟨31, 31, .ro, 0, 1⟩, ⟨30, 30, .ro, 0, 1⟩, ⟨29, 29, .ro, 0, 1⟩, ⟨15, 8, .ro, 0, 255⟩,
    ⟨7, 0, .ro, 0, 255⟩]⟩
@[inherit_doc PIPE_TCAM_RD_META] def PIPE_TCAM_RD_META_PRESENT : Fld := ⟨PIPE_TCAM_RD_META, 31, 31⟩
@[inherit_doc PIPE_TCAM_RD_META] def PIPE_TCAM_RD_META_OPEN : Fld := ⟨PIPE_TCAM_RD_META, 30, 30⟩
@[inherit_doc PIPE_TCAM_RD_META] def PIPE_TCAM_RD_META_STAGED : Fld := ⟨PIPE_TCAM_RD_META, 29, 29⟩
@[inherit_doc PIPE_TCAM_RD_META] def PIPE_TCAM_RD_META_UNTIL : Fld := ⟨PIPE_TCAM_RD_META, 15, 8⟩
@[inherit_doc PIPE_TCAM_RD_META] def PIPE_TCAM_RD_META_FROM : Fld := ⟨PIPE_TCAM_RD_META, 7, 0⟩

/-- 08_parse_and_classify, selected entry words. -/
def PIPE_TCAM_RD : RegSpec :=
  ⟨0xB00040, 8, 0x20000, 20, 0x8, true, [⟨63, 0, .ro, 0, 0xffffffffffffffff⟩]⟩
@[inherit_doc PIPE_TCAM_RD] def PIPE_TCAM_RD_WORD : Fld := ⟨PIPE_TCAM_RD, 63, 0⟩

/-- 08_parse_and_classify, slow-path bucket, one per cause. -/
def PIPE_SLOW_CFG : RegSpec :=
  ⟨0xB00108, 8, 0x20000, 7, 0x8, true, [⟨63, 40, .ow, 0, 10000000⟩, ⟨39, 24, .ow, 1, 65535⟩, ⟨5, 0, .ow, 0, 63⟩]⟩
@[inherit_doc PIPE_SLOW_CFG] def PIPE_SLOW_CFG_RATE : Fld := ⟨PIPE_SLOW_CFG, 63, 40⟩
@[inherit_doc PIPE_SLOW_CFG] def PIPE_SLOW_CFG_BURST : Fld := ⟨PIPE_SLOW_CFG, 39, 24⟩
@[inherit_doc PIPE_SLOW_CFG] def PIPE_SLOW_CFG_RING : Fld := ⟨PIPE_SLOW_CFG, 5, 0⟩

/-- 08_parse_and_classify, pipeline counters. -/
def PIPE_CTR : RegSpec :=
  ⟨0xB00200, 8, 0x20000, 32, 0x8, true, [⟨47, 0, .ro, 0, 0xffffffffffff⟩]⟩
@[inherit_doc PIPE_CTR] def PIPE_CTR_COUNT : Fld := ⟨PIPE_CTR, 47, 0⟩

/-- 09_forwarding_tables, replica occupancy. -/
def TBL_STAT : RegSpec :=
  ⟨0xB01000, 8, 0x20000, 1, 0x8, false, [⟨31, 12, .ro, 0, 1048575⟩, ⟨11, 0, .ro, 0, 4095⟩]⟩
@[inherit_doc TBL_STAT] def TBL_STAT_SLOTS : Fld := ⟨TBL_STAT, 31, 12⟩
@[inherit_doc TBL_STAT] def TBL_STAT_OVF : Fld := ⟨TBL_STAT, 11, 0⟩

/-- 09_forwarding_tables, table events. -/
def TBL_EVT : RegSpec :=
  ⟨0xB01004, 8, 0x20000, 1, 0x8, false, [⟨31, 24, .sq, 0, 255⟩, ⟨3, 3, .sq, 0, 1⟩, ⟨2, 2, .sq, 0, 1⟩, ⟨1, 1, .sq, 0, 1⟩,
    ⟨0, 0, .sq, 0, 1⟩]⟩
@[inherit_doc TBL_EVT] def TBL_EVT_SEQ : Fld := ⟨TBL_EVT, 31, 24⟩
@[inherit_doc TBL_EVT] def TBL_EVT_ECC : Fld := ⟨TBL_EVT, 3, 3⟩
@[inherit_doc TBL_EVT] def TBL_EVT_FLAP : Fld := ⟨TBL_EVT, 2, 2⟩
@[inherit_doc TBL_EVT] def TBL_EVT_OVF : Fld := ⟨TBL_EVT, 1, 1⟩
@[inherit_doc TBL_EVT] def TBL_EVT_LEARN : Fld := ⟨TBL_EVT, 0, 0⟩

/-- 09_forwarding_tables, last uncorrectable location. -/
def TBL_ECC_LOC : RegSpec :=
  ⟨0xB01008, 8, 0x20000, 1, 0x8, false, [⟨20, 20, .ro, 0, 1⟩, ⟨19, 18, .ro, 0, 3⟩, ⟨15, 0, .ro, 0, 65535⟩]⟩
@[inherit_doc TBL_ECC_LOC] def TBL_ECC_LOC_OVF : Fld := ⟨TBL_ECC_LOC, 20, 20⟩
@[inherit_doc TBL_ECC_LOC] def TBL_ECC_LOC_SLOT : Fld := ⟨TBL_ECC_LOC, 19, 18⟩
@[inherit_doc TBL_ECC_LOC] def TBL_ECC_LOC_INDEX : Fld := ⟨TBL_ECC_LOC, 15, 0⟩

/-- 09_forwarding_tables, learn queue. -/
def TBL_LEARN_Q : RegSpec :=
  ⟨0xB0100C, 8, 0x20000, 1, 0x8, false, [⟨10, 0, .ro, 0, 2047⟩]⟩
@[inherit_doc TBL_LEARN_Q] def TBL_LEARN_Q_DEPTH : Fld := ⟨TBL_LEARN_Q, 10, 0⟩

/-- 09_forwarding_tables, table counters. -/
def TBL_CTR : RegSpec :=
  ⟨0xB01100, 8, 0x20000, 16, 0x8, true, [⟨47, 0, .ro, 0, 0xffffffffffff⟩]⟩
@[inherit_doc TBL_CTR] def TBL_CTR_COUNT : Fld := ⟨TBL_CTR, 47, 0⟩

/-- 09_forwarding_tables, learning domain, one per VID. -/
def TBL_DOMAIN : RegSpec :=
  ⟨0xB04000, 8, 0x20000, 4096, 0x4, false, [⟨13, 8, .ow, 0, 63⟩, ⟨2, 2, .ow, 0, 1⟩, ⟨1, 0, .ow, 0, 2⟩]⟩
@[inherit_doc TBL_DOMAIN] def TBL_DOMAIN_MOVE_LIMIT : Fld := ⟨TBL_DOMAIN, 13, 8⟩
@[inherit_doc TBL_DOMAIN] def TBL_DOMAIN_AUTO : Fld := ⟨TBL_DOMAIN, 2, 2⟩
@[inherit_doc TBL_DOMAIN] def TBL_DOMAIN_MODE : Fld := ⟨TBL_DOMAIN, 1, 0⟩

/-- 09_forwarding_tables, aging. -/
def TBL_AGE_CFG : RegSpec :=
  ⟨0xB01800, 1, 0x8, 1, 0x8, false, [⟨31, 31, .ow, 0, 1⟩, ⟨9, 0, .ow, 1, 1000⟩]⟩
@[inherit_doc TBL_AGE_CFG] def TBL_AGE_CFG_AGE_EN : Fld := ⟨TBL_AGE_CFG, 31, 31⟩
@[inherit_doc TBL_AGE_CFG] def TBL_AGE_CFG_PERIOD_S : Fld := ⟨TBL_AGE_CFG, 9, 0⟩

/-- 09_forwarding_tables, learning. -/
def TBL_LEARN_CFG : RegSpec :=
  ⟨0xB01804, 1, 0x8, 1, 0x8, false, [⟨9, 0, .ow, 1, 1000⟩]⟩
@[inherit_doc TBL_LEARN_CFG] def TBL_LEARN_CFG_ACK_MS : Fld := ⟨TBL_LEARN_CFG, 9, 0⟩

/-- 09_forwarding_tables, hash seed. -/
def TBL_HASH_SEED : RegSpec :=
  ⟨0xB01808, 1, 0x8, 1, 0x8, false, [⟨31, 0, .ow, 0, 4294967295⟩]⟩
@[inherit_doc TBL_HASH_SEED] def TBL_HASH_SEED_HASH_SEED : Fld := ⟨TBL_HASH_SEED, 31, 0⟩

/-- 09_forwarding_tables, pending notices. -/
def TBL_LEARN_STAT : RegSpec :=
  ⟨0xB0180C, 1, 0x8, 1, 0x8, false, [⟨14, 0, .ro, 0, 32767⟩]⟩
@[inherit_doc TBL_LEARN_STAT] def TBL_LEARN_STAT_PENDING : Fld := ⟨TBL_LEARN_STAT, 14, 0⟩

/-- 09_forwarding_tables, shadow ring base. -/
def TBL_SHADOW_BASE : RegSpec :=
  ⟨0xB01810, 1, 0x8, 1, 0x8, true, [⟨63, 4, .rw, 0, 0xfffffffffffffff⟩]⟩
@[inherit_doc TBL_SHADOW_BASE] def TBL_SHADOW_BASE_BASE : Fld := ⟨TBL_SHADOW_BASE, 63, 4⟩

/-- 09_forwarding_tables, shadow compare status. -/
def TBL_SHADOW_STAT : RegSpec :=
  ⟨0xB01824, 1, 0x8, 1, 0x8, false, [⟨31, 24, .sq, 0, 255⟩, ⟨23, 23, .ro, 0, 1⟩, ⟨22, 8, .ro, 0, 32767⟩, ⟨3, 3, .sq, 0, 1⟩,
    ⟨2, 2, .sq, 0, 1⟩, ⟨1, 1, .sq, 0, 1⟩, ⟨0, 0, .sq, 0, 1⟩]⟩
@[inherit_doc TBL_SHADOW_STAT] def TBL_SHADOW_STAT_SEQ : Fld := ⟨TBL_SHADOW_STAT, 31, 24⟩
@[inherit_doc TBL_SHADOW_STAT] def TBL_SHADOW_STAT_RUNNING : Fld := ⟨TBL_SHADOW_STAT, 23, 23⟩
@[inherit_doc TBL_SHADOW_STAT] def TBL_SHADOW_STAT_MISMATCHES : Fld := ⟨TBL_SHADOW_STAT, 22, 8⟩
@[inherit_doc TBL_SHADOW_STAT] def TBL_SHADOW_STAT_RING_ERR : Fld := ⟨TBL_SHADOW_STAT, 3, 3⟩
@[inherit_doc TBL_SHADOW_STAT] def TBL_SHADOW_STAT_FETCH_ERR : Fld := ⟨TBL_SHADOW_STAT, 2, 2⟩
@[inherit_doc TBL_SHADOW_STAT] def TBL_SHADOW_STAT_MISMATCH : Fld := ⟨TBL_SHADOW_STAT, 1, 1⟩
@[inherit_doc TBL_SHADOW_STAT] def TBL_SHADOW_STAT_DONE : Fld := ⟨TBL_SHADOW_STAT, 0, 0⟩

/-- 09_forwarding_tables, shadow ring indices. -/
def TBL_SHADOW_SIZE : RegSpec :=
  ⟨0xB01818, 1, 0x8, 1, 0x8, false, [⟨8, 0, .rw, 0, 511⟩]⟩
@[inherit_doc TBL_SHADOW_SIZE] def TBL_SHADOW_SIZE_SIZE : Fld := ⟨TBL_SHADOW_SIZE, 8, 0⟩

/-- 09_forwarding_tables, shadow ring indices. -/
def TBL_SHADOW_TAIL : RegSpec :=
  ⟨0xB0181C, 1, 0x8, 1, 0x8, false, [⟨15, 0, .rw, 0, 65535⟩]⟩
@[inherit_doc TBL_SHADOW_TAIL] def TBL_SHADOW_TAIL_TAIL : Fld := ⟨TBL_SHADOW_TAIL, 15, 0⟩

/-- 09_forwarding_tables, shadow ring indices. -/
def TBL_SHADOW_HEAD : RegSpec :=
  ⟨0xB01820, 1, 0x8, 1, 0x8, false, [⟨15, 0, .ro, 0, 65535⟩]⟩
@[inherit_doc TBL_SHADOW_HEAD] def TBL_SHADOW_HEAD_HEAD : Fld := ⟨TBL_SHADOW_HEAD, 15, 0⟩

/-- 10_cell_buffer, buffer events. -/
def CELL_EVT : RegSpec :=
  ⟨0xC00000, 1, 0x8, 1, 0x8, false, [⟨31, 24, .sq, 0, 255⟩, ⟨5, 5, .sq, 0, 1⟩, ⟨4, 4, .sq, 0, 1⟩, ⟨3, 3, .sq, 0, 1⟩,
    ⟨2, 2, .sq, 0, 1⟩, ⟨1, 1, .sq, 0, 1⟩, ⟨0, 0, .sq, 0, 1⟩]⟩
@[inherit_doc CELL_EVT] def CELL_EVT_SEQ : Fld := ⟨CELL_EVT, 31, 24⟩
@[inherit_doc CELL_EVT] def CELL_EVT_SCRUB : Fld := ⟨CELL_EVT, 5, 5⟩
@[inherit_doc CELL_EVT] def CELL_EVT_LOW : Fld := ⟨CELL_EVT, 4, 4⟩
@[inherit_doc CELL_EVT] def CELL_EVT_LINK_LOST : Fld := ⟨CELL_EVT, 3, 3⟩
@[inherit_doc CELL_EVT] def CELL_EVT_QUAR : Fld := ⟨CELL_EVT, 2, 2⟩
@[inherit_doc CELL_EVT] def CELL_EVT_DFREE : Fld := ⟨CELL_EVT, 1, 1⟩
@[inherit_doc CELL_EVT] def CELL_EVT_FOREIGN : Fld := ⟨CELL_EVT, 0, 0⟩

/-- 10_cell_buffer, free-cell warning. -/
def CELL_CFG : RegSpec :=
  ⟨0xC00004, 1, 0x8, 1, 0x8, false, [⟨19, 0, .ow, 0, 655360⟩]⟩
@[inherit_doc CELL_CFG] def CELL_CFG_LOW_MARK : Fld := ⟨CELL_CFG, 19, 0⟩

/-- 10_cell_buffer, Cupboard free count. -/
def CELL_FREE : RegSpec :=
  ⟨0xC00008, 1, 0x8, 1, 0x8, true, [⟨51, 32, .lh, 0, 1048575⟩, ⟨19, 0, .lh, 0, 1048575⟩]⟩
@[inherit_doc CELL_FREE] def CELL_FREE_MIN_FREE : Fld := ⟨CELL_FREE, 51, 32⟩
@[inherit_doc CELL_FREE] def CELL_FREE_FREE : Fld := ⟨CELL_FREE, 19, 0⟩

/-- 10_cell_buffer, shared pool. -/
def CELL_POOL : RegSpec :=
  ⟨0xC00010, 1, 0x8, 1, 0x8, true, [⟨51, 32, .ro, 0, 1048575⟩, ⟨19, 0, .ro, 0, 1048575⟩]⟩
@[inherit_doc CELL_POOL] def CELL_POOL_SHARED_SIZE : Fld := ⟨CELL_POOL, 51, 32⟩
@[inherit_doc CELL_POOL] def CELL_POOL_SHARED_USED : Fld := ⟨CELL_POOL, 19, 0⟩

/-- 10_cell_buffer, quarantine status. -/
def CELL_QUAR : RegSpec :=
  ⟨0xC00018, 1, 0x8, 1, 0x8, false, [⟨31, 30, .ro, 0, 3⟩, ⟨19, 0, .ro, 0, 1048575⟩]⟩
@[inherit_doc CELL_QUAR] def CELL_QUAR_LAST_SCRUB : Fld := ⟨CELL_QUAR, 31, 30⟩
@[inherit_doc CELL_QUAR] def CELL_QUAR_COUNT : Fld := ⟨CELL_QUAR, 19, 0⟩

/-- 10_cell_buffer, scrub request. -/
def CELL_QUAR_RET : RegSpec :=
  ⟨0xC0001C, 1, 0x8, 1, 0x8, false, [⟨19, 0, .ow, 0, 1048575⟩]⟩
@[inherit_doc CELL_QUAR_RET] def CELL_QUAR_RET_INDEX : Fld := ⟨CELL_QUAR_RET, 19, 0⟩

/-- 10_cell_buffer, Cupboard quadrant state, one per quadrant. -/
def CELL_CUP_Q : RegSpec :=
  ⟨0xC00040, 1, 0x20, 4, 0x8, true, [⟨51, 32, .ro, 0, 1048575⟩, ⟨10, 0, .ro, 0, 2047⟩]⟩
@[inherit_doc CELL_CUP_Q] def CELL_CUP_Q_SECTION : Fld := ⟨CELL_CUP_Q, 51, 32⟩
@[inherit_doc CELL_CUP_Q] def CELL_CUP_Q_CACHE : Fld := ⟨CELL_CUP_Q, 10, 0⟩

/-- 10_cell_buffer, buffer counters. -/
def CELL_CTR : RegSpec :=
  ⟨0xC00100, 1, 0x100, 32, 0x8, true, [⟨47, 0, .ro, 0, 0xffffffffffff⟩]⟩
@[inherit_doc CELL_CTR] def CELL_CTR_COUNT : Fld := ⟨CELL_CTR, 47, 0⟩

/-- 10_cell_buffer, buffer profile, one per profile. -/
def CELL_PROFILE : RegSpec :=
  ⟨0xC01000, 1, 0x100, 32, 0x8, true, [⟨63, 60, .ow, 0, 15⟩, ⟨59, 55, .ow, 0, 16⟩, ⟨54, 50, .ow, 0, 16⟩, ⟨39, 20, .ow, 0, 1048575⟩,
    ⟨19, 0, .ow, 0, 65535⟩]⟩
@[inherit_doc CELL_PROFILE] def CELL_PROFILE_ALPHA : Fld := ⟨CELL_PROFILE, 63, 60⟩
@[inherit_doc CELL_PROFILE] def CELL_PROFILE_YEL_16 : Fld := ⟨CELL_PROFILE, 59, 55⟩
@[inherit_doc CELL_PROFILE] def CELL_PROFILE_RED_16 : Fld := ⟨CELL_PROFILE, 54, 50⟩
@[inherit_doc CELL_PROFILE] def CELL_PROFILE_MAX_CELLS : Fld := ⟨CELL_PROFILE, 39, 20⟩
@[inherit_doc CELL_PROFILE] def CELL_PROFILE_MIN_CELLS : Fld := ⟨CELL_PROFILE, 19, 0⟩

/-- 10_cell_buffer, mirror session, one per session. -/
def CELL_MIRROR : RegSpec :=
  ⟨0xC02000, 1, 0x80, 16, 0x8, true, [⟨63, 63, .ow, 0, 1⟩, ⟨62, 62, .ow, 0, 1⟩, ⟨61, 52, .ow, 0, 1023⟩, ⟨51, 45, .ow, 0, 127⟩,
    ⟨44, 39, .ow, 0, 63⟩, ⟨31, 16, .ow, 0, 65535⟩]⟩
@[inherit_doc CELL_MIRROR] def CELL_MIRROR_EN : Fld := ⟨CELL_MIRROR, 63, 63⟩
@[inherit_doc CELL_MIRROR] def CELL_MIRROR_DIR : Fld := ⟨CELL_MIRROR, 62, 62⟩
@[inherit_doc CELL_MIRROR] def CELL_MIRROR_PORT : Fld := ⟨CELL_MIRROR, 61, 52⟩
@[inherit_doc CELL_MIRROR] def CELL_MIRROR_QIDX : Fld := ⟨CELL_MIRROR, 51, 45⟩
@[inherit_doc CELL_MIRROR] def CELL_MIRROR_TRUNC : Fld := ⟨CELL_MIRROR, 44, 39⟩
@[inherit_doc CELL_MIRROR] def CELL_MIRROR_SAMPLE : Fld := ⟨CELL_MIRROR, 31, 16⟩

/-- 10_cell_buffer, ingress headroom, one per logical port. -/
def CELL_PORT_PFC : RegSpec :=
  ⟨0xC10000, 1, 0x2000, 1024, 0x8, true, [⟨47, 32, .ow, 0, 65535⟩, ⟨31, 16, .ow, 0, 65535⟩, ⟨15, 0, .ow, 0, 65535⟩]⟩
@[inherit_doc CELL_PORT_PFC] def CELL_PORT_PFC_HEADROOM : Fld := ⟨CELL_PORT_PFC, 47, 32⟩
@[inherit_doc CELL_PORT_PFC] def CELL_PORT_PFC_XOFF_CELLS : Fld := ⟨CELL_PORT_PFC, 31, 16⟩
@[inherit_doc CELL_PORT_PFC] def CELL_PORT_PFC_HYST : Fld := ⟨CELL_PORT_PFC, 15, 0⟩

/-- 10_cell_buffer, headroom in use, one pair per logical port. -/
def CELL_PORT_HR : RegSpec :=
  ⟨0xC20000, 1, 0x4000, 2048, 0x8, true, [⟨63, 0, .ro, 0, 0xffffffffffffffff⟩]⟩
@[inherit_doc CELL_PORT_HR] def CELL_PORT_HR_HR : Fld := ⟨CELL_PORT_HR, 63, 0⟩

/-- 10_cell_buffer, group control, one per group. -/
def CELL_MCAST_CTL : RegSpec :=
  ⟨0xC30000, 1, 0x1000, 1024, 0x4, false, [⟨31, 31, .ow, 0, 1⟩, ⟨10, 0, .ro, 0, 2047⟩]⟩
@[inherit_doc CELL_MCAST_CTL] def CELL_MCAST_CTL_PRUNE : Fld := ⟨CELL_MCAST_CTL, 31, 31⟩
@[inherit_doc CELL_MCAST_CTL] def CELL_MCAST_CTL_MEMBERS : Fld := ⟨CELL_MCAST_CTL, 10, 0⟩

/-- 10_cell_buffer, group members. -/
def CELL_MCAST_MAP : RegSpec :=
  ⟨0xC40000, 1, 0x20000, 16384, 0x8, true, [⟨63, 0, .ow, 0, 0xffffffffffffffff⟩]⟩
@[inherit_doc CELL_MCAST_MAP] def CELL_MCAST_MAP_PORTS : Fld := ⟨CELL_MCAST_MAP, 63, 0⟩

/-- 11_queues_meters_admission, traffic manager events. -/
def TM_EVT : RegSpec :=
  ⟨0xD00000, 1, 0x8, 1, 0x8, false, [⟨31, 24, .sq, 0, 255⟩, ⟨3, 3, .sq, 0, 1⟩, ⟨2, 2, .sq, 0, 1⟩, ⟨1, 1, .sq, 0, 1⟩,
    ⟨0, 0, .sq, 0, 1⟩]⟩
@[inherit_doc TM_EVT] def TM_EVT_SEQ : Fld := ⟨TM_EVT, 31, 24⟩
@[inherit_doc TM_EVT] def TM_EVT_ARB_DROP : Fld := ⟨TM_EVT, 3, 3⟩
@[inherit_doc TM_EVT] def TM_EVT_RSV_DISCARD : Fld := ⟨TM_EVT, 2, 2⟩
@[inherit_doc TM_EVT] def TM_EVT_Q_FLUSH : Fld := ⟨TM_EVT, 1, 1⟩
@[inherit_doc TM_EVT] def TM_EVT_REFUSED : Fld := ⟨TM_EVT, 0, 0⟩

/-- 11_queues_meters_admission, admission summary. -/
def TM_ADM_STAT : RegSpec :=
  ⟨0xD00004, 1, 0x8, 1, 0x8, false, [⟨30, 16, .ro, 0, 32767⟩, ⟨15, 0, .ro, 0, 65535⟩]⟩
@[inherit_doc TM_ADM_STAT] def TM_ADM_STAT_FLOWS : Fld := ⟨TM_ADM_STAT, 30, 16⟩
@[inherit_doc TM_ADM_STAT] def TM_ADM_STAT_LAST_US : Fld := ⟨TM_ADM_STAT, 15, 0⟩

/-- 11_queues_meters_admission, last admission result. -/
def TM_ADM_LAST : RegSpec :=
  ⟨0xD00008, 1, 0x8, 1, 0x8, true, [⟨63, 56, .ro, 0, 255⟩, ⟨55, 40, .ro, 0, 65535⟩, ⟨39, 0, .ro, 0, 0xffffffffff⟩]⟩
@[inherit_doc TM_ADM_LAST] def TM_ADM_LAST_RESULT : Fld := ⟨TM_ADM_LAST, 63, 56⟩
@[inherit_doc TM_ADM_LAST] def TM_ADM_LAST_OBJECT : Fld := ⟨TM_ADM_LAST, 55, 40⟩
@[inherit_doc TM_ADM_LAST] def TM_ADM_LAST_EPOCH : Fld := ⟨TM_ADM_LAST, 39, 0⟩

/-- 11_queues_meters_admission, queue view selection. -/
def TM_Q_SEL : RegSpec :=
  ⟨0xD00010, 1, 0x8, 1, 0x8, false, [⟨15, 0, .ow, 0, 65535⟩]⟩
@[inherit_doc TM_Q_SEL] def TM_Q_SEL_QUEUE : Fld := ⟨TM_Q_SEL, 15, 0⟩

/-- 11_queues_meters_admission, selected queue settings. -/
def TM_Q_CFG : RegSpec :=
  ⟨0xD00018, 1, 0x8, 1, 0x8, true, [⟨63, 54, .ro, 0, 1023⟩, ⟨53, 53, .ro, 0, 1⟩, ⟨52, 51, .ro, 0, 3⟩, ⟨50, 48, .ro, 0, 7⟩,
    ⟨47, 32, .ro, 0, 65535⟩, ⟨7, 3, .ro, 0, 31⟩, ⟨2, 0, .ro, 0, 7⟩]⟩
@[inherit_doc TM_Q_CFG] def TM_Q_CFG_PORT : Fld := ⟨TM_Q_CFG, 63, 54⟩
@[inherit_doc TM_Q_CFG] def TM_Q_CFG_UNASSIGNED : Fld := ⟨TM_Q_CFG, 53, 53⟩
@[inherit_doc TM_Q_CFG] def TM_Q_CFG_TIER : Fld := ⟨TM_Q_CFG, 52, 51⟩
@[inherit_doc TM_Q_CFG] def TM_Q_CFG_GROUP : Fld := ⟨TM_Q_CFG, 50, 48⟩
@[inherit_doc TM_Q_CFG] def TM_Q_CFG_WEIGHT : Fld := ⟨TM_Q_CFG, 47, 32⟩
@[inherit_doc TM_Q_CFG] def TM_Q_CFG_PROFILE : Fld := ⟨TM_Q_CFG, 7, 3⟩
@[inherit_doc TM_Q_CFG] def TM_Q_CFG_PFC_PRI : Fld := ⟨TM_Q_CFG, 2, 0⟩

/-- 11_queues_meters_admission, selected queue shaper. -/
def TM_Q_SHAPE : RegSpec :=
  ⟨0xD00020, 1, 0x8, 1, 0x8, true, [⟨63, 32, .ro, 0, 4294967295⟩, ⟨31, 0, .ro, 0, 4294967295⟩]⟩
@[inherit_doc TM_Q_SHAPE] def TM_Q_SHAPE_RATE : Fld := ⟨TM_Q_SHAPE, 63, 32⟩
@[inherit_doc TM_Q_SHAPE] def TM_Q_SHAPE_BURST : Fld := ⟨TM_Q_SHAPE, 31, 0⟩

/-- 11_queues_meters_admission, selected queue status. -/
def TM_Q_STAT : RegSpec :=
  ⟨0xD00028, 1, 0x8, 1, 0x8, true, [⟨63, 44, .ro, 0, 1048575⟩, ⟨31, 31, .ro, 0, 1⟩, ⟨30, 30, .ro, 0, 1⟩, ⟨29, 29, .ro, 0, 1⟩,
    ⟨22, 16, .ro, 0, 127⟩, ⟨3, 0, .ro, 0, 15⟩]⟩
@[inherit_doc TM_Q_STAT] def TM_Q_STAT_CELLS : Fld := ⟨TM_Q_STAT, 63, 44⟩
@[inherit_doc TM_Q_STAT] def TM_Q_STAT_RSV : Fld := ⟨TM_Q_STAT, 31, 31⟩
@[inherit_doc TM_Q_STAT] def TM_Q_STAT_PAUSED : Fld := ⟨TM_Q_STAT, 30, 30⟩
@[inherit_doc TM_Q_STAT] def TM_Q_STAT_SHAPER_WAIT : Fld := ⟨TM_Q_STAT, 29, 29⟩
@[inherit_doc TM_Q_STAT] def TM_Q_STAT_QIDX : Fld := ⟨TM_Q_STAT, 22, 16⟩
@[inherit_doc TM_Q_STAT] def TM_Q_STAT_LC : Fld := ⟨TM_Q_STAT, 3, 0⟩

/-- 11_queues_meters_admission, selected queue tags. -/
def TM_Q_TAGS : RegSpec :=
  ⟨0xD00030, 1, 0x8, 1, 0x8, true, [⟨63, 32, .ro, 0, 4294967295⟩, ⟨31, 0, .ro, 0, 4294967295⟩]⟩
@[inherit_doc TM_Q_TAGS] def TM_Q_TAGS_S : Fld := ⟨TM_Q_TAGS, 63, 32⟩
@[inherit_doc TM_Q_TAGS] def TM_Q_TAGS_F : Fld := ⟨TM_Q_TAGS, 31, 0⟩

/-- 11_queues_meters_admission, meter view selection. -/
def TM_M_SEL : RegSpec :=
  ⟨0xD00080, 1, 0x8, 1, 0x8, false, [⟨16, 0, .ow, 0, 131071⟩]⟩
@[inherit_doc TM_M_SEL] def TM_M_SEL_METER : Fld := ⟨TM_M_SEL, 16, 0⟩

/-- 11_queues_meters_admission, selected meter buckets. -/
def TM_M_BUCKET : RegSpec :=
  ⟨0xD000A0, 1, 0x8, 1, 0x8, true, [⟨63, 32, .ro, 0, 4294967295⟩, ⟨31, 0, .ro, 0, 4294967295⟩]⟩
@[inherit_doc TM_M_BUCKET] def TM_M_BUCKET_TC : Fld := ⟨TM_M_BUCKET, 63, 32⟩
@[inherit_doc TM_M_BUCKET] def TM_M_BUCKET_TP_TE : Fld := ⟨TM_M_BUCKET, 31, 0⟩

/-- 11_queues_meters_admission, selected queue counters. -/
def TM_Q_CTR : RegSpec :=
  ⟨0xD00040, 1, 0x20, 4, 0x8, true, [⟨47, 0, .ro, 0, 0xffffffffffff⟩]⟩
@[inherit_doc TM_Q_CTR] def TM_Q_CTR_COUNT : Fld := ⟨TM_Q_CTR, 47, 0⟩

/-- 11_queues_meters_admission, selected meter counters. -/
def TM_M_CTR : RegSpec :=
  ⟨0xD000C0, 1, 0x30, 6, 0x8, true, [⟨47, 0, .ro, 0, 0xffffffffffff⟩]⟩
@[inherit_doc TM_M_CTR] def TM_M_CTR_COUNT : Fld := ⟨TM_M_CTR, 47, 0⟩

/-- 11_queues_meters_admission, traffic manager counters. -/
def TM_CTR : RegSpec :=
  ⟨0xD00200, 1, 0x80, 16, 0x8, true, [⟨47, 0, .ro, 0, 0xffffffffffff⟩]⟩
@[inherit_doc TM_CTR] def TM_CTR_COUNT : Fld := ⟨TM_CTR, 47, 0⟩

/-- 11_queues_meters_admission, selected meter settings. -/
def TM_M_MODE : RegSpec :=
  ⟨0xD00088, 1, 0x8, 1, 0x8, true, [⟨2, 2, .ro, 0, 1⟩, ⟨1, 0, .ro, 0, 3⟩]⟩
@[inherit_doc TM_M_MODE] def TM_M_MODE_COLOUR_AWARE : Fld := ⟨TM_M_MODE, 2, 2⟩
@[inherit_doc TM_M_MODE] def TM_M_MODE_ALG : Fld := ⟨TM_M_MODE, 1, 0⟩

/-- 11_queues_meters_admission, selected meter settings. -/
def TM_M_W0 : RegSpec :=
  ⟨0xD00090, 1, 0x8, 1, 0x8, true, [⟨63, 0, .ro, 0, 0xffffffffffffffff⟩]⟩
@[inherit_doc TM_M_W0] def TM_M_W0_W0 : Fld := ⟨TM_M_W0, 63, 0⟩

/-- 11_queues_meters_admission, selected meter settings. -/
def TM_M_W1 : RegSpec :=
  ⟨0xD00098, 1, 0x8, 1, 0x8, true, [⟨63, 0, .ro, 0, 0xffffffffffffffff⟩]⟩
@[inherit_doc TM_M_W1] def TM_M_W1_W1 : Fld := ⟨TM_M_W1, 63, 0⟩

/-- 11_queues_meters_admission, port shaper, one per logical port. -/
def TM_PORT_SHAPE : RegSpec :=
  ⟨0xD10000, 1024, 0x80, 1, 0x8, true, [⟨63, 32, .ow, 0, 1600000⟩, ⟨31, 0, .ow, 0, 16777215⟩]⟩
@[inherit_doc TM_PORT_SHAPE] def TM_PORT_SHAPE_RATE : Fld := ⟨TM_PORT_SHAPE, 63, 32⟩
@[inherit_doc TM_PORT_SHAPE] def TM_PORT_SHAPE_BURST : Fld := ⟨TM_PORT_SHAPE, 31, 0⟩

/-- 11_queues_meters_admission, tier virtual times. -/
def TM_PORT_VT : RegSpec :=
  ⟨0xD10008, 1024, 0x80, 2, 0x8, true, [⟨63, 32, .ro, 0, 4294967295⟩, ⟨31, 0, .ro, 0, 4294967295⟩]⟩
@[inherit_doc TM_PORT_VT] def TM_PORT_VT_VT_HI : Fld := ⟨TM_PORT_VT, 63, 32⟩
@[inherit_doc TM_PORT_VT] def TM_PORT_VT_VT_LO : Fld := ⟨TM_PORT_VT, 31, 0⟩

/-- 11_queues_meters_admission, group shaper, eight per logical port. -/
def TM_GROUP_SHAPE : RegSpec :=
  ⟨0xD10040, 1024, 0x80, 8, 0x8, true, [⟨63, 32, .ow, 0, 1600000⟩, ⟨31, 0, .ow, 0, 16777215⟩]⟩
@[inherit_doc TM_GROUP_SHAPE] def TM_GROUP_SHAPE_RATE : Fld := ⟨TM_GROUP_SHAPE, 63, 32⟩
@[inherit_doc TM_GROUP_SHAPE] def TM_GROUP_SHAPE_BURST : Fld := ⟨TM_GROUP_SHAPE, 31, 0⟩

/-- 11_queues_meters_admission, reserved flow record, one per flow. -/
def TM_RSV : RegSpec :=
  ⟨0xD40000, 1, 0x80000, 65536, 0x8, true, [⟨63, 0, .ro, 0, 0xffffffffffffffff⟩]⟩
@[inherit_doc TM_RSV] def TM_RSV_WORD : Fld := ⟨TM_RSV, 63, 0⟩

/-- 12_time, time base nanoseconds. -/
def TIME_TB_NS : RegSpec :=
  ⟨0x40000, 1, 0x400, 8, 0x80, true, [⟨47, 16, .lh, 0, 4294967295⟩, ⟨15, 0, .lh, 0, 65535⟩]⟩
@[inherit_doc TIME_TB_NS] def TIME_TB_NS_NS : Fld := ⟨TIME_TB_NS, 47, 16⟩
@[inherit_doc TIME_TB_NS] def TIME_TB_NS_FRAC : Fld := ⟨TIME_TB_NS, 15, 0⟩

/-- 12_time, time base seconds. -/
def TIME_TB_SEC : RegSpec :=
  ⟨0x40008, 1, 0x400, 8, 0x80, true, [⟨47, 0, .lh, 0, 0xffffffffffff⟩]⟩
@[inherit_doc TIME_TB_SEC] def TIME_TB_SEC_SEC : Fld := ⟨TIME_TB_SEC, 47, 0⟩

/-- 12_time, software rate. -/
def TIME_TB_RATE : RegSpec :=
  ⟨0x40010, 1, 0x400, 8, 0x80, true, [⟨39, 0, .owNamed, 0, 0xffffffffff⟩]⟩
@[inherit_doc TIME_TB_RATE] def TIME_TB_RATE_RATE_SW : Fld := ⟨TIME_TB_RATE, 39, 0⟩

/-- 12_time, source and servo settings. -/
def TIME_TB_CFG : RegSpec :=
  ⟨0x40018, 1, 0x400, 8, 0x80, false, [⟨31, 23, .ow, 0, 511⟩, ⟨22, 20, .ow, 0, 7⟩, ⟨19, 9, .ow, 1, 1953⟩, ⟨8, 8, .ow, 0, 1⟩,
    ⟨7, 4, .ow, 2, 15⟩, ⟨2, 0, .ow, 0, 7⟩]⟩
@[inherit_doc TIME_TB_CFG] def TIME_TB_CFG_LANE : Fld := ⟨TIME_TB_CFG, 31, 23⟩
@[inherit_doc TIME_TB_CFG] def TIME_TB_CFG_TAU : Fld := ⟨TIME_TB_CFG, 22, 20⟩
@[inherit_doc TIME_TB_CFG] def TIME_TB_CFG_SLEW_PPM : Fld := ⟨TIME_TB_CFG, 19, 9⟩
@[inherit_doc TIME_TB_CFG] def TIME_TB_CFG_LOCK_DECL : Fld := ⟨TIME_TB_CFG, 8, 8⟩
@[inherit_doc TIME_TB_CFG] def TIME_TB_CFG_LOCK_N : Fld := ⟨TIME_TB_CFG, 7, 4⟩
@[inherit_doc TIME_TB_CFG] def TIME_TB_CFG_SOURCE : Fld := ⟨TIME_TB_CFG, 2, 0⟩

/-- 12_time, time base status. -/
def TIME_TB_STAT : RegSpec :=
  ⟨0x4001C, 1, 0x400, 8, 0x80, false, [⟨31, 24, .sq, 0, 255⟩, ⟨19, 18, .ro, 0, 3⟩, ⟨17, 16, .ro, 0, 3⟩, ⟨11, 8, .ro, 0, 15⟩,
    ⟨4, 4, .sq, 0, 1⟩, ⟨3, 3, .sq, 0, 1⟩, ⟨2, 2, .sq, 0, 1⟩, ⟨1, 1, .sq, 0, 1⟩,
    ⟨0, 0, .sq, 0, 1⟩]⟩
@[inherit_doc TIME_TB_STAT] def TIME_TB_STAT_SEQ : Fld := ⟨TIME_TB_STAT, 31, 24⟩
@[inherit_doc TIME_TB_STAT] def TIME_TB_STAT_STEP : Fld := ⟨TIME_TB_STAT, 19, 18⟩
@[inherit_doc TIME_TB_STAT] def TIME_TB_STAT_STATE : Fld := ⟨TIME_TB_STAT, 17, 16⟩
@[inherit_doc TIME_TB_STAT] def TIME_TB_STAT_REFUSE : Fld := ⟨TIME_TB_STAT, 11, 8⟩
@[inherit_doc TIME_TB_STAT] def TIME_TB_STAT_CLAMP : Fld := ⟨TIME_TB_STAT, 4, 4⟩
@[inherit_doc TIME_TB_STAT] def TIME_TB_STAT_REARM : Fld := ⟨TIME_TB_STAT, 3, 3⟩
@[inherit_doc TIME_TB_STAT] def TIME_TB_STAT_STEP_REFUSED : Fld := ⟨TIME_TB_STAT, 2, 2⟩
@[inherit_doc TIME_TB_STAT] def TIME_TB_STAT_STEPPED : Fld := ⟨TIME_TB_STAT, 1, 1⟩
@[inherit_doc TIME_TB_STAT] def TIME_TB_STAT_STATE_CHG : Fld := ⟨TIME_TB_STAT, 0, 0⟩

/-- 12_time, servo measurements. -/
def TIME_TB_SERVO : RegSpec :=
  ⟨0x40020, 1, 0x400, 8, 0x80, true, [⟨63, 32, .ro, 0, 4294967295⟩, ⟨31, 0, .ro, 0, 4294967295⟩]⟩
@[inherit_doc TIME_TB_SERVO] def TIME_TB_SERVO_PHASE_ERR : Fld := ⟨TIME_TB_SERVO, 63, 32⟩
@[inherit_doc TIME_TB_SERVO] def TIME_TB_SERVO_FREQ_ERR : Fld := ⟨TIME_TB_SERVO, 31, 0⟩

/-- 12_time, last step. -/
def TIME_TB_STEP_LAST : RegSpec :=
  ⟨0x40028, 1, 0x400, 8, 0x80, true, [⟨63, 0, .ro, 0, 0xffffffffffffffff⟩]⟩
@[inherit_doc TIME_TB_STEP_LAST] def TIME_TB_STEP_LAST_DELTA : Fld := ⟨TIME_TB_STEP_LAST, 63, 0⟩

/-- 12_time, last step. -/
def TIME_TB_STEP_EPOCH : RegSpec :=
  ⟨0x40030, 1, 0x400, 8, 0x80, true, [⟨47, 0, .ro, 0, 0xffffffffffff⟩]⟩
@[inherit_doc TIME_TB_STEP_EPOCH] def TIME_TB_STEP_EPOCH_EPOCH : Fld := ⟨TIME_TB_STEP_EPOCH, 47, 0⟩

/-- 12_time, rate in use. -/
def TIME_TB_RATE_CUR : RegSpec :=
  ⟨0x40038, 1, 0x400, 8, 0x80, true, [⟨39, 0, .ro, 0, 0xffffffffff⟩]⟩
@[inherit_doc TIME_TB_RATE_CUR] def TIME_TB_RATE_CUR_RATE : Fld := ⟨TIME_TB_RATE_CUR, 39, 0⟩

/-- 12_time, pulse status. -/
def TIME_TPO_STAT : RegSpec :=
  ⟨0x41000, 1, 0x400, 16, 0x40, false, [⟨31, 24, .sq, 0, 255⟩, ⟨9, 9, .sq, 0, 1⟩, ⟨8, 8, .sq, 0, 1⟩, ⟨3, 0, .ro, 0, 15⟩]⟩
@[inherit_doc TIME_TPO_STAT] def TIME_TPO_STAT_SEQ : Fld := ⟨TIME_TPO_STAT, 31, 24⟩
@[inherit_doc TIME_TPO_STAT] def TIME_TPO_STAT_MISSED : Fld := ⟨TIME_TPO_STAT, 9, 9⟩
@[inherit_doc TIME_TPO_STAT] def TIME_TPO_STAT_STATE_CHG : Fld := ⟨TIME_TPO_STAT, 8, 8⟩
@[inherit_doc TIME_TPO_STAT] def TIME_TPO_STAT_LC : Fld := ⟨TIME_TPO_STAT, 3, 0⟩

/-- 12_time, schedule. -/
def TIME_TPO_START_SEC : RegSpec :=
  ⟨0x41008, 1, 0x400, 16, 0x40, true, [⟨47, 0, .owNamed, 0, 0xffffffffffff⟩]⟩
@[inherit_doc TIME_TPO_START_SEC] def TIME_TPO_START_SEC_SEC : Fld := ⟨TIME_TPO_START_SEC, 47, 0⟩

/-- 12_time, schedule. -/
def TIME_TPO_START_NS : RegSpec :=
  ⟨0x41010, 1, 0x400, 16, 0x40, true, [⟨47, 16, .owNamed, 0, 4294967295⟩, ⟨15, 0, .owNamed, 0, 65535⟩]⟩
@[inherit_doc TIME_TPO_START_NS] def TIME_TPO_START_NS_NS : Fld := ⟨TIME_TPO_START_NS, 47, 16⟩
@[inherit_doc TIME_TPO_START_NS] def TIME_TPO_START_NS_FRAC : Fld := ⟨TIME_TPO_START_NS, 15, 0⟩

/-- 12_time, schedule. -/
def TIME_TPO_PERIOD : RegSpec :=
  ⟨0x41018, 1, 0x400, 16, 0x40, true, [⟨63, 0, .owNamed, 0, 0xffffffffffffffff⟩]⟩
@[inherit_doc TIME_TPO_PERIOD] def TIME_TPO_PERIOD_PERIOD : Fld := ⟨TIME_TPO_PERIOD, 63, 0⟩

/-- 12_time, pulse output. -/
def TIME_TPO_CFG : RegSpec :=
  ⟨0x41020, 1, 0x400, 16, 0x40, false, [⟨31, 31, .ow, 0, 1⟩, ⟨26, 24, .owNamed, 0, 7⟩, ⟨8, 8, .owNamed, 0, 1⟩]⟩
@[inherit_doc TIME_TPO_CFG] def TIME_TPO_CFG_POL : Fld := ⟨TIME_TPO_CFG, 31, 31⟩
@[inherit_doc TIME_TPO_CFG] def TIME_TPO_CFG_TB : Fld := ⟨TIME_TPO_CFG, 26, 24⟩
@[inherit_doc TIME_TPO_CFG] def TIME_TPO_CFG_TRAIN : Fld := ⟨TIME_TPO_CFG, 8, 8⟩

/-- 12_time, pulse width. -/
def TIME_TPO_WIDTH : RegSpec :=
  ⟨0x41024, 1, 0x400, 16, 0x40, false, [⟨31, 0, .ow, 0, 4294967295⟩]⟩
@[inherit_doc TIME_TPO_WIDTH] def TIME_TPO_WIDTH_WIDTH_NS : Fld := ⟨TIME_TPO_WIDTH, 31, 0⟩

/-- 12_time, missed pulses. -/
def TIME_TPO_MISSED : RegSpec :=
  ⟨0x41028, 1, 0x400, 16, 0x40, true, [⟨47, 0, .ro, 0, 0xffffffffffff⟩]⟩
@[inherit_doc TIME_TPO_MISSED] def TIME_TPO_MISSED_COUNT : Fld := ⟨TIME_TPO_MISSED, 47, 0⟩

/-- 12_time, input status. -/
def TIME_TIN_STAT : RegSpec :=
  ⟨0x42000, 1, 0x100, 4, 0x40, false, [⟨31, 24, .sq, 0, 255⟩, ⟨9, 9, .sq, 0, 1⟩, ⟨8, 8, .sq, 0, 1⟩, ⟨0, 0, .ro, 0, 1⟩]⟩
@[inherit_doc TIME_TIN_STAT] def TIME_TIN_STAT_SEQ : Fld := ⟨TIME_TIN_STAT, 31, 24⟩
@[inherit_doc TIME_TIN_STAT] def TIME_TIN_STAT_LOST_CHG : Fld := ⟨TIME_TIN_STAT, 9, 9⟩
@[inherit_doc TIME_TIN_STAT] def TIME_TIN_STAT_CAP : Fld := ⟨TIME_TIN_STAT, 8, 8⟩
@[inherit_doc TIME_TIN_STAT] def TIME_TIN_STAT_LOST : Fld := ⟨TIME_TIN_STAT, 0, 0⟩

/-- 12_time, input settings. -/
def TIME_TIN_CFG : RegSpec :=
  ⟨0x42004, 1, 0x100, 4, 0x40, false, [⟨31, 29, .ow, 0, 7⟩, ⟨8, 8, .ow, 0, 1⟩, ⟨4, 4, .ow, 0, 1⟩, ⟨1, 0, .ow, 0, 2⟩]⟩
@[inherit_doc TIME_TIN_CFG] def TIME_TIN_CFG_CAP_TB : Fld := ⟨TIME_TIN_CFG, 31, 29⟩
@[inherit_doc TIME_TIN_CFG] def TIME_TIN_CFG_CAP_EV : Fld := ⟨TIME_TIN_CFG, 8, 8⟩
@[inherit_doc TIME_TIN_CFG] def TIME_TIN_CFG_EDGE : Fld := ⟨TIME_TIN_CFG, 4, 4⟩
@[inherit_doc TIME_TIN_CFG] def TIME_TIN_CFG_MODE : Fld := ⟨TIME_TIN_CFG, 1, 0⟩

/-- 12_time, input compensation. -/
def TIME_TIN_DELAY : RegSpec :=
  ⟨0x42008, 1, 0x100, 4, 0x40, false, [⟨31, 0, .ow, 0, 4294967295⟩]⟩
@[inherit_doc TIME_TIN_DELAY] def TIME_TIN_DELAY_DELAY : Fld := ⟨TIME_TIN_DELAY, 31, 0⟩

/-- 12_time, last capture. -/
def TIME_TIN_CAP_NS : RegSpec :=
  ⟨0x42010, 1, 0x100, 4, 0x40, true, [⟨47, 16, .lh, 0, 4294967295⟩, ⟨15, 0, .lh, 0, 65535⟩]⟩
@[inherit_doc TIME_TIN_CAP_NS] def TIME_TIN_CAP_NS_NS : Fld := ⟨TIME_TIN_CAP_NS, 47, 16⟩
@[inherit_doc TIME_TIN_CAP_NS] def TIME_TIN_CAP_NS_FRAC : Fld := ⟨TIME_TIN_CAP_NS, 15, 0⟩

/-- 12_time, last capture. -/
def TIME_TIN_CAP_SEC : RegSpec :=
  ⟨0x42018, 1, 0x100, 4, 0x40, true, [⟨47, 0, .lh, 0, 0xffffffffffff⟩]⟩
@[inherit_doc TIME_TIN_CAP_SEC] def TIME_TIN_CAP_SEC_SEC : Fld := ⟨TIME_TIN_CAP_SEC, 47, 0⟩

/-- 12_time, input counters. -/
def TIME_TIN_EDGES : RegSpec :=
  ⟨0x42020, 1, 0x100, 4, 0x40, true, [⟨47, 0, .ro, 0, 0xffffffffffff⟩]⟩
@[inherit_doc TIME_TIN_EDGES] def TIME_TIN_EDGES_COUNT : Fld := ⟨TIME_TIN_EDGES, 47, 0⟩

/-- 12_time, input counters. -/
def TIME_TIN_REJECTED : RegSpec :=
  ⟨0x42028, 1, 0x100, 4, 0x40, true, [⟨47, 0, .ro, 0, 0xffffffffffff⟩]⟩
@[inherit_doc TIME_TIN_REJECTED] def TIME_TIN_REJECTED_COUNT : Fld := ⟨TIME_TIN_REJECTED, 47, 0⟩

/-- 12_time, transparent clock time base. -/
def TIME_TC_CFG : RegSpec :=
  ⟨0x43000, 1, 0x8, 1, 0x8, false, [⟨2, 0, .ow, 0, 7⟩]⟩
@[inherit_doc TIME_TC_CFG] def TIME_TC_CFG_TC_TB : Fld := ⟨TIME_TC_CFG, 2, 0⟩

/-- 12_time, port timestamping. -/
def PORT_TS_CFG : RegSpec :=
  ⟨0x200B00, 1024, 0x1000, 1, 0x8, false, [⟨31, 31, .ow, 0, 1⟩, ⟨26, 24, .ow, 0, 7⟩]⟩
@[inherit_doc PORT_TS_CFG] def PORT_TS_CFG_TC_EN : Fld := ⟨PORT_TS_CFG, 31, 31⟩
@[inherit_doc PORT_TS_CFG] def PORT_TS_CFG_PTP_TB : Fld := ⟨PORT_TS_CFG, 26, 24⟩

/-- 12_time, reference plane adjustment. -/
def PORT_TS_ADJ : RegSpec :=
  ⟨0x200B08, 1024, 0x1000, 1, 0x8, true, [⟨63, 32, .ow, 0, 4294967295⟩, ⟨31, 0, .ow, 0, 4294967295⟩]⟩
@[inherit_doc PORT_TS_ADJ] def PORT_TS_ADJ_RX_ADJ : Fld := ⟨PORT_TS_ADJ, 63, 32⟩
@[inherit_doc PORT_TS_ADJ] def PORT_TS_ADJ_TX_ADJ : Fld := ⟨PORT_TS_ADJ, 31, 0⟩

/-- 12_time, FIFO status. -/
def PORT_TSF_STAT : RegSpec :=
  ⟨0x200B10, 1024, 0x1000, 1, 0x8, false, [⟨31, 24, .sq, 0, 255⟩, ⟨1, 1, .sq, 0, 1⟩, ⟨0, 0, .sq, 0, 1⟩]⟩
@[inherit_doc PORT_TSF_STAT] def PORT_TSF_STAT_SEQ : Fld := ⟨PORT_TSF_STAT, 31, 24⟩
@[inherit_doc PORT_TSF_STAT] def PORT_TSF_STAT_RING : Fld := ⟨PORT_TSF_STAT, 1, 1⟩
@[inherit_doc PORT_TSF_STAT] def PORT_TSF_STAT_OVF : Fld := ⟨PORT_TSF_STAT, 0, 0⟩

/-- 12_time, lost records. -/
def PORT_TSF_OVF : RegSpec :=
  ⟨0x200B20, 1024, 0x1000, 1, 0x8, true, [⟨47, 0, .ro, 0, 0xffffffffffff⟩]⟩
@[inherit_doc PORT_TSF_OVF] def PORT_TSF_OVF_COUNT : Fld := ⟨PORT_TSF_OVF, 47, 0⟩

/-- 12_time, FIFO indices. -/
def PORT_TSF_WR : RegSpec :=
  ⟨0x200B14, 1024, 0x1000, 1, 0x8, false, [⟨15, 0, .ro, 0, 65535⟩]⟩
@[inherit_doc PORT_TSF_WR] def PORT_TSF_WR_WR : Fld := ⟨PORT_TSF_WR, 15, 0⟩

/-- 12_time, FIFO indices. -/
def PORT_TSF_RD : RegSpec :=
  ⟨0x200B18, 1024, 0x1000, 1, 0x8, false, [⟨15, 0, .rw, 0, 65535⟩]⟩
@[inherit_doc PORT_TSF_RD] def PORT_TSF_RD_RD : Fld := ⟨PORT_TSF_RD, 15, 0⟩

/-- 12_time, timestamp records. -/
def PORT_TSF_REC : RegSpec :=
  ⟨0x200C00, 1024, 0x1000, 128, 0x8, true, [⟨63, 0, .ro, 0, 0xffffffffffffffff⟩]⟩
@[inherit_doc PORT_TSF_REC] def PORT_TSF_REC_WORD : Fld := ⟨PORT_TSF_REC, 63, 0⟩

/-- 13_pair, pair status. -/
def PAIR_STAT : RegSpec :=
  ⟨0x50000, 1, 0x8, 1, 0x8, false, [⟨31, 29, .ro, 0, 7⟩, ⟨28, 26, .ro, 0, 7⟩, ⟨25, 25, .ro, 0, 1⟩, ⟨24, 24, .ro, 0, 1⟩,
    ⟨23, 20, .ro, 0, 15⟩, ⟨19, 19, .ro, 0, 1⟩, ⟨18, 18, .ro, 0, 1⟩, ⟨17, 17, .ro, 0, 1⟩,
    ⟨16, 16, .ro, 0, 1⟩, ⟨15, 8, .ro, 0, 255⟩, ⟨7, 7, .ro, 0, 1⟩, ⟨6, 6, .ro, 0, 1⟩,
    ⟨5, 5, .ro, 0, 1⟩]⟩
@[inherit_doc PAIR_STAT] def PAIR_STAT_ROLE : Fld := ⟨PAIR_STAT, 31, 29⟩
@[inherit_doc PAIR_STAT] def PAIR_STAT_PEER_ROLE : Fld := ⟨PAIR_STAT, 28, 26⟩
@[inherit_doc PAIR_STAT] def PAIR_STAT_PIN_ROLE : Fld := ⟨PAIR_STAT, 25, 25⟩
@[inherit_doc PAIR_STAT] def PAIR_STAT_LINK_UP : Fld := ⟨PAIR_STAT, 24, 24⟩
@[inherit_doc PAIR_STAT] def PAIR_STAT_LANES : Fld := ⟨PAIR_STAT, 23, 20⟩
@[inherit_doc PAIR_STAT] def PAIR_STAT_ALIGNED : Fld := ⟨PAIR_STAT, 19, 19⟩
@[inherit_doc PAIR_STAT] def PAIR_STAT_READY : Fld := ⟨PAIR_STAT, 18, 18⟩
@[inherit_doc PAIR_STAT] def PAIR_STAT_FENCE_IN : Fld := ⟨PAIR_STAT, 17, 17⟩
@[inherit_doc PAIR_STAT] def PAIR_STAT_FAIL_IN : Fld := ⟨PAIR_STAT, 16, 16⟩
@[inherit_doc PAIR_STAT] def PAIR_STAT_TXSEL : Fld := ⟨PAIR_STAT, 15, 8⟩
@[inherit_doc PAIR_STAT] def PAIR_STAT_FENCE_OUT : Fld := ⟨PAIR_STAT, 7, 7⟩
@[inherit_doc PAIR_STAT] def PAIR_STAT_FAIL_OUT : Fld := ⟨PAIR_STAT, 6, 6⟩
@[inherit_doc PAIR_STAT] def PAIR_STAT_PIN_CLASH : Fld := ⟨PAIR_STAT, 5, 5⟩

/-- 13_pair, pair events. -/
def PAIR_EVT : RegSpec :=
  ⟨0x50004, 1, 0x8, 1, 0x8, false, [⟨31, 24, .sq, 0, 255⟩, ⟨5, 5, .sq, 0, 1⟩, ⟨4, 4, .sq, 0, 1⟩, ⟨3, 3, .sq, 0, 1⟩,
    ⟨2, 2, .sq, 0, 1⟩, ⟨1, 1, .sq, 0, 1⟩, ⟨0, 0, .sq, 0, 1⟩]⟩
@[inherit_doc PAIR_EVT] def PAIR_EVT_SEQ : Fld := ⟨PAIR_EVT, 31, 24⟩
@[inherit_doc PAIR_EVT] def PAIR_EVT_SB_LATE : Fld := ⟨PAIR_EVT, 5, 5⟩
@[inherit_doc PAIR_EVT] def PAIR_EVT_DIVERGE : Fld := ⟨PAIR_EVT, 4, 4⟩
@[inherit_doc PAIR_EVT] def PAIR_EVT_FENCED : Fld := ⟨PAIR_EVT, 3, 3⟩
@[inherit_doc PAIR_EVT] def PAIR_EVT_TAKEOVER : Fld := ⟨PAIR_EVT, 2, 2⟩
@[inherit_doc PAIR_EVT] def PAIR_EVT_LINK : Fld := ⟨PAIR_EVT, 1, 1⟩
@[inherit_doc PAIR_EVT] def PAIR_EVT_ROLE : Fld := ⟨PAIR_EVT, 0, 0⟩

/-- 13_pair, pair settings. -/
def PAIR_CFG : RegSpec :=
  ⟨0x50008, 1, 0x8, 1, 0x8, false, [⟨31, 24, .ow, 10, 125⟩, ⟨20, 10, .ow, 8, 1024⟩, ⟨0, 0, .ow, 0, 1⟩]⟩
@[inherit_doc PAIR_CFG] def PAIR_CFG_HB_US : Fld := ⟨PAIR_CFG, 31, 24⟩
@[inherit_doc PAIR_CFG] def PAIR_CFG_LEAD : Fld := ⟨PAIR_CFG, 20, 10⟩
@[inherit_doc PAIR_CFG] def PAIR_CFG_TAKEOVER_EN : Fld := ⟨PAIR_CFG, 0, 0⟩

/-- 13_pair, edge offset. -/
def PAIR_EDGE_OFFSET : RegSpec :=
  ⟨0x5000C, 1, 0x8, 1, 0x8, false, [⟨31, 0, .ro, 0, 4294967295⟩]⟩
@[inherit_doc PAIR_EDGE_OFFSET] def PAIR_EDGE_OFFSET_OFFSET : Fld := ⟨PAIR_EDGE_OFFSET, 31, 0⟩

/-- 13_pair, paired peer epoch. -/
def PAIR_LINK_EPOCH : RegSpec :=
  ⟨0x50010, 1, 0x8, 1, 0x8, true, [⟨47, 0, .lh, 0, 0xffffffffffff⟩]⟩
@[inherit_doc PAIR_LINK_EPOCH] def PAIR_LINK_EPOCH_PEER_EPOCH : Fld := ⟨PAIR_LINK_EPOCH, 47, 0⟩

/-- 13_pair, last Sideboard copy. -/
def PAIR_SB_STAT : RegSpec :=
  ⟨0x50018, 1, 0x8, 1, 0x8, true, [⟨55, 48, .ro, 0, 255⟩, ⟨47, 0, .ro, 0, 0xffffffffffff⟩]⟩
@[inherit_doc PAIR_SB_STAT] def PAIR_SB_STAT_DURATION_US : Fld := ⟨PAIR_SB_STAT, 55, 48⟩
@[inherit_doc PAIR_SB_STAT] def PAIR_SB_STAT_EPOCH : Fld := ⟨PAIR_SB_STAT, 47, 0⟩

/-- 13_pair, last divergence. -/
def PAIR_DIVERGE_LAST : RegSpec :=
  ⟨0x50020, 1, 0x8, 1, 0x8, true, [⟨63, 56, .ro, 0, 255⟩, ⟨55, 48, .ro, 0, 255⟩, ⟨47, 32, .ro, 0, 65535⟩, ⟨31, 30, .ro, 0, 3⟩,
    ⟨29, 26, .ro, 0, 15⟩, ⟨25, 22, .ro, 0, 15⟩]⟩
@[inherit_doc PAIR_DIVERGE_LAST] def PAIR_DIVERGE_LAST_LOCAL_STATUS : Fld := ⟨PAIR_DIVERGE_LAST, 63, 56⟩
@[inherit_doc PAIR_DIVERGE_LAST] def PAIR_DIVERGE_LAST_PEER_STATUS : Fld := ⟨PAIR_DIVERGE_LAST, 55, 48⟩
@[inherit_doc PAIR_DIVERGE_LAST] def PAIR_DIVERGE_LAST_TAG : Fld := ⟨PAIR_DIVERGE_LAST, 47, 32⟩
@[inherit_doc PAIR_DIVERGE_LAST] def PAIR_DIVERGE_LAST_ACTION : Fld := ⟨PAIR_DIVERGE_LAST, 31, 30⟩
@[inherit_doc PAIR_DIVERGE_LAST] def PAIR_DIVERGE_LAST_SOURCE : Fld := ⟨PAIR_DIVERGE_LAST, 29, 26⟩
@[inherit_doc PAIR_DIVERGE_LAST] def PAIR_DIVERGE_LAST_QUEUE : Fld := ⟨PAIR_DIVERGE_LAST, 25, 22⟩

/-- 13_pair, pair counters. -/
def PAIR_CTR : RegSpec :=
  ⟨0x50100, 1, 0x40, 8, 0x8, true, [⟨47, 0, .ro, 0, 0xffffffffffff⟩]⟩
@[inherit_doc PAIR_CTR] def PAIR_CTR_COUNT : Fld := ⟨PAIR_CTR, 47, 0⟩

/-- 14_host_and_registers, event ring. -/
def HDMA_EVR_BASE : RegSpec :=
  ⟨0x30000, 1, 0x8, 1, 0x8, true, [⟨63, 6, .rw, 0, 0x3ffffffffffffff⟩]⟩
@[inherit_doc HDMA_EVR_BASE] def HDMA_EVR_BASE_BASE : Fld := ⟨HDMA_EVR_BASE, 63, 6⟩

/-- 14_host_and_registers, event ring. -/
def HDMA_EVR_SIZE : RegSpec :=
  ⟨0x30008, 1, 0x8, 1, 0x8, false, [⟨14, 0, .rw, 0, 32767⟩]⟩
@[inherit_doc HDMA_EVR_SIZE] def HDMA_EVR_SIZE_SIZE : Fld := ⟨HDMA_EVR_SIZE, 14, 0⟩

/-- 14_host_and_registers, event ring. -/
def HDMA_EVR_TAIL : RegSpec :=
  ⟨0x3000C, 1, 0x8, 1, 0x8, false, [⟨15, 0, .ro, 0, 65535⟩]⟩
@[inherit_doc HDMA_EVR_TAIL] def HDMA_EVR_TAIL_TAIL : Fld := ⟨HDMA_EVR_TAIL, 15, 0⟩

/-- 14_host_and_registers, event ring. -/
def HDMA_EVR_HEAD : RegSpec :=
  ⟨0x30010, 1, 0x8, 1, 0x8, false, [⟨15, 0, .rw, 0, 65535⟩]⟩
@[inherit_doc HDMA_EVR_HEAD] def HDMA_EVR_HEAD_HEAD : Fld := ⟨HDMA_EVR_HEAD, 15, 0⟩

/-- 14_host_and_registers, event ring events. -/
def HDMA_EVT : RegSpec :=
  ⟨0x30040, 1, 0x8, 1, 0x8, false, [⟨31, 24, .sq, 0, 255⟩, ⟨1, 1, .sq, 0, 1⟩, ⟨0, 0, .sq, 0, 1⟩]⟩
@[inherit_doc HDMA_EVT] def HDMA_EVT_SEQ : Fld := ⟨HDMA_EVT, 31, 24⟩
@[inherit_doc HDMA_EVT] def HDMA_EVT_RING_ERR : Fld := ⟨HDMA_EVT, 1, 1⟩
@[inherit_doc HDMA_EVT] def HDMA_EVT_EVR_OVF : Fld := ⟨HDMA_EVT, 0, 0⟩

/-- 14_host_and_registers, DMA settings. -/
def HDMA_CFG : RegSpec :=
  ⟨0x30044, 1, 0x8, 1, 0x8, false, [⟨21, 16, .ow, 0, 63⟩, ⟨9, 0, .ow, 0, 1023⟩]⟩
@[inherit_doc HDMA_CFG] def HDMA_CFG_MGMT_RING : Fld := ⟨HDMA_CFG, 21, 16⟩
@[inherit_doc HDMA_CFG] def HDMA_CFG_HOLDOFF_US : Fld := ⟨HDMA_CFG, 9, 0⟩

/-- 14_host_and_registers, DMA counters. -/
def HDMA_CTR : RegSpec :=
  ⟨0x30100, 1, 0x40, 8, 0x8, true, [⟨47, 0, .ro, 0, 0xffffffffffff⟩]⟩
@[inherit_doc HDMA_CTR] def HDMA_CTR_COUNT : Fld := ⟨HDMA_CTR, 47, 0⟩

/-- 14_host_and_registers, one set per transmit and receive ring. -/
def HDMA_RING_BASE : RegSpec :=
  ⟨0x31000, 1, 0x2000, 128, 0x40, true, [⟨63, 6, .rw, 0, 0x3ffffffffffffff⟩]⟩
@[inherit_doc HDMA_RING_BASE] def HDMA_RING_BASE_BASE : Fld := ⟨HDMA_RING_BASE, 63, 6⟩

/-- 14_host_and_registers, one set per transmit and receive ring. -/
def HDMA_RING_SIZE : RegSpec :=
  ⟨0x31008, 1, 0x2000, 128, 0x40, false, [⟨12, 0, .rw, 0, 8191⟩]⟩
@[inherit_doc HDMA_RING_SIZE] def HDMA_RING_SIZE_SIZE : Fld := ⟨HDMA_RING_SIZE, 12, 0⟩

/-- 14_host_and_registers, one set per transmit and receive ring. -/
def HDMA_RING_TAIL : RegSpec :=
  ⟨0x3100C, 1, 0x2000, 128, 0x40, false, [⟨15, 0, .rw, 0, 65535⟩]⟩
@[inherit_doc HDMA_RING_TAIL] def HDMA_RING_TAIL_TAIL : Fld := ⟨HDMA_RING_TAIL, 15, 0⟩

/-- 14_host_and_registers, one set per transmit and receive ring. -/
def HDMA_RING_HEAD : RegSpec :=
  ⟨0x31010, 1, 0x2000, 128, 0x40, false, [⟨15, 0, .ro, 0, 65535⟩]⟩
@[inherit_doc HDMA_RING_HEAD] def HDMA_RING_HEAD_HEAD : Fld := ⟨HDMA_RING_HEAD, 15, 0⟩

/-- 14_host_and_registers, one set per transmit and receive ring. -/
def HDMA_RING_STAT : RegSpec :=
  ⟨0x31014, 1, 0x2000, 128, 0x40, false, [⟨31, 24, .sq, 0, 255⟩, ⟨5, 5, .ro, 0, 1⟩, ⟨4, 4, .sq, 0, 1⟩, ⟨3, 3, .sq, 0, 1⟩,
    ⟨2, 2, .sq, 0, 1⟩, ⟨1, 1, .sq, 0, 1⟩]⟩
@[inherit_doc HDMA_RING_STAT] def HDMA_RING_STAT_SEQ : Fld := ⟨HDMA_RING_STAT, 31, 24⟩
@[inherit_doc HDMA_RING_STAT] def HDMA_RING_STAT_HALTED : Fld := ⟨HDMA_RING_STAT, 5, 5⟩
@[inherit_doc HDMA_RING_STAT] def HDMA_RING_STAT_NOBUF : Fld := ⟨HDMA_RING_STAT, 4, 4⟩
@[inherit_doc HDMA_RING_STAT] def HDMA_RING_STAT_TX_BAD : Fld := ⟨HDMA_RING_STAT, 3, 3⟩
@[inherit_doc HDMA_RING_STAT] def HDMA_RING_STAT_RING_ERR : Fld := ⟨HDMA_RING_STAT, 2, 2⟩
@[inherit_doc HDMA_RING_STAT] def HDMA_RING_STAT_FETCH_ERR : Fld := ⟨HDMA_RING_STAT, 1, 1⟩

/-- 15_power_reset_freeze, power and boot status. -/
def PWR_STAT : RegSpec :=
  ⟨0x60000, 1, 0x8, 1, 0x8, false, [⟨31, 31, .ro, 0, 1⟩, ⟨30, 28, .ro, 0, 7⟩, ⟨26, 24, .ro, 0, 7⟩, ⟨23, 23, .ro, 0, 1⟩,
    ⟨22, 22, .ro, 0, 1⟩, ⟨4, 0, .ro, 0, 31⟩]⟩
@[inherit_doc PWR_STAT] def PWR_STAT_TRIPPED : Fld := ⟨PWR_STAT, 31, 31⟩
@[inherit_doc PWR_STAT] def PWR_STAT_TRIP_CAUSE : Fld := ⟨PWR_STAT, 30, 28⟩
@[inherit_doc PWR_STAT] def PWR_STAT_BOOT_STEP : Fld := ⟨PWR_STAT, 26, 24⟩
@[inherit_doc PWR_STAT] def PWR_STAT_FLASH_FAIL : Fld := ⟨PWR_STAT, 23, 23⟩
@[inherit_doc PWR_STAT] def PWR_STAT_ALERT : Fld := ⟨PWR_STAT, 22, 22⟩
@[inherit_doc PWR_STAT] def PWR_STAT_BAD_SENSORS : Fld := ⟨PWR_STAT, 4, 0⟩

/-- 15_power_reset_freeze, power events. -/
def PWR_EVT : RegSpec :=
  ⟨0x60004, 1, 0x8, 1, 0x8, false, [⟨31, 24, .sq, 0, 255⟩, ⟨7, 7, .sq, 0, 1⟩, ⟨6, 6, .sq, 0, 1⟩, ⟨5, 5, .sq, 0, 1⟩,
    ⟨4, 4, .sq, 0, 1⟩, ⟨3, 3, .sq, 0, 1⟩, ⟨2, 2, .sq, 0, 1⟩, ⟨1, 1, .sq, 0, 1⟩,
    ⟨0, 0, .sq, 0, 1⟩]⟩
@[inherit_doc PWR_EVT] def PWR_EVT_SEQ : Fld := ⟨PWR_EVT, 31, 24⟩
@[inherit_doc PWR_EVT] def PWR_EVT_FREEZE_DENIED : Fld := ⟨PWR_EVT, 7, 7⟩
@[inherit_doc PWR_EVT] def PWR_EVT_ICORE : Fld := ⟨PWR_EVT, 6, 6⟩
@[inherit_doc PWR_EVT] def PWR_EVT_TRIP : Fld := ⟨PWR_EVT, 5, 5⟩
@[inherit_doc PWR_EVT] def PWR_EVT_ALERT : Fld := ⟨PWR_EVT, 4, 4⟩
@[inherit_doc PWR_EVT] def PWR_EVT_SPRINT_END : Fld := ⟨PWR_EVT, 3, 3⟩
@[inherit_doc PWR_EVT] def PWR_EVT_SPRINT_START : Fld := ⟨PWR_EVT, 2, 2⟩
@[inherit_doc PWR_EVT] def PWR_EVT_SPRINT_STATE : Fld := ⟨PWR_EVT, 1, 1⟩
@[inherit_doc PWR_EVT] def PWR_EVT_FLASH : Fld := ⟨PWR_EVT, 0, 0⟩

/-- 15_power_reset_freeze, junction temperature. -/
def PWR_THERM : RegSpec :=
  ⟨0x60008, 1, 0x8, 1, 0x8, false, [⟨31, 16, .ro, 0, 65535⟩, ⟨15, 0, .ro, 0, 65535⟩]⟩
@[inherit_doc PWR_THERM] def PWR_THERM_TJ : Fld := ⟨PWR_THERM, 31, 16⟩
@[inherit_doc PWR_THERM] def PWR_THERM_TJ_PEAK : Fld := ⟨PWR_THERM, 15, 0⟩

/-- 15_power_reset_freeze, alert threshold. -/
def PWR_THERM_CFG : RegSpec :=
  ⟨0x6000C, 1, 0x8, 1, 0x8, false, [⟨7, 0, .ow, 60, 110⟩]⟩
@[inherit_doc PWR_THERM_CFG] def PWR_THERM_CFG_ALERT_C : Fld := ⟨PWR_THERM_CFG, 7, 0⟩

/-- 15_power_reset_freeze, core current. -/
def PWR_ICORE : RegSpec :=
  ⟨0x60010, 1, 0x8, 1, 0x8, false, [⟨25, 16, .ro, 0, 1023⟩, ⟨9, 0, .ro, 0, 1023⟩]⟩
@[inherit_doc PWR_ICORE] def PWR_ICORE_I_PEAK : Fld := ⟨PWR_ICORE, 25, 16⟩
@[inherit_doc PWR_ICORE] def PWR_ICORE_I : Fld := ⟨PWR_ICORE, 9, 0⟩

/-- 15_power_reset_freeze, Sprint settings. -/
def PWR_SPRINT_CFG : RegSpec :=
  ⟨0x60018, 1, 0x8, 1, 0x8, false, [⟨29, 24, .ow, 1, 63⟩, ⟨22, 16, .ow, 50, 99⟩, ⟨15, 8, .ow, 1, 255⟩, ⟨7, 0, .ow, 1, 30⟩]⟩
@[inherit_doc PWR_SPRINT_CFG] def PWR_SPRINT_CFG_ENG_EPOCHS : Fld := ⟨PWR_SPRINT_CFG, 29, 24⟩
@[inherit_doc PWR_SPRINT_CFG] def PWR_SPRINT_CFG_LOW_PCT : Fld := ⟨PWR_SPRINT_CFG, 22, 16⟩
@[inherit_doc PWR_SPRINT_CFG] def PWR_SPRINT_CFG_REL_EPOCHS : Fld := ⟨PWR_SPRINT_CFG, 15, 8⟩
@[inherit_doc PWR_SPRINT_CFG] def PWR_SPRINT_CFG_RE_CREDIT_S : Fld := ⟨PWR_SPRINT_CFG, 7, 0⟩

/-- 15_power_reset_freeze, Sprint status. -/
def PWR_SPRINT_STAT : RegSpec :=
  ⟨0x6001C, 1, 0x8, 1, 0x8, false, [⟨31, 30, .ro, 0, 3⟩, ⟨29, 29, .ro, 0, 1⟩, ⟨28, 26, .ro, 0, 7⟩, ⟨19, 5, .ro, 0, 32767⟩,
    ⟨3, 0, .ro, 0, 15⟩]⟩
@[inherit_doc PWR_SPRINT_STAT] def PWR_SPRINT_STAT_CLOCK : Fld := ⟨PWR_SPRINT_STAT, 31, 30⟩
@[inherit_doc PWR_SPRINT_STAT] def PWR_SPRINT_STAT_STEPPING : Fld := ⟨PWR_SPRINT_STAT, 29, 29⟩
@[inherit_doc PWR_SPRINT_STAT] def PWR_SPRINT_STAT_LAST_END : Fld := ⟨PWR_SPRINT_STAT, 28, 26⟩
@[inherit_doc PWR_SPRINT_STAT] def PWR_SPRINT_STAT_CREDIT_MS : Fld := ⟨PWR_SPRINT_STAT, 19, 5⟩
@[inherit_doc PWR_SPRINT_STAT] def PWR_SPRINT_STAT_LC : Fld := ⟨PWR_SPRINT_STAT, 3, 0⟩

/-- 15_power_reset_freeze, time in Sprint. -/
def PWR_SPRINT_TIME : RegSpec :=
  ⟨0x60020, 1, 0x8, 1, 0x8, true, [⟨47, 0, .ro, 0, 0xffffffffffff⟩]⟩
@[inherit_doc PWR_SPRINT_TIME] def PWR_SPRINT_TIME_US : Fld := ⟨PWR_SPRINT_TIME, 47, 0⟩

/-- 15_power_reset_freeze, boot durations. -/
def PWR_BOOT_TIME : RegSpec :=
  ⟨0x60028, 1, 0x8, 1, 0x8, false, [⟨31, 16, .ro, 0, 65535⟩, ⟨15, 0, .ro, 0, 65535⟩]⟩
@[inherit_doc PWR_BOOT_TIME] def PWR_BOOT_TIME_READY_MS : Fld := ⟨PWR_BOOT_TIME, 31, 16⟩
@[inherit_doc PWR_BOOT_TIME] def PWR_BOOT_TIME_FLASH_MS : Fld := ⟨PWR_BOOT_TIME, 15, 0⟩

/-- 15_power_reset_freeze, freeze order. -/
def PWR_FREEZE_CTL : RegSpec :=
  ⟨0x60030, 1, 0x8, 1, 0x8, false, [⟨0, 0, .ow, 0, 1⟩]⟩
@[inherit_doc PWR_FREEZE_CTL] def PWR_FREEZE_CTL_FREEZE : Fld := ⟨PWR_FREEZE_CTL, 0, 0⟩

/-- 15_power_reset_freeze, freeze permission. -/
def PWR_FREEZE_STAT : RegSpec :=
  ⟨0x60034, 1, 0x8, 1, 0x8, false, [⟨31, 31, .ro, 0, 1⟩, ⟨30, 30, .ro, 0, 1⟩, ⟨16, 0, .ro, 0, 131071⟩]⟩
@[inherit_doc PWR_FREEZE_STAT] def PWR_FREEZE_STAT_PERMITTED : Fld := ⟨PWR_FREEZE_STAT, 31, 31⟩
@[inherit_doc PWR_FREEZE_STAT] def PWR_FREEZE_STAT_FUSE : Fld := ⟨PWR_FREEZE_STAT, 30, 30⟩
@[inherit_doc PWR_FREEZE_STAT] def PWR_FREEZE_STAT_REMAIN_S : Fld := ⟨PWR_FREEZE_STAT, 16, 0⟩

/-- 15_power_reset_freeze, refused pin requests. -/
def PWR_FREEZE_DENIED : RegSpec :=
  ⟨0x60038, 1, 0x8, 1, 0x8, false, [⟨31, 0, .ro, 0, 4294967295⟩]⟩
@[inherit_doc PWR_FREEZE_DENIED] def PWR_FREEZE_DENIED_COUNT : Fld := ⟨PWR_FREEZE_DENIED, 31, 0⟩

/-- 14_host_and_registers, R460: holding registers of HDMA_CTR. -/
def HOLD_HDMA_CTR : RegSpec :=
  ⟨0x1030100, 1, 0x40, 8, 0x8, true, [⟨63, 0, .sn, 0, 0xffffffffffffffff⟩]⟩
@[inherit_doc HOLD_HDMA_CTR] def HOLD_HDMA_CTR_VALUE : Fld := ⟨HOLD_HDMA_CTR, 63, 0⟩

/-- 14_host_and_registers, R460: holding registers of TIME_TPO_MISSED. -/
def HOLD_TIME_TPO_MISSED : RegSpec :=
  ⟨0x1041028, 1, 0x400, 16, 0x40, true, [⟨63, 0, .sn, 0, 0xffffffffffffffff⟩]⟩
@[inherit_doc HOLD_TIME_TPO_MISSED] def HOLD_TIME_TPO_MISSED_VALUE : Fld := ⟨HOLD_TIME_TPO_MISSED, 63, 0⟩

/-- 14_host_and_registers, R460: holding registers of TIME_TIN_EDGES. -/
def HOLD_TIME_TIN_EDGES : RegSpec :=
  ⟨0x1042020, 1, 0x100, 4, 0x40, true, [⟨63, 0, .sn, 0, 0xffffffffffffffff⟩]⟩
@[inherit_doc HOLD_TIME_TIN_EDGES] def HOLD_TIME_TIN_EDGES_VALUE : Fld := ⟨HOLD_TIME_TIN_EDGES, 63, 0⟩

/-- 14_host_and_registers, R460: holding registers of TIME_TIN_REJECTED. -/
def HOLD_TIME_TIN_REJECTED : RegSpec :=
  ⟨0x1042028, 1, 0x100, 4, 0x40, true, [⟨63, 0, .sn, 0, 0xffffffffffffffff⟩]⟩
@[inherit_doc HOLD_TIME_TIN_REJECTED] def HOLD_TIME_TIN_REJECTED_VALUE : Fld := ⟨HOLD_TIME_TIN_REJECTED, 63, 0⟩

/-- 14_host_and_registers, R460: holding registers of PAIR_CTR. -/
def HOLD_PAIR_CTR : RegSpec :=
  ⟨0x1050100, 1, 0x40, 8, 0x8, true, [⟨63, 0, .sn, 0, 0xffffffffffffffff⟩]⟩
@[inherit_doc HOLD_PAIR_CTR] def HOLD_PAIR_CTR_VALUE : Fld := ⟨HOLD_PAIR_CTR, 63, 0⟩

/-- 14_host_and_registers, R460: holding registers of LANE_CHK_BITS. -/
def HOLD_LANE_CHK_BITS : RegSpec :=
  ⟨0x1100040, 64, 0x4000, 8, 0x400, true, [⟨63, 0, .sn, 0, 0xffffffffffffffff⟩]⟩
@[inherit_doc HOLD_LANE_CHK_BITS] def HOLD_LANE_CHK_BITS_VALUE : Fld := ⟨HOLD_LANE_CHK_BITS, 63, 0⟩

/-- 14_host_and_registers, R460: holding registers of LANE_CHK_ERRS. -/
def HOLD_LANE_CHK_ERRS : RegSpec :=
  ⟨0x1100048, 64, 0x4000, 8, 0x400, true, [⟨63, 0, .sn, 0, 0xffffffffffffffff⟩]⟩
@[inherit_doc HOLD_LANE_CHK_ERRS] def HOLD_LANE_CHK_ERRS_VALUE : Fld := ⟨HOLD_LANE_CHK_ERRS, 63, 0⟩

/-- 14_host_and_registers, R460: holding registers of LANE_INJ_COUNT. -/
def HOLD_LANE_INJ_COUNT : RegSpec :=
  ⟨0x1100050, 64, 0x4000, 8, 0x400, true, [⟨63, 0, .sn, 0, 0xffffffffffffffff⟩]⟩
@[inherit_doc HOLD_LANE_INJ_COUNT] def HOLD_LANE_INJ_COUNT_VALUE : Fld := ⟨HOLD_LANE_INJ_COUNT, 63, 0⟩

/-- 14_host_and_registers, R460: holding registers of PORT_CTR. -/
def HOLD_PORT_CTR : RegSpec :=
  ⟨0x1200400, 1024, 0x1000, 64, 0x8, true, [⟨63, 0, .sn, 0, 0xffffffffffffffff⟩]⟩
@[inherit_doc HOLD_PORT_CTR] def HOLD_PORT_CTR_VALUE : Fld := ⟨HOLD_PORT_CTR, 63, 0⟩

/-- 14_host_and_registers, R460: holding registers of PORT_TSF_OVF. -/
def HOLD_PORT_TSF_OVF : RegSpec :=
  ⟨0x1200B20, 1024, 0x1000, 1, 0x8, true, [⟨63, 0, .sn, 0, 0xffffffffffffffff⟩]⟩
@[inherit_doc HOLD_PORT_TSF_OVF] def HOLD_PORT_TSF_OVF_VALUE : Fld := ⟨HOLD_PORT_TSF_OVF, 63, 0⟩

/-- 14_host_and_registers, R460: holding registers of PORT_CHAN_HDR_ERR. -/
def HOLD_PORT_CHAN_HDR_ERR : RegSpec :=
  ⟨0x1400820, 512, 0x1000, 1, 0x8, true, [⟨63, 0, .sn, 0, 0xffffffffffffffff⟩]⟩
@[inherit_doc HOLD_PORT_CHAN_HDR_ERR] def HOLD_PORT_CHAN_HDR_ERR_VALUE : Fld := ⟨HOLD_PORT_CHAN_HDR_ERR, 63, 0⟩

/-- 14_host_and_registers, R460: holding registers of PORT_CHAN_SYNC_LOSS. -/
def HOLD_PORT_CHAN_SYNC_LOSS : RegSpec :=
  ⟨0x1400828, 512, 0x1000, 1, 0x8, true, [⟨63, 0, .sn, 0, 0xffffffffffffffff⟩]⟩
@[inherit_doc HOLD_PORT_CHAN_SYNC_LOSS] def HOLD_PORT_CHAN_SYNC_LOSS_VALUE : Fld := ⟨HOLD_PORT_CHAN_SYNC_LOSS, 63, 0⟩

/-- 14_host_and_registers, R460: holding registers of STF_CTR. -/
def HOLD_STF_CTR : RegSpec :=
  ⟨0x1600100, 512, 0x2000, 32, 0x8, true, [⟨63, 0, .sn, 0, 0xffffffffffffffff⟩]⟩
@[inherit_doc HOLD_STF_CTR] def HOLD_STF_CTR_VALUE : Fld := ⟨HOLD_STF_CTR, 63, 0⟩

/-- 14_host_and_registers, R460: holding registers of STF_TU_BIP. -/
def HOLD_STF_TU_BIP : RegSpec :=
  ⟨0x1600810, 512, 0x2000, 78, 0x40, true, [⟨63, 0, .sn, 0, 0xffffffffffffffff⟩]⟩
@[inherit_doc HOLD_STF_TU_BIP] def HOLD_STF_TU_BIP_VALUE : Fld := ⟨HOLD_STF_TU_BIP, 63, 0⟩

/-- 14_host_and_registers, R460: holding registers of STF_TU_REI. -/
def HOLD_STF_TU_REI : RegSpec :=
  ⟨0x1600818, 512, 0x2000, 78, 0x40, true, [⟨63, 0, .sn, 0, 0xffffffffffffffff⟩]⟩
@[inherit_doc HOLD_STF_TU_REI] def HOLD_STF_TU_REI_VALUE : Fld := ⟨HOLD_STF_TU_REI, 63, 0⟩

/-- 14_host_and_registers, R460: holding registers of STF_TU_PJ_RX. -/
def HOLD_STF_TU_PJ_RX : RegSpec :=
  ⟨0x1600828, 512, 0x2000, 78, 0x40, true, [⟨63, 0, .sn, 0, 0xffffffffffffffff⟩]⟩
@[inherit_doc HOLD_STF_TU_PJ_RX] def HOLD_STF_TU_PJ_RX_VALUE : Fld := ⟨HOLD_STF_TU_PJ_RX, 63, 0⟩

/-- 14_host_and_registers, R460: holding registers of STF_TU_PJ_TX. -/
def HOLD_STF_TU_PJ_TX : RegSpec :=
  ⟨0x1600830, 512, 0x2000, 78, 0x40, true, [⟨63, 0, .sn, 0, 0xffffffffffffffff⟩]⟩
@[inherit_doc HOLD_STF_TU_PJ_TX] def HOLD_STF_TU_PJ_TX_VALUE : Fld := ⟨HOLD_STF_TU_PJ_TX, 63, 0⟩

/-- 14_host_and_registers, R460: holding registers of STF_TU_PTR_CTR. -/
def HOLD_STF_TU_PTR_CTR : RegSpec :=
  ⟨0x1600838, 512, 0x2000, 78, 0x40, true, [⟨63, 0, .sn, 0, 0xffffffffffffffff⟩]⟩
@[inherit_doc HOLD_STF_TU_PTR_CTR] def HOLD_STF_TU_PTR_CTR_VALUE : Fld := ⟨HOLD_STF_TU_PTR_CTR, 63, 0⟩

/-- 14_host_and_registers, R460: holding registers of PIPE_CTR. -/
def HOLD_PIPE_CTR : RegSpec :=
  ⟨0x1B00200, 8, 0x20000, 32, 0x8, true, [⟨63, 0, .sn, 0, 0xffffffffffffffff⟩]⟩
@[inherit_doc HOLD_PIPE_CTR] def HOLD_PIPE_CTR_VALUE : Fld := ⟨HOLD_PIPE_CTR, 63, 0⟩

/-- 14_host_and_registers, R460: holding registers of TBL_CTR. -/
def HOLD_TBL_CTR : RegSpec :=
  ⟨0x1B01100, 8, 0x20000, 16, 0x8, true, [⟨63, 0, .sn, 0, 0xffffffffffffffff⟩]⟩
@[inherit_doc HOLD_TBL_CTR] def HOLD_TBL_CTR_VALUE : Fld := ⟨HOLD_TBL_CTR, 63, 0⟩

/-- 14_host_and_registers, R460: holding registers of CELL_CTR. -/
def HOLD_CELL_CTR : RegSpec :=
  ⟨0x1C00100, 1, 0x100, 32, 0x8, true, [⟨63, 0, .sn, 0, 0xffffffffffffffff⟩]⟩
@[inherit_doc HOLD_CELL_CTR] def HOLD_CELL_CTR_VALUE : Fld := ⟨HOLD_CELL_CTR, 63, 0⟩

/-- 14_host_and_registers, R460: holding registers of TM_CTR. -/
def HOLD_TM_CTR : RegSpec :=
  ⟨0x1D00200, 1, 0x80, 16, 0x8, true, [⟨63, 0, .sn, 0, 0xffffffffffffffff⟩]⟩
@[inherit_doc HOLD_TM_CTR] def HOLD_TM_CTR_VALUE : Fld := ⟨HOLD_TM_CTR, 63, 0⟩

/-- 14_host_and_registers, R461. -/
def HOLD_TM_Q : RegSpec :=
  ⟨0x1DC0000, 1, 0x80000, 65536, 0x8, true, [⟨63, 0, .sn, 0, 0xffffffffffffffff⟩]⟩
@[inherit_doc HOLD_TM_Q] def HOLD_TM_Q_VALUE : Fld := ⟨HOLD_TM_Q, 63, 0⟩

/-- 14_host_and_registers, R461. -/
def HOLD_TM_M : RegSpec :=
  ⟨0x1E40000, 1, 0xC0000, 98304, 0x8, true, [⟨63, 0, .sn, 0, 0xffffffffffffffff⟩]⟩
@[inherit_doc HOLD_TM_M] def HOLD_TM_M_VALUE : Fld := ⟨HOLD_TM_M, 63, 0⟩

/-- 14_host_and_registers, R461. -/
def TM_HOLD_SEL : RegSpec :=
  ⟨0x1D00100, 1, 0x8, 1, 0x8, false, [⟨15, 8, .sn, 0, 255⟩, ⟨7, 0, .sn, 0, 255⟩]⟩
@[inherit_doc TM_HOLD_SEL] def TM_HOLD_SEL_QUEUES : Fld := ⟨TM_HOLD_SEL, 15, 8⟩
@[inherit_doc TM_HOLD_SEL] def TM_HOLD_SEL_METERS : Fld := ⟨TM_HOLD_SEL, 7, 0⟩

end R

/-- The registers whose first offset lies in BAR0 megabyte 0. -/
def sysRegs : List RegSpec :=
  [R.DEV_EPOCH_NUM, R.DEV_EPOCH_STAT, R.DEV_VERSION, R.DEV_LIFETIME,
   R.DEV_LIFETIME_DROPS, R.DEV_ISLAND_WAIT, R.DEV_ID, R.DEV_IF_VER,
   R.DEV_EVT, R.DEV_BUSERR_INFO, R.DEV_BUSERR_ADDR, R.DEV_SNAP_TRIG,
   R.DEV_SNAP_EPOCH, R.ORD_OQ_BASE, R.ORD_OQ_SIZE, R.ORD_OQ_TAIL,
   R.ORD_OQ_HEAD, R.ORD_OQ_CPL_BASE, R.ORD_OQ_CPL_HEAD, R.ORD_OQ_CPL_TAIL,
   R.ORD_OQ_STAT, R.ORD_BUREAU_STAT, R.AUTH_STAT, R.AUTH_SERIAL,
   R.AUTH_REFUSE_LAST, R.AUTH_REFUSE_COUNT, R.AUTH_OTP_STAT, R.AUTH_OTP_CTL,
   R.AUTH_SEQ_HIGH, R.AUTH_CHARTER, R.AUTH_FW_SLOT, R.TIME_TB_NS,
   R.TIME_TB_SEC, R.TIME_TB_RATE, R.TIME_TB_CFG, R.TIME_TB_STAT,
   R.TIME_TB_SERVO, R.TIME_TB_STEP_LAST, R.TIME_TB_STEP_EPOCH, R.TIME_TB_RATE_CUR] ++
  [R.TIME_TPO_STAT, R.TIME_TPO_START_SEC, R.TIME_TPO_START_NS, R.TIME_TPO_PERIOD,
   R.TIME_TPO_CFG, R.TIME_TPO_WIDTH, R.TIME_TPO_MISSED, R.TIME_TIN_STAT,
   R.TIME_TIN_CFG, R.TIME_TIN_DELAY, R.TIME_TIN_CAP_NS, R.TIME_TIN_CAP_SEC,
   R.TIME_TIN_EDGES, R.TIME_TIN_REJECTED, R.TIME_TC_CFG, R.PAIR_STAT,
   R.PAIR_EVT, R.PAIR_CFG, R.PAIR_EDGE_OFFSET, R.PAIR_LINK_EPOCH,
   R.PAIR_SB_STAT, R.PAIR_DIVERGE_LAST, R.PAIR_CTR, R.HDMA_EVR_BASE,
   R.HDMA_EVR_SIZE, R.HDMA_EVR_TAIL, R.HDMA_EVR_HEAD, R.HDMA_EVT,
   R.HDMA_CFG, R.HDMA_CTR, R.HDMA_RING_BASE, R.HDMA_RING_SIZE,
   R.HDMA_RING_TAIL, R.HDMA_RING_HEAD, R.HDMA_RING_STAT, R.PWR_STAT,
   R.PWR_EVT, R.PWR_THERM, R.PWR_THERM_CFG, R.PWR_ICORE] ++
  [R.PWR_SPRINT_CFG, R.PWR_SPRINT_STAT, R.PWR_SPRINT_TIME, R.PWR_BOOT_TIME,
   R.PWR_FREEZE_CTL, R.PWR_FREEZE_STAT, R.PWR_FREEZE_DENIED]

/-- The registers whose first offset lies in BAR0 megabyte 1. -/
def laneRegs : List RegSpec :=
  [R.LANE_STAT, R.LANE_EVT, R.LANE_CFG, R.LANE_TXEQ,
   R.LANE_TXEQ_CUR, R.LANE_RXEQ, R.LANE_TEST, R.LANE_USER_PAT,
   R.LANE_INJ_INTERVAL, R.LANE_FREQ, R.LANE_THIN, R.LANE_THIN_WAKE,
   R.LANE_CHK_BITS, R.LANE_CHK_ERRS, R.LANE_INJ_COUNT, R.LANE_OCT_STAT,
   R.LANE_OCT_REF]

/-- The registers whose first offset lies in BAR0 megabyte 2. -/
def portRegs : List RegSpec :=
  [R.PORT_STAT, R.PORT_EVT, R.PORT_CFG, R.PORT_PFC,
   R.PORT_PFC_STAT, R.PORT_CT_THRESH, R.PORT_CTR_HALF, R.PORT_CTR,
   R.PORT_TS_CFG, R.PORT_TS_ADJ, R.PORT_TSF_STAT, R.PORT_TSF_OVF,
   R.PORT_TSF_WR, R.PORT_TSF_RD, R.PORT_TSF_REC]

/-- The registers whose first offset lies in BAR0 megabyte 4. -/
def chanRegs : List RegSpec :=
  [R.PORT_CHAN_BIND, R.PORT_CHAN_TU_LO, R.PORT_CHAN_TU_HI, R.PORT_CHAN_STAT,
   R.PORT_CHAN_HDR_ERR, R.PORT_CHAN_SYNC_LOSS]

/-- The registers whose first offset lies in BAR0 megabyte 6. -/
def stfRegs : List RegSpec :=
  [R.STF_STAT, R.STF_EVT, R.STF_CFG, R.STF_ID,
   R.STF_RX_FRAME, R.STF_RX_PHASE, R.STF_TRACE_SEL, R.STF_SEC_TRACE_TX,
   R.STF_SEC_TRACE_EXP, R.STF_SEC_TRACE_RX, R.STF_PATH_TRACE_CAP, R.STF_PATH_TRACE_TX,
   R.STF_PATH_TRACE_EXP, R.STF_CTR, R.STF_TU_STAT, R.STF_TU_EVT,
   R.STF_TU_LABEL, R.STF_TU_BIP, R.STF_TU_REI, R.STF_TU_PTR,
   R.STF_TU_FILL, R.STF_TU_PJ_RX, R.STF_TU_PJ_TX, R.STF_TU_PTR_CTR]

/-- The registers whose first offset lies in BAR0 megabyte 10. -/
def tsiRegs : List RegSpec :=
  [R.TSI_CFG, R.TSI_EVT, R.TSI_Q_STAT, R.TSI_XP,
   R.TSI_LEAF_A, R.TSI_LEAF_B]

/-- The registers whose first offset lies in BAR0 megabyte 11. -/
def pipeRegs : List RegSpec :=
  [R.PIPE_EVT, R.PIPE_PARSE_STAT, R.PIPE_TCAM_STAT, R.PIPE_PAT_CFG,
   R.PIPE_PAT_STAT, R.PIPE_PAT_BUDGET, R.PIPE_TCAM_RD_SEL, R.PIPE_TCAM_RD_META,
   R.PIPE_TCAM_RD, R.PIPE_SLOW_CFG, R.PIPE_CTR, R.TBL_STAT,
   R.TBL_EVT, R.TBL_ECC_LOC, R.TBL_LEARN_Q, R.TBL_CTR,
   R.TBL_DOMAIN, R.TBL_AGE_CFG, R.TBL_LEARN_CFG, R.TBL_HASH_SEED,
   R.TBL_LEARN_STAT, R.TBL_SHADOW_BASE, R.TBL_SHADOW_STAT, R.TBL_SHADOW_SIZE,
   R.TBL_SHADOW_TAIL, R.TBL_SHADOW_HEAD]

/-- The registers whose first offset lies in BAR0 megabyte 12. -/
def cellRegs : List RegSpec :=
  [R.CELL_EVT, R.CELL_CFG, R.CELL_FREE, R.CELL_POOL,
   R.CELL_QUAR, R.CELL_QUAR_RET, R.CELL_CUP_Q, R.CELL_CTR,
   R.CELL_PROFILE, R.CELL_MIRROR, R.CELL_PORT_PFC, R.CELL_PORT_HR,
   R.CELL_MCAST_CTL, R.CELL_MCAST_MAP]

/-- The registers whose first offset lies in BAR0 megabyte 13. -/
def tmRegs : List RegSpec :=
  [R.TM_EVT, R.TM_ADM_STAT, R.TM_ADM_LAST, R.TM_Q_SEL,
   R.TM_Q_CFG, R.TM_Q_SHAPE, R.TM_Q_STAT, R.TM_Q_TAGS,
   R.TM_M_SEL, R.TM_M_BUCKET, R.TM_Q_CTR, R.TM_M_CTR,
   R.TM_CTR, R.TM_M_MODE, R.TM_M_W0, R.TM_M_W1,
   R.TM_PORT_SHAPE, R.TM_PORT_VT, R.TM_GROUP_SHAPE, R.TM_RSV]

/-- The registers whose first offset lies in BAR0 megabyte 16 and above. -/
def holdRegs : List RegSpec :=
  [R.HOLD_HDMA_CTR, R.HOLD_TIME_TPO_MISSED, R.HOLD_TIME_TIN_EDGES, R.HOLD_TIME_TIN_REJECTED,
   R.HOLD_PAIR_CTR, R.HOLD_LANE_CHK_BITS, R.HOLD_LANE_CHK_ERRS, R.HOLD_LANE_INJ_COUNT,
   R.HOLD_PORT_CTR, R.HOLD_PORT_TSF_OVF, R.HOLD_PORT_CHAN_HDR_ERR, R.HOLD_PORT_CHAN_SYNC_LOSS,
   R.HOLD_STF_CTR, R.HOLD_STF_TU_BIP, R.HOLD_STF_TU_REI, R.HOLD_STF_TU_PJ_RX,
   R.HOLD_STF_TU_PJ_TX, R.HOLD_STF_TU_PTR_CTR, R.HOLD_PIPE_CTR, R.HOLD_TBL_CTR,
   R.HOLD_CELL_CTR, R.HOLD_TM_CTR, R.HOLD_TM_Q, R.HOLD_TM_M,
   R.TM_HOLD_SEL]

/-- The registers that an offset of the BAR0 map (R435) can lie in, by block. -/
def blockRegs (off : Nat) : List RegSpec :=
  match off / 0x100000 with
  | 0 => sysRegs
  | 1 => laneRegs
  | 2 | 3 => portRegs
  | 4 | 5 => portRegs ++ chanRegs
  | 6 | 7 | 8 | 9 => stfRegs
  | 10 => tsiRegs
  | 11 => pipeRegs
  | 12 => cellRegs
  | 13 | 14 | 15 => tmRegs
  | _ => if off < 0x2000000 then holdRegs else []

/-- The first register of a list that covers an offset, with its instance. -/
def locateIn (off : Nat) : List RegSpec → Option (RegSpec × Nat)
  | [] => none
  | r :: rs =>
    match r.instanceAt off with
    | some n => some (r, n)
    | none => locateIn off rs

/-- The register that covers a BAR0 offset, with its instance; none is a reserved location (R435). -/
def locate (off : Nat) : Option (RegSpec × Nat) := locateIn off (blockRegs off)

/-- The registers whose stated reset value is not zero, by BAR0 block, with that value.  STF_ID and TIME_TB_CFG, whose reset
value depends on the instance, are in `resetAt`; TM_Q_CFG shows a queue record and is in `readReg`. -/
def resetList (off : Nat) : List (RegSpec × Nat) :=
  match off / 0x100000 with
  | 0 => [(R.DEV_VERSION, 0x1000000), (R.DEV_LIFETIME, 0xA), (R.DEV_ID, 0x51200000),
      (R.DEV_IF_VER, 0x10000), (R.PAIR_STAT, 0x1C000000), (R.PAIR_CFG, 0x32010001),
      (R.HDMA_CFG, 0x8), (R.PWR_STAT, 0x1000000), (R.PWR_THERM_CFG, 0x69),
      (R.PWR_SPRINT_CFG, 0x25A4005), (R.PWR_SPRINT_STAT, 0xEA600)]
  | 1 => [(R.LANE_STAT, 0x90000000), (R.LANE_CFG, 0x110000), (R.LANE_TXEQ, 0xF05FF0),
      (R.LANE_TXEQ_CUR, 0xF05FF0), (R.LANE_INJ_INTERVAL, 0x1), (R.LANE_THIN, 0x5A3C0810),
      (R.LANE_THIN_WAKE, 0x100), (R.LANE_OCT_REF, 0x2)]
  | 2 | 3 | 4 | 5 => [(R.PORT_CFG, 0x24000010), (R.PORT_PFC, 0xFFFF0000), (R.PORT_CT_THRESH, 0x10000)]
  | 6 | 7 | 8 | 9 => [(R.STF_STAT, 0xE0000000), (R.STF_CFG, 0x4030001), (R.STF_TU_PTR, 0x80000000),
      (R.STF_TU_FILL, 0x20)]
  | 10 => [(R.TSI_CFG, 0xF)]
  | 11 => [(R.PIPE_TCAM_STAT, 0x40001000), (R.PIPE_PAT_STAT, 0x80000000), (R.PIPE_SLOW_CFG, 0x27100100000000),
      (R.TBL_AGE_CFG, 0x8000012C), (R.TBL_LEARN_CFG, 0x64), (R.TBL_HASH_SEED, 0xFFFFFFFF)]
  | 12 => [(R.CELL_CFG, 0x10000), (R.CELL_POOL, 0xA000000000000), (R.CELL_PROFILE, 0x7620000000000010),
      (R.CELL_PORT_PFC, 0x10000200), (R.CELL_MCAST_CTL, 0x80000000)]
  | _ => [(R.TM_HOLD_SEL, 0xFFFF)]

/-- The listed value of the register of a list that covers an offset, 0 if none does. -/
def resetIn (off : Nat) : List (RegSpec × Nat) → Nat
  | [] => 0
  | (r, v) :: rs => if (r.instanceAt off).isSome then v else resetIn off rs

/-- What a register offset holds after reset: the value that its chapter states, and 0 where a register is stated to
reset to 0. -/
def resetAt (off : Nat) : Word64 :=
  match R.STF_ID.instanceAt off with
  | some n => BitVec.ofNat 64 (n * 65536)
  | none =>
    match R.TIME_TB_CFG.instanceAt off with
    | some n => if n = 0 then 0x00200A80 else 0x0020C880
    | none => BitVec.ofNat 64 (resetIn off (resetList off))

end Sys2Proof.Machine
end

