-- ==== Sys2Proof/Machine/Bits.lean ====
section
/-! DEFINITION. Bit fields, signed numbers, byte orders and the cyclic redundancy codes that the chapters of spec/ name. -/

namespace Sys2Proof.Machine

/-- Bits `hi` down to `lo` of a number, `[hi:lo]` in the manual's notation. -/
def bits (x hi lo : Nat) : Nat := x >>> lo % 2 ^ (hi + 1 - lo)

/-- A number with bits `[hi:lo]` replaced. -/
def withBits (x hi lo v : Nat) : Nat :=
  x - (bits x hi lo) <<< lo + (v % 2 ^ (hi + 1 - lo)) <<< lo

/-- Whether bit `i` is 1. -/
def bit (x i : Nat) : Bool := x.testBit i

/-- 1 for true, 0 for false. -/
def ofFlag (b : Bool) : Nat := if b then 1 else 0

/-- The two's complement reading of the low `w` bits. -/
def signed (w x : Nat) : Int :=
  let y := x % 2 ^ w
  if y < 2 ^ (w - 1) then (y : Int) else (y : Int) - (2 ^ w : Nat)

/-- The `w`-bit two's complement pattern of an integer. -/
def unsigned (w : Nat) (v : Int) : Nat := (v % ((2 ^ w : Nat) : Int)).toNat

/-- The number of 1 bits among the low `n` bits. -/
def popCount (n x : Nat) : Nat := (List.range n).foldl (fun c i => if x.testBit i then c + 1 else c) 0

/-- The indices of the 1 bits among the low `n` bits, rising. -/
def onesOf (n x : Nat) : List Nat := (List.range n).filter (fun i => x.testBit i)

/-- The number whose bits are the given indices. -/
def maskOf (is : List Nat) : Nat := is.foldl (fun m i => m ||| 1 <<< i) 0

/-- Ceiling division. -/
def ceilDiv (a b : Nat) : Nat := (a + b - 1) / b

/-- The number that a list of bytes spells, first byte most significant. -/
def beNat (bs : List Byte) : Nat := bs.foldl (fun n b => n * 256 + b.toNat) 0

/-- The number that a list of bytes spells, first byte least significant. -/
def leNat (bs : List Byte) : Nat := bs.foldr (fun b n => b.toNat + n * 256) 0

/-- The `n` bytes of a number, most significant first. -/
def beBytes (n v : Nat) : List Byte :=
  (List.range n).map (fun i => BitVec.ofNat 8 (v >>> (8 * (n - 1 - i))))

/-- The `n` bytes of a number, least significant first. -/
def leBytes (n v : Nat) : List Byte := (List.range n).map (fun i => BitVec.ofNat 8 (v >>> (8 * i)))

/-- The bytes of a list of 64-bit words, each stored little-endian. -/
def wordsToBytes (ws : List Word64) : List Byte := ws.flatMap (fun w => leBytes 8 w.toNat)

/-- The 64-bit little-endian words of the first `n` groups of eight bytes. -/
def bytesToWords : Nat → List Byte → List Word64
  | 0, _ => []
  | n + 1, bs => BitVec.ofNat 64 (leNat (bs.take 8)) :: bytesToWords n (bs.drop 8)

/-- One bit of a reflected cyclic redundancy code. -/
def crcShiftReflected (poly c : Nat) : Nat := if c % 2 = 1 then (c / 2) ^^^ poly else c / 2

/-- One byte of a reflected cyclic redundancy code. -/
def crcByteReflected (poly c b : Nat) : Nat :=
  (List.range 8).foldl (fun c _ => crcShiftReflected poly c) (c ^^^ b)

/-- A reflected 32-bit code with initial value and final complement of all ones. -/
def crcReflected (poly : Nat) (bs : List Byte) : Nat :=
  (bs.foldl (fun c b => crcByteReflected poly c b.toNat) 0xFFFFFFFF) ^^^ 0xFFFFFFFF

/-- The IEEE 802.3 frame check sequence. -/
def crc32 (bs : List Byte) : Nat := crcReflected 0xEDB88320 bs

/-- The Castagnoli code of R455: polynomial 0x1EDC_6F41, reflected. -/
def crc32c (bs : List Byte) : Nat := crcReflected 0x82F63B78 bs

/-- One bit of a code of width `w` taken most significant bit first. -/
def crcBitMsb (w poly c : Nat) (b : Bool) : Nat :=
  let top := c.testBit (w - 1) != b
  let d := (c * 2) % 2 ^ w
  if top then d ^^^ poly else d

/-- The low `n` bits of a number, most significant first. -/
def bitsMsb (n x : Nat) : List Bool := (List.range n).map (fun i => x.testBit (n - 1 - i))

/-- A code of width `w` over the low `n` bits of a number, most significant bit first. -/
def crcMsb (w poly init n x : Nat) : Nat := (bitsMsb n x).foldl (crcBitMsb w poly) init

/-- The CRC of the LENGTH of a packet channel or management header (R248). -/
def headerCrc (len : Nat) : Nat := crcMsb 16 0x1021 0xFFFF 16 len

/-- The four bytes of such a header. -/
def headerBytes (len : Nat) : List Byte := beBytes 2 len ++ beBytes 2 (headerCrc len)

end Sys2Proof.Machine
end

