-- ==== Sys2Proof/Machine/Crypto.lean ====
section
/-! DEFINITION. The hashes and signatures that chapter 03 names: SHA-384 with the other members of its family, RSASSA-PSS (R94) and
SLH-DSA-SHA2-192s (R95). The manual names these algorithms by their standards; what they compute is taken from FIPS 180-4, PKCS #1
v2.1 and FIPS 205 (PRESUMED, log entry 116). -/

namespace Sys2Proof.Machine

/-! ### SHA-2 -/

/-- A hash of the SHA-2 family on words of `w` bits: its round constants, and the rotations of its functions; the third number of
`small0` and `small1` is a shift. -/
structure Sha2 (w : Nat) where
  k : List (BitVec w)
  big0 : Nat × Nat × Nat
  big1 : Nat × Nat × Nat
  small0 : Nat × Nat × Nat
  small1 : Nat × Nat × Nat

namespace Sha2
variable {w : Nat}

/-- Three rotations of a word, combined. -/
def rotations (r : Nat × Nat × Nat) (x : BitVec w) : BitVec w := x.rotateRight r.1 ^^^ x.rotateRight r.2.1 ^^^ x.rotateRight r.2.2

/-- Two rotations and a shift of a word, combined. -/
def shifted (r : Nat × Nat × Nat) (x : BitVec w) : BitVec w := x.rotateRight r.1 ^^^ x.rotateRight r.2.1 ^^^ x >>> r.2.2

/-- `n` more words of a message schedule, which is held with its latest word first. -/
def extend (p : Sha2 w) : Nat → List (BitVec w) → List (BitVec w)
  | 0, ws => ws
  | n + 1, ws =>
    p.extend n ((shifted p.small1 (ws.getD 1 0) + ws.getD 6 0 + shifted p.small0 (ws.getD 14 0) + ws.getD 15 0) :: ws)

/-- One round on the eight working variables, with a constant and a word of the schedule. -/
def round (p : Sha2 w) (v : List (BitVec w)) (kw : BitVec w × BitVec w) : List (BitVec w) :=
  match v with
  | [a, b, c, d, e, f, g, h] =>
    let t1 := h + rotations p.big1 e + (e &&& f ^^^ ~~~e &&& g) + kw.1 + kw.2
    let t2 := rotations p.big0 a + (a &&& b ^^^ a &&& c ^^^ b &&& c)
    [t1 + t2, a, b, c, d + t1, e, f, g]
  | v => v

/-- One block of sixteen words. -/
def block (p : Sha2 w) (h : List (BitVec w)) (ws : List (BitVec w)) : List (BitVec w) :=
  let schedule := (p.extend (p.k.length - 16) ws.reverse).reverse
  List.zipWith (fun x y => x + y) h ((p.k.zip schedule).foldl p.round h)

/-- The words of `n` bytes each that a list of bytes spells. -/
def wordsOf (n : Nat) : Nat → List Byte → List (BitVec w)
  | 0, _ => []
  | k + 1, bs => BitVec.ofNat w (beNat (bs.take n)) :: wordsOf n k (bs.drop n)

/-- `k` blocks of a padded message. -/
def blocks (p : Sha2 w) : Nat → List Byte → List (BitVec w) → List (BitVec w)
  | 0, _, h => h
  | k + 1, bs, h => p.blocks k (bs.drop (2 * w)) (p.block h (wordsOf (w / 8) 16 bs))

/-- The hash of a message from an initial value, all its words. -/
def hash (p : Sha2 w) (h : List (BitVec w)) (m : List Byte) : List Byte :=
  let fill := (2 * w - (m.length + 1 + w / 4) % (2 * w)) % (2 * w)
  let padded := m ++ 0x80 :: List.replicate fill 0 ++ beBytes (w / 4) (8 * m.length)
  (p.blocks (padded.length / (2 * w)) padded h).flatMap (fun x => beBytes (w / 8) x.toNat)

end Sha2

/-- The round constants of SHA-256. -/
def sha256K : List (BitVec 32) :=
  [0x428a2f98, 0x71374491, 0xb5c0fbcf, 0xe9b5dba5, 0x3956c25b, 0x59f111f1, 0x923f82a4, 0xab1c5ed5,
   0xd807aa98, 0x12835b01, 0x243185be, 0x550c7dc3, 0x72be5d74, 0x80deb1fe, 0x9bdc06a7, 0xc19bf174,
   0xe49b69c1, 0xefbe4786, 0x0fc19dc6, 0x240ca1cc, 0x2de92c6f, 0x4a7484aa, 0x5cb0a9dc, 0x76f988da,
   0x983e5152, 0xa831c66d, 0xb00327c8, 0xbf597fc7, 0xc6e00bf3, 0xd5a79147, 0x06ca6351, 0x14292967] ++
  [0x27b70a85, 0x2e1b2138, 0x4d2c6dfc, 0x53380d13, 0x650a7354, 0x766a0abb, 0x81c2c92e, 0x92722c85,
   0xa2bfe8a1, 0xa81a664b, 0xc24b8b70, 0xc76c51a3, 0xd192e819, 0xd6990624, 0xf40e3585, 0x106aa070,
   0x19a4c116, 0x1e376c08, 0x2748774c, 0x34b0bcb5, 0x391c0cb3, 0x4ed8aa4a, 0x5b9cca4f, 0x682e6ff3,
   0x748f82ee, 0x78a5636f, 0x84c87814, 0x8cc70208, 0x90befffa, 0xa4506ceb, 0xbef9a3f7, 0xc67178f2]

/-- The round constants of SHA-512 and SHA-384. -/
def sha512K : List (BitVec 64) :=
  [0x428a2f98d728ae22, 0x7137449123ef65cd, 0xb5c0fbcfec4d3b2f, 0xe9b5dba58189dbbc,
   0x3956c25bf348b538, 0x59f111f1b605d019, 0x923f82a4af194f9b, 0xab1c5ed5da6d8118,
   0xd807aa98a3030242, 0x12835b0145706fbe, 0x243185be4ee4b28c, 0x550c7dc3d5ffb4e2,
   0x72be5d74f27b896f, 0x80deb1fe3b1696b1, 0x9bdc06a725c71235, 0xc19bf174cf692694] ++
  [0xe49b69c19ef14ad2, 0xefbe4786384f25e3, 0x0fc19dc68b8cd5b5, 0x240ca1cc77ac9c65,
   0x2de92c6f592b0275, 0x4a7484aa6ea6e483, 0x5cb0a9dcbd41fbd4, 0x76f988da831153b5,
   0x983e5152ee66dfab, 0xa831c66d2db43210, 0xb00327c898fb213f, 0xbf597fc7beef0ee4,
   0xc6e00bf33da88fc2, 0xd5a79147930aa725, 0x06ca6351e003826f, 0x142929670a0e6e70] ++
  [0x27b70a8546d22ffc, 0x2e1b21385c26c926, 0x4d2c6dfc5ac42aed, 0x53380d139d95b3df,
   0x650a73548baf63de, 0x766a0abb3c77b2a8, 0x81c2c92e47edaee6, 0x92722c851482353b,
   0xa2bfe8a14cf10364, 0xa81a664bbc423001, 0xc24b8b70d0f89791, 0xc76c51a30654be30,
   0xd192e819d6ef5218, 0xd69906245565a910, 0xf40e35855771202a, 0x106aa07032bbd1b8] ++
  [0x19a4c116b8d2d0c8, 0x1e376c085141ab53, 0x2748774cdf8eeb99, 0x34b0bcb5e19b48a8,
   0x391c0cb3c5c95a63, 0x4ed8aa4ae3418acb, 0x5b9cca4f7763e373, 0x682e6ff3d6b2b8a3,
   0x748f82ee5defb2fc, 0x78a5636f43172f60, 0x84c87814a1f0ab72, 0x8cc702081a6439ec,
   0x90befffa23631e28, 0xa4506cebde82bde9, 0xbef9a3f7b2c67915, 0xc67178f2e372532b] ++
  [0xca273eceea26619c, 0xd186b8c721c0c207, 0xeada7dd6cde0eb1e, 0xf57d4f7fee6ed178,
   0x06f067aa72176fba, 0x0a637dc5a2c898a6, 0x113f9804bef90dae, 0x1b710b35131c471b,
   0x28db77f523047d84, 0x32caab7b40c72493, 0x3c9ebe0a15c9bebc, 0x431d67c49c100d4c,
   0x4cc5d4becb3e42b6, 0x597f299cfc657e2a, 0x5fcb6fab3ad6faec, 0x6c44198c4a475817]

/-- The functions of SHA-256. -/
def sha256Spec : Sha2 32 :=
  { k := sha256K, big0 := (2, 13, 22), big1 := (6, 11, 25), small0 := (7, 18, 3), small1 := (17, 19, 10) }

/-- The functions of SHA-512 and SHA-384. -/
def sha512Spec : Sha2 64 :=
  { k := sha512K, big0 := (28, 34, 39), big1 := (14, 18, 41), small0 := (1, 8, 7), small1 := (19, 61, 6) }

/-- SHA-256. -/
@[irreducible] def sha256 (m : List Byte) : List Byte :=
  sha256Spec.hash
  [0x6a09e667, 0xbb67ae85, 0x3c6ef372, 0xa54ff53a,
   0x510e527f, 0x9b05688c, 0x1f83d9ab, 0x5be0cd19] m

/-- SHA-512. -/
@[irreducible] def sha512 (m : List Byte) : List Byte :=
  sha512Spec.hash
  [0x6a09e667f3bcc908, 0xbb67ae8584caa73b, 0x3c6ef372fe94f82b, 0xa54ff53a5f1d36f1,
   0x510e527fade682d1, 0x9b05688c2b3e6c1f, 0x1f83d9abfb41bd6b, 0x5be0cd19137e2179] m

/-- SHA-384 (R96). -/
@[irreducible] def sha384 (m : List Byte) : List Byte :=
  (sha512Spec.hash
  [0xcbbb9d5dc1059ed8, 0x629a292a367cd507, 0x9159015a3070dd17, 0x152fecd8f70e5939,
   0x67332667ffc00b31, 0x8eb44a8768581511, 0xdb0c2e0d64f98fa7, 0x47b5481dbefa4fa4] m).take 48

/-- MGF1 over a hash of `h` bytes: `n` bytes from a seed. -/
def mgf1 (hash : List Byte → List Byte) (h : Nat) (seed : List Byte) (n : Nat) : List Byte :=
  ((List.range (ceilDiv n h)).flatMap (fun i => hash (seed ++ beBytes 4 i))).take n

/-- Byte strings of one length, combined bit by bit. -/
def xorBytes (a b : List Byte) : List Byte := List.zipWith (fun x y => x ^^^ y) a b

/-! ### RSASSA-PSS (R94) -/

/-- A power modulo `n`; the exponent is given by its bits, most significant first. -/
def powMod (n x : Nat) (e : List Bool) : Nat := e.foldl (fun r b => let r := r * r % n; if b then r * x % n else r) (1 % n)

/-- The hash that an encoded message carries: of a message and a salt. -/
def pssHash (m salt : List Byte) : List Byte := sha384 (List.replicate 8 0 ++ sha384 m ++ salt)

/-- EMSA-PSS verification: SHA-384, MGF1 over SHA-384, a salt of 48 bytes, trailer 0xBC, for a modulus of 3,072 bits. -/
def pssVerify (m em : List Byte) : Bool :=
  let h := (em.drop 335).take 48
  let db := xorBytes (em.take 335) (mgf1 sha384 48 h 335)
  let db := (db.headD 0 &&& 0x7F) :: db.drop 1
  em.drop 383 == [0xBC] && em.headD 0 &&& 0x80 == 0 && db.take 287 == List.replicate 286 0 ++ [1] && pssHash m (db.drop 287) == h

/-- EMSA-PSS encoding with a salt. -/
def pssEncode (m salt : List Byte) : List Byte :=
  let h := pssHash m salt
  let db := xorBytes (List.replicate 286 0 ++ [1] ++ salt) (mgf1 sha384 48 h 335)
  (db.headD 0 &&& 0x7F) :: db.drop 1 ++ h ++ [0xBC]

/-- RSASSA-PSS verification under a modulus of 384 bytes, most significant bit set (R92), and the exponent 65,537. -/
@[irreducible] def rsaVerify (modulus m sig : List Byte) : Bool :=
  let n := beNat modulus
  modulus.length == 384 && sig.length == 384 && n.testBit 3071 && decide (beNat sig < n) &&
    pssVerify m (beBytes 384 (powMod n (beNat sig) (bitsMsb 17 65537)))

/-- RSASSA-PSS signature with a private exponent and a salt. -/
@[irreducible] def rsaSign (n d : Nat) (m salt : List Byte) : List Byte := beBytes 384 (powMod n (beNat (pssEncode m salt)) (bitsMsb 3072 d))

/-- The extended Euclidean algorithm: the factor of `b` in the greatest common divisor of `a` and `b`. -/
def euclid : Nat → Nat → Nat → Int → Int → Int
  | 0, _, _, x, _ => x
  | _ + 1, _, 0, x, _ => x
  | fuel + 1, a, b + 1, x, y => euclid fuel (b + 1) (a % (b + 1)) y (x - (a / (b + 1) : Nat) * y)

/-- The inverse of `e` modulo `m`. -/
def inverseMod (e m : Nat) : Nat := (euclid 8192 m e 0 1 % (m : Int)).toNat

/-! ### SLH-DSA-SHA2-192s (R95) -/

namespace Slh

/-- An address of a hash call: layer, tree, type, key pair, and the two numbers that depend on the type. -/
structure Adrs where
  layer : Nat
  tree : Nat
  kind : Nat
  pair : Nat
  high : Nat
  low : Nat
  deriving DecidableEq, Repr

/-- The compressed bytes of an address. -/
def Adrs.bytes (a : Adrs) : List Byte :=
  beBytes 1 a.layer ++ beBytes 8 a.tree ++ beBytes 1 a.kind ++ beBytes 4 a.pair ++ beBytes 4 a.high ++ beBytes 4 a.low

/-- F: SHA-256, cut to 24 bytes. -/
def f (seed : List Byte) (a : Adrs) (m : List Byte) : List Byte :=
  (sha256 (seed ++ List.replicate 40 0 ++ a.bytes ++ m)).take 24

/-- H and T: SHA-512, cut to 24 bytes. -/
def t (seed : List Byte) (a : Adrs) (m : List Byte) : List Byte :=
  (sha512 (seed ++ List.replicate 104 0 ++ a.bytes ++ m)).take 24

/-- The first `n` numbers of `b` bits that a string spells. -/
def base2 (x : List Byte) (b n : Nat) : List Nat :=
  let v := beNat x
  (List.range n).map (fun i => v >>> (8 * x.length - b * (i + 1)) % 2 ^ b)

/-- The `i`-th 24 bytes of a string. -/
def part (x : List Byte) (i : Nat) : List Byte := (x.drop (24 * i)).take 24

/-- `n` links of a chain from link `i` on. -/
def chain (seed : List Byte) (a : Adrs) : Nat → Nat → List Byte → List Byte
  | 0, _, x => x
  | n + 1, i, x => chain seed a n (i + 1) (f seed { a with low := i } x)

/-- The 51 digits of a message with its checksum. -/
def digits (m : List Byte) : List Nat :=
  let ds := base2 m 4 48
  ds ++ base2 (beBytes 2 ((ds.map (fun d => 15 - d)).sum * 16)) 4 3

/-- The root that a leaf and its authentication path lead to; `index` is the number of the leaf in its layer of the tree. -/
def climb (seed : List Byte) (a : Adrs) : Nat → Nat → List Byte → List (List Byte) → List Byte
  | _, _, node, [] => node
  | height, index, node, s :: path =>
    climb seed a (height + 1) (index / 2)
      (t seed { a with high := height + 1, low := index / 2 } (if index % 2 = 0 then node ++ s else s ++ node)) path

/-- The one-time public key that a signature of a message leads to. -/
def wotsKey (seed : List Byte) (a : Adrs) (sig m : List Byte) : List Byte :=
  t seed { a with kind := 1, high := 0, low := 0 }
    ((digits m).zipIdx.flatMap (fun d => chain seed { a with kind := 0, high := d.2 } (15 - d.1) d.1 (part sig d.2)))

/-- The root of a tree that a signature of a message by key pair `i` leads to. -/
def xmssRoot (seed : List Byte) (layer tree i : Nat) (sig m : List Byte) : List Byte :=
  let a : Adrs := { layer := layer, tree := tree, kind := 0, pair := i, high := 0, low := 0 }
  climb seed { a with kind := 2, pair := 0 } 0 i (wotsKey seed a sig m) ((List.range 9).map (fun k => part sig (51 + k)))

/-- The root of the hypertree that `n` layers of a signature lead to, from `layer` on. -/
def hyperRoot (seed : List Byte) : Nat → Nat → Nat → Nat → List Byte → List Byte → List Byte
  | 0, _, _, _, _, node => node
  | n + 1, layer, tree, leaf, sig, node =>
    hyperRoot seed n (layer + 1) (tree / 512) (tree % 512) (sig.drop 1440) (xmssRoot seed layer tree leaf sig node)

/-- The public key of the few-time signature that a signature of a message digest leads to. -/
def forsKey (seed : List Byte) (a : Adrs) (sig md : List Byte) : List Byte :=
  t seed { a with kind := 4, high := 0, low := 0 }
    ((base2 md 14 17).zipIdx.flatMap (fun d =>
      let own := sig.drop (360 * d.2)
      let leaf := d.2 * 16384 + d.1
      climb seed a 0 leaf (f seed { a with high := 0, low := leaf } (part own 0)) ((List.range 14).map (fun k => part own (1 + k)))))

/-- What a message is signed as: the digest, the tree and the leaf. -/
def select (r key m : List Byte) : List Byte × Nat × Nat :=
  let d := mgf1 sha512 64 (r ++ key.take 24 ++ sha512 (r ++ key ++ 0 :: 0 :: m)) 39
  (d.take 30, beNat ((d.drop 30).take 7) % 2 ^ 54, beNat (d.drop 37) % 512)

/-- Where the few-time keys of a leaf lie. -/
def forsAdrs (tree leaf : Nat) : Adrs := { layer := 0, tree := tree, kind := 3, pair := leaf, high := 0, low := 0 }

/-- A node of a few-time tree, at a height. -/
def forsNode (skSeed seed : List Byte) (a : Adrs) : Nat → Nat → List Byte
  | 0, i => f seed { a with low := i } (f seed { a with kind := 6, low := i } skSeed)
  | z + 1, i =>
    t seed { a with high := z + 1, low := i } (forsNode skSeed seed a z (2 * i) ++ forsNode skSeed seed a z (2 * i + 1))

/-- The secret start of a one-time chain. -/
def wotsSecret (skSeed seed : List Byte) (a : Adrs) (i : Nat) : List Byte := f seed { a with kind := 5, high := i, low := 0 } skSeed

/-- A node of a tree, at a height: a leaf is the one-time public key of its pair. -/
def xmssNode (skSeed seed : List Byte) (layer tree : Nat) : Nat → Nat → List Byte
  | 0, i =>
    let a : Adrs := { layer := layer, tree := tree, kind := 0, pair := i, high := 0, low := 0 }
    t seed { a with kind := 1 }
      ((List.range 51).flatMap (fun k => chain seed { a with high := k } 15 0 (wotsSecret skSeed seed a k)))
  | z + 1, i =>
    t seed { layer := layer, tree := tree, kind := 2, pair := 0, high := z + 1, low := i }
      (xmssNode skSeed seed layer tree z (2 * i) ++ xmssNode skSeed seed layer tree z (2 * i + 1))

/-- The signature of a message by key pair `i` of a tree. -/
def xmssSign (skSeed seed : List Byte) (layer tree i : Nat) (m : List Byte) : List Byte :=
  let a : Adrs := { layer := layer, tree := tree, kind := 0, pair := i, high := 0, low := 0 }
  (digits m).zipIdx.flatMap (fun d => chain seed { a with high := d.2 } d.1 0 (wotsSecret skSeed seed a d.2)) ++
    (List.range 9).flatMap (fun k => xmssNode skSeed seed layer tree k (i / 2 ^ k ^^^ 1))

/-- The signatures of `n` layers, from `layer` on. -/
def hyperSign (skSeed seed : List Byte) : Nat → Nat → Nat → Nat → List Byte → List Byte
  | 0, _, _, _, _ => []
  | n + 1, layer, tree, leaf, m =>
    xmssSign skSeed seed layer tree leaf m ++
      hyperSign skSeed seed n (layer + 1) (tree / 512) (tree % 512) (xmssNode skSeed seed layer tree 9 0)

end Slh

/-- SLH-DSA-SHA2-192s verification, pure and with an empty context. -/
@[irreducible] def slhVerify (key m sig : List Byte) : Bool :=
  let d := Slh.select (Slh.part sig 0) key m
  let seed := key.take 24
  sig.length == 16224 && key.length == 48 &&
    Slh.hyperRoot seed 7 0 d.2.1 d.2.2 (sig.drop 6144) (Slh.forsKey seed (Slh.forsAdrs d.2.1 d.2.2) (sig.drop 24) d.1) == key.drop 24

/-- The public key of a secret seed and a public one. -/
@[irreducible] def slhKey (skSeed seed : List Byte) : List Byte := seed ++ Slh.xmssNode skSeed seed 6 0 9 0

/-- SLH-DSA-SHA2-192s signature with the secret seed and PRF key, the public seed, and 24 bytes of randomness. -/
@[irreducible] def slhSign (skSeed skPrf seed random m : List Byte) : List Byte :=
  let key := slhKey skSeed seed
  let pad := xorBytes (skPrf ++ List.replicate 104 0) (List.replicate 128 0x36)
  let outer := xorBytes (skPrf ++ List.replicate 104 0) (List.replicate 128 0x5C)
  let r := (sha512 (outer ++ sha512 (pad ++ random ++ 0 :: 0 :: m))).take 24
  let d := Slh.select r key m
  let a := Slh.forsAdrs d.2.1 d.2.2
  let fors := (Slh.base2 d.1 14 17).zipIdx.flatMap (fun x =>
    let leaf := x.2 * 16384 + x.1
    Slh.f seed { a with kind := 6, low := leaf } skSeed ++
      (List.range 14).flatMap (fun k => Slh.forsNode skSeed seed a k (leaf / 2 ^ k ^^^ 1)))
  r ++ fors ++ Slh.hyperSign skSeed seed 7 0 d.2.1 d.2.2 (Slh.forsKey seed a fors d.1)

/-! ### Key pairs and the identity record (R106, R110, R111) -/

/-- The private halves of an RSA-3072 and an SLH-DSA-SHA2-192s key pair: two factors of 1,536 bits whose two highest bits are set, by
their lower bits, and the seeds. -/
structure KeyPair where
  p : BitVec 1534
  q : BitVec 1534
  skSeed : BitVec 192
  skPrf : BitVec 192
  pkSeed : BitVec 192
  deriving DecidableEq, Repr

namespace KeyPair

/-- The factors of the modulus. -/
def factors (k : KeyPair) : Nat × Nat := (3 * 2 ^ 1534 + k.p.toNat, 3 * 2 ^ 1534 + k.q.toNat)

/-- The RSA modulus. -/
def modulus (k : KeyPair) : Nat := k.factors.1 * k.factors.2

/-- RSA_N and SLH_PK as a signature block carries them (R92). -/
def rsaKey (k : KeyPair) : List Byte := beBytes 384 k.modulus
@[inherit_doc rsaKey] def slhKey (k : KeyPair) : List Byte := Machine.slhKey (beBytes 24 k.skSeed.toNat) (beBytes 24 k.pkSeed.toNat)

/-- The RSA signature of a message, with a salt of 48 bytes. -/
def rsaSign (k : KeyPair) (m salt : List Byte) : List Byte :=
  Machine.rsaSign k.modulus (inverseMod 65537 ((k.factors.1 - 1) * (k.factors.2 - 1))) m salt

/-- The SLH-DSA signature of a message, with 24 bytes of randomness. -/
def slhSign (k : KeyPair) (m random : List Byte) : List Byte :=
  Machine.slhSign (beBytes 24 k.skSeed.toNat) (beBytes 24 k.skPrf.toNat) (beBytes 24 k.pkSeed.toNat) random m

end KeyPair

/-- The key digests of R96: of an RSA modulus under the exponent 65,537, and of an SLH-DSA key. -/
def rsaDigest (modulus : List Byte) : List Byte := sha384 (beBytes 4 65537 ++ modulus)
@[inherit_doc rsaDigest] def slhDigest (key : List Byte) : List Byte := sha384 key

/-- The vendor root's keys, of which the device holds only the digests (R106). -/
def vendorKey : KeyPair :=
  { p := Config.vendorP, q := Config.vendorQ, skSeed := Config.vendorSkSeed, skPrf := Config.vendorSkPrf, pkSeed := Config.vendorPkSeed }

/-- The identity keys that the device generated at manufacture (R110). -/
def identityKey : KeyPair :=
  { p := Config.identityP, q := Config.identityQ, skSeed := Config.identitySkSeed, skPrf := Config.identitySkPrf
    pkSeed := Config.identityPkSeed }

/-- SHA-384 of the 256 KiB ROM (R113). -/
def romDigest : List Byte := sha384 ((List.range 262144).map Config.rom)

/-- The part of the identity record that the vendor root signs (R111). -/
def identityBody (k : KeyPair) : List Byte :=
  leBytes 8 (0x49444E54 <<< 32 + 1 <<< 24) ++ leBytes 8 Config.serial.toNat ++
    leBytes 8 (Config.manufactureWeek.toNat <<< 32 + ofFlag Config.orderingE) ++ leBytes 8 (65537 <<< 32) ++ k.rsaKey ++ k.slhKey ++
    leBytes 8 0xFD

/-- The identity record as the vendor made it. -/
def identityRecord (k : KeyPair) : List Byte :=
  identityBody k ++ vendorKey.rsaSign (identityBody k) (beBytes 48 Config.vendorSalt.toNat) ++
    vendorKey.slhSign (identityBody k) (beBytes 24 Config.vendorRandom.toNat)

/-- The digest of the identity record in OTP. -/
def identityDigest (k : KeyPair) : List Byte := sha384 (identityRecord k)

end Sys2Proof.Machine
end

