-- ==== Sys2Proof/Machine/State.lean ====
section
/-! DEFINITION. The state of the device: the register file and what the rules name beside the registers, the outcomes other
than a next state, and the state after reset. -/

namespace Sys2Proof.Machine

/-! ### Events and what leaves the device -/

/-- One record of the event ring before it is written (R445). -/
structure EventRec where
  seq : Nat
  code : Nat
  unit : Nat
  rseq : Nat
  epoch : Nat
  data0 : Nat
  data : List Nat
  deriving DecidableEq, Repr

/-- What the device puts out: DMA writes to host memory, interrupt messages, read completions and console responses.
The families add frames, blocks and pulses. -/
inductive Out
  | hostWrite (addr : Nat) (words : List Word64)
  | hostBytes (addr : Nat) (bytes : List Byte)
  /-- An MSI-X message: the vector, and the address and data that its table entry gives (R442). -/
  | msi (vector addr data : Nat)
  | readData (value : Word64)
  | unsupported
  /-- A response on the console, from its start byte to its CRC (R455). -/
  | console (bytes : List Byte)
  /-- A 64b/66b control block in the PCS stream of a port: sync header and payload (R148, R159). -/
  | pcsBlock (port header : Nat) (word : Word64)
  /-- An Ethernet frame on the wire: preamble, start delimiter, frame and FCS (R167). -/
  | frame (port : Nat) (bytes : List Byte)
  /-- Bits that error injection inverts on the lanes' transmitted streams (R139). -/
  | inverted (lane count : Nat)
  /-- A pulse, with its width in 2^-16 ns (R402). -/
  | pulse (tpo width : Nat) (activeLow : Bool)
  /-- One block on the transmit balls of an STF lane: its sync header and its word as it stands on the line (R184). -/
  | stfBlock (lane header : Nat) (word : Word64)
  /-- Messages on the Psius link (R413): readiness of a forwarded bundle or of its commit, a forwarded bundle with its number
  and its apply epoch, the completion record of one, a Sideboard copy, the word of a heartbeat, and the heartbeat with an edge
  marker. -/
  | linkReady (n : Nat) (commit : Bool)
  | linkBundle (n : Nat) (words : List Word64) (apply : Nat)
  | linkRecord (n : Nat) (words : List Word64)
  | linkCopy (c : Sideboard)
  | linkWord (word : Nat)
  | heartbeat (h : Heartbeat)
  /-- What a JTAG capture loads, and the levels that EXTEST drives (R492). -/
  | jtag (capture : List Bool)
  | balls (levels : List Bool)
  deriving DecidableEq, Repr

/-! ### The Bureau (chapter 02) -/

/-- Where a bundle stands (R48, R49, R58, R59). `committing` names the stage set whose commit it waits for. -/
inductive Phase
  | waiting
  | verifying
  | held
  /-- Held at the head of its queue for the pair (R416, R417, R428). -/
  | pairHeld
  | running
  | waitEpoch (target : Nat)
  | waitEvent (code unit : Nat) (halt : Bool)
  /-- In a FENCE; the flag says that an epoch edge has still to pass. -/
  | fence (edge : Bool)
  | committing (setId : Nat)
  | attesting
  | finished
  deriving DecidableEq, Repr

/-- One decoded instruction of a bundle: its word index, COND, HALT and the instruction (R61, R63). -/
structure ProgStep where
  index : Nat
  cond : Nat
  halt : Bool
  instr : OrderInstr
  deriving DecidableEq, Repr

/-- A stage set (R71): whether its block is open, its staged writes in order, and whether it carries LEAF_SWAP. -/
structure StageSet where
  id : Nat
  opened : Bool
  items : List OrderInstr
  leafSwap : Bool
  deriving DecidableEq, Repr

/-- How a bundle ended (R80): status, failing word index, detail words. -/
structure Ending where
  status : Nat
  index : Nat
  detail0 : Nat
  detail1 : Nat
  deriving DecidableEq, Repr

/-- What a bundle that runs on both devices carries (R416): its number, its apply epoch in this device's numbering, whether it
came from the peer, which of the two devices have reported its checks passed, and whether the peer's readiness for its next
commit has come before that commit (R418). -/
structure Forward where
  id : Nat
  apply : Nat
  remote : Bool
  ownReady : Bool
  peerReady : Bool
  early : Bool
  deriving DecidableEq, Repr

/-- A bundle in Bureau RAM (R47 to R80). -/
structure Bundle where
  phase : Phase
  words : List Word64
  /-- The bytes that were delivered. -/
  delivered : Nat
  descIndex : Nat
  charter : Nat
  /-- The offending word of a descriptor or delivered-length fault (R53), found before the acceptance checks. -/
  lenFault : Option Word64
  /-- The classes that the Charter granted at check 2 (R88). -/
  grant : Nat
  /-- Bytes that CHARTER.SET instructions named and check 6 read (R88), in order; none is a failed read. -/
  reads : List (Option (List Byte))
  prog : List ProgStep
  next : Nat
  g : SMap Word64
  c : Bool
  stage : Option StageSet
  executed : Nat
  /-- The steps that have executed, skipped ones left out. -/
  acted : List Nat
  /-- Events raised since the first instruction began, as code and unit (R77). -/
  seen : List (Nat × Nat)
  lastEpoch : Option Nat
  /-- A commit that applied late, with its word index and island (R29, R80). -/
  late : Option (Nat × Nat)
  ending : Option Ending
  /-- The completion record waits for this owner slot's journal append (R99). -/
  journalled : Bool
  /-- The completion record is discarded (a function level reset, R434). -/
  orphan : Bool
  /-- Forwarded to the standby, or arrived from the active device (chapter 13). -/
  forward : Option Forward
  /-- The report body that ATTEST captured, with its address (R112). -/
  report : Option (List Byte × Nat)
  deriving DecidableEq, Repr

/-- A commit in progress (R27 to R30): its set, the queue of its bundle, the named epoch, the islands still outstanding and
those that acknowledged last. -/
structure Commit where
  id : Nat
  queue : Nat
  items : List OrderInstr
  leafSwap : Bool
  named : Nat
  outstanding : Nat
  lastAcks : Nat
  /-- 1 for the first acknowledgement window, 2 for the second. -/
  attempt : Nat
  /-- Withdrawn at the first window's expiry and due to be sent again at the next edge. -/
  resend : Bool
  /-- The island that the first window's expiry named. -/
  expired : Option Nat
  /-- The edge that its cutoff chose for it. -/
  edge : Option Nat
  /-- The forwarded bundle of a pair commit, and whether the peer's readiness has arrived (R418). -/
  paired : Option Nat
  peerReady : Bool
  /-- The bounds of the flows that its admission evaluated, with whether T_scan applied (R370). -/
  bounds : List (Nat × Nat × Bool)
  deriving DecidableEq, Repr

/-- One in-band reassembly (R55): in-band Charter, REASM_ID, COUNT, TOTAL_LEN and the segments held. -/
structure Reassembly where
  charter : Nat
  id : Nat
  count : Nat
  total : Nat
  segs : SMap (List Byte)
  deriving DecidableEq, Repr

/-- The Bureau's own state. `slots` holds the bundle of each queue, by unit (R447); the waiting lists hold the submitted,
in-band and forwarded bundles that have not started. -/
structure Bureau where
  slots : SMap Bundle
  consoleWaiting : List Bundle
  inbandWaiting : List Bundle
  pairWaiting : List Bundle
  /-- Completion records of console bundles, oldest first (R458). -/
  consoleDone : List (List Word64)
  /-- TAG of the last SUBMIT that was answered OK (R458). -/
  lastSubmit : Option Nat
  /-- The host queue whose turn is next (R49). -/
  turn : Nat
  commits : List Commit
  nextSet : Nat
  reasm : List Reassembly
  /-- Frames of the Carry-to-Bureau rule that wait, as in-band Charter number, RULE_ID and payload (R269, R271). -/
  carried : List (Nat × Nat × List Byte)
  deriving DecidableEq, Repr

/-! ### Epochs (chapter 01) -/

/-- What the time unit and the Bureau hold of epochs beside the registers: the next edge's time on TB0, the previous edge,
whether the coming edge's cutoff has passed, whether TB0 stepped, and the retirements scheduled by R23. -/
structure Epoch where
  /-- The TB0 value of the next edge, in units of 2^-64 ns. -/
  target : Nat
  /-- The step-free count of TB0 at the previous edge, in units of 2^-64 ns. -/
  lastAt : Nat
  cutoffDone : Bool
  /-- Whether the cutoff of the coming edge has found the Sideboard copy late (R423). -/
  lateNoted : Bool
  gap : Bool
  /-- Superseded versions with the step-free TB0 count at which each falls due. -/
  retire : List (Nat × Nat)
  /-- Snapshot requests for the next edge and for the one after, as block and unit (R459). -/
  snapNow : List (Nat × Nat)
  snapNext : List (Nat × Nat)
  /-- Events that are raised at most once per epoch and were raised in this one, as code and unit. -/
  raised : List (Nat × Nat)
  /-- The reference time of the previous edge. -/
  edgeAt : Nat
  deriving DecidableEq, Repr

/-! ### Time bases (chapter 12) -/

/-- A time base: its value and its step-free count, in units of 2^-64 ns. -/
structure TimeBase where
  value : Nat
  free : Nat
  deriving DecidableEq, Repr

/-- What the time unit holds of one time base beside its registers: consecutive intervals within the lock limit, the rates
in use in LOCKED, newest first, each with the reference time from which it held (R379), the integral term of the loop that steers phase, as a rate (R380),
and a step that is armed: whether it is ABS, the old value at which it
applies, and its size, in units of 2^-64 ns (R384). -/
structure Servo where
  good : Nat
  rates : List (Int × Nat)
  integral : Option Int
  armed : Option (Nat × Int)
  deriving DecidableEq, Repr

/-- A time pulse output (R401 to R403): parameters that wait for a transition to end, the edge that armed the schedule, the
time of the next pulse and of the last one, in units of 2^-16 ns of its time base, and the pin. -/
structure Pulse where
  stored : Option (Nat × Bool × Nat × Nat × Nat)
  next : Option Nat
  last : Option Nat
  active : Bool
  deriving DecidableEq, Repr

/-- A reference input (R404, R405): the reference time of the previous accepted edge, the step-free counts of the time bases
at the last two captures, the capture on its time base in units of 2^-16 ns, and the second it fell in. -/
structure TimeIn where
  edge : Option Nat
  before : List Nat
  latest : List Nat
  fresh : Bool
  capture : Nat
  second : Option Nat
  deriving DecidableEq, Repr

/-! ### Authority (chapter 03) -/

/-- An owner key slot of OTP (R101). -/
structure OwnerSlot where
  enrolled : Bool
  revoked : Bool
  rsa : List Byte
  slh : List Byte
  deriving DecidableEq, Repr

/-- The fuses (R101, R109, R487) and the private identity keys, which only the IS37 signing engine reads (R110). -/
structure Otp where
  slots : SMap OwnerSlot
  rollback : Nat
  freeze : Bool
  identity : KeyPair
  deriving DecidableEq, Repr

/-- The boot flash (R472 to R476): word 0 of its directory, the record in its identity area, Charter copies by 2 * index + copy, image
copies by 2 * slot + copy, and the records of the journal's current half, of four words each, with its number. -/
structure Flash where
  directory : Word64
  identity : List Byte
  charters : SMap (List Byte)
  images : SMap (List Byte)
  half : Nat
  journal : List (List Word64)
  deriving DecidableEq, Repr

/-- What the Bureau holds of authority beside the registers: the installed Charter records by index and the copy that each
lies in, running images by slot with their copy, images that are entered at the next edge, whether the identity record
matches (R111), the committed-version digest (R114), journal appends that wait as slot, ORDER_SEQ and queue with whether the
first one has failed (R99), and the queue whose report is being signed (R112). -/
structure Auth where
  charters : SMap (List Byte)
  charterCopy : SMap Nat
  images : SMap (List Byte)
  imageCopy : SMap Nat
  entering : SMap (List Byte)
  identity : Bool
  digest : List Byte
  appends : List (Nat × Nat × Nat)
  failed : Bool
  signing : Option Nat
  deriving DecidableEq, Repr

/-! ### Power (chapter 15) -/

/-- What a freeze caught (R488, R490): CAUSE, epoch, TB0, and the number of free values drawn before it. -/
structure Frozen where
  cause : Nat
  epoch : Nat
  tb0 : Nat
  key : Nat
  deriving DecidableEq, Repr

/-- What IS39 holds beside the registers. -/
structure Power where
  /-- A freeze in force, and the next image word of the JTAG read-out. -/
  frozen : Option Frozen
  imageWord : Nat
  /-- A supply fault holds the device in reset (R466). -/
  supplyFault : Bool
  /-- The freeze permission, and what is left of it in units of 2^-16 ns (R487). -/
  permitted : Bool
  permit : Nat
  /-- Tj samples in a row at 115 °C or above, and current samples in a row at ICORE_MAX or above at 1.45 GHz. -/
  hot : Nat
  surge : Nat
  /-- CREDIT and the time above 1.45 GHz, in quarters of 2^-16 ns and in 2^-16 ns (R481). -/
  credit : Nat
  fast : Nat
  /-- Frames at the ingress arbiters in this epoch, by pipeline; epochs in a row over capacity and under LOW_PCT; the code of
  the clock that the steps lead to, and the reference time of the last step. -/
  arrivals : SMap Nat
  crowded : Nat
  low : Nat
  target : Nat
  stepped : Nat
  /-- The JTAG instruction, and the preloaded boundary scan (R492). -/
  jtag : Nat
  boundary : List Bool
  deriving DecidableEq, Repr

/-! ### Pair (chapter 13) -/

/-- What IS36 and IS39 hold of the pair beside the registers. -/
structure Pair where
  /-- Aligned lanes of the link, as a bit map. -/
  lanes : Nat
  /-- What the last heartbeat said, beside the role. -/
  peerPin : Bool
  peerReady : Bool
  peerSerial : Word64
  /-- Peer epoch less own epoch of paired edges, and the last edge marker, as epoch and time (R415). -/
  shift : Int
  marker : Option (Nat × Nat)
  /-- TXSEL goes, or comes, at the next own edge (R417, R425, R426). -/
  txOff : Bool
  txOn : Bool
  /-- Sideboard: copies applied in a row; a copy that waits for the next paired edge; the own capture at the last one. -/
  run : Nat
  copy : Option Sideboard
  own : Option Sideboard
  /-- Table changes not yet sent, a bulk copy due, and the counter cycle as the next slice and the values captured. -/
  changes : List TableChange
  bulkDue : Bool
  cycle : Option (Nat × SMap Nat)
  /-- On the standby: own counters at the capture edge, the slices received, whether the bulk copy has come and a counter
  cycle has ended since, and own values to add at the next paired edge. -/
  counters : Option (SMap Nat)
  slices : Nat × SMap Nat
  bulk : Bool
  cycled : Bool
  /-- The epoch of a planned swap (R428). -/
  swap : Option Nat
  /-- Polls in a row that IS32 and IS36 left unanswered (R427). -/
  polls : Nat × Nat
  /-- Forwarded bundles numbered so far; own and peer completion records that wait for the other, by number (R419). -/
  forwards : Nat
  ownRecords : SMap (List Word64)
  peerRecords : SMap (List Word64)
  deriving DecidableEq, Repr

/-! ### Lanes (chapter 04) -/

/-- The pattern checker of a lane (R138): the last 31 expected bits, the latest first, the run of agreeing bits while it
hunts, the runs of the 64 rotations of the user pattern, its position in the user pattern and its error window. -/
structure Checker where
  hist : List Bool
  agree : Nat
  rotations : List Nat
  phase : Nat
  windowBits : Nat
  windowErrs : Nat
  deriving DecidableEq, Repr

/-- What a lane holds beside its registers. -/
structure Lane where
  /-- The port that the lane belongs to. -/
  port : Option Nat
  /-- Block-lock hunt: consecutive valid headers, or headers and invalid headers of the window (R125, R126). -/
  huntGood : Nat
  windowSeen : Nat
  windowBad : Nat
  /-- The last 31 generator bits, the latest first, and the position in the user pattern (R136). -/
  gen : List Bool
  genPos : Nat
  /-- Bits that a fired injection still inverts, and the bits sent since the last rate injection (R139). -/
  injDue : Nat
  injAcc : Nat
  chk : Checker
  /-- The junction temperature at the last calibration, in 1/16 degree (R131). -/
  calTemp : Int
  /-- A parked direction that recalibrates on its way to Active (R131, R151). -/
  recalTx : Bool
  recalRx : Bool
  /-- A RECAL has taken the lane out of service until it is done (R131). -/
  outOfService : Bool
  deriving DecidableEq, Repr

/-- A thinning announcement (R147, R148): its direction, its WIDTH and PARK, the COUNT of its next word, and whether its
first and its last word have been sent or received. -/
structure ThinRun where
  widen : Bool
  width : Nat
  park : Nat
  count : Nat
  begun : Bool
  closed : Bool
  deriving DecidableEq, Repr

/-! ### Frames and cells (chapters 05, 08 and 10) -/

/-- One cell of the buffer with its link entry (R319), its data and the mark for quarantine (R332, R333). -/
structure Cell where
  refcnt : Nat
  gen : Nat
  next : Nat
  data : List Byte
  marked : Bool
  /-- Both copies of its link entry are lost (R333). -/
  lost : Bool
  deriving DecidableEq, Repr

/-- The free cells of one quadrant (R322, R323): the cache and the ring section, each in order, as runs of a first cell and
a length. -/
structure Cupboard where
  cache : List (Nat × Nat)
  ring : List (Nat × Nat)
  deriving DecidableEq, Repr

/-- The pool of the admission step that admitted a copy (R339). -/
inductive Pool
  | minimum
  | shared
  | headroom
  deriving DecidableEq, Repr

/-- The parse vector (R259). -/
structure ParseVector where
  bytes : List Byte
  flen : Nat
  slots : SMap Nat
  endNode : Nat
  cause : Nat
  tags : Nat
  user : Nat
  payloadOff : Nat
  l4 : Bool
  /-- The outer IP header that a check node recorded, and whether it is IPv6 (R258). -/
  ip : Option (Nat × Bool)
  deriving DecidableEq, Repr

/-- Why a copy is made. -/
inductive CopyKind
  | plain
  | ingressMirror
  | egressMirror
  /-- Sent from host software; no TCAM sees it (R272). -/
  | host
  deriving DecidableEq, Repr

/-- A frame on its way from the parser to its queues, and what its copies keep of it: its port, rule version, reference
time and step-free TB0 time of arrival, parse vector, edits in order as pairs of action words 1, and its length as received,
FCS included. -/
structure FrameInfo where
  inPort : Nat
  version : Nat
  arrived : Nat
  /-- The step-free counts of the eight time bases at the receive stamp, and the time base values, in units of 2^-64 ns. -/
  stampFree : List Nat
  stampValue : List Nat
  vector : ParseVector
  edits : List Word64
  ruleId : Nat
  meter : Option Nat
  deriving DecidableEq, Repr

/-- The descriptor of one copy of a frame (R320), and what its admission charged (R339). `frame` names a frame that is still
being written. -/
structure Copy where
  frame : Option Nat
  head : Nat
  gen : Nat
  cells : Nat
  len : Nat
  kind : CopyKind
  colour : Nat
  queue : Nat
  pri : Nat
  pool : Pool
  /-- Most cells that the copy carries; 0 for the whole frame (R343). -/
  trunc : Nat
  /-- A timestamp request of a host frame (R397), as its tag. -/
  stamp : Option Nat
  /-- One-step insertion into a host frame (R396), with the receive stamp of the descriptor. -/
  oneStep : Option Word64
  info : FrameInfo
  deriving DecidableEq, Repr

/-- A frame that its transmit MAC sends: the copy with all its edits, the next cell to read with its generation, the cells
read so far and their bytes, the bits of it that already count as sent in this or an earlier epoch (R146), what time stamping changes
(R394, R396), whether it is cut-through, and whether its transmission has started (R174). -/
structure Sending where
  copy : Copy
  cell : Nat
  gen : Nat
  taken : Nat
  raw : List Byte
  counted : Nat
  /-- What is added to correctionField, in 2^-16 ns, and what originTimestamp becomes, as seconds and nanoseconds. -/
  correction : Option Int
  origin : Option (Nat × Nat)
  cut : Bool
  started : Bool
  /-- The transmit stamp has been taken (R397). -/
  stamped : Bool
  deriving DecidableEq, Repr

/-- A frame in a port's input store (R371): its bytes with FCS and its receive stamp. -/
structure Stored where
  bytes : List Byte
  arrived : Nat
  stampFree : List Nat
  stampValue : List Nat
  deriving DecidableEq, Repr

/-- A frame whose first cells entered the pipeline before its last byte arrived (R173): its number, the bytes and cells so
far, the last cell, its holders and those that gave it up, and whether the device gave up the whole frame (R325). -/
structure Arriving where
  frame : Nat
  got : Nat
  last : Nat
  cells : Nat
  holders : Nat
  gone : Nat
  dead : Bool
  deriving DecidableEq, Repr

/-- A MAC control frame that waits to be acted on (R169, R170). -/
inductive Control
  | pfc (enable : Nat) (times : List Nat)
  | pause (quanta : Nat)
  deriving DecidableEq, Repr

/-- What a logical port holds beside its registers. -/
structure Port where
  /-- The lane where its last form or binding placed the port (R514). -/
  place : Option Nat
  /-- Frames received and not yet taken by the pipeline, oldest first. -/
  input : List Stored
  arriving : Option Arriving
  sending : Option Sending
  /-- Every lane of the port is deskewed (R159). -/
  deskewed : Bool
  /-- The queues drain, in Stopping (R156). -/
  draining : Bool
  /-- Pause timers of the priorities, in quanta as loaded (R169). -/
  pause : SMap Nat
  /-- Priorities whose headroom rule asserts XOFF while TX_EN lets it (R340), a PFC frame due (R172), and the resend timer. -/
  pfcDue : Bool
  resend : Bool
  /-- Thinning: advertised capability (R144), epochs below the threshold, bits sent in this epoch, own announcement, the
  partner's, a hold that the partner asked for, the width that the partner sends on, and the need to be at full width. -/
  advertised : Bool
  lowEpochs : Nat
  sentBits : Nat
  own : Option ThinRun
  peer : Option ThinRun
  held : Bool
  wantWide : Bool
  rxWidth : Nat
  /-- PARK of the partner's last narrowing, in which the parked receivers lie (R143, R149). -/
  peerPark : Nat
  /-- The fault sequence is being sent (R159). -/
  faulting : Bool
  /-- Frames sent under a near-end loopback that the receive path has not taken (R140). -/
  looped : List (List Byte)
  /-- The word that the thinning control field of the next STF frame carries (R152). -/
  thinWord : Nat
  /-- MAC control frames received and not yet acted on, oldest first, and timestamp records lost since the last one (R398). -/
  control : List Control
  lost : Nat
  deriving DecidableEq, Repr

/-! ### STF lanes and tributaries (chapters 06 and 07) -/

/-- A condition that three consecutive observations set or clear (R209). -/
structure Debounce where
  on : Bool
  run : Nat
  deriving DecidableEq, Repr

/-- A frame position that the receiver hunts (R203): the block of its last sighting, the frame number there, its count and
the count that confirms it. -/
structure Candidate where
  last : Nat
  fn : Nat
  count : Nat
  need : Nat
  deriving DecidableEq, Repr

/-- Delineation of a byte stream (R249): 0 HUNT, 1 PRESYNC, 2 SYNC, headers confirmed, consecutive header errors. -/
structure Delin where
  st : Nat
  oks : Nat
  errs : Nat
  deriving DecidableEq, Repr

/-- An STF frame that is being sent (R196 to R200): how many of its words have left, the step-free count of TB0 at its start, the lane
whose received frame it follows with the block of that frame's FAW, the words of its row 0, whether the lane is the transmit side of an express pair, whether the frame carries section AIS, whether the
generators re-centre, the scrambler, and the exclusive-OR of its bytes so far. -/
structure TxFrame where
  words : Nat
  start : Nat
  leader : Option (Nat × Nat)
  head : List Word64
  express : Bool
  ais : Bool
  again : Bool
  reg : Nat
  parity : Nat
  deriving DecidableEq, Repr

/-- What an STF lane holds beside its registers. -/
structure Stf where
  /-- Blocks received since block lock; whether the last one was the FAW at an expected place (2) or elsewhere (1). -/
  pos : Nat
  faw : Nat
  cands : List Candidate
  /-- In SYNC: the block of the frame's start, its frame number, the run of errored FAWs with its limit, a sighting with
  PHASE_JUMP 1, and whether the last expected FAW was errored. -/
  start : Nat
  fn : Nat
  errs : Nat
  lossM : Nat
  jump : Option (Nat × Nat)
  missed : Bool
  /-- Behind a sighting with PHASE_JUMP 1: the descrambler as it would run, the parity up to the sighting and its reference time. -/
  jumpReg : Nat
  jumpPar : Nat
  jumpAt : Nat
  /-- Defect conditions (R208, R209). -/
  los : Bool
  ais : Debounce
  rdi : Debounce
  idLast : Nat
  idRun : Nat
  idAcc : Option Nat
  traceLast : List Word64
  traceRun : Nat
  traceAcc : Option (List Word64)
  /-- Defects stay masked after a wake (R211). -/
  masked : Bool
  /-- A frame has been received since SYNC was reached, so that the next SBIP is checked. -/
  framed : Bool
  /-- LOS, LOB, LOF or AIS was declared in this epoch (R215). -/
  hadDefect : Bool
  /-- SREI of the next frame sent (R200). -/
  rei : Nat
  mgmt : Delin
  /-- The frame as it is received: the descrambler, the exclusive-OR of the bytes of the frame in progress, of it without its last
  block, and of the frame before it, the block where the frame was entered, words 1 to 4 of row 0, whether those wait to be checked, the
  reference times of its FAW and of the last block, and the last 16 words descrambled, newest first (R197, R200, R240). -/
  reg : Nat
  parity : Nat
  before : Nat
  framePar : Nat
  opened : Nat
  head : List Word64
  ready : Bool
  fawAt : Nat
  blockAt : Nat
  recent : List Word64
  /-- Bytes of the management channel from the next header, or the candidate, on, and how many of them lie before the header that is
  expected next (R213, R249). -/
  mgmtRx : List Byte
  mgmtSkip : Nat
  /-- Words sent under a near-end loopback that the receive path has not taken (R140). -/
  looped : List Word64
  /-- Transmit: a frame start is due, PHASE_JUMP of the next frame, slaved phase, frame offset and the last FRAME_NUM. -/
  due : Bool
  jumpDue : Bool
  slaved : Bool
  offset : Nat
  sent : Nat
  /-- The frame that is being sent, and the parity of the one before it (R200). -/
  frame : Option TxFrame
  txParity : Nat
  /-- Container generation on TB0 for the terminated TUs of an express transmitter: the step-free count at its start and the container
  words of each TU so far (R226). -/
  genFrom : Option Nat
  genWords : Nat
  /-- Management frames that wait, with their headers, the bytes of the first one that have left, and the bytes that an idle header
  still has to send (R213, R214). -/
  mgmtQ : List (List Byte)
  mgmtDone : Nat
  mgmtIdle : Nat
  deriving DecidableEq, Repr

/-- The span of a received pointer (R219 to R222): whether the interpreter yields its words, VALUE, and its justification (0 none, 1
positive, 2 negative). -/
structure Span where
  live : Bool
  value : Nat
  just : Nat
  deriving DecidableEq, Repr

/-- The span of a transmitted pointer: what feeds it (0 TU AIS, 1 a container originated in its place, 2 the express partner,
else 3 and the number of the switched TU, 39,939 the TU's own generated containers), its justification, and the number and the container position of the first word that it reads where it starts anew. -/
structure TxSpan where
  code : Nat
  just : Nat
  entry : Option (Nat × Nat)
  deriving DecidableEq, Repr

/-- What a TU of a lane holds beside its registers. -/
structure Tu where
  /-- The pointer interpreter (R224): frames since the last change, the last normal VALUE and its run, runs of AIS, of other
  and of invalid pointers, what the pointers since AIS would have accepted and whether by new data, and the last pointer. -/
  since : Nat
  value : Nat
  run : Nat
  aisRun : Nat
  otherRun : Nat
  badRun : Nat
  tentative : Option Nat
  tentativeNdf : Bool
  word : Nat
  /-- Path monitoring (R201, R208, R209). -/
  seen : Bool
  label : Nat
  labelRun : Nat
  labelAcc : Option Nat
  plm : Bool
  partialTrace : List Byte
  trace : List Byte
  traceRun : Nat
  traceAcc : Option (List Byte)
  tim : Bool
  rdi : Debounce
  /-- PREI of the next container originated. -/
  rei : Nat
  /-- The spans of the pointers (R219), the container position of the next data word, and the exclusive-OR of the bytes of the container
  so far. -/
  span : Span
  spanNext : Span
  place : Nat
  parity : Nat
  /-- Path overhead words received and not yet integrated, each with the parity of the container before it. -/
  arrived : List (Word64 × Nat)
  /-- Container words received so far, and the last 64 of them with their container positions, newest first: what the elastic stores of
  the outputs hold (R226). -/
  count : Nat
  tail : List (Nat × Word64)
  /-- Data words for the packet channel of the TU, each with the number of its group, and that number for the words to come (R246). -/
  fifo : List (Nat × Word64)
  group : Nat
  /-- The pointer generator (R226 to R229): the source of the last frame, the VALUE to send, frames since a change, new data due. -/
  source : Nat
  next : Nat
  sinceTx : Nat
  ndf : Bool
  /-- The spans sent, the number of the next word to read from the store, its container position, whether all ones go out (R210), and
  whether the express partner's TU failed at the frame start (R242). -/
  txSpan : TxSpan
  txNext : TxSpan
  read : Nat
  txPlace : Nat
  ones : Bool
  fails : Bool
  /-- The container originated on a terminated TU: whether it carries a packet channel, the exclusive-OR of its bytes so far, the trace
  byte that comes next, and on an express transmitter the words generated and the last 64 of them, newest first. -/
  carries : Bool
  txParity : Nat
  traceAt : Nat
  made : Nat
  gen : List (Nat × Word64)
  deriving DecidableEq, Repr

/-- What a packet channel holds beside its registers: delineation, the members of the group that arrives with their times,
and consecutive good groups (R247, R249). -/
structure Channel where
  delin : Delin
  group : List (Nat × Nat)
  good : Nat
  /-- The number of the group that arrives, the bytes received from the next header, or the candidate, on, and how many of them lie
  before the header that is expected next (R246, R249). -/
  groups : Nat
  rx : List Byte
  skip : Nat
  /-- Bytes of frames that wait to be sent, with their headers, and the bytes that an idle header still has to send (R248). -/
  tx : List Byte
  idle : Nat
  /-- The binding goes when Stopping ends (R244). -/
  unbind : Bool
  deriving DecidableEq, Repr

/-! ### Classification (chapter 08) -/

/-- How far a write to an entry has come: it has applied, or a pending commit has staged the entry (F is C + 1) or its closing (U is
C + 1) (R22, R27). -/
inductive Staged
  | applied | entering | leaving
  deriving DecidableEq, Repr

/-- A versioned entry of a TCAM or of the pattern store: its words, its F and U (R21, R264, R274), and what a pending commit has
staged of it. U equal to F is open-ended. -/
structure Entry where
  words : List Word64
  since : Nat
  until' : Nat
  staged : Staged
  deriving DecidableEq, Repr

/-- A frame in a scan queue (R277): its place in the order of arrival at the engine (R278), its bytes with FCS, what is known of it, and
the pass-1 entry. -/
structure Scan where
  order : Nat
  bytes : List Byte
  info : FrameInfo
  index : Nat
  action : List Word64
  deriving DecidableEq, Repr

/-- A frame on its way to a host receive ring: its bytes without FCS and what its receive record says (R452). The stamp is a
time base value in units of 2^-64 ns. -/
structure HostFrame where
  bytes : List Byte
  kind : Nat
  cause : Nat
  source : Nat
  endNode : Nat
  ruleId : Nat
  version : Nat
  pipe : Nat
  tb : Nat
  stamp : Nat
  deriving DecidableEq, Repr

/-! ### Exact-match tables (chapter 09) -/

/-- One entry of a replica (R284, R290): its key of one or five words, its result words, F and U, a claim, whether it is only
staged, and the mark of a shadow run. -/
structure TblEntry where
  key : List Word64
  result0 : Nat
  result1 : Nat
  since : Nat
  until' : Nat
  claim : Option Nat
  staged : Bool
  mark : Bool
  deriving DecidableEq, Repr

/-- A learn notice (R298, R301): its L2 key, the ingress port, its pipeline, whether the domain is Shared, and the arrival
stamp on TB0 with its step-free count, in units of 2^-64 ns. -/
structure Notice where
  key : Word64
  port : Nat
  pipe : Nat
  shared : Bool
  stamp : Nat
  free : Nat
  deriving DecidableEq, Repr

/-- The age sweep in progress (R306): the reference time of its start, its length, which is half a period, in units of 2^-16 ns, and the
places that it has visited. -/
structure Sweep where
  start : Nat
  length : Nat
  visited : List Nat
  deriving DecidableEq, Repr

/-- A shadow run (R313): whether the segment with LAST has been compared, and the mismatches reported so far. -/
structure ShadowRun where
  last : Bool
  found : Nat
  deriving DecidableEq, Repr

/-! ### Traffic (chapter 11) -/

/-- A token bucket of R359: its level in units of 2^-16 byte and the step-free TB0 time, in ns, of its last refill. -/
structure Bucket where
  level : Int
  since : Nat
  deriving DecidableEq, Repr

/-- A hardware queue (R352, R353). -/
structure Queue where
  port : Option Nat
  tier : Nat
  group : Nat
  weight : Nat
  profile : Nat
  pfcPri : Nat
  rate : Nat
  burst : Nat
  bucket : Bucket
  /-- Life-cycle bits (R355), and whether a Q.CFG rather than the port asked for its Stopping. -/
  life : Nat
  moving : Bool
  start : Nat
  finish : Nat
  charged : Nat
  copies : List Copy
  enqueued : Nat
  sent : Nat
  octets : Nat
  dropped : Nat
  deriving DecidableEq, Repr

/-- A meter (R348): its settings, its buckets in units of 2^-16 byte, the step-free TB0 time in ns of its last arrival and
its six counters. -/
structure Meter where
  alg : Nat
  aware : Bool
  w0 : Word64
  w1 : Word64
  tc : Nat
  te : Nat
  since : Nat
  counts : List Nat
  deriving DecidableEq, Repr

/-- A declared reserved flow (R362), its bound and what its last admission found. -/
structure Flow where
  meter : Nat
  queue : Nat
  inPort : Nat
  outPort : Nat
  deadline : Nat
  maxFrame : Nat
  burst : Nat
  inspect : Bool
  bound : Nat
  epoch : Nat
  deriving DecidableEq, Repr

/-! ### The host side (chapter 14) -/

/-- What the host interface holds beside its registers. -/
structure HostSide where
  /-- The doublewords of the MSI-X table, by 4 * entry + doubleword, and the vectors whose pending bit is set. -/
  msix : SMap Nat
  msixPending : List Nat
  /-- Vectors whose holdoff runs, and those of them with work to announce (R443). -/
  holdoff : List Nat
  due : List Nat
  d3hot : Bool
  /-- The transmit ring served last (R448). -/
  txLast : Nat
  /-- Event records lost since the last EV_EVR_OVF (R444). -/
  lost : Nat
  /-- The latches of the LH registers, by register offset (R440, R406). -/
  latch : SMap Nat
  /-- The console object store (R457). -/
  store : SMap Byte
  deriving DecidableEq, Repr

/-! ### Fault, refusal, state -/

/-- Why the device stops: it never does.  Every access, instruction and event of the manual has a stated answer, so no
command of the table ends in a fault. -/
inductive Fault
  deriving DecidableEq, Repr

/-- Why a command is turned away. -/
inductive Refusal
  /-- Raised by `exec` alone, for a command that has no meaning yet: safe, nothing can be proved of it. -/
  | notModelled (mnemonic : String)
  deriving DecidableEq, Repr

structure State where
  /-- The commands that wait, first in, first out. -/
  pending : List Instr
  /-- The register file, by BAR0 offset; an offset that is not listed holds `resetAt`. -/
  regs : SMap Word64
  evq : List EventRec
  rseq : Nat
  out : List Out
  /-- The number of free values drawn so far. -/
  free : Nat
  bureau : Bureau
  epoch : Epoch
  /-- The reference time since the time unit left reset, in units of 2^-16 ns. -/
  now : Nat
  tb : SMap TimeBase
  otp : Otp
  /-- The functions, by status register offset, whose pending disable is the device's own (R35). -/
  forced : List Nat
  servos : SMap Servo
  pulses : SMap Pulse
  tins : SMap TimeIn
  lanes : SMap Lane
  /-- Reference clocks that are lost (R121). -/
  refLost : List Nat
  ports : SMap Port
  stf : SMap Stf
  /-- TUs, by 78 * lane + TU. -/
  tus : SMap Tu
  /-- Packet channels, by port - 512. -/
  channels : SMap Channel
  /-- LEAF.WR that wait for the follow-copy (R234), as entry, word and unit of the queue, and the values that staged entries had, as
  entry, set and word (R233). -/
  leafHeld : List (Nat × Nat × Nat)
  leafPrev : List (Nat × Nat × Nat)
  /-- The number of frames that entered a pipeline before their end. -/
  frames : Nat
  cells : SMap Cell
  cupboards : SMap Cupboard
  quarantine : List Nat
  /-- EV_CELL_LOW has been raised and FREE has not risen again (R324); the lowest FREE since the last read. -/
  cellLow : Bool
  minFree : Nat
  /-- Scrub requests whose work has not ended, as their INDEX, oldest first (R335). -/
  scrub : List Nat
  /-- Cells charged to a port's priority, by 8 * port + priority (R340). -/
  ingressCells : SMap Nat
  queues : SMap Queue
  meters : SMap Meter
  flows : SMap Flow
  /-- The buckets of group and port shapers, by 9 * port + group, the port's own at 8 (R359). -/
  shapers : SMap Bucket
  /-- Tier virtual times with 16 fractional bits, by 4 * port + tier (R357). -/
  virtual : SMap Nat
  /-- Requests that each mirror session has counted since its settings changed (R343). -/
  mirrorCount : SMap Nat
  /-- Parse-graph nodes of four words, by 512 * pipeline + 256 * bank + node (R253). -/
  nodes : SMap (List Word64)
  /-- TCAM entries, by 32768 * pipeline + 16384 * egress + index. -/
  tcam : SMap Entry
  /-- Pattern slots, by 4096 * pipeline + slot. -/
  patterns : SMap Entry
  /-- The stage sets that claim TCAM indices, pattern slots and standby parse banks, by the same numbers (R254, R265, R274). -/
  tcamClaims : SMap Nat
  patClaims : SMap Nat
  bankClaims : SMap Nat
  /-- Slow-path buckets in frames, by 8 * pipeline + cause (R261). -/
  slow : SMap Bucket
  /-- Scan queues, by 2 * pipeline + (0 reserved, 1 unreserved). -/
  scans : SMap (List Scan)
  /-- Replica entries, by 2^20 * pipeline + place: 4 * bucket + slot, or 262144 + overflow index (R284). -/
  table : SMap TblEntry
  /-- Learn queues, by pipeline; pending notices; the last notice accepted for each key (R298, R299, R302). -/
  learnQ : SMap (List Notice)
  notices : List Notice
  accepted : List Notice
  /-- The age sweep, from the first edge after boot step 6 on (R306). -/
  sweep : Option Sweep
  shadow : Option ShadowRun
  /-- Frames that wait for a host receive ring, by ring. -/
  hostRx : SMap (List HostFrame)
  host : HostSide
  flash : Flash
  auth : Auth
  power : Power
  pair : Pair
  deriving DecidableEq, Repr

/-! ### Reset (R468) -/

/-- The Bureau after reset. -/
def Bureau.reset : Bureau :=
  { slots := [], consoleWaiting := [], inbandWaiting := [], pairWaiting := [], consoleDone := [], lastSubmit := none,
    turn := 0, commits := [], nextSet := 0, reasm := [], carried := [] }

/-- The epoch unit after reset. -/
def Epoch.reset : Epoch :=
  { target := 125000 * 2 ^ 64, lastAt := 0, cutoffDone := false, lateNoted := false, gap := false, retire := [], snapNow := [], snapNext := [], raised := [], edgeAt := 0 }

/-- The fuses of a device as shipped. -/
def Otp.blank : Otp := { slots := [], rollback := 0, freeze := false, identity := identityKey }

/-- A boot flash that nothing has written but the board maker, who wrote the identity record (R475). -/
def Flash.blank : Flash := { directory := 0xFFFFFFFFFFFFFFFF, identity := identityRecord identityKey, charters := [], images := [], half := 0, journal := [] }

/-- Authority before boot: built-in Charters, no extension, and 48 zero bytes as digest. -/
def Auth.reset : Auth :=
  { charters := [], charterCopy := [], images := [], imageCopy := [], entering := [], identity := false,
    digest := List.replicate 48 0, appends := [], failed := false, signing := none }

/-- Power after reset: CREDIT is full (R481). -/
def Power.reset : Power :=
  { frozen := none, imageWord := 0, supplyFault := false, permitted := false, permit := 0, hot := 0, surge := 0,
    credit := 4 * 30000000 * 1000 * 65536, fast := 0, arrivals := [], crowded := 0, low := 0, target := 0, stepped := 0,
    jtag := 1, boundary := [] }

/-- The pair after reset. -/
def Pair.reset : Pair :=
  { lanes := 0, peerPin := false, peerReady := false, peerSerial := 0, shift := 0, marker := none, txOff := false, txOn := false,
    run := 0, copy := none, own := none, changes := [], bulkDue := false, cycle := none, counters := none, slices := (0, []),
    bulk := false, cycled := false, swap := none, polls := (0, 0), forwards := 0, ownRecords := [], peerRecords := [] }

/-- A servo at reset. -/
def Servo.reset : Servo := { good := 0, rates := [], integral := none, armed := none }

/-- A time pulse output at reset. -/
def Pulse.reset : Pulse := { stored := none, next := none, last := none, active := false }

/-- A reference input at reset. -/
def TimeIn.reset : TimeIn := { edge := none, before := [], latest := [], fresh := false, capture := 0, second := none }

/-- A checker that has seen nothing. -/
def Checker.fresh : Checker :=
  { hist := [], agree := 0, rotations := [], phase := 0, windowBits := 0, windowErrs := 0 }

/-- A lane after reset. -/
def Lane.reset : Lane :=
  { port := none, huntGood := 0, windowSeen := 0, windowBad := 0, gen := [], genPos := 0, injDue := 0, injAcc := 0,
    chk := Checker.fresh, calTemp := 0, recalTx := false, recalRx := false, outOfService := false }

/-- A condition that is clear. -/
def Debounce.clear : Debounce := { on := false, run := 0 }

/-- Delineation in HUNT. -/
def Delin.hunt : Delin := { st := 0, oks := 0, errs := 0 }

/-- An STF lane at reset, and when its port enters Starting. -/
def Stf.reset : Stf :=
  { pos := 0, faw := 0, cands := [], start := 0, fn := 0, errs := 0, lossM := 0, jump := none, missed := false,
    jumpReg := 0, jumpPar := 0, jumpAt := 0, los := true,
    ais := Debounce.clear, rdi := Debounce.clear, idLast := 0, idRun := 0, idAcc := none, traceLast := [], traceRun := 0,
    traceAcc := none, masked := false, framed := false, hadDefect := false, rei := 0, mgmt := Delin.hunt, due := false,
    jumpDue := false, slaved := false, offset := 0, sent := 0, reg := 0, parity := 0, before := 0, framePar := 0, opened := 0, head := [],
    ready := false, fawAt := 0, blockAt := 0, recent := [], mgmtRx := [], mgmtSkip := 0, looped := [], frame := none, txParity := 0,
    genFrom := none, genWords := 0, mgmtQ := [], mgmtDone := 0, mgmtIdle := 0 }

/-- A span that yields no words. -/
def Span.dead : Span := { live := false, value := 0, just := 0 }

/-- The span in which the transmitter of a lane starts: the end of an unequipped container. -/
def TxSpan.first : TxSpan := { code := 1, just := 0, entry := none }

/-- A TU at reset. -/
def Tu.reset : Tu :=
  { since := 3, value := 0, run := 0, aisRun := 0, otherRun := 0, badRun := 0, tentative := none, tentativeNdf := false, word := 0, seen := false,
    label := 0, labelRun := 0, labelAcc := none, plm := false, partialTrace := [], trace := [], traceRun := 0, traceAcc := none,
    tim := false, rdi := Debounce.clear, rei := 0, span := Span.dead, spanNext := Span.dead, place := 0, parity := 0, arrived := [],
    count := 0, tail := [], fifo := [], group := 0, source := 0, next := 0, sinceTx := 3, ndf := false, txSpan := TxSpan.first,
    txNext := TxSpan.first, read := 0, txPlace := 1215, ones := false, fails := false, carries := false, txParity := 0, traceAt := 0, made := 0, gen := [] }

/-- A packet channel at reset. -/
def Channel.reset : Channel :=
  { delin := Delin.hunt, group := [], good := 0, groups := 0, rx := [], skip := 0, tx := [], idle := 0, unbind := false }

/-- A free cell with zero data (R322). -/
def Cell.empty : Cell := { refcnt := 0, gen := 0, next := 0xFFFFF, data := [], marked := false, lost := false }

/-- A quadrant's Cupboard before boot fills it. -/
def Cupboard.bare : Cupboard := { cache := [], ring := [] }

/-- A port after reset. -/
def Port.reset : Port :=
  { place := none, input := [], arriving := none, sending := none, deskewed := false, draining := false, pause := [], pfcDue := false,
    resend := false, advertised := false, lowEpochs := 0, sentBits := 0, own := none, peer := none, held := false,
    wantWide := false, rxWidth := 0, peerPark := 1, faulting := false, looped := [], thinWord := 0, control := [], lost := 0 }

/-- An empty bucket. -/
def Bucket.empty : Bucket := { level := 0, since := 0 }

/-- A queue after reset (R352): queues 8p to 8p + 7 are those of port p, the others unassigned. -/
def Queue.reset (q : Nat) : Queue :=
  { port := if q < 8192 then some (q / 8) else none, tier := 3, group := 0, weight := 1, profile := 0, pfcPri := 0,
    rate := 0, burst := 0, bucket := Bucket.empty, life := 0, moving := false, start := 0, finish := 0, charged := 0,
    copies := [], enqueued := 0, sent := 0, octets := 0, dropped := 0 }

/-- A meter after reset (R351). -/
def Meter.reset : Meter := { alg := 0, aware := false, w0 := 0, w1 := 0, tc := 0, te := 0, since := 0, counts := [0, 0, 0, 0, 0, 0] }

/-- The host side after reset: every vector is masked, and the object store reads zero. -/
def HostSide.reset : HostSide :=
  { msix := [], msixPending := [], holdoff := [], due := [], d3hot := false, txLast := 63, lost := 0, latch := [], store := [] }

/-- The device right after reset (R468). -/
def State.reset : State :=
  { pending := [], regs := [], evq := [], rseq := 0, out := [], free := 0, bureau := Bureau.reset, epoch := Epoch.reset,
    now := 0, tb := [], otp := Otp.blank, forced := [],
    servos := [], pulses := [], tins := [], lanes := [], refLost := [], ports := [], stf := [], tus := [], channels := [], leafHeld := [], leafPrev := [], frames := 0, cells := [], cupboards := [], quarantine := [], cellLow := false,
    minFree := 0, scrub := [], ingressCells := [], queues := [], meters := [], flows := [], shapers := [], virtual := [],
    mirrorCount := [], nodes := [], tcam := [], patterns := [], tcamClaims := [], patClaims := [], bankClaims := [],
    slow := [], scans := [], table := [], learnQ := [],
    notices := [], accepted := [], sweep := none, shadow := none, hostRx := [], host := HostSide.reset,
    flash := Flash.blank, auth := Auth.reset, power := Power.reset, pair := Pair.reset }

end Sys2Proof.Machine
end

