-- ==== Sys2Proof/Machine/Ops.lean ====
section
/-! DEFINITION. The named operations on the device's storage: sparse maps, the register file, the reference time and the
time bases, free values, and what leaves the device. -/

namespace Sys2Proof

/-! ### Sparse maps -/

/-- What is listed at an index. -/
def SMap.find {α : Type} : SMap α → Nat → Option α
  | [], _ => none
  | (i, v) :: m, k => if k = i then some v else SMap.find m k

/-- The value at an index, `d` where nothing is listed. -/
def SMap.get {α : Type} (d : α) (m : SMap α) (k : Nat) : α := (SMap.find m k).getD d

/-- Lists a value at an index, in place of what was listed there. -/
def SMap.put {α : Type} : SMap α → Nat → α → SMap α
  | [], k, v => [(k, v)]
  | (i, w) :: m, k, v =>
    if k = i then (k, v) :: m else if k < i then (k, v) :: (i, w) :: m else (i, w) :: SMap.put m k v

/-- Lists nothing at an index. -/
def SMap.del {α : Type} : SMap α → Nat → SMap α
  | [], _ => []
  | (i, w) :: m, k => if k = i then SMap.del m k else (i, w) :: SMap.del m k

/-- Gives an index a value: the default is not listed. -/
def SMap.set {α : Type} [DecidableEq α] (d : α) (m : SMap α) (k : Nat) (v : α) : SMap α :=
  if v = d then SMap.del m k else SMap.put m k v

/-- Changes the value at an index. -/
def SMap.upd {α : Type} [DecidableEq α] (d : α) (m : SMap α) (k : Nat) (f : α → α) : SMap α :=
  SMap.set d m k (f (SMap.get d m k))

/-- Whether the indices of a map are above `k` and rise strictly. -/
def SMap.risesFrom {α : Type} : Option Nat → SMap α → Bool
  | _, [] => true
  | none, (i, _) :: m => SMap.risesFrom (some i) m
  | some k, (i, _) :: m => decide (k < i) && SMap.risesFrom (some i) m

/-- The canonical form: indices rise strictly. -/
def SMap.rises {α : Type} (m : SMap α) : Bool := SMap.risesFrom none m

/-- The canonical form of storage with a default: indices rise strictly and no listed value is the default of its index. -/
def SMap.canon {α : Type} [DecidableEq α] (d : Nat → α) (m : SMap α) : Bool :=
  SMap.rises m && m.all (fun e => decide (e.2 ≠ d e.1))

namespace Machine

/-! ### The register file -/

/-- The stored word at a register's offset. -/
def regAt (regs : SMap Word64) (off : Nat) : Word64 := SMap.get (resetAt off) regs off

/-- The register file with a word stored at an offset; a word equal to the offset's reset value is not listed. -/
def regPut (regs : SMap Word64) (off : Nat) (v : Word64) : SMap Word64 := SMap.set (resetAt off) regs off v

/-- The stored value of instance `n` of a register. -/
def State.reg (s : State) (r : RegSpec) (n : Nat) : Nat := (regAt s.regs (r.addr n)).toNat

/-- Stores a value into instance `n` of a register. -/
def State.setReg (s : State) (r : RegSpec) (n v : Nat) : State :=
  { s with regs := regPut s.regs (r.addr n) (BitVec.ofNat 64 v) }

/-- The value of a field of instance `n`. -/
def State.fld (s : State) (f : Fld) (n : Nat) : Nat := bits (s.reg f.reg n) f.hi f.lo

/-- Stores a value, cut to the field's width, into a field of instance `n`. -/
def State.setFld (s : State) (f : Fld) (n v : Nat) : State :=
  s.setReg f.reg n (withBits (s.reg f.reg n) f.hi f.lo v)

/-- Whether a one-bit field is 1. -/
def State.flag (s : State) (f : Fld) (n : Nat) : Bool := s.fld f n == 1

/-- Stores a one-bit field. -/
def State.setFlag (s : State) (f : Fld) (n : Nat) (b : Bool) : State := s.setFld f n (ofFlag b)

/-- A field advanced by `k`; it rolls over at its width. -/
def State.bump (s : State) (f : Fld) (n k : Nat) : State := s.setFld f n (s.fld f n + k)

/-- A field as a two's complement number. -/
def State.sfld (s : State) (f : Fld) (n : Nat) : Int := signed (f.hi + 1 - f.lo) (s.fld f n)

/-- A register instance back at its reset value. -/
def State.resetReg (s : State) (r : RegSpec) (n : Nat) : State := s.setReg r n (resetAt (r.addr n)).toNat

/-! ### Masked writes (R70) -/

/-- Value and mask of a SET as they lie in the whole register at `start`. -/
def setPlace (start off : Nat) (w64 : Bool) (v : Nat) : Nat := if w64 then v else (v % 2 ^ 32) <<< (8 * (off - start))

/-- The bits of the fields that a SET may write. -/
def owBits (r : RegSpec) : Nat :=
  r.fields.foldl (fun m f => if f.acc = .ow then withBits m f.hi f.lo (2 ^ (f.hi + 1 - f.lo) - 1) else m) 0

/-- A register's word after a write under a mask; only OW fields change. -/
def setMerge (r : RegSpec) (old value mask : Nat) : Nat := old ^^^ ((old ^^^ value) &&& (mask &&& owBits r))

/-- The register that a SET names with its value and mask as they lie in the whole register. -/
def setTarget (off : Nat) (w64 : Bool) (value mask : Nat) : Option (RegSpec × Nat × Nat × Nat) :=
  (locate off).map (fun l =>
    (l.1, l.2, setPlace (l.1.addr l.2) off w64 value, setPlace (l.1.addr l.2) off w64 mask &&& owBits l.1))

/-! ### What leaves the device -/

/-- Puts one item out. -/
def State.emit (s : State) (o : Out) : State := { s with out := s.out ++ [o] }

/-! ### Free values -/

/-- A value that the manual leaves open: the next free word. -/
def State.freeWord (s : State) : Word64 := Config.freeWord s.free

/-- The state after a free value was drawn. -/
def State.drawn (s : State) : State := { s with free := s.free + 1 }

/-! ### Time (R375, R376) -/

/-- A time base at reset. -/
def TimeBase.zero : TimeBase := { value := 0, free := 0 }

/-- How far a time base advances in `dt` units of 2^-16 ns at rate `a` (2^-48), in units of 2^-64 ns. -/
def tbDelta (dt : Nat) (a : Int) : Nat := ((dt : Int) * ((2 ^ 48 : Nat) + a)).toNat

/-- The rate in use of a time base. -/
def State.tbRate (s : State) (b : Nat) : Int := s.sfld R.TIME_TB_RATE_CUR_RATE b

/-- The value of a time base. -/
def State.tbGet (s : State) (b : Nat) : TimeBase := SMap.get TimeBase.zero s.tb b

/-- Stores a time base. -/
def State.tbSet (s : State) (b : Nat) (t : TimeBase) : State := { s with tb := SMap.set TimeBase.zero s.tb b t }

/-- One time base after `dt` units of reference time. -/
def State.tbRun (dt : Nat) (s : State) (b : Nat) : State :=
  let d := tbDelta dt (s.tbRate b)
  s.tbSet b { value := (s.tbGet b).value + d, free := (s.tbGet b).free + d }

/-- Sprint credit, time above 1.45 GHz and freeze permission after `dt` units of reference time at a core clock code (R481,
R487): the permission shows what the nominal oscillator leaves of it. -/
def Power.run (p : Power) (clock dt : Nat) : Power :=
  { p with
    credit := if clock = 0 then min (4 * 30000000 * 1000 * 65536) (p.credit + dt) else p.credit - (if clock = 1 then 2 else 4) * dt
    fast := if clock = 0 then p.fast else p.fast + dt
    permit := p.permit - dt }

/-- The device at reference time `t`: every time base has advanced by R376.  A time already reached changes nothing. -/
def State.advance (s : State) (t : Nat) : State :=
  if t ≤ s.now then s
  else
    let dt := t - s.now
    { (List.range 8).foldl (State.tbRun dt) s with now := t, power := s.power.run (s.fld R.PWR_SPRINT_STAT_CLOCK 0) dt }

/-- Units of 2^-64 ns in one nanosecond (DEDUCED, log 130). -/
def nsUnits : Nat := 2 ^ 64

/-- A time base's whole nanoseconds since 0. -/
def State.tbNs (s : State) (b : Nat) : Nat := (s.tbGet b).value / nsUnits

/-- A time base's step-free count in whole nanoseconds (R387). -/
def State.tbFreeNs (s : State) (b : Nat) : Nat := (s.tbGet b).free / nsUnits

/-- A time base's seconds, nanoseconds and fraction (R375). -/
def tbSplit (v : Nat) : Nat × Nat × Nat :=
  (v / nsUnits / 1000000000 % 2 ^ 48, v / nsUnits % 1000000000, v / 2 ^ 48 % 2 ^ 16)

/-- The current epoch number. -/
def State.epochNum (s : State) : Nat := s.fld R.DEV_EPOCH_NUM_EPOCH 0

/-! ### Rule versions (R20, R21) -/

/-- The current version C. -/
def State.version (s : State) : Nat := s.fld R.DEV_VERSION_CURRENT 0

/-- The oldest live version O. -/
def State.oldest (s : State) : Nat := s.fld R.DEV_VERSION_OLDEST 0

/-- `dist(a, b) = (a - b) mod 256`. -/
def vdist (a b : Nat) : Nat := (a + 256 - b % 256) % 256

/-- Whether a version lies from O to C. -/
def State.liveVersion (s : State) (v : Nat) : Bool := decide (vdist s.version v ≤ vdist s.version s.oldest)

/-- The validity test of R21 for a frame of version `v` and an entry from `f` until `u`. -/
def entryValid (v f u : Nat) : Bool :=
  if vdist v f > 3 then false
  else if u = f then true
  else decide (1 ≤ vdist u v) && decide (vdist u v ≤ 4)

end Machine
/-! ### Stamps -/

/-- A time base value or count moved by a signed amount, in units of 2^-64 ns (R390, R404); one that would lie below zero is free. -/
def movedStamp (v : Nat) (by' : Int) : Nat :=
  let x := (v : Int) + by'
  if 0 ≤ x then x.toNat else (Config.stampBelow x).toNat

end Sys2Proof
end

