-- ==== Sys2Proof/Machine/Flags.lean ====
section
/-! DEFINITION. Status flags: the events and their sequence-cleared bits (R4, R439, R445, R446), and the life cycle that
every function shares (R33 to R37). -/

namespace Sys2Proof.Machine

/-! ### Events -/

/-- An event: its code (R446, R493) and the status bit that it sets. -/
structure EvSpec where
  code : Nat
  bit : Option Fld
  deriving DecidableEq, Repr

/-- EV_BUSERR. -/
def EV_BUSERR : EvSpec := ⟨0x010, some R.DEV_EVT_BUSERR⟩
/-- EV_SNAP_DONE. -/
def EV_SNAP_DONE : EvSpec := ⟨0x011, some R.DEV_EVT_SNAP_DONE⟩
/-- EV_SNAP_OVF. -/
def EV_SNAP_OVF : EvSpec := ⟨0x012, some R.DEV_EVT_SNAP_OVF⟩
/-- EV_EPOCH_GAP. -/
def EV_EPOCH_GAP : EvSpec := ⟨0x018, some R.DEV_EPOCH_STAT_EPOCH_GAP⟩
/-- EV_COMMIT_INCOMPLETE. -/
def EV_COMMIT_INCOMPLETE : EvSpec := ⟨0x019, some R.DEV_EPOCH_STAT_INCOMPLETE⟩
/-- EV_COMMIT_ABORT. -/
def EV_COMMIT_ABORT : EvSpec := ⟨0x01A, some R.DEV_EPOCH_STAT_ABORT⟩
/-- EV_VERSION_FULL. -/
def EV_VERSION_FULL : EvSpec := ⟨0x01B, some R.DEV_EPOCH_STAT_VER_FULL⟩
/-- EV_ORD_DONE. -/
def EV_ORD_DONE : EvSpec := ⟨0x020, some R.ORD_OQ_STAT_DONE⟩
/-- EV_ORD_REFUSED. -/
def EV_ORD_REFUSED : EvSpec := ⟨0x021, some R.ORD_OQ_STAT_REFUSED⟩
/-- EV_ORD_RING. -/
def EV_ORD_RING : EvSpec := ⟨0x022, some R.ORD_OQ_STAT_RING_ERR⟩
/-- EV_ORD_FETCH. -/
def EV_ORD_FETCH : EvSpec := ⟨0x023, some R.ORD_OQ_STAT_FETCH_ERR⟩
/-- EV_ORD_INBAND. -/
def EV_ORD_INBAND : EvSpec := ⟨0x024, some R.ORD_BUREAU_STAT_INBAND_DROP⟩
/-- EV_AUTH_KEY. -/
def EV_AUTH_KEY : EvSpec := ⟨0x030, some R.AUTH_STAT_KEY⟩
/-- EV_AUTH_CHARTER. -/
def EV_AUTH_CHARTER : EvSpec := ⟨0x031, some R.AUTH_STAT_CHARTER⟩
/-- EV_AUTH_CHARTER_BAD. -/
def EV_AUTH_CHARTER_BAD : EvSpec := ⟨0x032, some R.AUTH_STAT_CHARTER_BAD⟩
/-- EV_FW_LOADED. -/
def EV_FW_LOADED : EvSpec := ⟨0x033, some R.AUTH_STAT_FW_LOADED⟩
/-- EV_FW_BAD. -/
def EV_FW_BAD : EvSpec := ⟨0x034, some R.AUTH_STAT_FW_BAD⟩
/-- EV_AUTH_ROLLBACK. -/
def EV_AUTH_ROLLBACK : EvSpec := ⟨0x035, some R.AUTH_STAT_ROLLBACK⟩
/-- EV_AUTH_JOURNAL. -/
def EV_AUTH_JOURNAL : EvSpec := ⟨0x036, some R.AUTH_STAT_JOURNAL⟩
/-- EV_ATTEST_DONE. -/
def EV_ATTEST_DONE : EvSpec := ⟨0x037, some R.AUTH_STAT_ATTEST_DONE⟩
/-- EV_EVR_OVF. -/
def EV_EVR_OVF : EvSpec := ⟨0x040, some R.HDMA_EVT_EVR_OVF⟩
/-- EV_HDMA_EVR_RING. -/
def EV_HDMA_EVR_RING : EvSpec := ⟨0x041, some R.HDMA_EVT_RING_ERR⟩
/-- EV_HDMA_FETCH. -/
def EV_HDMA_FETCH : EvSpec := ⟨0x042, some R.HDMA_RING_STAT_FETCH_ERR⟩
/-- EV_HDMA_RING. -/
def EV_HDMA_RING : EvSpec := ⟨0x043, some R.HDMA_RING_STAT_RING_ERR⟩
/-- EV_HDMA_RX_NOBUF. -/
def EV_HDMA_RX_NOBUF : EvSpec := ⟨0x044, some R.HDMA_RING_STAT_NOBUF⟩
/-- EV_HDMA_TX_BAD. -/
def EV_HDMA_TX_BAD : EvSpec := ⟨0x045, some R.HDMA_RING_STAT_TX_BAD⟩
/-- EV_TB_STATE. -/
def EV_TB_STATE : EvSpec := ⟨0x050, some R.TIME_TB_STAT_STATE_CHG⟩
/-- EV_TB_STEP. -/
def EV_TB_STEP : EvSpec := ⟨0x051, some R.TIME_TB_STAT_STEPPED⟩
/-- EV_TB_STEP_REFUSED. -/
def EV_TB_STEP_REFUSED : EvSpec := ⟨0x052, some R.TIME_TB_STAT_STEP_REFUSED⟩
/-- EV_TB_REARM. -/
def EV_TB_REARM : EvSpec := ⟨0x053, some R.TIME_TB_STAT_REARM⟩
/-- EV_TB_CLAMP. -/
def EV_TB_CLAMP : EvSpec := ⟨0x054, some R.TIME_TB_STAT_CLAMP⟩
/-- EV_TPO_STATE. -/
def EV_TPO_STATE : EvSpec := ⟨0x055, some R.TIME_TPO_STAT_STATE_CHG⟩
/-- EV_TPO_MISSED. -/
def EV_TPO_MISSED : EvSpec := ⟨0x056, some R.TIME_TPO_STAT_MISSED⟩
/-- EV_TIN_CAP. -/
def EV_TIN_CAP : EvSpec := ⟨0x057, some R.TIME_TIN_STAT_CAP⟩
/-- EV_TIN_LOST. -/
def EV_TIN_LOST : EvSpec := ⟨0x058, some R.TIME_TIN_STAT_LOST_CHG⟩
/-- EV_TSF_OVF. -/
def EV_TSF_OVF : EvSpec := ⟨0x059, some R.PORT_TSF_STAT_OVF⟩
/-- EV_TSF_RING. -/
def EV_TSF_RING : EvSpec := ⟨0x05A, some R.PORT_TSF_STAT_RING⟩
/-- EV_PAIR_ROLE. -/
def EV_PAIR_ROLE : EvSpec := ⟨0x060, some R.PAIR_EVT_ROLE⟩
/-- EV_PAIR_LINK. -/
def EV_PAIR_LINK : EvSpec := ⟨0x061, some R.PAIR_EVT_LINK⟩
/-- EV_PAIR_DIVERGE. -/
def EV_PAIR_DIVERGE : EvSpec := ⟨0x062, some R.PAIR_EVT_DIVERGE⟩
/-- EV_PAIR_TAKEOVER. -/
def EV_PAIR_TAKEOVER : EvSpec := ⟨0x063, some R.PAIR_EVT_TAKEOVER⟩
/-- EV_PAIR_FENCED. -/
def EV_PAIR_FENCED : EvSpec := ⟨0x064, some R.PAIR_EVT_FENCED⟩
/-- EV_PAIR_SB_LATE. -/
def EV_PAIR_SB_LATE : EvSpec := ⟨0x065, some R.PAIR_EVT_SB_LATE⟩
/-- EV_BOOT_FLASH. -/
def EV_BOOT_FLASH : EvSpec := ⟨0x070, some R.PWR_EVT_FLASH⟩
/-- EV_SPRINT_STATE. -/
def EV_SPRINT_STATE : EvSpec := ⟨0x071, some R.PWR_EVT_SPRINT_STATE⟩
/-- EV_SPRINT_START. -/
def EV_SPRINT_START : EvSpec := ⟨0x072, some R.PWR_EVT_SPRINT_START⟩
/-- EV_SPRINT_END. -/
def EV_SPRINT_END : EvSpec := ⟨0x073, some R.PWR_EVT_SPRINT_END⟩
/-- EV_THERM_ALERT. -/
def EV_THERM_ALERT : EvSpec := ⟨0x074, some R.PWR_EVT_ALERT⟩
/-- EV_THERM_TRIP. -/
def EV_THERM_TRIP : EvSpec := ⟨0x075, some R.PWR_EVT_TRIP⟩
/-- EV_ICORE_HIGH. -/
def EV_ICORE_HIGH : EvSpec := ⟨0x076, some R.PWR_EVT_ICORE⟩
/-- EV_FREEZE_DENIED. -/
def EV_FREEZE_DENIED : EvSpec := ⟨0x077, some R.PWR_EVT_FREEZE_DENIED⟩
/-- EV_LANE_STATE. -/
def EV_LANE_STATE : EvSpec := ⟨0x100, some R.LANE_EVT_STATE⟩
/-- EV_LANE_START_FAIL. -/
def EV_LANE_START_FAIL : EvSpec := ⟨0x101, some R.LANE_EVT_START_FAIL⟩
/-- EV_LANE_LOCK. -/
def EV_LANE_LOCK : EvSpec := ⟨0x102, some R.LANE_EVT_LOCK⟩
/-- EV_LANE_FREQ. -/
def EV_LANE_FREQ : EvSpec := ⟨0x103, some R.LANE_EVT_FREQ⟩
/-- EV_LANE_CHK. -/
def EV_LANE_CHK : EvSpec := ⟨0x104, some R.LANE_EVT_CHK⟩
/-- EV_LANE_THIN. -/
def EV_LANE_THIN : EvSpec := ⟨0x105, some R.LANE_EVT_THIN⟩
/-- EV_LANE_CFG_IGNORED. -/
def EV_LANE_CFG_IGNORED : EvSpec := ⟨0x106, some R.LANE_EVT_CFG_IGNORED⟩
/-- EV_OCT_REF. -/
def EV_OCT_REF : EvSpec := ⟨0x107, some R.LANE_OCT_STAT_REF_LOST⟩
/-- EV_PORT_STATE. -/
def EV_PORT_STATE : EvSpec := ⟨0x200, some R.PORT_EVT_STATE⟩
/-- EV_PORT_START_FAIL. -/
def EV_PORT_START_FAIL : EvSpec := ⟨0x201, some R.PORT_EVT_START_FAIL⟩
/-- EV_PORT_LINK. -/
def EV_PORT_LINK : EvSpec := ⟨0x202, some R.PORT_EVT_LINK⟩
/-- EV_PORT_UNDERRUN. -/
def EV_PORT_UNDERRUN : EvSpec := ⟨0x203, some R.PORT_EVT_UNDERRUN⟩
/-- EV_PORT_CT_MAX. -/
def EV_PORT_CT_MAX : EvSpec := ⟨0x204, some R.PORT_EVT_CT_MAX⟩
/-- EV_PORT_FEC_UNCORR. -/
def EV_PORT_FEC_UNCORR : EvSpec := ⟨0x205, some R.PORT_EVT_FEC_UNCORR⟩
/-- EV_PORT_PFC_IGNORED. -/
def EV_PORT_PFC_IGNORED : EvSpec := ⟨0x206, some R.PORT_EVT_PFC_IGNORED⟩
/-- EV_PORT_CTR_HALF. -/
def EV_PORT_CTR_HALF : EvSpec := ⟨0x207, some R.PORT_EVT_CTR_HALF⟩
/-- EV_PORT_SEG_BAD. -/
def EV_PORT_SEG_BAD : EvSpec := ⟨0x208, some R.PORT_EVT_SEG_BAD⟩
/-- EV_STF_ALIGN. -/
def EV_STF_ALIGN : EvSpec := ⟨0x600, some R.STF_EVT_ALIGN⟩
/-- EV_STF_DEFECT. -/
def EV_STF_DEFECT : EvSpec := ⟨0x601, some R.STF_EVT_DEFECT⟩
/-- EV_STF_TU_DEFECT. -/
def EV_STF_TU_DEFECT : EvSpec := ⟨0x602, some R.STF_TU_EVT_DEFECT⟩
/-- EV_STF_HUNT_OVF. -/
def EV_STF_HUNT_OVF : EvSpec := ⟨0x603, some R.STF_EVT_HUNT_OVF⟩
/-- EV_STF_DOUBLE. -/
def EV_STF_DOUBLE : EvSpec := ⟨0x604, some R.STF_EVT_DOUBLE⟩
/-- EV_STF_MGMT_DROP. -/
def EV_STF_MGMT_DROP : EvSpec := ⟨0x605, some R.STF_EVT_MGMT_DROP⟩
/-- EV_TSI_STATE. -/
def EV_TSI_STATE : EvSpec := ⟨0xA00, some R.TSI_EVT_STATE⟩
/-- EV_TSI_SWAP. -/
def EV_TSI_SWAP : EvSpec := ⟨0xA01, some R.TSI_EVT_SWAP⟩
/-- EV_TSI_SLIP. -/
def EV_TSI_SLIP : EvSpec := ⟨0xA02, some R.TSI_EVT_SLIP⟩
/-- EV_TSI_XP. -/
def EV_TSI_XP : EvSpec := ⟨0xA03, some R.TSI_EVT_XP⟩
/-- EV_PAT_STATE. -/
def EV_PAT_STATE : EvSpec := ⟨0xB00, some R.PIPE_EVT_PAT_STATE⟩
/-- EV_PAT_OVER. -/
def EV_PAT_OVER : EvSpec := ⟨0xB01, some R.PIPE_EVT_PAT_OVER⟩
/-- EV_PAT_RSV_OVER. -/
def EV_PAT_RSV_OVER : EvSpec := ⟨0xB02, some R.PIPE_EVT_PAT_RSV_OVER⟩
/-- EV_SLOW_DROP. -/
def EV_SLOW_DROP : EvSpec := ⟨0xB03, some R.PIPE_EVT_SLOW_DROP⟩
/-- EV_TCAM_NO_MATCH. -/
def EV_TCAM_NO_MATCH : EvSpec := ⟨0xB04, some R.PIPE_EVT_NO_MATCH⟩
/-- EV_LEARN. -/
def EV_LEARN : EvSpec := ⟨0xB10, some R.TBL_EVT_LEARN⟩
/-- EV_LEARN_FLAP. -/
def EV_LEARN_FLAP : EvSpec := ⟨0xB11, some R.TBL_EVT_FLAP⟩
/-- EV_LEARN_OVF. -/
def EV_LEARN_OVF : EvSpec := ⟨0xB12, some R.TBL_EVT_OVF⟩
/-- EV_TBL_ECC. -/
def EV_TBL_ECC : EvSpec := ⟨0xB13, some R.TBL_EVT_ECC⟩
/-- EV_SHADOW_MISMATCH. -/
def EV_SHADOW_MISMATCH : EvSpec := ⟨0xB14, some R.TBL_SHADOW_STAT_MISMATCH⟩
/-- EV_SHADOW_DONE. -/
def EV_SHADOW_DONE : EvSpec := ⟨0xB15, some R.TBL_SHADOW_STAT_DONE⟩
/-- EV_SHADOW_FETCH. -/
def EV_SHADOW_FETCH : EvSpec := ⟨0xB16, some R.TBL_SHADOW_STAT_FETCH_ERR⟩
/-- EV_SHADOW_RING. -/
def EV_SHADOW_RING : EvSpec := ⟨0xB17, some R.TBL_SHADOW_STAT_RING_ERR⟩
/-- EV_CELL_FOREIGN. -/
def EV_CELL_FOREIGN : EvSpec := ⟨0xC00, some R.CELL_EVT_FOREIGN⟩
/-- EV_CELL_DFREE. -/
def EV_CELL_DFREE : EvSpec := ⟨0xC01, some R.CELL_EVT_DFREE⟩
/-- EV_CELL_QUAR. -/
def EV_CELL_QUAR : EvSpec := ⟨0xC02, some R.CELL_EVT_QUAR⟩
/-- EV_CELL_LINK_LOST. -/
def EV_CELL_LINK_LOST : EvSpec := ⟨0xC03, some R.CELL_EVT_LINK_LOST⟩
/-- EV_CELL_LOW. -/
def EV_CELL_LOW : EvSpec := ⟨0xC04, some R.CELL_EVT_LOW⟩
/-- EV_CELL_SCRUB. -/
def EV_CELL_SCRUB : EvSpec := ⟨0xC05, some R.CELL_EVT_SCRUB⟩
/-- EV_TM_REFUSED. -/
def EV_TM_REFUSED : EvSpec := ⟨0xD00, some R.TM_EVT_REFUSED⟩
/-- EV_Q_FLUSH. -/
def EV_Q_FLUSH : EvSpec := ⟨0xD01, some R.TM_EVT_Q_FLUSH⟩
/-- EV_RSV_DISCARD. -/
def EV_RSV_DISCARD : EvSpec := ⟨0xD02, some R.TM_EVT_RSV_DISCARD⟩
/-- EV_ARB_DROP. -/
def EV_ARB_DROP : EvSpec := ⟨0xD03, some R.TM_EVT_ARB_DROP⟩

/-- The first code and the number of codes of each row of the event code tables (R446, R493). -/
def eventCodeRows : List (Nat × Nat) :=
  [(0x010, 3), (0x018, 4), (0x020, 5), (0x030, 8), (0x040, 6), (0x050, 11), (0x060, 6), (0x070, 8), (0x100, 8), (0x200, 9), (0x600, 6), (0xA00, 4), (0xB00, 5), (0xB10, 8), (0xC00, 6), (0xD00, 4)]

/-- Whether an event code is assigned. -/
def validEventCode (c : Nat) : Bool := eventCodeRows.any (fun r => decide (r.1 ≤ c) && decide (c < r.1 + r.2))

/-- Whether the first instruction of a bundle has begun and its last has not ended. -/
def Phase.begun : Phase → Bool
  | .waiting | .verifying | .held | .pairHeld | .finished => false
  | _ => true

/-- A bundle takes note of an event raised after its first instruction began (R77). -/
def Bundle.note (code unit : Nat) (b : Bundle) : Bundle :=
  if b.phase.begun && !b.seen.contains (code, unit) then { b with seen := b.seen ++ [(code, unit)] } else b

/-- Sets the status bit of an event in instance `n` of its register and advances SEQ by one (R439). -/
def State.markEvent (s : State) (e : EvSpec) (n : Nat) : State :=
  match e.bit with
  | none => s
  | some f =>
    let w := withBits (s.reg f.reg n) f.hi f.lo 1
    s.setReg f.reg n (withBits w 31 24 (bits w 31 24 + 1))

/-- The status register of an event, as its record carries it. -/
def State.eventStatus (s : State) (e : EvSpec) (n : Nat) : Nat :=
  match e.bit with
  | none => 0
  | some f => s.reg f.reg n

/-- Raises an event (R445): the status bit and SEQ of instance `n` of its register, RSEQ, a record for the event ring unless
the ring is disabled (R444), and the note that waiting bundles take (R77). -/
def State.raiseAt (s : State) (e : EvSpec) (n unit : Nat) (data : List Nat) : State :=
  let s := s.markEvent e n
  let w := s.eventStatus e n
  let r : EventRec := { seq := bits w 31 24, code := e.code, unit := unit % 4096, rseq := s.rseq, epoch := s.epochNum,
                        data0 := w, data := data }
  { s with
    rseq := (s.rseq + 1) % 2 ^ 32
    evq := if s.fld R.HDMA_EVR_SIZE_SIZE 0 = 0 then s.evq else s.evq ++ [r]
    bureau := { s.bureau with
      slots := s.bureau.slots.map (fun e' => (e'.1, e'.2.note e.code (unit % 4096))) } }

/-- Raises an event of the only instance of its register, for a unit. -/
def State.raise (s : State) (e : EvSpec) (unit : Nat) : State := s.raiseAt e 0 unit []

/-- Raises an event whose register has one instance per unit. -/
def State.raiseOf (s : State) (e : EvSpec) (unit : Nat) : State := s.raiseAt e unit unit []

/-- Raises an event that is raised at most once per epoch for a key that the caller names. -/
def State.raiseOnce (s : State) (e : EvSpec) (n unit key : Nat) (data : List Nat) : State :=
  if s.epoch.raised.contains (e.code, key) then s
  else
    let s := s.raiseAt e n unit data
    { s with epoch := { s.epoch with raised := s.epoch.raised ++ [(e.code, key)] } }

/-! ### The life cycle (R33 to R37) -/

/-- The life-cycle states. -/
inductive Life
  | off | starting | on | stopping
  deriving DecidableEq, Repr

/-- The state that the life-cycle bits of a status register show (R37). -/
def lifeOf (lc : Nat) : Life :=
  match lc % 4 with
  | 0 => .off
  | 1 => .starting
  | 2 => .on
  | _ => .stopping

/-- The code of a life-cycle state. -/
def Life.code : Life → Nat
  | .off => 0
  | .starting => 1
  | .on => 2
  | .stopping => 3

/-- The pending request that the life-cycle bits show. -/
def pendingOf (lc : Nat) : Option Bool := if lc.testBit 2 then some (lc.testBit 3) else none

/-- Life-cycle bits of a state and a pending request. -/
def lifeBits (l : Life) (p : Option Bool) : Nat :=
  l.code + match p with
    | none => 0
    | some b => 4 + 8 * ofFlag b

/-- A request for a function (R33, R34): the life-cycle bits after an enable or disable request. -/
def lifeRequest (lc : Nat) (enable : Bool) : Nat :=
  match lifeOf lc, enable with
  | .off, true => lifeBits .starting none
  | .off, false => lc
  | .starting, e => lifeBits .starting (some e)
  | .on, true => lc
  | .on, false => lifeBits .stopping none
  | .stopping, e => lifeBits .stopping (some e)

/-- The end of a transition (R33, R34): the function reaches `l`, and a pending request is applied to it. -/
def lifeArrive (lc : Nat) (l : Life) : Nat :=
  match pendingOf lc with
  | none => lifeBits l none
  | some e => lifeRequest (lifeBits l none) e

/-- The end of a Starting that fails: the function goes to Stopping, and a pending request stays recorded. -/
def lifeFail (lc : Nat) : Nat := lifeBits .stopping (pendingOf lc)

/-- The life-cycle state of a function. -/
def State.life (s : State) (f : Fld) (n : Nat) : Life := lifeOf (s.fld f n)

/-- Whether the device's own disable of a function is pending (R35). -/
def State.forcedOff (s : State) (f : Fld) (n : Nat) : Bool :=
  s.forced.contains (f.reg.addr n) && decide (pendingOf (s.fld f n) = some false)

/-- A software request for a function; an enable is ignored while the device's own disable is pending (R35). -/
def State.lifeAsk (s : State) (f : Fld) (n : Nat) (enable : Bool) : State :=
  if enable && s.forcedOff f n then s else s.setFld f n (lifeRequest (s.fld f n) enable)

/-- The device's own disable of a function (R35): it replaces a pending software request. -/
def State.lifeForce (s : State) (f : Fld) (n : Nat) : State :=
  let s := s.lifeAsk f n false
  if (pendingOf (s.fld f n)).isSome && !s.forced.contains (f.reg.addr n) then
    { s with forced := s.forced ++ [f.reg.addr n] }
  else s

/-- The end of a transition of a function in state `l`; a device disable that was pending is then applied. -/
def State.lifeEnd (s : State) (f : Fld) (n : Nat) (l : Life) : State :=
  let s := s.setFld f n (lifeArrive (s.fld f n) l)
  { s with forced := s.forced.filter (fun a => a != f.reg.addr n) }

end Sys2Proof.Machine
end

