-- ==== Sys2Proof/Machine/PortBase.lean ====
section
/-! DEFINITION. What every family reads of lanes and logical ports: their records, forms, rates, places and counters
(chapters 04 and 05). -/

namespace Sys2Proof.Machine

/-! ### Records -/

/-- Changes what IS39 holds of power. -/
def State.updPower (s : State) (f : Power → Power) : State := { s with power := f s.power }

/-- Changes what the pair unit holds. -/
def State.updPair (s : State) (f : Pair → Pair) : State := { s with pair := f s.pair }

/-- The pair role (R411): 0 INIT, 1 ACTIVE, 2 SYNCING, 3 STANDBY, 4 FENCED. -/
def State.role (s : State) : Nat := s.fld R.PAIR_STAT_ROLE 0

/-- Acts unless the device is frozen (R488), or holds itself in reset after a supply fault (R466). -/
def State.awake (s : State) (f : State → State) : State := if s.power.frozen.isSome || s.power.supplyFault then s else f s

/-- Acts unless the device is frozen, or a trip has stopped the core clock (R485). -/
def State.clocked (s : State) (f : State → State) : State :=
  s.awake (fun s => if s.flag R.PWR_STAT_TRIPPED 0 then s else f s)

/-- A change that the active device notes for the table change list (R422). -/
def State.noteChange (s : State) (c : TableChange) : State :=
  if s.role = 1 then s.updPair (fun q => { q with changes := q.changes ++ [c] }) else s

/-- What lane `n` holds beside its registers. -/
def State.lane (s : State) (n : Nat) : Lane := SMap.get Lane.reset s.lanes n

/-- Changes what lane `n` holds. -/
def State.updLane (s : State) (n : Nat) (f : Lane → Lane) : State :=
  { s with lanes := SMap.upd Lane.reset s.lanes n f }

/-- What port `p` holds beside its registers. -/
def State.port (s : State) (p : Nat) : Port := SMap.get Port.reset s.ports p

/-- Changes what port `p` holds. -/
def State.updPort (s : State) (p : Nat) (f : Port → Port) : State :=
  { s with ports := SMap.upd Port.reset s.ports p f }

/-! ### Counters (R181, R182) -/

/-- R182: counter `i` of port `p` was `old`; where its bit 47 is now 1 and was 0, its HALF bit is set with the event. -/
def State.halfReached (s : State) (old p i : Nat) : State :=
  if !old.testBit 47 && (s.fld R.PORT_CTR_COUNT (p * 64 + i)).testBit 47 then
    let s := s.setFld R.PORT_CTR_HALF_HALF p (s.fld R.PORT_CTR_HALF_HALF p ||| 1 <<< i)
    s.raiseAt EV_PORT_CTR_HALF p p [i]
  else s

/-- Counter `i` of port `p` advances by `k`; a change of its bit 47 from 0 to 1 is a half-range crossing. -/
def State.portCount (s : State) (p i k : Nat) : State :=
  (s.bump R.PORT_CTR_COUNT (p * 64 + i) k).halfReached (s.fld R.PORT_CTR_COUNT (p * 64 + i)) p i

/-- The size bucket of a frame of `n` octets, FCS included (R181). -/
def sizeBucket (n : Nat) : Nat :=
  if n ≤ 64 then 0 else if n ≤ 127 then 1 else if n ≤ 255 then 2 else if n ≤ 511 then 3 else if n ≤ 1023 then 4
  else if n ≤ 1518 then 5 else if n ≤ 2047 then 6 else if n ≤ 4095 then 7 else if n ≤ 9216 then 8 else 9

/-- 0 unicast, 1 multicast, 2 broadcast: the kind of a destination address. -/
def addressKind (bs : List Byte) : Nat :=
  if (bs.take 6).all (fun b => b == 0xFF) then 2 else if ((bs.getD 0 0).toNat).testBit 0 then 1 else 0

/-! ### Form, class and rate (R119, R154) -/

/-- The life-cycle state of port `p`. -/
def State.portLife (s : State) (p : Nat) : Life := s.life R.PORT_STAT_LC p

/-- MODE of PORT_STAT: 0 Ethernet, 1 STF, 2 packet channel. -/
def State.portMode (s : State) (p : Nat) : Nat := s.fld R.PORT_STAT_MODE p

/-- Whether a port is a packet channel (P512 to P1023). -/
def isChannel (p : Nat) : Bool := decide (512 ≤ p)

/-- The number of lanes of a formed port. -/
def State.portLanes (s : State) (p : Nat) : Nat := 2 ^ s.fld R.PORT_STAT_LANES p

/-- The first lane of a formed port. -/
def State.firstLane (s : State) (p : Nat) : Nat := s.fld R.PORT_STAT_FIRST_LANE p

/-- The lanes of a formed port, in order. -/
def State.lanesOf (s : State) (p : Nat) : List Nat :=
  (List.range (s.portLanes p)).map (fun i => s.firstLane p + i)

/-- The lane at which a port lies (R514). -/
def State.place (s : State) (p : Nat) : Nat := (s.port p).place.getD (p % 512)

/-- The pipeline of a port (R154, R514). -/
def State.pipeOf (s : State) (p : Nat) : Nat := s.place p / 64

/-- The home cell quadrant of a port's pipeline (R318). -/
def State.quadrantOf (s : State) (p : Nat) : Nat := s.pipeOf p / 2

/-- Speed in Gbit/s by the SPEED code of PORT.UP. -/
def speedGbps (code : Nat) : Nat := 100 * 2 ^ code

/-- The class of a port form's lanes (R119): 1 Class-224, 2 Class-112 Ethernet, 3 Class-112 STF. -/
def laneClass (mode speed lanes : Nat) : Nat :=
  if mode = 1 then 3 else if 2 ^ speed = 2 * 2 ^ lanes then 1 else 2

/-- Whether a combination of mode, speed, lane count code and FEC stands in the table of R119. -/
def formListed (mode speed lanes fec : Nat) : Bool :=
  if mode = 1 then speed == 0 && fec == 0
  else
    mode == 0 && decide (fec ≤ 1) &&
      ((speed == lanes && decide (speed ≤ 3)) || (speed == lanes + 1 && fec == 1 && decide (speed ≤ 4)))

/-- Bits that a lane of a class carries in one epoch of 125 µs; 0 for a lane without a class. -/
def laneEpochBits (cls : Nat) : Nat :=
  if cls = 1 then 26562500 else if cls = 2 then 13281250 else if cls = 3 then 13200000 else 0

/-- The transmit width of a port as a code: 0 one lane to 3 eight. -/
def State.txWidth (s : State) (p : Nat) : Nat := s.fld R.LANE_STAT_WIDTH (s.firstLane p)

/-- The ports that are not Off, in rising order: an unlisted PORT_STAT is that of a port that is Off. -/
def State.livePorts (s : State) : List Nat :=
  s.regs.filterMap (fun e =>
    match R.PORT_STAT.instanceAt e.1 with
    | some p => if e.1 = R.PORT_STAT.addr p && lifeOf (bits e.2.toNat 3 0) != Life.off then some p else none
    | none => none)

/-- The port that a lane belongs to, while that port is not Off. -/
def State.portOfLane (s : State) (n : Nat) : Option Nat := (s.lane n).port

/-! ### Reserved paths (R145, R158, R171) -/

/-- Whether a declared reserved flow enters or leaves at a port. -/
def State.portReserved (s : State) (p : Nat) : Bool := s.flows.any (fun e => e.2.inPort == p || e.2.outPort == p)

/-- The in-port and out-port that the first extra word of a RSV.DECL names (R68). -/
def rsvPorts (w0 : Word64) : Nat × Nat := (bits w0.toNat 63 54, bits w0.toNat 53 44)

/-- Whether a staged reserved flow enters or leaves at a port (R145). -/
def State.portStagedReserved (s : State) (p : Nat) : Bool :=
  s.bureau.commits.any (fun c => c.items.any (fun i =>
    match i with
    | .rsvDecl _ _ _ false w0 _ => (rsvPorts w0).1 == p || (rsvPorts w0).2 == p
    | _ => false))

/-- Whether a declared reserved flow names a queue (R360). -/
def State.queueReserved (s : State) (q : Nat) : Bool := s.flows.any (fun e => e.2.queue == q)

/-! ### Link state (R159) -/

/-- The asserted priorities for which a port sends PFC frames (R172). -/
def State.pfcAsserted (s : State) (p : Nat) : Nat := s.fld R.PORT_PFC_STAT_XOFF_SENT p &&& s.fld R.PORT_PFC_TX_EN p

/-- Stores LINK_UP. A change raises EV_PORT_LINK; a link that comes up with a priority asserted owes a PFC frame, and a link
that goes down stops the resend timer and drops a frame that fell due (R172). -/
def State.setLinkUp (s : State) (p : Nat) (up : Bool) : State :=
  if s.flag R.PORT_STAT_LINK_UP p == up then s
  else
    let s := s.setFlag R.PORT_STAT_LINK_UP p up
    let s := s.raiseOf EV_PORT_LINK p
    s.updPort p (fun r => { r with
      pfcDue := up && s.pfcAsserted p != 0
      resend := false })

/-- The lanes on which the partner sends: the first ones of the port, by its current width. -/
def State.rxLanes (s : State) (p : Nat) : List Nat := (s.lanesOf p).take (2 ^ (s.port p).rxWidth)

/-- Whether LINK_UP of a port that lanes form is 1 by the conditions of R159. An STF lane has alignment lock in SYNC. -/
def State.lanesLinked (s : State) (p : Nat) : Bool :=
  let aligned := fun n =>
    if s.portMode p = 1 then s.fld R.STF_STAT_ALIGN n == 2 else s.flag R.LANE_STAT_AM_LOCK n
  (s.portLife p == Life.on || s.portLife p == Life.stopping) && (s.rxLanes p).all aligned &&
    (s.portMode p == 1 || (s.port p).deskewed) &&
    !s.flag R.PORT_STAT_LOCAL_FAULT p && !s.flag R.PORT_STAT_REMOTE_FAULT p

/-- Whether the reconciliation sublayer of an Ethernet port sends the fault sequence (R159): while LINK_UP is 0, but for a partner that
itself reports a remote fault over aligned and deskewed lanes, which is answered with idle. -/
def State.sendsFault (s : State) (p : Nat) : Bool :=
  s.portMode p == 0 && (s.portLife p == Life.on || s.portLife p == Life.stopping) && !s.flag R.PORT_STAT_LINK_UP p &&
    !(s.flag R.PORT_STAT_REMOTE_FAULT p && !s.flag R.PORT_STAT_LOCAL_FAULT p && (s.port p).deskewed &&
      (s.rxLanes p).all (fun n => s.flag R.LANE_STAT_AM_LOCK n))

/-- The ordered set of the fault sequence: block type 0x4B, D1 to D3 of Remote Fault, O code 0. -/
def faultBlock : Word64 := 0x0200004B

/-- Brings the fault sequence of a port up to date; its first ordered set goes out as it begins. -/
def State.signalFault (s : State) (p : Nat) : State :=
  let on := s.sendsFault p
  if (s.port p).faulting == on then s
  else
    let s := s.updPort p (fun q => { q with faulting := on })
    if on then s.emit (.pcsBlock p 2 faultBlock) else s

/-- Brings LINK_UP of a port that lanes form up to date, with the fault sequence. -/
def State.relink (s : State) (p : Nat) : State := (s.setLinkUp p (s.lanesLinked p)).signalFault p

end Sys2Proof.Machine
end

