-- ==== Sys2Proof/Machine/Cells.lean ====
section
/-! DEFINITION. The cell buffer and the Cupboard (chapter 10): cells and chains, allocation and release, quarantine and
scrubbing, the pools and the admission of copies, XOFF. -/

namespace Sys2Proof.Machine

/-! ### Free cells in order (R322, R323) -/

/-- The number of cells in a list of runs. -/
def runsLen (r : List (Nat × Nat)) : Nat := r.foldl (fun n e => n + e.2) 0

/-- The first `n` cells of a list of runs, and the rest. -/
def runsTake : Nat → List (Nat × Nat) → List (Nat × Nat) × List (Nat × Nat)
  | _, [] => ([], [])
  | n, (c, k) :: m =>
    if n = 0 then ([], (c, k) :: m)
    else if k ≤ n then
      let r := runsTake (n - k) m
      ((c, k) :: r.1, r.2)
    else ([(c, n)], (c + n, k - n) :: m)

/-- A list of runs with one more cell at its end. -/
def runsPush (c : Nat) : List (Nat × Nat) → List (Nat × Nat)
  | [] => [(c, 1)]
  | [(a, k)] => if a + k = c then [(a, k + 1)] else [(a, k), (c, 1)]
  | r :: m => r :: runsPush c m

/-- Whether a list of runs holds a cell. -/
def runsMem (c : Nat) (r : List (Nat × Nat)) : Bool := r.any (fun e => decide (e.1 ≤ c) && decide (c < e.1 + e.2))

/-- The number of cells. -/
def cellTotal : Nat := 655360

/-- The number of cells of a quadrant (R318). -/
def quadrantCells : Nat := 163840

/-- The Cupboard of quadrant `q`. -/
def State.cupboard (s : State) (q : Nat) : Cupboard := SMap.get Cupboard.bare s.cupboards q

/-- Stores the Cupboard of quadrant `q`. -/
def State.setCupboard (s : State) (q : Nat) (c : Cupboard) : State :=
  { s with cupboards := SMap.set Cupboard.bare s.cupboards q c }

/-- FREE of R324: the cells in the caches and sections. -/
def State.freeCells (s : State) : Nat :=
  (List.range 4).foldl (fun n q => n + runsLen (s.cupboard q).cache + runsLen (s.cupboard q).ring) 0

/-- The index of the largest of four numbers, the lower index on a tie. -/
def largestOf (f : Nat → Nat) : Nat := (List.range 4).foldl (fun b i => if f b < f i then i else b) 0

/-- A buffer counter advances (R345). -/
def State.cellCount (s : State) (i k : Nat) : State := s.bump R.CELL_CTR_COUNT i k

/-- One block arrives in the cache of quadrant `q` (R323): up to 128 entries of its own section, else of the section that
holds most, else of the cache that holds most. -/
def State.refill (s : State) (q : Nat) : State :=
  let own := s.cupboard q
  if runsLen own.ring != 0 then
    let r := runsTake 128 own.ring
    s.setCupboard q { cache := own.cache ++ r.1, ring := r.2 }
  else
    let v := largestOf (fun i => runsLen (s.cupboard i).ring)
    let from' := s.cupboard v
    if runsLen from'.ring != 0 then
      let r := runsTake 128 from'.ring
      ((s.setCupboard v { from' with ring := r.2 }).setCupboard q { own with cache := own.cache ++ r.1 }).cellCount 11 1
    else
      let w := largestOf (fun i => if i = q then 0 else runsLen (s.cupboard i).cache)
      let other := s.cupboard w
      if w = q || runsLen other.cache = 0 then s
      else
        let r := runsTake 128 other.cache
        ((s.setCupboard w { other with cache := r.2 }).setCupboard q { own with cache := own.cache ++ r.1 }).cellCount 11 1

/-- CUPBOARD_REFILL (R323): the block that a cache with fewer than 256 entries asked for arrives. -/
def State.cupboardRefill (s : State) (q : Nat) : State :=
  if runsLen (s.cupboard q).cache < 256 then s.refill q else s

/-- The free-cell warning after an allocation or a release, and the lowest FREE (R324). -/
def State.watchFree (s : State) : State :=
  let free := s.freeCells
  let s := { s with minFree := min s.minFree free }
  let mark := s.fld R.CELL_CFG_LOW_MARK 0
  if s.cellLow then { s with cellLow := decide (free ≤ mark + 8192) }
  else if free < mark then { s.raise EV_CELL_LOW 0 with cellLow := true }
  else s

/-- Cell `c`. -/
def State.cell (s : State) (c : Nat) : Cell := SMap.get Cell.empty s.cells c

/-- Stores cell `c`. -/
def State.setCell (s : State) (c : Nat) (v : Cell) : State := { s with cells := SMap.set Cell.empty s.cells c v }

/-- A cell allocated from the cache of quadrant `q`, which waits for a block where it is empty (R318, R323). -/
def State.takeCell (s : State) (q : Nat) : Option (Nat × State) :=
  let s := if runsLen (s.cupboard q).cache = 0 then s.refill q else s
  match runsTake 1 (s.cupboard q).cache with
  | ((c, _) :: _, rest) => some (c, (s.setCupboard q { s.cupboard q with cache := rest }).watchFree)
  | ([], _) => none

/-- Writes a block of a frame into a new cell with `h` holders and links it behind `prev` (R319, R320, R326). -/
def State.writeCell (s : State) (q h : Nat) (prev : Option Nat) (data : List Byte) : Option (Nat × State) :=
  match s.takeCell q with
  | none => none
  | some (c, s) =>
    let s := s.setCell c { refcnt := h, gen := ((s.cell c).gen + 1) % 16, next := 0xFFFFF, data := data, marked := false, lost := false }
    let s := s.cellCount 0 1
    let s := match prev with
      | none => s
      | some p => s.setCell p { s.cell p with next := c }
    some (c, s)

/-- The blocks of 256 bytes that a frame fills (R320); `n` bounds their number. -/
def blocksOf : Nat → List Byte → List (List Byte)
  | 0, _ => []
  | n + 1, bs => if bs.isEmpty then [] else bs.take 256 :: blocksOf n (bs.drop 256)

/-- Writes blocks one after another; what has been written is in the second part, in order, where the buffer runs out. -/
def State.writeCells (q h : Nat) : Option Nat → List (List Byte) → List Nat → State → Bool × List Nat × State
  | _, [], done, s => (true, done, s)
  | prev, b :: bs, done, s =>
    match s.writeCell q h prev b with
    | none => (false, done, s)
    | some (c, s) => State.writeCells q h (some c) bs (done ++ [c]) s

/-- The home quadrant of a cell (R318). -/
def cellQuadrant (c : Nat) : Nat := c / quadrantCells

/-- A cell returns to the cache of its own quadrant; a cache above 768 entries spills a block of 128 (R323). -/
def State.giveCell (s : State) (c : Nat) : State :=
  let q := cellQuadrant c
  let u := s.cupboard q
  let cache := runsPush c u.cache
  let u := if runsLen cache ≤ 768 then { u with cache := cache }
    else { cache := (runsTake 128 cache).2, ring := u.ring ++ (runsTake 128 cache).1 }
  ((s.setCupboard q u).cellCount 1 1).watchFree

/-- A rising list with one more element. -/
def insertRising (c : Nat) : List Nat → List Nat
  | [] => [c]
  | d :: m => if c = d then d :: m else if c < d then c :: d :: m else d :: insertRising c m

/-- A cell enters quarantine, unless it lies there (R334). -/
def State.quarantineCell (s : State) (c : Nat) : State :=
  if s.quarantine.contains c then s
  else
    let s := { s with quarantine := insertRising c s.quarantine }
    let s := (s.setFld R.CELL_QUAR_COUNT 0 s.quarantine.length).cellCount 8 1
    s.raiseAt EV_CELL_QUAR 0 0 [c]

/-- What a read of a cell's link entry meets (R321, R333): whether the entry was read. One that both copies have lost stays lost. -/
def State.readLink (s : State) (c : Nat) (fault : Option CellFault) : Bool × State :=
  if (s.cell c).lost then (false, s)
  else
    match fault with
    | some .linkCorrected => (true, s.cellCount 6 1)
    | some .linkLost =>
      let s := (s.cellCount 7 1).raiseAt EV_CELL_LINK_LOST 0 0 [c]
      (false, (s.setCell c { s.cell c with refcnt := 0, marked := false, lost := true }).quarantineCell c)
    | _ => (true, s)

/-- What a copy's read of a cell and its link entry meets (R321, R332, R333): whether the copy goes on. A cell with data that an earlier
read found uncorrectable fails every later read. -/
def State.readCell (s : State) (c : Nat) (fault : Option CellFault) : Bool × State :=
  let r := s.readLink c fault
  let sound := r.1 && !(r.2.cell c).marked
  match fault with
  | some .dataCorrected => (sound, r.2.cellCount 4 1)
  | some .dataLost =>
    if (r.2.cell c).lost then (false, r.2)
    else (false, (r.2.cellCount 5 1).setCell c { r.2.cell c with marked := true })
  | _ => (sound, r.2)

/-- One release of a cell under a generation (R327, R330): whether it passed. -/
def State.releaseCell (s : State) (c g : Nat) : Bool × State :=
  let e := s.cell c
  if e.gen != g then (false, (s.cellCount 2 1).raiseOnce EV_CELL_FOREIGN 0 0 0 [c, g, e.gen])
  else if e.refcnt = 0 then (false, (s.cellCount 3 1).raiseOnce EV_CELL_DFREE 0 0 0 [c, g, e.gen])
  else
    let s := s.setCell c { e with refcnt := e.refcnt - 1 }
    if e.refcnt != 1 then (true, s)
    else if e.marked then (true, (s.setCell c { e with refcnt := 0, marked := false }).quarantineCell c)
    else (true, s.giveCell c)

/-! ### Queues and what copies charge (R339, R340) -/

/-- Queue `q`. -/
def State.queue (s : State) (q : Nat) : Queue := SMap.get (Queue.reset q) s.queues q

/-- Changes queue `q`. -/
def State.updQueue (s : State) (q : Nat) (f : Queue → Queue) : State :=
  { s with queues := SMap.set (Queue.reset q) s.queues q (f (s.queue q)) }

/-- The queues of a port, in ascending number (R354). -/
def State.queuesOf (s : State) (p : Nat) : List Nat :=
  let keys := s.queues.map (fun e => e.1)
  let all := keys.filter (fun q => decide (q < 8 * p)) ++ (List.range 8).map (fun k => 8 * p + k) ++
    keys.filter (fun q => decide (8 * p + 8 ≤ q))
  all.filter (fun q => (s.queue q).port == some p)

/-- Whether a port number is that of a logical port; frames of the host carry 1,024. -/
def isPort (p : Nat) : Bool := decide (p < 1024)

/-- HR(p, k) of R339. -/
def State.headroomUsed (s : State) (p k : Nat) : Nat :=
  bits (s.fld R.CELL_PORT_HR_HR (2 * p + k / 4)) (16 * (k % 4) + 15) (16 * (k % 4))

/-- Stores HR(p, k). -/
def State.setHeadroom (s : State) (p k v : Nat) : State :=
  let i := 2 * p + k / 4
  s.setFld R.CELL_PORT_HR_HR i (withBits (s.fld R.CELL_PORT_HR_HR i) (16 * (k % 4) + 15) (16 * (k % 4)) v)

/-- IC(p, k) of R340. -/
def State.ingressCharged (s : State) (p k : Nat) : Nat := SMap.get 0 s.ingressCells (8 * p + k)

/-- The headroom rule after a change of a priority's charges (R340); a frame falls due where the port sends PFC for the priority (R172). -/
def State.xoffCheck (s : State) (p k : Nat) : State :=
  if !isPort p then s
  else
    let on := (s.fld R.PORT_PFC_STAT_XOFF_SENT p).testBit k
    let ic := s.ingressCharged p k
    let hr := s.headroomUsed p k
    let limit := s.fld R.CELL_PORT_PFC_XOFF_CELLS p
    let now :=
      if decide (limit ≤ ic) || decide (0 < hr) then true
      else if decide (ic + s.fld R.CELL_PORT_PFC_HYST p ≤ limit) then false
      else on
    if now == on then s
    else
      let s := s.setFld R.PORT_PFC_STAT_XOFF_SENT p
        (withBits (s.fld R.PORT_PFC_STAT_XOFF_SENT p) k k (ofFlag now))
      if s.flag R.PORT_STAT_LINK_UP p && (s.fld R.PORT_PFC_TX_EN p).testBit k then s.updPort p (fun r => { r with pfcDue := true }) else s

/-- `k` cells charged to a copy's pool, queue and ingress priority. -/
def State.charge (s : State) (c : Copy) (k : Nat) : State :=
  let s := s.updQueue c.queue (fun q => { q with charged := q.charged + k })
  let s := match c.pool with
    | .minimum => s
    | .shared => s.setFld R.CELL_POOL_SHARED_USED 0 (s.fld R.CELL_POOL_SHARED_USED 0 + k)
    | .headroom => s.setHeadroom c.info.inPort c.pri (s.headroomUsed c.info.inPort c.pri + k)
  if isPort c.info.inPort then
    ({ s with ingressCells := SMap.upd 0 s.ingressCells (8 * c.info.inPort + c.pri) (fun n => n + k) }).xoffCheck
      c.info.inPort c.pri
  else s

/-- The charge of `k` cells of a copy removed. -/
def State.uncharge (s : State) (c : Copy) (k : Nat) : State :=
  let s := s.updQueue c.queue (fun q => { q with charged := q.charged - k })
  let s := match c.pool with
    | .minimum => s
    | .shared => s.setFld R.CELL_POOL_SHARED_USED 0 (s.fld R.CELL_POOL_SHARED_USED 0 - k)
    | .headroom => s.setHeadroom c.info.inPort c.pri (s.headroomUsed c.info.inPort c.pri - k)
  if isPort c.info.inPort then
    ({ s with ingressCells := SMap.upd 0 s.ingressCells (8 * c.info.inPort + c.pri) (fun n => n - k) }).xoffCheck
      c.info.inPort c.pri
  else s

/-- A walk of a copy's chain from a cell, at most `n` cells (R327, R331). `whole` says that `n` is all that the descriptor
counts, so that a chain that goes on is a fault of the chain. -/
def State.walk (copy : Copy) (whole : Bool) : Nat → Nat → Nat → State → State
  | 0, _, _, s => if whole then s.cellCount 3 1 else s
  | n + 1, c, g, s =>
    let next := (s.cell c).next
    let r := s.releaseCell c g
    if (s.cell c).lost then s
    else if !r.1 then r.2
    else
      let s := r.2.uncharge copy 1
      if next = 0xFFFFF then s else State.walk copy whole n next (s.cell next).gen s

/-- A copy of a frame that is still arriving gives up the cells to come (R175). -/
def State.giveUp (s : State) (c : Copy) : State :=
  if c.frame.isNone then s
  else s.updPort c.info.inPort (fun p => { p with arriving := p.arriving.map (fun a => { a with gone := a.gone + 1 }) })

/-- A copy that has sent nothing gives up all its cells. -/
def State.dropCopy (s : State) (c : Copy) : State :=
  (if c.cells = 0 then s else State.walk c c.frame.isNone c.cells c.head c.gen s).giveUp c

/-! ### Pools (R336, R338) -/

/-- ΣMIN: MIN_CELLS of the profiles of the queues of every port that is not Off. -/
def State.sumMinimum (s : State) : Nat :=
  s.livePorts.foldl (fun n p => (s.queuesOf p).foldl (fun n q => n + s.fld R.CELL_PROFILE_MIN_CELLS (s.queue q).profile) n) 0

/-- ΣHR: HEADROOM for every lossless priority of every port that is not Off. -/
def State.sumHeadroom (s : State) : Nat :=
  s.livePorts.foldl (fun n p => n + s.fld R.CELL_PORT_PFC_HEADROOM p * popCount 8 (s.fld R.PORT_PFC_TX_EN p)) 0

/-- SP, the size of the shared pool. -/
def State.sharedSize (s : State) : Nat := cellTotal - s.sumMinimum - s.sumHeadroom - s.quarantine.length

/-- F, the free shared space. -/
def State.sharedFree (s : State) : Nat := s.sharedSize - s.fld R.CELL_POOL_SHARED_USED 0

/-- What R339 decides of a copy: its pool, or the counter of its discard. -/
inductive Admit
  | pool (p : Pool)
  | drop (counter : Nat)
  deriving DecidableEq, Repr

/-- The admission test of R339 for a copy of `n` cells on queue `q`, of a colour, from a port; mirror copies have no
headroom step. -/
def State.admitCopy (s : State) (q n colour inPort : Nat) (mirror : Bool) : Admit :=
  let u := s.queue q
  let least := s.fld R.CELL_PROFILE_MIN_CELLS u.profile
  let f := s.sharedFree
  let t := f * 2 ^ s.fld R.CELL_PROFILE_ALPHA u.profile / 128
  let tc := if colour = 0 then t else if colour = 1 then t * s.fld R.CELL_PROFILE_YEL_16 u.profile / 16
    else t * s.fld R.CELL_PROFILE_RED_16 u.profile / 16
  let cap := s.fld R.CELL_PROFILE_MAX_CELLS u.profile
  let lossless := !mirror && isPort inPort && (s.fld R.PORT_PFC_TX_EN inPort).testBit u.pfcPri
  if colour != 2 && decide (u.charged + n ≤ least) then .pool .minimum
  else if decide (u.charged - least + n ≤ tc) && decide (n ≤ f) && (cap == 0 || decide (u.charged + n ≤ cap)) then
    .pool .shared
  else if lossless then
    if s.headroomUsed inPort u.pfcPri + n ≤ s.fld R.CELL_PORT_PFC_HEADROOM inPort then .pool .headroom else .drop 18
  else .drop (15 + min colour 2)

/-- The counter of an admission (R345). -/
def Admit.counter : Admit → Nat
  | .pool .minimum => 12
  | .pool .shared => 13
  | .pool .headroom => 14
  | .drop i => i

/-! ### Groups (R341) -/

/-- The member ports of a multicast group. -/
def State.members (s : State) (g : Nat) : List Nat :=
  (List.range 16).flatMap (fun w => (onesOf 64 (s.fld R.CELL_MCAST_MAP_PORTS (16 * g + w))).map (fun b => 64 * w + b))

/-! ### Scrubbing (R335) -/

/-- A scrubbed cell that read back clean returns to the Cupboard; another stays. -/
def State.scrubCell (failed : List Nat) (s : State) (c : Nat) : State :=
  let s := s.setCell c { refcnt := 0, gen := (s.cell c).gen, next := 0xFFFFF, data := [], marked := false, lost := false }
  if failed.contains c then s.cellCount 10 1
  else
    let s := { s with quarantine := s.quarantine.filter (fun d => d != c) }
    ((s.setFld R.CELL_QUAR_COUNT 0 s.quarantine.length).cellCount 9 1).giveCell c

/-- The oldest scrub request ends; `failed` are the cells that did not read back clean. -/
def State.scrubEnd (s : State) (failed : List Nat) : State :=
  match s.scrub with
  | [] => s
  | i :: rest =>
    let s := { s with scrub := rest }
    let named := if i = 0xFFFFF then s.quarantine else s.quarantine.filter (fun c => c == i)
    let result := if i != 0xFFFFF && named.isEmpty then 3 else if named.any (fun c => failed.contains c) then 2 else 1
    ((named.foldl (State.scrubCell failed) s).setFld R.CELL_QUAR_LAST_SCRUB 0 result).raise EV_CELL_SCRUB 0

/-- CUPBOARD_REFILL. -/
def execCupboardRefill (quadrant : Fin 4) (s : State) : Host.Outcome State Fault Refusal :=
  .next (s.clocked (fun s => s.cupboardRefill quadrant.val))

/-- CELL_SCRUB_END. -/
def execCellScrubEnd (failed : List Nat) (s : State) : Host.Outcome State Fault Refusal :=
  .next (s.clocked (fun s => s.scrubEnd failed))

end Sys2Proof.Machine
end

