-- ==== Sys2Proof/Machine/Traffic.lean ====
section
/-! DEFINITION. Meters, queues, shapers and the port scheduler (chapter 11). -/

namespace Sys2Proof.Machine

/-! ### Meters (R347 to R351) -/

/-- Meter `m`. -/
def State.meter (s : State) (m : Nat) : Meter := SMap.get Meter.reset s.meters m

/-- Stores meter `m`. -/
def State.setMeter (s : State) (m : Nat) (v : Meter) : State := { s with meters := SMap.set Meter.reset s.meters m v }

/-- The amount, in 2^-16 byte, that a rate in units of 1/`d` byte for each nanosecond brings from time `t` to time `u`: over
any interval it differs from rate × time by less than one byte (R350). -/
def fillAmount (rate d t u : Nat) : Nat := rate * 65536 * u / d - rate * 65536 * t / d

/-- CIR, or the single rate, of a meter in kbit/s. -/
def Meter.cir (m : Meter) : Nat := bits m.w0.toNat 63 32
/-- PIR of a two-rate meter in kbit/s. -/
def Meter.pir (m : Meter) : Nat := bits m.w0.toNat 31 0
/-- CBS in bytes. -/
def Meter.cbs (m : Meter) : Nat := bits m.w1.toNat 63 32
/-- PBS or EBS in bytes. -/
def Meter.pbs (m : Meter) : Nat := bits m.w1.toNat 31 0

/-- The rate that a reserved flow of the meter may send, in kbit/s (R365). -/
def Meter.rate (m : Meter) : Nat := if m.alg = 1 then m.pir else if m.alg = 2 then m.cir else 0

/-- The burst that the meter lets through, in bytes (R365). -/
def Meter.burst (m : Meter) : Nat := if m.alg = 1 then m.pbs else if m.alg = 2 then m.cbs + m.pbs else 0

/-- The buckets filled up to time `now` (R350; RFC 2698 and RFC 2697). -/
def Meter.fill (m : Meter) (now : Nat) : Meter :=
  let t := min m.since now
  let a := fillAmount m.cir 8000000 t now
  if m.alg = 1 then
    { m with
      tc := min (m.tc + a) (m.cbs * 65536)
      te := min (m.te + fillAmount m.pir 8000000 t now) (m.pbs * 65536)
      since := now }
  else
    let full := m.tc + a
    { m with
      tc := min full (m.cbs * 65536)
      te := min (m.te + (full - m.cbs * 65536)) (m.pbs * 65536)
      since := now }

/-- The colour of a frame of `len` bytes and pre-colour `pre`, and the meter after it (R349). -/
def Meter.colour (m : Meter) (len pre now : Nat) : Nat × Meter :=
  if m.alg = 0 then (0, m)
  else
    let m := m.fill now
    let b := len * 65536
    let pre := if m.aware then pre else 0
    let r : Nat × Meter :=
      if m.alg = 1 then
        if pre = 2 || m.te < b then (2, m)
        else if pre = 1 || m.tc < b then (1, { m with te := m.te - b })
        else (0, { m with tc := m.tc - b, te := m.te - b })
      else if pre = 0 && decide (b ≤ m.tc) then (0, { m with tc := m.tc - b })
      else if pre ≤ 1 && decide (b ≤ m.te) then (1, { m with te := m.te - b })
      else (2, m)
    (r.1, { r.2 with
      counts := (r.2.counts.set (2 * r.1) ((r.2.counts.getD (2 * r.1) 0 + 1) % 2 ^ 48)).set (2 * r.1 + 1)
        ((r.2.counts.getD (2 * r.1 + 1) 0 + len) % 2 ^ 48) })

/-- A METER.CFG at its edge (R351): a change of anything but the rates sets the buckets full. -/
def State.applyMeter (s : State) (m alg : Nat) (aware : Bool) (w0 w1 : Word64) : State :=
  let old := s.meter m
  let keep := old.alg = alg && old.aware == aware && old.w1 == w1
  let new : Meter := { old with alg := alg, aware := aware, w0 := w0, w1 := w1 }
  s.setMeter m (if keep then new
    else { new with tc := new.cbs * 65536, te := new.pbs * 65536, since := s.tbFreeNs 0 })

/-! ### Shapers (R359) -/

/-- The bucket refilled up to `now` at `rate` Mbit/s, to at most `burst` bytes. -/
def Bucket.fill (b : Bucket) (rate burst now : Nat) : Bucket :=
  { level := min (b.level + (fillAmount rate 8000 (min b.since now) now : Nat)) ((burst * 65536 : Nat) : Int), since := now }

/-- A full bucket. -/
def Bucket.full (burst now : Nat) : Bucket := { level := ((burst * 65536 : Nat) : Int), since := now }

/-- The bucket after a change of settings from one rate and burst to another. -/
def Bucket.reshape (b : Bucket) (rate burst rate' burst' now : Nat) : Bucket :=
  if rate' = 0 then Bucket.empty
  else if rate = 0 then Bucket.full burst' now
  else
    let f := b.fill rate burst now
    { f with level := min f.level ((burst' * 65536 : Nat) : Int) }

/-- Whether a shaper lets a frame start. -/
def Bucket.permits (b : Bucket) (rate burst now : Nat) : Bool := rate == 0 || decide (0 ≤ (b.fill rate burst now).level)

/-- The bucket after the start of `n` bytes. -/
def Bucket.take (b : Bucket) (rate burst now n : Nat) : Bucket :=
  if rate = 0 then b
  else
    let f := b.fill rate burst now
    { f with level := f.level - ((n * 65536 : Nat) : Int) }

/-- The bucket of group `g` of port `p`, the port's own at 8. -/
def State.shaper (s : State) (p g : Nat) : Bucket := SMap.get Bucket.empty s.shapers (9 * p + g)

/-- Stores a group's or the port's bucket. -/
def State.setShaper (s : State) (p g : Nat) (b : Bucket) : State :=
  { s with shapers := SMap.set Bucket.empty s.shapers (9 * p + g) b }

/-- Rate and burst of a group's shaper, or of the port's at 8. -/
def State.shape (s : State) (p g : Nat) : Nat × Nat :=
  if g = 8 then (s.fld R.TM_PORT_SHAPE_RATE p, s.fld R.TM_PORT_SHAPE_BURST p)
  else (s.fld R.TM_GROUP_SHAPE_RATE (8 * p + g), s.fld R.TM_GROUP_SHAPE_BURST (8 * p + g))

/-- A change of a group's or the port's shaper settings at its edge: `old` are the settings before. -/
def State.reshape (s : State) (p g : Nat) (old : Nat × Nat) : State :=
  let new := s.shape p g
  if new = old then s else s.setShaper p g ((s.shaper p g).reshape old.1 old.2 new.1 new.2 (s.tbFreeNs 0))

/-! ### Tags (R357, R358) -/

/-- Whether tag `a` is later than tag `b`, modulo 2^32. -/
def after (a b : Nat) : Bool :=
  let d := (a + 2 ^ 32 - b % 2 ^ 32) % 2 ^ 32
  decide (0 < d) && decide (d < 2 ^ 31)

/-- The later of two tags. -/
def laterOf (a b : Nat) : Nat := if after b a then b else a

/-- The earliest of some tags. -/
def earliest : List Nat → Nat
  | [] => 0
  | a :: m => m.foldl (fun e x => if after e x then x else e) a

/-- The virtual time of a tier with its 16 fractional bits. -/
def State.virtualTime (s : State) (p k : Nat) : Nat := SMap.get 0 s.virtual (4 * p + k)

/-- Stores the virtual time of a tier. -/
def State.setVirtual (s : State) (p k v : Nat) : State :=
  { s with virtual := SMap.set 0 s.virtual (4 * p + k) (v % 2 ^ 48) }

/-- The upper 32 bits of V, which are shown and compared. -/
def State.tierV (s : State) (p k : Nat) : Nat := s.virtualTime p k / 65536

/-- OH of R357. -/
def overhead (p : Nat) : Nat := if isChannel p then 4 else 20

/-- A frame of `len` bytes becomes the head of a queue of port `p`. -/
def State.newHead (s : State) (p q len : Nat) (wasEmpty : Bool) : State :=
  s.updQueue q (fun u =>
    let v := s.tierV p u.tier
    let start := if wasEmpty && !after u.finish v then v else u.finish
    { u with start := start, finish := (start + ceilDiv ((len + overhead p) * 1024) u.weight) % 2 ^ 32 })

/-- EMPTY_QUEUE_VISIT (R358): F of an empty queue catches up with V. -/
def State.visitEmpty (s : State) (q : Nat) : State :=
  match (s.queue q).port with
  | none => s
  | some p =>
    if !(s.queue q).copies.isEmpty || after (s.queue q).finish (s.tierV p (s.queue q).tier) then s
    else s.updQueue q (fun u => { u with finish := s.tierV p u.tier })

/-! ### The queue life cycle (R355) -/

/-- The Starting of a queue: its bucket is full and its tags are those of an empty queue. It ends at once. -/
def State.beginQueue (s : State) (q : Nat) : State :=
  let v := match (s.queue q).port with
    | none => 0
    | some p => s.tierV p (s.queue q).tier
  s.updQueue q (fun u => { u with
    bucket := if u.rate = 0 then Bucket.empty else Bucket.full u.burst (s.tbFreeNs 0)
    start := v, finish := v, moving := false, life := lifeArrive u.life .on })

/-- A request for a queue. -/
def State.askQueue (s : State) (q : Nat) (enable moving : Bool) : State :=
  let s := s.updQueue q (fun u =>
    let lc := lifeRequest u.life enable
    { u with life := lc, moving := u.moving || (moving && lifeOf lc == .stopping) })
  if lifeOf (s.queue q).life == .starting then s.beginQueue q else s

/-- The end of a queue's Stopping. -/
def State.endQueue (s : State) (q : Nat) : State :=
  let s := s.updQueue q (fun u => { u with life := lifeArrive u.life .off, moving := false })
  if lifeOf (s.queue q).life == .starting then s.beginQueue q else s

/-- The frames of a queue are discarded and their cells freed: the copies that were there. -/
def State.flushQueue (s : State) (q : Nat) : Nat × State :=
  let copies := (s.queue q).copies
  (copies.length, copies.foldl State.dropCopy (s.updQueue q (fun u => { u with copies := [] })))

/-- The queues of a port that hold its frames: one that moves to it still discards those of its old port (R355). -/
def State.settledQueues (s : State) (p : Nat) : List Nat := (s.queuesOf p).filter (fun q => !(s.queue q).moving)

/-- The frames of a port's queues are flushed and counted in TX_FLUSHED (R157). -/
def State.flushPort (s : State) (p : Nat) : State :=
  (s.settledQueues p).foldl (fun s q =>
    let r := s.flushQueue q
    if r.1 = 0 then r.2 else r.2.portCount p 57 r.1) s

/-- The bytes that wait for a port. -/
def State.queuedBytes (s : State) (p : Nat) : Nat :=
  (s.queuesOf p).foldl (fun n q => (s.queue q).copies.foldl (fun n c => n + c.len) n) 0

/-- Whether no frame waits for a port. -/
def State.portEmpty (s : State) (p : Nat) : Bool := (s.settledQueues p).all (fun q => (s.queue q).copies.isEmpty)

/-- A TM counter advances (R373). -/
def State.tmCount (s : State) (i k : Nat) : State := s.bump R.TM_CTR_COUNT i k

/-- QUEUE_STOPPING_END (R355): a moved or released queue has discarded its frames; a moved one asks to be enabled where its
new port is Starting or On. -/
def State.queueStopped (s : State) (q : Nat) : State :=
  let u := s.queue q
  if !(u.moving && lifeOf u.life == .stopping) then s
  else
    let r := s.flushQueue q
    let s := if r.1 = 0 then r.2 else (r.2.tmCount 11 r.1).raiseOnce EV_Q_FLUSH 0 q 0 []
    let s := s.endQueue q
    match u.port with
    | none => s
    | some p =>
      if s.portLife p == .starting || s.portLife p == .on then s.askQueue q true false else s

/-- A Q.CFG at its edge (R353, R355, R359, R361). -/
def State.applyQueue (s : State) (q port tier group : Nat) (w0 w1 : Word64) : State :=
  let weight := bits w0.toNat 47 32
  let old := s.queue q
  let rate := bits w1.toNat 63 32
  let burst := bits w1.toNat 31 0
  let target : Option Nat := if weight = 0 then none else some port
  let s := s.updQueue q (fun u => { u with
    port := target, tier := if weight = 0 then u.tier else tier, group := if weight = 0 then u.group else group
    weight := if weight = 0 then u.weight else weight
    profile := bits w0.toNat 7 3, pfcPri := bits w0.toNat 2 0, rate := rate, burst := burst
    bucket := u.bucket.reshape u.rate u.burst rate burst (s.tbFreeNs 0) })
  if old.port != target then
    let s := s.askQueue q false true
    match target with
    | none => s
    | some p =>
      if lifeOf (s.queue q).life == .off && (s.portLife p == .starting || s.portLife p == .on) then s.askQueue q true false
      else s
  else if weight != 0 && old.tier != tier then
    let v := s.tierV port tier
    let s := s.updQueue q (fun u => { u with start := v, finish := v })
    match (s.queue q).copies with
    | [] => s
    | c :: _ => s.newHead port q c.len true
  else s

/-! ### The port scheduler (R356, R357) -/

/-- The rate of a port in kbit/s at its current transmit width (R119, R246). -/
def State.currentRate (s : State) (p : Nat) : Nat :=
  if isChannel p then s.fld R.PORT_CHAN_BIND_MEMBERS (p - 512) * 1310208
  else speedGbps (s.fld R.PORT_STAT_SPEED p) * 1000000 * 2 ^ s.txWidth p / s.portLanes p

/-- Whether a copy may be taken: a frame that is still being written only cut-through (R173). -/
def State.ready (s : State) (p : Nat) (c : Copy) : Bool :=
  match c.frame with
  | none => true
  | some _ =>
    !isChannel p && s.flag R.PORT_CFG_CT_EN p && isPort c.info.inPort && decide (s.currentRate p ≤ s.currentRate c.info.inPort)

/-- Whether the shapers of a queue let it start a frame. -/
def State.shapersPermit (s : State) (p q : Nat) : Bool :=
  let u := s.queue q
  let now := s.tbFreeNs 0
  let g := s.shape p u.group
  let o := s.shape p 8
  u.bucket.permits u.rate u.burst now && (s.shaper p u.group).permits g.1 g.2 now && (s.shaper p 8).permits o.1 o.2 now

/-- Whether a queue of a port is eligible (R356). -/
def State.eligible (s : State) (p q : Nat) : Bool :=
  let u := s.queue q
  let life := lifeOf u.life
  (life == .on || (life == .stopping && !u.moving && (s.port p).draining)) &&
    (!(s.fld R.PORT_PFC_STAT_PAUSED p).testBit u.pfcPri || s.queueReserved q) && s.shapersPermit p q &&
    match u.copies with
    | [] => false
    | c :: _ => s.ready p c

/-- The queue with the least finish tag, the lower number on a tie. -/
def leastFinish (s : State) : List Nat → Option Nat
  | [] => none
  | q :: m => some (m.foldl (fun b x => if after (s.queue b).finish (s.queue x).finish then x else b) q)

/-- The queue that the scheduler takes next, with its tier's virtual time as the choice leaves it. -/
def State.select (s : State) (p : Nat) : List Nat → Option (Nat × State)
  | [] => none
  | k :: tiers =>
    let able := (s.queuesOf p).filter (fun q => (s.queue q).tier == k && s.eligible p q)
    if able.isEmpty then State.select s p tiers
    else
      let due := fun s : State => able.filter (fun q => !after (s.queue q).start (s.tierV p k))
      let s := if (due s).isEmpty then s.setVirtual p k (earliest (able.map (fun q => (s.queue q).start)) * 65536) else s
      match leastFinish s (due s) with
      | none => none
      | some q => some (q, s)

/-- A frame of `len` bytes of a tier starts (R357). -/
def State.tierStart (s : State) (p k len : Nat) : State :=
  let busy := (s.queuesOf p).filter (fun q => (s.queue q).tier == k && !(s.queue q).copies.isEmpty)
  let weights := busy.foldl (fun n q => n + (s.queue q).weight) 0
  let v := (s.virtualTime p k + (len + overhead p) * 1024 * 65536 / max weights 1) % 2 ^ 48
  let least := earliest (busy.map (fun q => (s.queue q).start))
  s.setVirtual p k (if after least (v / 65536) then least * 65536 else v)

/-- The copy that the scheduler takes next, its queue, and the state with the tier's virtual time as the choice leaves it. -/
def State.choose (s : State) (p : Nat) : Option (Nat × Copy × State) :=
  if !s.flag R.PORT_STAT_LINK_UP p then none
  else
    match s.select p [0, 1, 2, 3] with
    | none => none
    | some (q, s) =>
      match (s.queue q).copies with
      | [] => none
      | c :: _ => some (q, c, s)

/-- The head of a queue leaves it, and the next copy becomes the head. -/
def State.popHead (s : State) (p q : Nat) : State :=
  let rest := (s.queue q).copies.drop 1
  let s := s.updQueue q (fun u => { u with copies := rest })
  match rest with
  | [] => s
  | d :: _ => s.newHead p q d.len false

/-- The head of a queue starts (R357, R359): the tier's virtual time and the shapers move on. -/
def State.startHead (s : State) (p q len : Nat) : State :=
  let now := s.tbFreeNs 0
  let u := s.queue q
  let n := len + overhead p
  let s := s.tierStart p u.tier len
  let g := s.shape p u.group
  let o := s.shape p 8
  let s := s.setShaper p u.group ((s.shaper p u.group).take g.1 g.2 now n)
  let s := s.setShaper p 8 ((s.shaper p 8).take o.1 o.2 now n)
  s.updQueue q (fun u => { u with bucket := u.bucket.take u.rate u.burst now n })

/-! ### Enqueueing (R354, R355, R360) -/

/-- The queue that QIDX selects among those of a port. -/
def State.pickQueue (s : State) (p qidx : Nat) : Option Nat :=
  let qs := s.queuesOf p
  if qs.isEmpty then none else qs[qidx % qs.length]?

/-- Why a reserved queue discards a copy (R360): 1 foreign, 2 red, 3 oversize; 0 where it takes it. -/
def State.reservedReason (s : State) (q colour len : Nat) (meter : Option Nat) (mirror : Bool) : Nat :=
  if !s.queueReserved q then 0
  else
    match s.flows.find? (fun e => e.2.queue == q && meter == some e.2.meter) with
    | none => 1
    | some e => if mirror then 1 else if colour = 2 then 2 else if e.2.maxFrame < len then 3 else 0

/-- Whether a queue takes copies: On, on a port that is not Stopping or Off (R157, R355). -/
def State.queueOpen (s : State) (q : Nat) : Bool := lifeOf (s.queue q).life == .on

/-- A copy discarded at enqueue counts on its queue. -/
def State.queueDrop (s : State) (q : Nat) : State := s.updQueue q (fun u => { u with dropped := (u.dropped + 1) % 2 ^ 48 })

/-- What the tests before buffer admission say of a copy for a queue of port `p`: the state if it is discarded. -/
def State.refuseCopy (s : State) (p q colour len : Nat) (meter : Option Nat) (mirror : Bool) : Option State :=
  if !s.queueOpen q then some ((s.portCount p 57 1).queueDrop q)
  else
    let r := s.reservedReason q colour len meter mirror
    if r = 0 then none
    else some (((s.tmCount (7 + r) 1).queueDrop q).raiseOnce EV_RSV_DISCARD 0 q 0 [r])

/-- An admitted copy joins its queue. -/
def State.enqueue (s : State) (p : Nat) (c : Copy) : State :=
  let wasEmpty := (s.queue c.queue).copies.isEmpty
  let s := s.updQueue c.queue (fun u => { u with copies := u.copies ++ [c], enqueued := (u.enqueued + 1) % 2 ^ 48 })
  if wasEmpty then s.newHead p c.queue c.len true else s

/-- EMPTY_QUEUE_VISIT. -/
def execEmptyQueueVisit (queue : Fin 65536) (s : State) : Host.Outcome State Fault Refusal :=
  .next (s.clocked (fun s => s.visitEmpty queue.val))

/-- QUEUE_STOPPING_END. -/
def execQueueStoppingEnd (queue : Fin 65536) (s : State) : Host.Outcome State Fault Refusal :=
  .next (s.clocked (fun s => s.queueStopped queue.val))

end Sys2Proof.Machine
end

