-- ==== Sys2Proof/Machine/Lanes.lean ====
section
/-! DEFINITION. Serial lanes (chapter 04): lock, equalisation and calibration, test facilities, lane parameters, and the life
cycle of a lane. -/

namespace Sys2Proof.Machine

/-! ### Lock and signal (R124 to R127) -/

/-- Whether a lane is On. -/
def State.laneOn (s : State) (n : Nat) : Bool := s.life R.LANE_STAT_LC n == .on

/-- The position of a lane in its port. -/
def State.laneIndex (s : State) (p n : Nat) : Nat := n - s.firstLane p

/-- Whether loss-of-lock events of a lane are suppressed (R149): an announced switch will park it, or it wakes. -/
def State.lockQuiet (s : State) (n : Nat) : Bool :=
  match s.portOfLane n with
  | none => false
  | some p =>
    match (s.port p).peer with
    | none => false
    | some r => decide (2 ^ min r.width (s.port p).rxWidth ≤ s.laneIndex p n)

/-- Stores a lock bit; a change raises EV_LANE_LOCK, but for a loss that is suppressed. -/
def State.setLock (s : State) (f : Fld) (n : Nat) (v : Bool) : State :=
  if s.flag f n == v then s
  else
    let s := s.setFlag f n v
    if !v && s.lockQuiet n then s else s.raiseOf EV_LANE_LOCK n

/-- Signal and clock recovery of a lane that receives. -/
def State.signalSeen (s : State) (n : Nat) : State :=
  if s.laneOn n then (s.setFlag R.LANE_STAT_SIG_DET n true).setFlag R.LANE_STAT_CDR_LOCK n true else s

/-- CHK_LOCK changes (R138). -/
def State.setChkLock (s : State) (n : Nat) (v : Bool) : State :=
  if s.flag R.LANE_STAT_CHK_LOCK n == v then s else (s.setFlag R.LANE_STAT_CHK_LOCK n v).raiseOf EV_LANE_CHK n

/-- AM_LOCK stored; a loss counts as a loss of alignment lock on the lane's port (R127, R181). -/
def State.setAmLock (s : State) (n : Nat) (v : Bool) : State :=
  let lost := s.flag R.LANE_STAT_AM_LOCK n && !v
  let s := s.setLock R.LANE_STAT_AM_LOCK n v
  match s.portOfLane n with
  | some p => if lost then s.portCount p 31 1 else s
  | none => s

/-- ALIGNMENT_MARKER_LOCK (R127, R159): an Ethernet lane gains or loses lock, and its port is or is not deskewed. -/
def State.alignmentLock (s : State) (n : Nat) (locked deskewed : Bool) : State :=
  match s.portOfLane n with
  | none => s
  | some p =>
    if s.portMode p != 0 || !s.laneOn n || (s.lane n).outOfService then s
    else
      let s := if locked then s.signalSeen n else s
      let s := s.setAmLock n locked
      (s.updPort p (fun r => { r with deskewed := deskewed })).relink p

/-- SIG_DET becomes 0 when the balls have carried no signal for 100 ns (R124). -/
def State.signalLost (s : State) (n : Nat) : State :=
  (s.setFlag R.LANE_STAT_SIG_DET n false).setFlag R.LANE_STAT_CDR_LOCK n false

/-! ### Reference clocks (R121) -/

/-- The reference clock of an octet: its own, or the neighbouring one. -/
def refclkOf (octet : Nat) (neighbour : Bool) : Nat := if neighbour then (octet / 4) ^^^ 1 else octet / 4

/-- An octet's PLL takes a reference. -/
def State.takeRef (s : State) (octet : Nat) (neighbour : Bool) : State :=
  let present := !s.refLost.contains (refclkOf octet neighbour)
  ((s.setFlag R.LANE_OCT_STAT_ON_NEIGHBOUR octet neighbour).setFlag R.LANE_OCT_STAT_REF_PRESENT octet present).setFlag
    R.LANE_OCT_STAT_PLL_LOCK octet present

/-- REFCLK_LOSS: an octet loses the reference in use; with AUTO_BACKUP it switches to the other one. -/
def State.refLoss (s : State) (octet : Nat) : State :=
  let on := s.flag R.LANE_OCT_STAT_ON_NEIGHBOUR octet
  let k := refclkOf octet on
  let s := { s with refLost := if s.refLost.contains k then s.refLost else insertRising k s.refLost }
  let s := s.raiseOf EV_OCT_REF octet
  if s.flag R.LANE_OCT_REF_AUTO_BACKUP octet && !s.refLost.contains (refclkOf octet (!on)) then s.takeRef octet (!on)
  else s.takeRef octet on

/-! ### Calibration and equalisation (R130 to R133) -/

/-- The junction temperature, in 1/16 degree. -/
def State.junction (s : State) : Int := s.sfld R.PWR_THERM_TJ 0

/-- Whether the temperature has moved by more than 25 degrees since a lane's last calibration. -/
def State.needsRecal (s : State) (n : Nat) : Bool := decide (400 < (s.junction - (s.lane n).calTemp).natAbs)

/-- A lane is calibrated at the temperature as it stands. -/
def State.calibrate (s : State) (n : Nat) : State := s.updLane n (fun l => { l with calTemp := s.junction })

/-- The five taps of a 40-bit tap word, as signed numbers: PRE3, PRE2, PRE1, MAIN, POST1. -/
def tapsOf (w : Nat) : List Int := [signed 8 (w >>> 32), signed 8 (w >>> 24), signed 8 (w >>> 16), signed 8 (w >>> 8), signed 8 w]

/-- The limits of each tap (R132); PRE3 is 0 on Class-112 lanes. -/
def tapLimits (class112 : Bool) : List (Int × Int) :=
  [(if class112 then 0 else -16, if class112 then 0 else 16), (-24, 24), (-48, 0), (48, 127), (-48, 0)]

/-- Whether every tap lies within its limits. -/
def tapsInRange (class112 : Bool) (taps : List Int) : Bool :=
  (taps.zip (tapLimits class112)).all (fun e => decide (e.2.1 ≤ e.1) && decide (e.1 ≤ e.2.2))

/-- Whether the sum of the magnitudes is at most 127. -/
def tapSumOk (taps : List Int) : Bool := decide (taps.foldl (fun n t => n + t.natAbs) 0 ≤ 127)

/-- The taps that link training reaches (R132): a free value within the limits, the programmed taps otherwise. -/
def trainedTaps (class112 : Bool) (programmed free : Nat) : Nat :=
  let w := free % 2 ^ 40
  if tapsInRange class112 (tapsOf w) && tapSumOk (tapsOf w) then w else programmed

/-- The programmed taps of a lane. -/
def State.programmed (s : State) (n : Nat) : Nat := s.reg R.LANE_TXEQ n % 2 ^ 40

/-- The taps in use when a lane starts to send: trained on an Ethernet lane with TXEQ_FIXED 0, else programmed. -/
def State.setTaps (s : State) (n : Nat) : State :=
  let cls := s.fld R.LANE_STAT_CLASS n
  if s.flag R.LANE_CFG_TXEQ_FIXED n || (cls != 1 && cls != 2) then s.setFld R.LANE_TXEQ_CUR_TAPS n (s.programmed n)
  else
    (s.setFld R.LANE_TXEQ_CUR_TAPS n (trainedTaps (cls == 2) (s.programmed n) s.freeWord.toNat)).drawn

/-- The receiver's coefficients and measured eye: free values, CTLE within 0 to 31; held coefficients stay (R133). -/
def State.adapt (s : State) (n : Nat) : State :=
  let w := s.freeWord.toNat
  let s := s.drawn
  let s := (s.setFld R.LANE_RXEQ_EYE_H n (bits w 15 8)).setFld R.LANE_RXEQ_EYE_W n (bits w 7 0)
  if s.fld R.LANE_CFG_RX_ADAPT n = 1 then s
  else (s.setFld R.LANE_RXEQ_CTLE n (bits w 28 24)).setFld R.LANE_RXEQ_DFE1 n (bits w 23 16)

/-! ### Generator, checker and injection (R136 to R139) -/

/-- The delays whose bits sum to the next bit of a pattern. -/
def patternDelays (pat : Nat) : List Nat :=
  match pat with
  | 1 => [7, 6]
  | 2 => [13, 12, 2, 1]
  | 3 => [15, 14]
  | 4 => [23, 18]
  | 5 => [31, 28]
  | _ => []

/-- The longest delay of a pattern. -/
def patternOrder (pat : Nat) : Nat := (patternDelays pat).foldl max 0

/-- The next bit of a pattern after its latest bits, the latest first. -/
def nextBit (pat : Nat) (hist : List Bool) : Bool := (patternDelays pat).foldl (fun b d => b != hist.getD (d - 1) false) false

/-- Bit `i` of the repeating user pattern, bit 63 first. -/
def userBit (word i : Nat) : Bool := word.testBit (63 - i % 64)

/-- The next `n` bits that a lane's generator sends, injections applied, and the lane after them. From the state of all ones the first
bit is the feedback bit behind it (DESIGN CHOICE, log 128). -/
def genBits (pat : Nat) (inv : Bool) (user every : Nat) : Nat → Lane → List Bool × Lane
  | 0, l => ([], l)
  | n + 1, l =>
    let b := if pat = 6 then userBit user l.genPos else nextBit pat l.gen
    let flip := decide (0 < l.injDue) || (decide (0 < every) && (l.genPos + 1) % every == 0)
    let l := { l with gen := (b :: l.gen).take 31, genPos := l.genPos + 1, injDue := l.injDue - 1 }
    let r := genBits pat inv user every n l
    (((b != inv) != flip) :: r.1, r.2)

/-- What one checked bit leads to: the checker, whether it is locked, and the bits, errors and lock changes so far. -/
structure CheckRun where
  chk : Checker
  locked : Bool
  seen : Nat
  errs : Nat
  changes : Nat
  deriving DecidableEq, Repr

/-- One received bit at a checker that hunts. -/
def huntBit (pat user : Nat) (r : CheckRun) (b : Bool) : CheckRun :=
  let c := r.chk
  if pat = 6 then
    let runs := (List.range 64).map (fun k => if userBit user (c.phase + k) == b then c.rotations.getD k 0 + 1 else 0)
    match runs.findIdx? (fun n => n == 128) with
    | some k => { r with chk := { Checker.fresh with phase := (c.phase + 1 + k) % 64 }, locked := true, changes := r.changes + 1 }
    | none => { r with chk := { c with rotations := runs, phase := (c.phase + 1) % 64 } }
  else
    let agree := if c.hist.length < patternOrder pat then 0 else if nextBit pat c.hist == b then c.agree + 1 else 0
    let hist := (b :: c.hist).take 31
    if agree = 128 then { r with chk := { Checker.fresh with hist := hist }, locked := true, changes := r.changes + 1 }
    else { r with chk := { c with hist := hist, agree := agree } }

/-- One received bit at a locked checker: counted, and 64 errors within a window of 256 bits lose the lock. -/
def lockedBit (pat user : Nat) (r : CheckRun) (b : Bool) : CheckRun :=
  let c := r.chk
  let want := if pat = 6 then userBit user c.phase else nextBit pat c.hist
  let wrong := ofFlag (want != b)
  let bits' := c.windowBits + 1
  let errs' := c.windowErrs + wrong
  let r := { r with seen := r.seen + 1, errs := r.errs + wrong }
  if 64 ≤ errs' then { r with chk := Checker.fresh, locked := false, changes := r.changes + 1 }
  else
    { r with chk := { c with
        hist := (want :: c.hist).take 31, phase := (c.phase + 1) % 64
        windowBits := bits' % 256, windowErrs := if bits' = 256 then 0 else errs' } }

/-- One received bit at the checker (R138). -/
def checkBit (pat : Nat) (inv : Bool) (user : Nat) (r : CheckRun) (b : Bool) : CheckRun :=
  if r.locked then lockedBit pat user r (b != inv) else huntBit pat user r (b != inv)

/-- Whether a lane's receive path takes its own transmitted data (R140). -/
def State.nearLoop (s : State) (n : Nat) : Bool := s.fld R.LANE_CFG_LOOPBACK n == 1 || s.fld R.LANE_CFG_LOOPBACK n == 2

/-- CHECKER_SAMPLE: the checker of a lane that is On takes bits: those of the balls, or those that its own generator sends
under a near-end loopback (R138, R140, R141). -/
def State.checkerSample (s : State) (n : Nat) (received : List Bool) : State :=
  let near := s.nearLoop n
  let user := s.fld R.LANE_USER_PAT_PATTERN n
  let every := if s.fld R.LANE_TEST_INJ_MODE n = 3 then s.fld R.LANE_INJ_INTERVAL_INTERVAL n * 1024 else 0
  if !s.laneOn n then s
  else
    let own := genBits (s.fld R.LANE_TEST_GEN_PAT n) (s.flag R.LANE_TEST_GEN_INV n) user every received.length (s.lane n)
    let looped := near && s.fld R.LANE_TEST_GEN_PAT n != 0
    let s := if looped then s.updLane n (fun _ => own.2) else s
    let s := if near then s else s.signalSeen n
    let pat := s.fld R.LANE_TEST_CHK_PAT n
    if pat = 0 then s
    else
      let start : CheckRun := ⟨(s.lane n).chk, s.flag R.LANE_STAT_CHK_LOCK n, 0, 0, 0⟩
      let r := (if looped then own.1 else received).foldl (checkBit pat (s.flag R.LANE_TEST_CHK_INV n) user) start
      let s := s.updLane n (fun l => { l with chk := r.chk })
      let s := (s.bump R.LANE_CHK_BITS_COUNT n r.seen).bump R.LANE_CHK_ERRS_COUNT n r.errs
      let s := s.setFlag R.LANE_STAT_CHK_LOCK n r.locked
      (List.range r.changes).foldl (fun s _ => s.raiseOf EV_LANE_CHK n) s

/-- INJ_FIRE at its edge (R139): a lane that sends nothing has no bits to invert. Under a near-end loopback the receive path meets the
inverted bits as well. -/
def State.injectFire (s : State) (n : Nat) : State :=
  let mode := s.fld R.LANE_TEST_INJ_MODE n
  let k := if mode = 1 then 1 else if mode = 2 then s.fld R.LANE_TEST_INJ_BURST n + 1 else 0
  if k = 0 || !s.laneOn n || s.fld R.LANE_STAT_TX_PWR n != 0 then s
  else
    let s := (s.bump R.LANE_INJ_COUNT_COUNT n k).emit (.inverted n k)
    if s.nearLoop n then s.updLane n (fun l => { l with injDue := l.injDue + k }) else s

/-- Rate injection over one epoch of a lane that sends (R139): the bits of the epoch are those of its class, and a free value
on a lane without a class. -/
def State.injectRate (s : State) (n : Nat) : State :=
  if s.fld R.LANE_TEST_INJ_MODE n != 3 || !s.laneOn n || s.fld R.LANE_STAT_TX_PWR n != 0 then s
  else
    let cls := s.fld R.LANE_STAT_CLASS n
    let sent := if cls = 0 then s.freeWord.toNat else laneEpochBits cls
    let s := if cls = 0 then s.drawn else s
    let every := max (s.fld R.LANE_INJ_INTERVAL_INTERVAL n) 1 * 1024
    let acc := (s.lane n).injAcc + sent
    let s := if acc / every = 0 then s else s.emit (.inverted n (acc / every))
    (s.bump R.LANE_INJ_COUNT_COUNT n (acc / every)).updLane n (fun l => { l with injAcc := acc % every })

/-! ### The life cycle of a lane (R128) -/

/-- A request for a lane. -/
def State.askLane (s : State) (n : Nat) (enable : Bool) : State := s.lifeAsk R.LANE_STAT_LC n enable

/-- A lane that starts locks its octet's PLL, is in no parked state and sends with its taps; one that moved far in temperature
recalibrates. -/
def State.laneUp (s : State) (n : Nat) : State :=
  let s := s.takeRef (n / 8) (s.flag R.LANE_OCT_STAT_ON_NEIGHBOUR (n / 8))
  let s := if s.needsRecal n then s.calibrate n else s
  let s := ((s.setFld R.LANE_STAT_TX_PWR n 0).setFld R.LANE_STAT_RX_PWR n 0).setTaps n
  s.adapt n

/-- Both directions are Dark and nothing is received; block lock is the STF receiver's to lose. -/
def State.laneDark (s : State) (n : Nat) : State :=
  let s := (s.setFld R.LANE_STAT_TX_PWR n 4).setFld R.LANE_STAT_RX_PWR n 4
  let s := (s.signalLost n).setAmLock n false
  let s := s.setChkLock n false
  s.updLane n (fun l => { l with chk := Checker.fresh, recalTx := false, recalRx := false, outOfService := false, huntGood := 0, windowSeen := 0,
                                 windowBad := 0 })

/-! ### The drain of a port (R156, R244, R355) -/

/-- The labels of the members of a packet channel. -/
def State.labelChannel (s : State) (p label : Nat) : State :=
  (onesOf 78 (s.fld R.PORT_CHAN_TU_LO_TUS (p - 512) + s.fld R.PORT_CHAN_TU_HI_TUS (p - 512) <<< 64)).foldl (fun s t =>
    let k := 78 * s.fld R.PORT_CHAN_BIND_LANE (p - 512) + t
    (s.setFld R.STF_TU_LABEL_TX_LABEL k label).setFld R.STF_TU_LABEL_EXP_LABEL k label) s

/-- The drain of a Stopping port as far as it has come: without a link the waiting frames are flushed, and once no frame is
left the queues reach Off and the lanes are disabled, or the members of a channel become unequipped. -/
def State.settlePort (s : State) (p : Nat) : State :=
  if s.portLife p != .stopping || !(s.port p).draining then s
  else
    let s := if s.flag R.PORT_STAT_LINK_UP p then s else s.flushPort p
    if !s.portEmpty p || (s.port p).sending.isSome || (s.port p).arriving.isSome then s
    else
      let s := s.updPort p (fun q => { q with draining := false })
      let s := (s.queuesOf p).foldl (fun s q =>
        if lifeOf (s.queue q).life == .stopping && !(s.queue q).moving then s.endQueue q else s) s
      if isChannel p then s.labelChannel p 0
      else (s.lanesOf p).foldl (fun s n => s.askLane n false) s

/-! ### Lane parameters (R134) -/

/-- Whether `v` lies in the range of a parameter, on a lane that is or is not Class-112; REF_SEL names an octet by its first
lane. -/
def laneParamOk (class112 : Bool) (lane param v : Nat) : Bool :=
  match param with
  | 0x00 | 0x01 => decide (v ≤ 4)
  | 0x02 => tapsInRange class112 (tapsOf (v * 256))
  | 0x03 => decide (v < 256) && decide (-48 ≤ signed 8 v) && decide (signed 8 v ≤ 0)
  | 0x04 | 0x07 | 0x20 | 0x26 => decide (v ≤ 1)
  | 0x05 => decide (v ≤ 2)
  | 0x06 | 0x17 | 0x18 => v == 0
  | 0x10 => decide (v ≤ 3)
  | 0x11 | 0x12 => decide (v < 16) && decide (v % 8 ≤ 6)
  | 0x13 | 0x14 => true
  | 0x15 => decide (v < 1024) && bits v 7 6 == 0
  | 0x16 => decide (1 ≤ v)
  | 0x21 => decide (1 ≤ v) && decide (v ≤ 90)
  | 0x22 => decide (10 ≤ v) && decide (v ≤ 100)
  | 0x23 => decide (1 ≤ v) && decide (v ≤ 64)
  | 0x24 => decide (1 ≤ v) && decide (v ≤ 4)
  | 0x25 => decide (v ≤ 3)
  | 0x27 => decide (16 ≤ v) && decide (v ≤ 65535)
  | 0x30 => decide (v ≤ 3) && lane % 8 == 0
  | _ => false

/-- The tap word that a TXEQ_A or TXEQ_B makes of an older one. -/
def mergeTaps (old param v : Nat) : Nat :=
  if param = 0x02 then withBits old 39 8 v else if param = 0x03 then withBits old 7 0 v else old

/-- Programmed taps at their edge: in use at once with TXEQ_FIXED 1 (R132). -/
def State.applyTaps (s : State) (n w : Nat) : State :=
  let s := s.setReg R.LANE_TXEQ n w
  if s.flag R.LANE_CFG_TXEQ_FIXED n then s.setFld R.LANE_TXEQ_CUR_TAPS n w else s

/-- TEST_EN at its edge (R129). -/
def State.applyTestEn (s : State) (n v : Nat) : State :=
  match s.portOfLane n with
  | some _ => s.raiseOf EV_LANE_CFG_IGNORED n
  | none => (s.setFld R.LANE_CFG_TEST_EN n v).askLane n (v == 1)

/-- GEN at its edge (R136, R137): an enabled generator starts from all ones. -/
def State.applyGen (s : State) (n v : Nat) : State :=
  let inService : Bool := match s.portOfLane n with
    | none => false
    | some p => s.portLife p == .starting || s.portLife p == .on
  if inService then s.raiseOf EV_LANE_CFG_IGNORED n
  else
    ((s.setFld R.LANE_TEST_GEN_PAT n v).setFld R.LANE_TEST_GEN_INV n (v / 8)).updLane n (fun l => { l with
      gen := if v % 8 = 0 then [] else List.replicate 31 true, genPos := 0, injDue := 0 })

/-- CHK at its edge: the checker starts again. -/
def State.applyChk (s : State) (n v : Nat) : State :=
  (((s.setFld R.LANE_TEST_CHK_PAT n v).setFld R.LANE_TEST_CHK_INV n (v / 8)).setChkLock n false).updLane n
    (fun l => { l with chk := Checker.fresh })

/-- A lane parameter at its edge, but for what it does beyond the lane: the thinning of a port, and the recalibration of a lane that is
On. -/
def State.applyLaneCfg (s : State) (n param v : Nat) : State :=
  match param with
  | 0x00 => s.setFld R.LANE_CFG_TX_FLOOR n v
  | 0x01 => s.setFld R.LANE_CFG_RX_FLOOR n v
  | 0x02 | 0x03 => s.applyTaps n (mergeTaps (s.programmed n) param v)
  | 0x04 =>
    let was := s.flag R.LANE_CFG_TXEQ_FIXED n
    let s := s.setFld R.LANE_CFG_TXEQ_FIXED n v
    if v = 1 && !was then s.setFld R.LANE_TXEQ_CUR_TAPS n (s.programmed n) else s
  | 0x05 =>
    if v = 2 then
      let s := s.setFld R.LANE_CFG_RX_ADAPT n 0
      if s.laneOn n then s.adapt n else s
    else s.setFld R.LANE_CFG_RX_ADAPT n v
  | 0x06 => if s.laneOn n then s else s.calibrate n
  | 0x07 => s.applyTestEn n v
  | 0x10 => (s.setFld R.LANE_CFG_LOOPBACK n v).updLane n (fun l => { l with injDue := 0 })
  | 0x11 => s.applyGen n v
  | 0x12 => s.applyChk n v
  | 0x13 => s.setReg R.LANE_USER_PAT n (withBits (s.reg R.LANE_USER_PAT n) 63 32 v)
  | 0x14 => s.setReg R.LANE_USER_PAT n (withBits (s.reg R.LANE_USER_PAT n) 31 0 v)
  | 0x15 =>
    ((s.setFld R.LANE_TEST_INJ_MODE n (bits v 9 8)).setFld R.LANE_TEST_INJ_BURST n (bits v 5 0)).updLane n
      (fun l => { l with injAcc := 0 })
  | 0x16 => (s.setFld R.LANE_INJ_INTERVAL_INTERVAL n v).updLane n (fun l => { l with injAcc := 0 })
  | 0x17 => s.injectFire n
  | 0x18 => (s.setFld R.LANE_CHK_BITS_COUNT n 0).setFld R.LANE_CHK_ERRS_COUNT n 0
  | 0x20 => s.setFld R.LANE_THIN_AUTO n v
  | 0x21 => s.setFld R.LANE_THIN_LOW n v
  | 0x22 => s.setFld R.LANE_THIN_HIGH n v
  | 0x23 => s.setFld R.LANE_THIN_EPOCHS n v
  | 0x24 => s.setFld R.LANE_THIN_PARK n v
  | 0x25 => s.setFld R.LANE_THIN_MIN n v
  | 0x26 => s.setFld R.LANE_THIN_PARTNER_DECL n v
  | 0x27 => s.setFld R.LANE_THIN_WAKE_KIB n v
  | 0x30 =>
    let s := (s.setFld R.LANE_OCT_REF_AUTO_BACKUP (n / 8) (v / 2)).setFld R.LANE_OCT_REF_SOURCE (n / 8) v
    s.takeRef (n / 8) (v % 2 == 1)
  | _ => s

/-- REFCLK_LOSS. -/
def execRefclkLoss (octet : Fin 64) (s : State) : Host.Outcome State Fault Refusal :=
  .next (s.awake (fun s => s.refLoss octet.val))

/-- BACKGROUND_RECAL (R130): a lane that is Active or Quiet is recalibrated, without errors. -/
def execBackgroundRecal (lane : Fin 512) (s : State) : Host.Outcome State Fault Refusal :=
  .next (s.awake (fun s =>
    let n := lane.val
    if s.laneOn n && (decide (s.fld R.LANE_STAT_TX_PWR n ≤ 1) || decide (s.fld R.LANE_STAT_RX_PWR n ≤ 1)) then
    s.calibrate n else s))

/-- CHECKER_SAMPLE. -/
def execCheckerSample (lane : Fin 512) (bits : List Bool) (s : State) : Host.Outcome State Fault Refusal :=
  .next (s.awake (fun s => s.checkerSample lane.val bits))

/-- ALIGNMENT_MARKER_LOCK. -/
def execAlignmentMarkerLock (lane : Fin 512) (locked deskewed : Bool) (s : State) : Host.Outcome State Fault Refusal :=
  .next (s.awake (fun s =>
    let s := s.alignmentLock lane.val locked deskewed
    match s.portOfLane lane.val with
    | some p => s.settlePort p
    | none => s))

end Sys2Proof.Machine
end

