-- ==== Sys2Proof/Machine/Thinning.lean ====
section
/-! DEFINITION. Thinning (R142 to R152): lane-control words, the countdown, holds, the switch and the decisions to narrow and
to widen. -/

namespace Sys2Proof.Machine

/-- CHECK of a lane-control word (R147): the code of bits [23:5]. -/
def thinCheck (w : Nat) : Nat := crcMsb 5 0x5 0 19 (w >>> 5)

/-- A lane-control word. -/
def thinWordOf (kind width park count : Nat) : Nat :=
  let w := kind <<< 20 + (width % 4) <<< 18 + (park % 8) <<< 15 + (count % 1024) <<< 5
  w + thinCheck w

/-- CD of R148 and R152: the count of the first word. -/
def countdown (stf : Bool) (park : Nat) : Nat :=
  if stf then 2 else if park ≤ 1 then 2 else if park = 2 then 8 else if park = 3 then 48 else 400

/-- The code of a port's full width. -/
def State.fullWidth (s : State) (p : Nat) : Nat := s.fld R.PORT_STAT_LANES p

/-- The lanes of a port from one width code up to another. -/
def State.lanesBetween (s : State) (p lo hi : Nat) : List Nat := ((s.lanesOf p).take (2 ^ hi)).drop (2 ^ lo)

/-- The state in which a transmitter of a port parks: THIN_PARK or its floor, whichever is shallower (R143). -/
def State.txPark (s : State) (p n : Nat) : Nat :=
  min (s.fld R.LANE_THIN_PARK (s.firstLane p)) (s.fld R.LANE_CFG_TX_FLOOR n)

/-- Whether the partner of a port is capable (R144). -/
def State.partnerThin (s : State) (p : Nat) : Bool :=
  s.portMode p == 1 || (s.port p).advertised || s.flag R.LANE_THIN_PARTNER_DECL (s.firstLane p)

/-- PARTNER_THIN of the first lane shows whether the partner is capable. -/
def State.showPartner (s : State) (p : Nat) : State := s.setFlag R.LANE_STAT_PARTNER_THIN (s.firstLane p) (s.partnerThin p)

/-- Whether a port may be narrow (R144, R145). -/
def State.mayThin (s : State) (p : Nat) : Bool :=
  s.flag R.LANE_THIN_AUTO (s.firstLane p) && s.partnerThin p && !s.portReserved p && !s.portStagedReserved p &&
    (s.lanesOf p).all (fun n => s.fld R.LANE_CFG_LOOPBACK n == 0 && s.fld R.LANE_TEST_GEN_PAT n == 0 &&
      s.fld R.LANE_TEST_CHK_PAT n == 0)

/-- A port announces a widening to twice its width: with its next word slot, or after a narrowing countdown (R150). -/
def State.startWiden (s : State) (p : Nat) : State :=
  let w := s.txWidth p
  if s.portLife p != .on then s
  else
    match (s.port p).own with
    | some r => if r.widen then s else s.updPort p (fun q => { q with wantWide := true })
    | none =>
      if s.fullWidth p ≤ w then s
      else
        let park := (s.lanesBetween p w (w + 1)).foldl (fun m n => max m (s.fld R.LANE_STAT_TX_PWR n)) 1
        s.updPort p (fun q => { q with
          own := some ⟨true, w + 1, park, countdown (s.portMode p == 1) park, false, false⟩, wantWide := false, lowEpochs := 0 })

/-- A port announces a narrowing to half its width, unless a floor of 0 forbids it (R143, R146). -/
def State.startNarrow (s : State) (p : Nat) : State :=
  let w := s.txWidth p
  let upper := s.lanesBetween p (w - 1) w
  if w = 0 || (s.port p).own.isSome || upper.any (fun n => s.txPark p n == 0) then s
  else
    let park := upper.foldl (fun m n => max m (s.txPark p n)) 1
    s.updPort p (fun q => { q with
      own := some ⟨false, w - 1, park, countdown (s.portMode p == 1) park, false, false⟩, lowEpochs := 0 })

/-- A parked direction leaves its state; one in Doze or Dark that moved far in temperature recalibrates first (R131). -/
def State.wakeTx (s : State) (n : Nat) : State :=
  if 3 ≤ s.fld R.LANE_STAT_TX_PWR n && s.needsRecal n then s.updLane n (fun l => { l with recalTx := true })
  else s.setFld R.LANE_STAT_TX_PWR n 0

@[inherit_doc State.wakeTx] def State.wakeRx (s : State) (n : Nat) : State :=
  if 3 ≤ s.fld R.LANE_STAT_RX_PWR n && s.needsRecal n then s.updLane n (fun l => { l with recalRx := true })
  else s.setFld R.LANE_STAT_RX_PWR n 0

/-- Whether a parked receiver of a port must recalibrate before an announced widening (R151). -/
def State.rxHolds (s : State) (p : Nat) : Bool :=
  match (s.port p).peer with
  | some r => r.widen && (s.lanesBetween p (s.port p).rxWidth r.width).any (fun n => (s.lane n).recalRx)
  | none => false

/-- Whether a parked transmitter must recalibrate before the own widening, or the partner holds it (R151). -/
def State.txHolds (s : State) (p : Nat) (r : ThinRun) : Bool :=
  r.widen && ((s.port p).held || (s.lanesBetween p (s.txWidth p) r.width).any (fun n => (s.lane n).recalTx))

/-- The 64b/66b control block of a lane-control word (R148): block type 0x4B, D1 to D3, O code 0xA; byte 0 is the block type. -/
def thinBlock (w : Nat) : Word64 :=
  BitVec.ofNat 64 (0x4B + bits w 23 16 <<< 8 + bits w 15 8 <<< 16 + bits w 7 0 <<< 24 + 0xA <<< 32)

/-- A lane-control word leaves: in a block of an Ethernet port, in the next frame of an STF port. -/
def State.sendThin (s : State) (p w : Nat) : State :=
  let s := if s.portMode p = 1 && bits w 23 20 != 3 then s else s.portCount p 58 1
  if s.portMode p = 1 then s.updPort p (fun q => { q with thinWord := w }) else s.emit (.pcsBlock p 2 (thinBlock w))

/-- LANE_CONTROL_WORD_SLOT (R148, R151): a hold word, or the next word of the own announcement. -/
def State.thinSlot (s : State) (p : Nat) : State :=
  if s.rxHolds p then
    match (s.port p).peer with
    | some r => s.sendThin p (thinWordOf 3 r.width 0 0)
    | none => s
  else
    match (s.port p).own with
    | none => s
    | some r =>
      let send := fun (s : State) (c : Nat) => s.sendThin p (thinWordOf (if r.widen then 2 else 1) r.width r.park c)
      if !r.begun then
        let s := if r.widen then (s.lanesBetween p (s.txWidth p) r.width).foldl State.wakeTx s else s
        send (s.updPort p (fun q => { q with own := some { r with begun := true } })) r.count
      else if s.txHolds p r then send s r.count
      else if r.closed then s
      else
        send (s.updPort p (fun q => { q with own := some { r with count := r.count - 1, closed := r.count == 1 } })) (r.count - 1)

/-- LANE_CONTROL_WORD_RECEIVE (R149, R151). -/
def State.thinReceive (s : State) (p w : Nat) : State :=
  let kind := bits w 23 20
  let width := bits w 19 18
  if bits w 4 0 != thinCheck w || s.portLife p != .on then s
  else if kind = 3 then
    match (s.port p).own with
    | some r => if r.widen && r.width == width then s.updPort p (fun q => { q with held := true }) else s
    | none => s
  else if kind = 1 || kind = 2 then
    let s := if kind = 2 && !((s.port p).peer.any (fun r => r.widen && r.width == width)) then
        (s.lanesBetween p (s.port p).rxWidth width).foldl State.wakeRx s
      else s
    s.updPort p (fun q => { q with
      peer := some ⟨kind == 2, width, bits w 17 15, bits w 14 5, true, bits w 14 5 == 0⟩ })
  else s

/-- The state in which a receiver of a port parks: PARK of the partner's narrowing or its floor, whichever is shallower (R143, R149). -/
def State.rxPark (s : State) (p n : Nat) : Nat := min (s.port p).peerPark (s.fld R.LANE_CFG_RX_FLOOR n)

/-- A receiver parks, and loses its locks. -/
def State.parkRx (p : Nat) (s : State) (n : Nat) : State :=
  if s.rxPark p n = 0 then s
  else
    (((s.setFld R.LANE_STAT_RX_PWR n (s.rxPark p n)).setAmLock n false).setLock R.LANE_STAT_BLOCK_LOCK n false).signalLost n

/-- A transmitter parks. -/
def State.parkTx (p : Nat) (s : State) (n : Nat) : State := s.setFld R.LANE_STAT_TX_PWR n (s.txPark p n)

/-- The bytes queued for a port exceed its wake threshold (R146). -/
def State.thinWake (s : State) (p : Nat) : State :=
  if isChannel p || s.portMode p != 0 || s.portLife p != .on then s
  else if s.fld R.LANE_THIN_WAKE_KIB (s.firstLane p) * 1024 < s.queuedBytes p then s.startWiden p
  else s

/-- The own switch at the boundary after COUNT 0 (R148), and a widening that waits behind it (R150). -/
def State.ownSwitch (s : State) (p : Nat) : State :=
  match (s.port p).own with
  | none => s
  | some r =>
    if !r.closed || s.txHolds p r then s
    else
      let s := if r.widen then s else (s.lanesBetween p r.width (s.txWidth p)).foldl (State.parkTx p) s
      let s := (s.setFld R.LANE_STAT_WIDTH (s.firstLane p) r.width).updPort p
        (fun q => { q with own := none, held := false, lowEpochs := 0 })
      let s := s.raiseOf EV_LANE_THIN (s.firstLane p)
      (if (s.port p).wantWide || !s.mayThin p then s.startWiden p else s).thinWake p

/-- The switch that the partner announced (R149). -/
def State.peerSwitch (s : State) (p : Nat) : State :=
  match (s.port p).peer with
  | none => s
  | some r =>
    if s.rxHolds p then s
    else
      let old := (s.port p).rxWidth
      let s := s.updPort p (fun q => { q with
        peer := none, rxWidth := r.width, peerPark := if r.widen then q.peerPark else r.park })
      (if r.widen then s else (s.lanesBetween p r.width old).foldl (State.parkRx p) s).relink p

/-- RECAL_DONE (R131, R151): a parked lane has recalibrated and is Active, or a lane comes back into service. -/
def State.recalDone (s : State) (n : Nat) : State :=
  let l := s.lane n
  if !l.recalTx && !l.recalRx && !l.outOfService then s
  else
    let s := if l.recalTx then s.setFld R.LANE_STAT_TX_PWR n 0 else s
    let s := if l.recalRx then s.setFld R.LANE_STAT_RX_PWR n 0 else s
    (s.calibrate n).updLane n (fun l => { l with recalTx := false, recalRx := false, outOfService := false })

/-- A floor or THIN_PARK has changed: the parked directions of a port move to the state that R143 gives; one that may not park is woken. -/
def State.repark (s : State) (p : Nat) : State :=
  if s.portLife p != .on then s
  else
    (s.lanesOf p).foldl (fun s n =>
      if !s.laneOn n then s
      else
        let s := if s.fld R.LANE_STAT_TX_PWR n = 0 then s
          else if s.txPark p n = 0 then (s.wakeTx n).startWiden p
          else s.setFld R.LANE_STAT_TX_PWR n (s.txPark p n)
        if s.fld R.LANE_STAT_RX_PWR n = 0 then s
        else if s.rxPark p n = 0 then s.wakeRx n
        else s.setFld R.LANE_STAT_RX_PWR n (s.rxPark p n)) s

/-- The decision of an Ethernet port at an edge, on the bits of the epoch (R146). -/
def State.thinLoad (s : State) (p : Nat) : State :=
  let w := s.txWidth p
  let first := s.firstLane p
  let sent := (s.port p).sentBits * 100 * s.portLanes p
  let unit := speedGbps (s.fld R.PORT_STAT_SPEED p) * 125000
  let s := s.updPort p (fun q => { q with sentBits := 0 })
  if (decide (w < s.fullWidth p) || (s.port p).own.isSome) && (!s.mayThin p || decide (s.fld R.LANE_THIN_HIGH first * unit * 2 ^ w < sent)) then s.startWiden p
  else if !s.mayThin p || w = 0 || (s.port p).own.isSome || decide (w ≤ s.fld R.LANE_THIN_MIN first) then
    s.updPort p (fun q => { q with lowEpochs := 0 })
  else if sent < s.fld R.LANE_THIN_LOW first * unit * 2 ^ (w - 1) then
    let k := (s.port p).lowEpochs + 1
    if s.fld R.LANE_THIN_EPOCHS first ≤ k then (s.updPort p (fun q => { q with lowEpochs := 0 })).startNarrow p
    else s.updPort p (fun q => { q with lowEpochs := k })
  else s.updPort p (fun q => { q with lowEpochs := 0 })

/-- The decision of an STF port at an edge (R152): `idle` says which lanes carry nothing. -/
def State.thinIdle (s : State) (idle : Nat → Bool) (p : Nat) : State :=
  let w := s.txWidth p
  if !s.mayThin p then s.startWiden p
  else if 0 < w && decide (s.fld R.LANE_THIN_MIN (s.firstLane p) < w) && (s.port p).own.isNone &&
      (s.lanesBetween p (w - 1) w).all idle then s.startNarrow p
  else s

/-- The thinning decision of a port at an edge. -/
def State.thinEdge (idle : Nat → Bool) (s : State) (p : Nat) : State :=
  if isChannel p || s.portLife p != .on then s
  else if s.portMode p = 1 then s.thinIdle idle p
  else s.thinLoad p

/-- LANE_CONTROL_WORD_SLOT. -/
def execLaneControlWordSlot (port : Fin 512) (s : State) : Host.Outcome State Fault Refusal :=
  .next (s.awake (fun s => if s.portLife port.val == .on then s.thinSlot port.val else s))

/-- LANE_CONTROL_WORD_RECEIVE. -/
def execLaneControlWordReceive (port : Fin 512) (word : BitVec 24) (s : State) : Host.Outcome State Fault Refusal :=
  .next (s.awake (fun s => s.thinReceive port.val word.toNat))

/-- HOLD_WORD_TIMEOUT (R151): no hold word for 1 µs, or for one frame. -/
def execHoldWordTimeout (port : Fin 512) (s : State) : Host.Outcome State Fault Refusal :=
  .next (s.awake (fun s => s.updPort port.val (fun q => { q with held := false })))

/-- RECAL_DONE. -/
def execRecalDone (lane : Fin 512) (s : State) : Host.Outcome State Fault Refusal :=
  .next (s.awake (fun s => s.recalDone lane.val))

/-- CLAUSE_73_NEXT_PAGE (R144): the partner's next page under Izinfin's OUI; capability bit 0 declares it capable. -/
def execClause73NextPage (port : Fin 512) (capability : Nat) (s : State) : Host.Outcome State Fault Refusal :=
  .next (s.awake (fun s =>
    if s.portMode port.val == 0 && capability.testBit 0 &&
      (s.portLife port.val == .starting || s.portLife port.val == .on) then
    (s.updPort port.val (fun q => { q with advertised := true })).showPartner port.val else s))

end Sys2Proof.Machine
end

