-- ==== Sys2Proof/Machine/Time.lean ====
section
/-! DEFINITION. Time bases, pulses and reference inputs (chapter 12). -/

namespace Sys2Proof.Machine

/-! ### Records -/

/-- The servo of a time base. -/
def State.servo (s : State) (b : Nat) : Servo := SMap.get Servo.reset s.servos b

/-- Changes the servo of a time base. -/
def State.updServo (s : State) (b : Nat) (f : Servo → Servo) : State := { s with servos := SMap.upd Servo.reset s.servos b f }

/-- A time pulse output. -/
def State.pulse (s : State) (n : Nat) : Pulse := SMap.get Pulse.reset s.pulses n

/-- Changes a time pulse output. -/
def State.updPulse (s : State) (n : Nat) (f : Pulse → Pulse) : State := { s with pulses := SMap.upd Pulse.reset s.pulses n f }

/-- A reference input. -/
def State.tin (s : State) (n : Nat) : TimeIn := SMap.get TimeIn.reset s.tins n

/-- Changes a reference input. -/
def State.updTin (s : State) (n : Nat) (f : TimeIn → TimeIn) : State := { s with tins := SMap.upd TimeIn.reset s.tins n f }

/-- The least reference time at which a time base holds at least `target`. -/
def State.whenReaches (s : State) (b target : Nat) : Nat :=
  s.now + ceilDiv (target - (s.tbGet b).value) ((2 ^ 48 : Nat) + s.tbRate b).toNat

/-- The device at the moment a time base reaches a value. -/
def State.advanceUntil (s : State) (b target : Nat) : State :=
  if (s.tbGet b).value < target then s.advance (s.whenReaches b target) else s

/-! ### Rates (R376, R381) -/

/-- The limit on a time base's rate in use. -/
def State.slewLimit (s : State) (b : Nat) : Nat := s.fld R.TIME_TB_CFG_SLEW_PPM b * 2 ^ 48 / 1000000

/-- A rate within a limit. -/
def clampRate (limit : Nat) (a : Int) : Int := max (-(limit : Int)) (min (limit : Int) a)

/-- SOURCE of a time base. -/
def State.source (s : State) (b : Nat) : Nat := s.fld R.TIME_TB_CFG_SOURCE b

/-- Whether RATE_SW is the rate in use. -/
def rateSwInUse (source : Nat) : Bool := source == 0 || source == 5

/-- Whether RATE_SW is beyond the limit. -/
def State.rateSwOver (s : State) (b : Nat) : Bool :=
  decide (clampRate (s.slewLimit b) (s.sfld R.TIME_TB_RATE_RATE_SW b) ≠ s.sfld R.TIME_TB_RATE_RATE_SW b)

/-- Stores a rate in use, within the limit. -/
def State.setRate (s : State) (b : Nat) (a : Int) : State :=
  s.setFld R.TIME_TB_RATE_CUR_RATE b (unsigned 40 (clampRate (s.slewLimit b) a))

/-- Brings the rate in use of a time base up to date with its source; a servo's output stays, within the limit. -/
def State.rateOf (s : State) (b : Nat) : State :=
  if rateSwInUse (s.source b) then s.setRate b (s.sfld R.TIME_TB_RATE_RATE_SW b)
  else if s.source b = 7 then s.setRate b (s.tbRate 0)
  else s.setRate b (s.tbRate b)

/-- The rates of TB0 and of the time bases that follow it. -/
def State.ratesFrom (s : State) (b : Nat) : State :=
  let s := s.rateOf b
  if b = 0 then (List.range 7).foldl (fun s i => if s.source (i + 1) = 7 then s.rateOf (i + 1) else s) s else s

/-! ### States (R379, R383) -/

/-- STATE codes. -/
def tbFree : Nat := 0
@[inherit_doc tbFree] def tbAcquire : Nat := 1
@[inherit_doc tbFree] def tbLocked : Nat := 2
@[inherit_doc tbFree] def tbHoldover : Nat := 3

/-- STATE of a time base. -/
def State.tbState (s : State) (b : Nat) : Nat := s.fld R.TIME_TB_STAT_STATE b

/-- The sum of rates, each weighted by the time for which it held from `since` on, and that time in all; newest first, `until'` being the
end of the newest. -/
def rateArea (since : Nat) : Nat → List (Int × Nat) → Int × Nat
  | _, [] => (0, 0)
  | until', (a, from') :: rest =>
    let d := until' - max since from'
    let r := rateArea since (min until' from') rest
    (a * (d : Int) + r.1, d + r.2)

/-- The mean of the rates in use over the last 64 s in LOCKED, or over the whole time in LOCKED (R379). -/
def meanRate (rates : List (Int × Nat)) (now : Nat) (current : Int) : Int :=
  let r := rateArea (now - 64 * 1000000000 * 65536) now rates
  if r.2 = 0 then current else r.1 / (r.2 : Int)

/-- One time base changes its state: entering LOCKED readies a waiting step, entering HOLDOVER holds the mean rate. -/
def State.enterTb (s : State) (b new : Nat) : State :=
  if s.tbState b = new then s
  else
    let s := s.setFld R.TIME_TB_STAT_STATE b new
    let s := if new = tbLocked && s.fld R.TIME_TB_STAT_STEP b == 0 then s.setFld R.TIME_TB_STAT_STEP b 1 else s
    let src := s.source b
    let s := if new = tbHoldover && (decide (1 ≤ src ∧ src ≤ 4) || src == 6) then
        s.setRate b (meanRate (s.servo b).rates s.now (s.tbRate b))
      else s
    let s := s.updServo b (fun v => { v with
      good := if new = tbLocked then v.good else 0, rates := if new = tbLocked then [(s.tbRate b, s.now)] else [], integral := none })
    s.raiseOf EV_TB_STATE b

/-- The state of a time base with source 7: that of TB0, or ACQUIRE while TB0 is FREE. -/
def followed (state0 : Nat) : Nat := if state0 = tbFree then tbAcquire else state0

/-- A state change of a time base, followed by those with source 7. -/
def State.toTb (s : State) (b new : Nat) : State :=
  let s := s.enterTb b new
  let s := if b = 0 then
      (List.range 7).foldl (fun s i => if s.source (i + 1) = 7 then s.enterTb (i + 1) (followed (s.tbState 0)) else s) s
    else s
  s.ratesFrom b

/-- A lock source is lost: LOCKED becomes HOLDOVER. -/
def State.holdTb (s : State) (b : Nat) : State := if s.tbState b = tbLocked then s.toTb b tbHoldover else s

/-- Lane `n` leaves SYNC or its frequency is out of tolerance: a time base that it drives loses its source (R379). -/
def State.holdLane (s : State) (n : Nat) : State :=
  (List.range 8).foldl (fun s b => if s.source b = 6 && s.fld R.TIME_TB_CFG_LANE b == n then s.holdTb b else s) s

/-- TIME_TB_CFG has changed at its edge from `old` (R378, R379, R381). -/
def State.tbCfgChanged (s : State) (b old : Nat) : State :=
  let src := s.source b
  let oldSrc := bits old 2 0
  let decl := s.flag R.TIME_TB_CFG_LOCK_DECL b
  let oldLimit := bits old 19 9 * 2 ^ 48 / 1000000
  let rate := s.sfld R.TIME_TB_RATE_RATE_SW b
  let cutBefore := rateSwInUse oldSrc && decide (clampRate oldLimit rate ≠ rate)
  let s := if src ≠ oldSrc then
      let target := if src = 0 then tbFree else if src = 5 then (if decl then tbLocked else tbAcquire)
        else if src = 7 then followed (s.tbState 0) else tbAcquire
      (s.updServo b (fun v => { v with good := 0, rates := [], integral := none })).toTb b target
    else if src = 5 && decl != (bits old 8 8 == 1) then
      if decl then s.toTb b tbLocked else s.holdTb b
    else s
  let s := s.ratesFrom b
  if rateSwInUse src && s.rateSwOver b && !cutBefore then s.raiseOf EV_TB_CLAMP b else s

/-- TB.RATE (R381). -/
def State.tbRateSet (s : State) (b rate : Nat) : State :=
  let s := (s.setFld R.TIME_TB_RATE_RATE_SW b rate).ratesFrom b
  if rateSwInUse (s.source b) && s.rateSwOver b then s.raiseOf EV_TB_CLAMP b else s

/-- TB.REARM (R386). -/
def State.tbRearm (s : State) (b : Nat) : State :=
  let s := if s.fld R.TIME_TB_STAT_STEP b = 2 then s.setFld R.TIME_TB_STAT_STEP b (ofFlag (s.tbState b == tbLocked)) else s
  s.raiseOf EV_TB_REARM b

/-! ### Steps (R383 to R387) -/

/-- The second, in units of 2^-64 ns. -/
def secondUnits : Nat := 1000000000 * nsUnits

/-- The size of a relative step, in units of 2^-64 ns. -/
def relativeStep (w0 : Word64) : Int := w0.toInt * ((2 ^ 48 : Nat) : Int)

/-- The value that an ABS step gives. -/
def absValue (w0 w1 : Word64) : Nat :=
  bits w0.toNat 47 0 * secondUnits + bits w1.toNat 47 16 * nsUnits + bits w1.toNat 15 0 * 2 ^ 48

/-- Why a step is refused (R383, R384): 0 where it is accepted. -/
def State.stepCause (s : State) (b : Nat) (abs : Bool) (w0 : Word64) : Nat :=
  let st := s.fld R.TIME_TB_STAT_STEP b
  if st = 0 then 1 else if st = 2 then 2
  else if !abs && decide (((s.tbGet b).value : Int) + relativeStep w0 < 0) then 3 else 0

/-- TB.STEP executes: whether it was accepted. -/
def State.tbStep (s : State) (b : Nat) (abs : Bool) (w0 w1 : Word64) : Bool × State :=
  let cause := s.stepCause b abs w0
  if cause ≠ 0 then
    (false, (s.setFld R.TIME_TB_STAT_REFUSE b cause).raiseAt EV_TB_STEP_REFUSED b b [cause])
  else
    let v := (s.tbGet b).value
    let instant := ((v + 1000 * nsUnits) / secondUnits + 1) * secondUnits
    let armed : Nat × Int := if abs then (instant, (absValue w0 w1 : Int) - (instant : Int)) else (v, relativeStep w0)
    (true, (s.setFld R.TIME_TB_STAT_STEP b 2).updServo b (fun r => { r with armed := some armed }))

/-- Half an epoch, in units of 2^-64 ns. -/
def halfEpoch : Nat := 62500 * nsUnits

/-- The epoch length, in units of 2^-64 ns. -/
def epochUnits : Nat := 125000 * nsUnits

/-- The next edge after a step of TB0 (R18): the first multiple of 125,000 ns of the new time at least 62.5 µs after the
previous edge. One that the step itself has reached or passed is due at once (R13). The edge that has moved has a cutoff of its own
(R28). -/
def State.retarget (s : State) : State :=
  let t := s.tbGet 0
  let since := t.free - s.epoch.lastAt
  { s with epoch := { s.epoch with target := ceilDiv (t.value + halfEpoch - since) epochUnits * epochUnits, gap := true, cutoffDone := false } }

/-- The time base value in units of 2^-16 ns. -/
def State.tbFine (s : State) (b : Nat) : Nat := (s.tbGet b).value / 2 ^ 48

/-- Start, period and kind of a pulse schedule: start and period in units of 2^-16 ns. -/
def State.schedOf (s : State) (n : Nat) : Nat × Nat × Bool :=
  (s.fld R.TIME_TPO_START_SEC_SEC n * (1000000000 * 65536) + s.reg R.TIME_TPO_START_NS n % 2 ^ 48, s.reg R.TIME_TPO_PERIOD n,
   s.flag R.TIME_TPO_CFG_TRAIN n)

/-- The first pulse time of a schedule at or after `t`. -/
def firstPulse (sched : Nat × Nat × Bool) (t : Nat) : Option Nat :=
  let (start, period, train) := sched
  if t ≤ start then some start
  else if train then some (start + ceilDiv (t - start) (max period 1) * period)
  else none

/-- Pulse times of a schedule from `a` up to but not including `b`. -/
def pulsesIn (sched : Nat × Nat × Bool) (a b : Nat) : Nat :=
  let (start, period, train) := sched
  if train then
    let upTo := fun t => if t ≤ start then 0 else ceilDiv (t - start) (max period 1)
    upTo b - upTo a
  else ofFlag (decide (a ≤ start) && decide (start < b))

/-- Pulses that were not emitted count (R403). -/
def State.missPulses (s : State) (n k : Nat) : State :=
  if k = 0 then s else (s.bump R.TIME_TPO_MISSED_COUNT n k).raiseOnce EV_TPO_MISSED n n n []

/-- A pulse output's schedule after a step of its time base from `old` to `new`. -/
def State.stepPulse (b old new : Nat) (s : State) (n : Nat) : State :=
  if s.fld R.TIME_TPO_CFG_TB n != b || s.life R.TIME_TPO_STAT_LC n != .on then s
  else
    match (s.pulse n).next with
    | none => s
    | some t =>
      let sched := s.schedOf n
      if old < new then
        let s := s.missPulses n (if t < new then pulsesIn sched t new else 0)
        let next := if t < new then firstPulse sched new else some t
        let s := s.updPulse n (fun p => { p with next := next })
        if next.isNone then s.lifeForce R.TIME_TPO_STAT_LC n else s
      else
        let least := max new (match (s.pulse n).last with
          | none => 0
          | some l => l + 1)
        s.updPulse n (fun p => { p with next := firstPulse sched least })

/-- TB_STEP_APPLY: the armed step takes effect, an ABS step at its instant. An epoch edge that is due by then comes first (R388). -/
def State.applyStep (s : State) (b : Nat) : State :=
  match (s.servo b).armed with
  | none => s
  | some (instant, delta) =>
    if b = 0 && decide (s.epoch.target ≤ max instant (s.tbGet 0).value) then s else
    let s := s.advanceUntil b instant
    let t := s.tbGet b
    let old := s.tbFine b
    let value := ((t.value : Int) + delta).toNat
    let s := (s.tbSet b { t with value := value }).updServo b (fun r => { r with armed := none })
    let ns := Int.tdiv delta (nsUnits : Int)
    let held := max (-((2 ^ 63 - 1 : Nat) : Int)) (min ((2 ^ 63 - 1 : Nat) : Int) ns)
    let s := s.setFld R.TIME_TB_STEP_LAST_DELTA b (unsigned 64 held)
    let s := (s.setFld R.TIME_TB_STEP_EPOCH_EPOCH b s.epochNum).raiseOf EV_TB_STEP b
    let s := if b = 0 then s.retarget else s
    (List.range 16).foldl (State.stepPulse b old (s.tbFine b)) s

/-! ### The servo (R379, R380) -/

/-- The nearest number to `x` that is a multiple of `m`. -/
def nearest (m x : Nat) : Nat := (x + m / 2) / m * m

/-- The frequency error of a time base over the last interval of its source, in units of 2^-8 ppb. -/
def State.freqError (s : State) (b : Nat) : Option Int :=
  let src := s.source b
  if 1 ≤ src && decide (src ≤ 4) then
    let t := s.tin (src - 1)
    if !t.fresh then none
    else
      let d := t.latest.getD b 0 - t.before.getD b 0
      let want := if s.fld R.TIME_TIN_CFG_MODE (src - 1) = 1 then secondUnits else nearest (100 * nsUnits) d
      some (((d : Int) - (want : Int)) * 256 / (nsUnits : Int))
  else if src = 6 && s.fld R.STF_STAT_ALIGN (s.fld R.TIME_TB_CFG_LANE b) == 2 then some (-(s.sfld R.LANE_FREQ_OFFSET (s.fld R.TIME_TB_CFG_LANE b)) * 1000 / 256)
  else none

/-- The phase error against the target of R380, in 2^-16 ns: 0 modulo 1 s, or modulo 100 ns for 10 MHz. -/
def State.phaseError (s : State) (b : Nat) : Int :=
  let src := s.source b - 1
  let m := if s.fld R.TIME_TIN_CFG_MODE src = 1 then 1000000000 * 65536 else 100 * 65536
  let r := (s.tin src).capture % m
  if 2 * r < m then (r : Int) else (r : Int) - (m : Int)

/-- T9 steers the phase of a time base (R380): a proportional-integral loop whose integral term starts at the rate in use. -/
def State.steerPhase (s : State) (b : Nat) : State :=
  let err := s.phaseError b
  let gain := Config.servoGains (2 ^ (s.fld R.TIME_TB_CFG_TAU b + 2))
  let integral := (s.servo b).integral.getD (s.tbRate b) - gain.2 * err
  (s.updServo b (fun v => { v with integral := some integral })).setRate b (integral - gain.1 * err)

/-- T9 steers the frequency of a time base by the error that it has found. -/
def State.steerFrequency (s : State) (b : Nat) (err : Int) : State :=
  s.setRate b (s.tbRate b - Int.tdiv (err * ((2 ^ 48 : Nat) : Int)) 256000000000)

/-- SERVO_UPDATE: T9 measures, steers and moves the lock state of a time base with a hardware source. In HOLDOVER the rate in use
stays the mean that R379 gives. -/
def State.servoUpdate (s : State) (b : Nat) : State :=
  match s.freqError b with
  | none => s
  | some err =>
    let tin := s.source b ≠ 6
    let s := s.setFld R.TIME_TB_SERVO_FREQ_ERR b (unsigned 32 err)
    let s := if tin then s.setFld R.TIME_TB_SERVO_PHASE_ERR b (unsigned 32 (Int.tdiv (s.phaseError b) 65536)) else s
    let s := if tin then s.updTin (s.source b - 1) (fun t => { t with fresh := false }) else s
    let good := if err.natAbs ≤ 50 * 256 then (s.servo b).good + 1 else 0
    let steered := if s.tbState b = tbHoldover then s
      else if tin && s.fld R.TIME_TB_STAT_STEP b == 2 then s.steerPhase b
      else s.steerFrequency b err
    let s := if b = 0 then steered.ratesFrom 0 else steered
    let s := s.updServo b (fun v => { v with
      good := good, rates := if s.tbState b = tbLocked then ((s.tbRate b, s.now) :: v.rates).take 128 else v.rates })
    if s.tbState b != tbLocked && decide (s.fld R.TIME_TB_CFG_LOCK_N b ≤ good) then s.toTb b tbLocked else s

/-! ### Reference inputs (R404, R405) -/

/-- LOST of an input changes; the time bases that use it react. -/
def State.setLost (s : State) (n : Nat) (lost : Bool) : State :=
  if s.flag R.TIME_TIN_STAT_LOST n == lost then s
  else
    let s := (s.setFlag R.TIME_TIN_STAT_LOST n lost).raiseOf EV_TIN_LOST n
    if lost then (List.range 8).foldl (fun s b => if s.source b = n + 1 then s.holdTb b else s) s else s

/-- An accepted edge: captured on CAP_TB, in 10 MHz mode only the first after each whole second. -/
def State.acceptEdge (s : State) (n : Nat) : State :=
  let b := s.fld R.TIME_TIN_CFG_CAP_TB n
  let pps := s.fld R.TIME_TIN_CFG_MODE n == 1
  let s := (s.bump R.TIME_TIN_EDGES_COUNT n 1).updTin n (fun t => { t with edge := some s.now })
  let s := s.setLost n false
  let sec := (s.tbGet b).value / secondUnits
  if !pps && (s.tin n).second == some sec then s
  else
    let cap := movedStamp (s.tbGet b).value (-(s.sfld R.TIME_TIN_DELAY_DELAY n * ((2 ^ 48 : Nat) : Int))) / 2 ^ 48
    let counts := (List.range 8).map (fun i => (s.tbGet i).free)
    let s := s.updTin n (fun t => { t with
      before := t.latest, latest := counts, fresh := !t.latest.isEmpty, capture := cap, second := some sec })
    if s.flag R.TIME_TIN_CFG_CAP_EV n then s.raiseOf EV_TIN_CAP n else s

/-- TIN_EDGE: an active edge is accepted or rejected. -/
def State.tinEdge (s : State) (n : Nat) : State :=
  match s.fld R.TIME_TIN_CFG_MODE n with
  | 1 =>
    match (s.tin n).edge with
    | none => s.acceptEdge n
    | some t =>
      let d := s.now - t
      if 999900000 * 65536 ≤ d && decide (d ≤ 1000100000 * 65536) then s.acceptEdge n else s.bump R.TIME_TIN_REJECTED_COUNT n 1
  | 2 => s.acceptEdge n
  | _ => s

/-- TIN_LOSS_TIMEOUT: the input is lost, and its next edge is again a first edge. -/
def State.tinLoss (s : State) (n : Nat) : State :=
  if s.fld R.TIME_TIN_CFG_MODE n = 0 then s
  else (s.updTin n (fun t => { t with edge := none, latest := [], fresh := false })).setLost n true

/-- TIME_TIN_CFG has changed at its edge: a new MODE starts the input again. -/
def State.tinCfgChanged (s : State) (n old : Nat) : State :=
  if bits old 1 0 = s.fld R.TIME_TIN_CFG_MODE n then s
  else
    let s := s.updTin n (fun t => { TimeIn.reset with capture := t.capture })
    if s.fld R.TIME_TIN_CFG_MODE n = 0 then s.setFlag R.TIME_TIN_STAT_LOST n false else s

/-! ### Pulses (R400 to R403) -/

/-- PULSE.SET's parameters stored in the schedule registers: time base, TRAIN, start and period. -/
def State.putPulse (s : State) (n : Nat) (p : Nat × Bool × Nat × Nat × Nat) : State :=
  let s := (s.setFld R.TIME_TPO_CFG_TB n p.1).setFlag R.TIME_TPO_CFG_TRAIN n p.2.1
  ((s.setFld R.TIME_TPO_START_SEC_SEC n p.2.2.1).setReg R.TIME_TPO_START_NS n p.2.2.2.1).setReg R.TIME_TPO_PERIOD n p.2.2.2.2

/-- The schedule is armed: the first pulse is the first at least 1 µs later. -/
def State.armPulse (s : State) (n : Nat) : State :=
  let t := s.tbFine (s.fld R.TIME_TPO_CFG_TB n) + 1000 * 65536
  s.updPulse n (fun p => { p with next := firstPulse (s.schedOf n) t })

/-- A PULSE.SET at its edge (R401). -/
def State.applyPulse (s : State) (n tb : Nat) (enable train : Bool) (sec ns period : Word64) : State :=
  let p := (tb, train, sec.toNat, ns.toNat, period.toNat)
  match s.life R.TIME_TPO_STAT_LC n with
  | .off => if enable then ((s.putPulse n p).armPulse n).lifeAsk R.TIME_TPO_STAT_LC n true else s.putPulse n p
  | .on => if enable then (s.putPulse n p).armPulse n else (s.putPulse n p).lifeAsk R.TIME_TPO_STAT_LC n false
  | _ => (s.updPulse n (fun q => { q with stored := some p })).lifeAsk R.TIME_TPO_STAT_LC n enable

/-- Parameters that waited for a transition to end. -/
def State.takeStored (s : State) (n : Nat) : State :=
  match (s.pulse n).stored with
  | none => s
  | some p => (s.putPulse n p).updPulse n (fun q => { q with stored := none })

/-- TPO_TRANSITION_END: Starting ends in On, or, for a single pulse whose time has passed, on the way to Off; Stopping ends
with the pin at its inactive level. -/
def State.pulseEnd (s : State) (n : Nat) : State :=
  match s.life R.TIME_TPO_STAT_LC n with
  | .starting =>
    let pending := (s.pulse n).stored.isSome
    let s := (s.lifeEnd R.TIME_TPO_STAT_LC n .on).raiseOf EV_TPO_STATE n
    let s := if pending then (s.takeStored n).armPulse n else s
    if s.life R.TIME_TPO_STAT_LC n == .on && (s.pulse n).next.isNone then
      (s.missPulses n 1).lifeForce R.TIME_TPO_STAT_LC n
    else s
  | .stopping =>
    let s := s.updPulse n (fun p => { p with active := false, next := none, last := none })
    let s := (s.lifeEnd R.TIME_TPO_STAT_LC n .off).raiseOf EV_TPO_STATE n
    let s := s.takeStored n
    if s.life R.TIME_TPO_STAT_LC n == .starting then s.armPulse n else s
  | _ => s

/-- The width of a pulse in 2^-16 ns (R402). -/
def State.pulseWidth (s : State) (n : Nat) : Nat :=
  let period := s.reg R.TIME_TPO_PERIOD n
  let train := s.flag R.TIME_TPO_CFG_TRAIN n
  let w := s.fld R.TIME_TPO_WIDTH_WIDTH_NS n
  if w = 0 then (if train && decide (period ≤ 200000000 * 65536) then period / 2 else 100000000 * 65536)
  else if train && decide (period ≤ w * 65536) then period / 2
  else w * 65536

/-- PULSE_EMIT: the time base reaches the next pulse's time; after a single pulse the device asks for a disable. -/
def State.emitPulse (s : State) (n : Nat) : State :=
  if s.life R.TIME_TPO_STAT_LC n != .on then s
  else
    match (s.pulse n).next with
    | none => s
    | some t =>
      let s := s.advanceUntil (s.fld R.TIME_TPO_CFG_TB n) (t * 2 ^ 48)
      let train := s.flag R.TIME_TPO_CFG_TRAIN n
      let s := s.emit (.pulse n (s.pulseWidth n) (s.flag R.TIME_TPO_CFG_POL n))
      let s := s.updPulse n (fun p => { p with
        last := some t, active := true, next := if train then some (t + s.reg R.TIME_TPO_PERIOD n) else none })
      if train then s else s.lifeForce R.TIME_TPO_STAT_LC n

/-- TB_STEP_APPLY. -/
def execTbStepApply (tb : Fin 8) (s : State) : Host.Outcome State Fault Refusal :=
  .next (s.awake (fun s => s.applyStep tb.val))

/-- SERVO_UPDATE. -/
def execServoUpdate (tb : Fin 8) (s : State) : Host.Outcome State Fault Refusal :=
  .next (s.awake (fun s => s.servoUpdate tb.val))

/-- TIN_EDGE at a reference time: an edge of the polarity that EDGE selects. -/
def execTinEdge (tin : Fin 4) (rising : Bool) (time : Nat) (s : State) : Host.Outcome State Fault Refusal :=
  .next (s.awake (fun s =>
    let s := s.advance time
    if (s.fld R.TIME_TIN_CFG_EDGE tin.val == 0) == rising then s.tinEdge tin.val else s))

/-- TIN_LOSS_TIMEOUT. -/
def execTinLossTimeout (tin : Fin 4) (s : State) : Host.Outcome State Fault Refusal :=
  .next (s.awake (fun s => s.tinLoss tin.val))

/-- TPO_TRANSITION_END. -/
def execTpoTransitionEnd (tpo : Fin 16) (s : State) : Host.Outcome State Fault Refusal :=
  .next (s.awake (fun s => s.pulseEnd tpo.val))

/-- PULSE_EMIT. -/
def execPulseEmit (tpo : Fin 16) (s : State) : Host.Outcome State Fault Refusal :=
  .next (s.awake (fun s => s.emitPulse tpo.val))

end Sys2Proof.Machine
end

