-- ==== Sys2Proof/Machine/Stf.lean ====
section
/-! DEFINITION. The receive side of STF lanes (chapter 06) and of their tributaries and packet channels (chapter 07): block
lock, frame alignment, defects, pointers, containers and delineation. -/

namespace Sys2Proof.Machine

/-! ### Records -/

/-- What STF lane `n` holds. -/
def State.stfOf (s : State) (n : Nat) : Stf := SMap.get Stf.reset s.stf n

/-- Changes what STF lane `n` holds. -/
def State.updStf (s : State) (n : Nat) (f : Stf → Stf) : State := { s with stf := SMap.upd Stf.reset s.stf n f }

/-- The number of TU `t` of lane `n`. -/
def tuKey (n t : Nat) : Nat := 78 * n + t

/-- What a TU holds. -/
def State.tu (s : State) (k : Nat) : Tu := SMap.get Tu.reset s.tus k

/-- Changes what a TU holds. -/
def State.updTu (s : State) (k : Nat) (f : Tu → Tu) : State := { s with tus := SMap.upd Tu.reset s.tus k f }

/-- What packet channel `p` holds. -/
def State.channel (s : State) (p : Nat) : Channel := SMap.get Channel.reset s.channels (p - 512)

/-- Changes what packet channel `p` holds. -/
def State.updChannel (s : State) (p : Nat) (f : Channel → Channel) : State :=
  { s with channels := SMap.upd Channel.reset s.channels (p - 512) f }

/-- Whether a lane runs as a Class-112 STF lane. -/
def State.stfLane (s : State) (n : Nat) : Bool := s.fld R.LANE_STAT_CLASS n == 3 && s.laneOn n

/-- An STF lane counter advances (R215). -/
def State.stfCount (s : State) (n i k : Nat) : State := s.bump R.STF_CTR_COUNT (32 * n + i) k

/-- The TUs of a bound channel, rising. -/
def State.chanTus (s : State) (p : Nat) : List Nat :=
  onesOf 78 (s.fld R.PORT_CHAN_TU_LO_TUS (p - 512) + s.fld R.PORT_CHAN_TU_HI_TUS (p - 512) <<< 64)

/-- The bound lane of a channel. -/
def State.chanLane (s : State) (p : Nat) : Nat := s.fld R.PORT_CHAN_BIND_LANE (p - 512)

/-- The packet channels that are not Off on a lane. -/
def State.channelsOn (s : State) (n : Nat) : List Nat := s.livePorts.filter (fun p => isChannel p && s.chanLane p == n)

/-- The channel that a TU of a lane belongs to. -/
def State.chanOf (s : State) (n t : Nat) : Option Nat := (s.channelsOn n).find? (fun p => (s.chanTus p).contains t)

/-! ### Scrambler and traces (R192, R196, R197) -/

/-- The scrambler's state at the first bit of row 0 word 2. -/
def stfSeed (fn id : Nat) : Nat :=
  let s := (fn ^^^ (id <<< 15)) % 2 ^ 31
  if s = 0 then 2 ^ 31 - 1 else s

/-- One step of the scrambler: the bit, and the state after it. -/
def stfBit (s : Nat) : Bool × Nat :=
  let b := s.testBit 30 != s.testBit 27
  (b, (s * 2 + ofFlag b) % 2 ^ 31)

/-- One word scrambled or descrambled, bit 0 first, and the state after it. -/
def stfScramble (s w : Nat) : Nat × Nat :=
  (List.range 64).foldl (fun (r : Nat × Nat) i =>
    let b := stfBit r.2
    (if b.1 then r.1 ^^^ (1 <<< i) else r.1, b.2)) (w, s)

/-- Words scrambled one after another. -/
def stfScrambleAll : Nat → List Word64 → List Word64
  | _, [] => []
  | s, w :: ws =>
    let r := stfScramble s w.toNat
    BitVec.ofNat 64 r.1 :: stfScrambleAll r.2 ws

/-- The exclusive-OR of the bytes of a word. -/
def byteParity (w : Nat) : Nat := (leBytes 8 w).foldl (fun x b => x ^^^ b.toNat) 0

/-- Whether 16 bytes form a valid trace. -/
def traceOk (bs : List Byte) : Bool :=
  let b0 := (bs.getD 0 0).toNat
  bs.length == 16 && b0.testBit 7 && (bs.drop 1).all (fun b => !b.toNat.testBit 7) &&
    crcMsb 7 0x09 0 128 (beNat (BitVec.ofNat 8 0x80 :: bs.drop 1)) == b0 % 128

/-- The bytes of a trace held in two words. -/
def traceBytes (ws : List Word64) : List Byte := wordsToBytes ws

/-! ### Express pairs (R238, R241) -/

/-- Whether pair `i` is active: enabled, and both its lanes are STF lanes of ports that are On. -/
def State.pairActive (s : State) (i : Nat) : Bool :=
  s.flag R.TSI_XP_EN i && [s.fld R.TSI_XP_LANE_A i, s.fld R.TSI_XP_LANE_B i].all (fun n =>
    s.fld R.LANE_STAT_CLASS n == 3 && (s.portOfLane n).any (fun p => s.portLife p == .on))

/-- Whether a lane's receiver can lead an express transmitter. -/
def State.leads (s : State) (n : Nat) : Bool :=
  s.fld R.STF_STAT_ALIGN n == 2 && !s.flag R.STF_STAT_LOS n && !s.flag R.STF_STAT_LOB n && !s.flag R.STF_STAT_LOF n

/-- XP_ACTIVE and the slaving of pair `i` brought up to date; slaving begins only at a frame start. -/
def State.refreshPair (s : State) (i : Nat) : State :=
  let act := s.pairActive i
  let ab := s.flag R.TSI_XP_SLAVED_AB i && act && s.leads (s.fld R.TSI_XP_LANE_A i)
  let ba := s.flag R.TSI_XP_SLAVED_BA i && act && s.leads (s.fld R.TSI_XP_LANE_B i)
  if s.flag R.TSI_XP_XP_ACTIVE i == act && s.flag R.TSI_XP_SLAVED_AB i == ab && s.flag R.TSI_XP_SLAVED_BA i == ba then s
  else
    (((s.setFlag R.TSI_XP_XP_ACTIVE i act).setFlag R.TSI_XP_SLAVED_AB i ab).setFlag R.TSI_XP_SLAVED_BA i ba).raiseAt EV_TSI_XP 0 i []

/-- The enabled pairs, rising: an unlisted TSI_XP has EN 0. -/
def State.enabledPairs (s : State) : List Nat :=
  s.regs.filterMap (fun e =>
    match R.TSI_XP.instanceAt e.1 with
    | some i => if e.1 = R.TSI_XP.addr i && e.2.toNat.testBit 31 then some i else none
    | none => none)

/-- The pairs that were brought up or are enabled. -/
def State.knownPairs (s : State) : List Nat := s.regs.filterMap (fun e => R.TSI_XP.instanceAt e.1)

/-- Brings every pair that a lane lies in up to date, with EXPRESS of the lane. -/
def State.refreshPairs (s : State) (n : Nat) : State :=
  let inPair := fun (s : State) i => s.fld R.TSI_XP_LANE_A i == n || s.fld R.TSI_XP_LANE_B i == n
  let s := s.knownPairs.foldl (fun s i => if inPair s i then s.refreshPair i else s) s
  s.setFlag R.STF_STAT_EXPRESS n (s.fld R.LANE_STAT_CLASS n == 3 && s.enabledPairs.any (fun i => inPair s i))

/-! ### Packet channels: receive failure and link (R210, R225, R250) -/

/-- Whether a receive lane's defects call for downstream TU AIS (R210). -/
def State.laneFails (s : State) (n : Nat) : Bool :=
  s.flag R.STF_STAT_LOS n || s.flag R.STF_STAT_LOB n || s.flag R.STF_STAT_LOF n || s.flag R.STF_STAT_AIS n ||
    (s.flag R.STF_STAT_TIM n && s.flag R.STF_CFG_TIM_AIS_SEC n)

/-- Whether a received TU yields container words to what it feeds (R210, R225). -/
def State.tuFails (s : State) (n t : Nat) : Bool :=
  !s.stfLane n || s.laneFails n || s.fld R.STF_TU_PTR_RX_STATE (tuKey n t) != 0 || s.flag R.STF_TU_STAT_AIS (tuKey n t) ||
    s.flag R.STF_TU_STAT_LOP (tuKey n t) || (s.flag R.STF_TU_STAT_TIM (tuKey n t) && s.flag R.STF_CFG_TIM_AIS_PATH n)

/-- Whether a channel is in receive failure. -/
def State.chanFails (s : State) (p : Nat) : Bool :=
  let n := s.chanLane p
  s.flag R.PORT_CHAN_STAT_SKEW (p - 512) ||
    (s.chanTus p).any (fun t => s.tuFails n t || s.flag R.STF_TU_STAT_UNEQ (tuKey n t) || s.flag R.STF_TU_STAT_PLM (tuKey n t))

/-- RX_FAIL, DELIN and LINK_UP of a channel brought up to date. -/
def State.refreshChannel (s : State) (p : Nat) : State :=
  let fail := s.chanFails p
  let s := s.setFlag R.PORT_CHAN_STAT_RX_FAIL (p - 512) fail
  let s := if fail then s.updChannel p (fun c => { c with delin := Delin.hunt, rx := [], skip := 0 }) else s
  let st := (s.channel p).delin.st
  let s := s.setFld R.PORT_CHAN_STAT_DELIN (p - 512) st
  s.setLinkUp p ((s.portLife p == .on || s.portLife p == .stopping) && st == 2 && !fail)

/-! ### TU defects (R209) -/

/-- A condition observed once more (R209). -/
def Debounce.see (d : Debounce) (v : Bool) : Debounce :=
  if v == d.on then { d with run := 0 }
  else if d.run + 1 = 3 then { on := v, run := 0 }
  else { d with run := d.run + 1 }

/-- The defect bits of a lane, LOS to TIM. -/
def State.laneBits (s : State) (n : Nat) : Nat := bits (s.reg R.STF_STAT n) 31 26

/-- The path trace expected on a TU, as bytes; all zero for none. -/
def State.pathExpected (s : State) (k : Nat) : List Byte :=
  leBytes 8 (s.fld R.STF_PATH_TRACE_EXP_TRACE (2 * k)) ++ leBytes 8 (s.fld R.STF_PATH_TRACE_EXP_TRACE (2 * k + 1))

/-- Whether a list of bytes is all zero. -/
def allZero (bs : List Byte) : Bool := bs.all (fun b => b == 0)

/-- The defects of TU `t` of lane `n` evaluated. A change that masking did not make raises EV_STF_TU_DEFECT. -/
def State.evalTu (s : State) (n : Nat) (t : Nat) : State :=
  let k := tuKey n t
  let want := s.fld R.STF_TU_LABEL_EXP_LABEL k
  let exp := s.pathExpected k
  let s := s.updTu k (fun u => { u with
    plm := match u.labelAcc with
      | none => u.plm
      | some l => want != 0 && l != want && (u.plm || (l != 0 && l != 0xFF))
    tim := match u.traceAcc with
      | none => u.tim && !allZero exp
      | some a => !allZero exp && a != exp })
  let u := s.tu k
  let st := s.fld R.STF_TU_PTR_RX_STATE k
  let masked := s.laneBits n != 0 || s.flag R.STF_STAT_PARKED n || (s.stfOf n).masked
  let ais := st == 1
  let lop := st == 3
  let uneq := want != 0 && u.labelAcc == some 0
  let ais' := ais && !masked
  let lop' := lop && !masked && !ais'
  let uneq' := uneq && !masked && !ais' && !lop'
  let plm' := u.plm && !masked && !ais' && !lop' && !uneq'
  let tim' := u.tim && !masked && !ais' && !lop' && !uneq'
  let rdi' := u.rdi.on && !masked && !ais' && !lop'
  let new := maskOf ((List.range 6).filter (fun i => [rdi', tim', plm', uneq', lop', ais'].getD i false))
  let raw := maskOf ((List.range 6).filter (fun i => [u.rdi.on, u.tim, u.plm, uneq, lop, ais].getD i false))
  let old := bits (s.reg R.STF_TU_STAT k) 5 0
  if new = old then s
  else
    let s := s.setReg R.STF_TU_STAT k (withBits (s.reg R.STF_TU_STAT k) 5 0 new)
    if new &&& (63 - old) != 0 || old &&& (63 - raw) != 0 then s.raiseAt EV_STF_TU_DEFECT k n [new, t] else s

/-- Every TU of a lane evaluated, and the channels bound to it. -/
def State.evalTus (s : State) (n : Nat) : State :=
  let s := (List.range 78).foldl (fun s t => s.evalTu n t) s
  (s.channelsOn n).foldl State.refreshChannel s

/-! ### Lane defects (R208, R209) -/

/-- Section trace identifier mismatch. -/
def State.sectionTim (s : State) (n : Nat) : Bool :=
  let st := s.stfOf n
  let exp := [s.fld R.STF_SEC_TRACE_EXP_TRACE (2 * n), s.fld R.STF_SEC_TRACE_EXP_TRACE (2 * n + 1)]
  let id := s.fld R.STF_ID_EXP_ID n
  (id != 0 && st.idAcc.any (fun a => a != id)) ||
    (exp != [0, 0] && st.traceAcc.any (fun a => a.map BitVec.toNat != exp))

/-- The pointer interpreters of a lane start again (R224). -/
def State.acquire (s : State) (n : Nat) : State :=
  (List.range 78).foldl (fun s t =>
    let s := s.setFld R.STF_TU_PTR_RX_STATE (tuKey n t) 2
    s.updTu (tuKey n t) (fun u => { u with
      run := 0, aisRun := 0, otherRun := 0, badRun := 0, tentative := none, seen := false, span := Span.dead, spanNext := Span.dead
      labelRun := 0, partialTrace := [], traceRun := 0, rdi := Debounce.clear })) s

/-- The defects of an STF lane evaluated, with what depends on them. A change that masking did not make raises
EV_STF_DEFECT; after a defect clears, the interpreters are in ACQ. -/
def State.evalLane (s : State) (n : Nat) : State :=
  if !s.stfLane n then s
  else
    let st := s.stfOf n
    let m := s.flag R.STF_STAT_PARKED n || st.masked
    let los := st.los
    let lob := !s.flag R.LANE_STAT_BLOCK_LOCK n
    let lof := s.fld R.STF_STAT_ALIGN n != 2
    let tim := s.sectionTim n
    let los' := los && !m
    let lob' := lob && !m && !los'
    let lof' := lof && !m && !los' && !lob'
    let down := los' || lob' || lof'
    let ais' := st.ais.on && !m && !down
    let rdi' := st.rdi.on && !m && !down
    let tim' := tim && !m && !down && !ais'
    let pack := fun (l : List Bool) => maskOf ((List.range 6).filter (fun i => l.getD i false))
    let new := pack [tim', rdi', ais', lof', lob', los']
    let raw := pack [tim, st.rdi.on, st.ais.on, lof, lob, los]
    let old := s.laneBits n
    let s := s.updStf n (fun x => { x with hadDefect := x.hadDefect || down || ais' })
    if new = old then s
    else
      let s := s.setReg R.STF_STAT n (withBits (s.reg R.STF_STAT n) 31 26 new)
      let s := if new &&& (63 - old) != 0 || (!m && old &&& (63 - raw) != 0) then
        s.raiseAt EV_STF_DEFECT n n [bits (s.reg R.STF_STAT n) 31 24] else s
      let s := if old &&& (63 - new) != 0 then s.acquire n else s
      (s.evalTus n).refreshPairs n

/-! ### Alignment (R202 to R207) -/

/-- The FAW. -/
def fawWord : Nat := 0x5A3CC3A50F96E178

/-- ALIGN stored, with the event and the defects that follow. Reaching SYNC ends the masking after a wake. -/
def State.setAlign (s : State) (n v : Nat) : State :=
  let old := s.fld R.STF_STAT_ALIGN n
  let s := s.setFld R.STF_STAT_CANDS n (s.stfOf n).cands.length
  if old = v then s
  else
    let s := s.setFld R.STF_STAT_ALIGN n v
    let s := if v = 2 then s.updStf n (fun x => { x with
      masked := false, framed := false, mgmt := Delin.hunt, mgmtRx := [], mgmtSkip := 0 }) else s
    let s := if old = 2 || v = 2 then s.raiseOf EV_STF_ALIGN n else s
    let s := if old = 2 then s.holdLane n else s
    let s := s.evalLane n
    match s.portOfLane n with
    | some p => s.relink p
    | none => s

/-- ALIGN of a receiver that hunts. -/
def State.huntAlign (s : State) (n : Nat) : State :=
  s.setAlign n (if (s.stfOf n).cands.any (fun c => 2 ≤ c.count) then 1 else 0)

/-- The receiver starts to hunt without candidates; from SYNC this counts OOF. -/
def State.startHunt (s : State) (n : Nat) : State :=
  let was := s.fld R.STF_STAT_ALIGN n
  let s := s.updStf n (fun x => { x with
    cands := [], faw := 0, jump := none, errs := 0, missed := false, ready := false, head := []
    ais := Debounce.clear, rdi := Debounce.clear, idRun := 0, traceRun := 0 })
  (if was = 2 then s.stfCount n 5 1 else s).setAlign n 0

/-- What the candidates have come to (R205): two confirmed are a double; one confirmed is taken once no other, that was
one short when it confirmed, can confirm in the same frame. -/
def State.judge (s : State) (n : Nat) : State :=
  let cs := (s.stfOf n).cands
  let sure := cs.filter (fun c => c.need ≤ c.count)
  match sure with
  | [] => s.huntAlign n
  | [c] =>
    if cs.any (fun d => d.count + 1 == d.need && decide (d.last < c.last)) then s.huntAlign n
    else
      (s.updStf n (fun x => { x with
        cands := [], start := c.last, fn := c.fn, errs := 0, lossM := s.fld R.STF_CFG_LOSS_M n, jump := none
        missed := false })).setAlign n 2
  | _ => ((s.stfCount n 9 1).raiseOf EV_STF_DOUBLE n).startHunt n

/-- A sighting at a place that no candidate expects, with the frame number behind it (R203, R204). -/
def State.sighting (s : State) (n pos fn : Nat) : State :=
  let cs := (s.stfOf n).cands
  let c : Candidate := { last := pos, fn := fn, count := 1, need := s.fld R.STF_CFG_CONFIRM_N n }
  if cs.length < 16 then (s.updStf n (fun x => { x with cands := cs ++ [c] })).huntAlign n
  else
    match cs.findIdx? (fun d => d.count == 1) with
    | some i => (s.updStf n (fun x => { x with cands := cs.eraseIdx i ++ [c] })).huntAlign n
    | none => (s.stfCount n 8 1).raiseOnce EV_STF_HUNT_OVF n n n []

/-- The block behind a FAW while the receiver hunts. -/
def State.huntIdentity (s : State) (n pos fn : Nat) : State :=
  let cs := (s.stfOf n).cands
  if cs.any (fun c => c.last + 200000 == pos) then
    let step := cs.filterMap (fun c =>
      if c.last + 200000 != pos then some c
      else if fn = (c.fn + 1) % 2 ^ 32 then some { c with last := pos, fn := fn, count := c.count + 1 }
      else none)
    (s.updStf n (fun x => { x with cands := step })).judge n
  else s.sighting n pos fn

/-- The receiver moves its alignment to a sighting (R207). -/
def State.realign (s : State) (n pos fn : Nat) : State :=
  let s := s.updStf n (fun x => { x with start := pos, fn := fn, errs := x.errs - ofFlag x.missed, jump := none, missed := false })
  (s.stfCount n 6 1).raiseOf EV_STF_ALIGN n

/-- Whether a block lies in the realignment window after the last correct FAW. -/
def inJumpWindow (start pos : Nat) : Bool := decide (start + 100000 ≤ pos) && decide (pos ≤ start + 300000)

/-- The block behind a FAW in SYNC: the frame number of the expected one, or a sighting with PHASE_JUMP 1. -/
def State.syncIdentity (s : State) (n pos : Nat) (expected : Bool) (w : Nat) : State :=
  let st := s.stfOf n
  let fn := bits w 63 32
  if expected then s.updStf n (fun x => { x with start := pos, fn := fn, errs := 0, jump := none, missed := false })
  else if w.testBit 13 && fn == (st.fn + 1) % 2 ^ 32 && inJumpWindow st.start pos then
    if st.missed then s.realign n pos fn
    else s.updStf n (fun x => { x with
      jump := some (pos, fn), jumpReg := stfSeed fn (bits w 31 16), jumpPar := x.before, jumpAt := x.blockAt })
  else s

/-- The block at an expected FAW position differs from the FAW (R206, R207). -/
def State.fawErrored (s : State) (n : Nat) : State :=
  let s := s.stfCount n 4 1
  let st := s.stfOf n
  match st.jump with
  | some (pos, fn) => (s.realign n pos fn).updStf n (fun x => { x with
      reg := x.jumpReg, parity := x.parity ^^^ x.jumpPar, framePar := x.jumpPar, fawAt := x.jumpAt, opened := pos, ready := false
      head := [BitVec.ofNat 64 (fn <<< 32 + 2 ^ 13)] })
  | none =>
    let errs := st.errs + 1
    if st.lossM ≤ errs then s.startHunt n
    else s.updStf n (fun x => { x with errs := errs, missed := errs == 1, lossM := if st.errs = 0 then s.fld R.STF_CFG_LOSS_M n else x.lossM })

/-- Whether a block lies where the next FAW is expected: any whole number of frames after the last one that was found. -/
def dueFaw (start pos : Nat) : Bool := decide (start < pos) && (pos - start) % 200000 == 0

/-- One block of a locked lane: first the identity word behind a FAW, then the block itself. -/
def State.alignBlock (s : State) (n w : Nat) : State :=
  let st := s.stfOf n
  let pos := st.pos
  let s := s.updStf n (fun x => { x with pos := pos + 1, faw := 0 })
  let s :=
    if st.faw = 0 then s
    else if s.fld R.STF_STAT_ALIGN n = 2 then s.syncIdentity n (pos - 1) (st.faw == 2) w
    else s.huntIdentity n (pos - 1) (bits w 63 32)
  let st := s.stfOf n
  let sync := s.fld R.STF_STAT_ALIGN n == 2
  let due := if sync then dueFaw st.start pos else st.cands.any (fun c => c.last + 200000 == pos)
  if w = fawWord then s.updStf n (fun x => { x with faw := if sync && due then 2 else 1 })
  else if !due then s
  else if sync then s.fawErrored n
  else (s.updStf n (fun x => { x with cands := x.cands.filter (fun c => c.last + 200000 != pos) })).judge n

/-! ### Signal (R124, R209, R211) -/

/-- SIG_DET_LOSS (R124): no signal for 100 ns; an STF lane declares LOS. -/
def execSigDetLoss (lane : Fin 512) (s : State) : Host.Outcome State Fault Refusal :=
  .next (s.awake (fun s =>
    if !s.laneOn lane.val then s
    else
      let s := s.signalLost lane.val
      (s.updStf lane.val (fun x => { x with los := true })).evalLane lane.val))

/-- LOS_CLEAR (R209): the signal has been there for 10 µs. -/
def execLosClear (lane : Fin 512) (s : State) : Host.Outcome State Fault Refusal :=
  .next (s.awake (fun s =>
    if !s.laneOn lane.val then s
    else
      let s := s.signalSeen lane.val
      (s.updStf lane.val (fun x => { x with los := false })).evalLane lane.val))

/-- PARKED_MASK_EXPIRY (R211): the defects of a woken lane are no longer masked. -/
def execParkedMaskExpiry (lane : Fin 512) (s : State) : Host.Outcome State Fault Refusal :=
  .next (s.awake (fun s =>
    if (s.stfOf lane.val).masked then (s.updStf lane.val (fun x => { x with masked := false })).evalLane lane.val else s))

/-! ### Pointers (R223, R224) -/

/-- NDF of a pointer: 1 normal, 2 new data, 0 neither. -/
def ndfOf (w : Nat) : Nat :=
  let x := bits w 15 12
  if popCount 4 (x ^^^ 6) ≤ 1 then 1 else if popCount 4 (x ^^^ 9) ≤ 1 then 2 else 0

/-- An indication against an accepted VALUE: 1 increment, 2 decrement, 0 none. -/
def indication (accepted v : Nat) : Nat :=
  let d := accepted ^^^ v
  let inc := popCount 12 (d &&& 0xAAA)
  let dec := popCount 12 (d &&& 0x555)
  if 4 ≤ inc && decide (dec ≤ 1) then 1 else if 4 ≤ dec && decide (inc ≤ 1) then 2 else 0

/-- What one pointer does to an interpreter. -/
structure PtrStep where
  st : Nat
  value : Nat
  u : Tu
  /-- 1 increment, 2 decrement, 3 new data. -/
  counted : Nat
  deriving DecidableEq, Repr

/-- An invalid pointer: eight in a row lead to LOP. -/
def PtrStep.bad (st value : Nat) (u : Tu) : PtrStep :=
  let n := u.badRun + 1
  { st := if n = 8 then 3 else st, value := value, u := { u with badRun := if n = 8 then 0 else n, since := u.since + 1 }, counted := 0 }

/-- A pointer that is valid and changes nothing. -/
def PtrStep.keep (st value : Nat) (u : Tu) : PtrStep :=
  { st := st, value := value, u := { u with badRun := 0, since := u.since + 1 }, counted := 0 }

/-- A new accepted VALUE, in NORM. -/
def PtrStep.take (value : Nat) (u : Tu) (counted : Nat) : PtrStep :=
  { st := 0, value := value, u := { u with badRun := 0, since := 0 }, counted := counted }

/-- One pointer evaluated (R224). -/
def pointerStep (st value : Nat) (u : Tu) (w : Nat) : PtrStep :=
  if w = 0xFFFF then
    let n := u.aisRun + 1
    let u := { u with
      aisRun := n, otherRun := 0, run := 0, badRun := 0, since := u.since + 1, word := w, tentative := none, tentativeNdf := false }
    { st := if 3 ≤ n then 1 else st, value := value, u := u, counted := 0 }
  else
    let kind := ndfOf w
    let v := bits w 11 0
    let inRange := decide (v ≤ 2559)
    let run := if kind = 1 && inRange then (if u.run != 0 && u.value == v then u.run + 1 else 1) else 0
    let u := { u with aisRun := 0, run := run, value := if run = 0 then u.value else v, word := w }
    match st with
    | 0 =>
      if kind = 2 && inRange then PtrStep.take v u 3
      else if kind = 1 && v == value then PtrStep.keep 0 value u
      else if kind = 1 && indication value v != 0 then
        if 3 ≤ u.since then
          if indication value v = 1 then PtrStep.take ((value + 1) % 2560) u 1 else PtrStep.take ((value + 2559) % 2560) u 2
        else PtrStep.bad 0 value u
      else if 3 ≤ run then PtrStep.take v u 0
      else PtrStep.bad 0 value u
    | 1 =>
      let fresh := kind == 2 && inRange
      let met := fresh || decide (3 ≤ run)
      let n := u.otherRun + 1
      let u := { u with
        otherRun := n, tentative := if met then some v else u.tentative, tentativeNdf := fresh || u.tentativeNdf
        badRun := if met then 0 else u.badRun + 1, since := u.since + 1 }
      if n < 3 then { st := 1, value := value, u := u, counted := 0 }
      else
        match u.tentative with
        | some v => PtrStep.take v u (if u.tentativeNdf then 3 else 0)
        | none => { st := 2, value := value, u := u, counted := 0 }
    | _ =>
      if kind = 2 && inRange then PtrStep.take v u 3
      else if 3 ≤ run then PtrStep.take v u 0
      else PtrStep.bad st value u

/-- The span of a pointer (R219, R224): an indication leaves VALUE as it was and announces its justification. -/
def PtrStep.span (r : PtrStep) (value : Nat) : Span :=
  if r.counted = 1 || r.counted = 2 then { live := true, value := value, just := r.counted }
  else { live := r.st == 0, value := r.value, just := 0 }

/-- The pointer of TU `t` of lane `n` in a received frame. -/
def State.pointer (s : State) (n t w : Nat) : State :=
  let k := tuKey n t
  let old := s.fld R.STF_TU_PTR_RX_VALUE k
  let r := pointerStep (s.fld R.STF_TU_PTR_RX_STATE k) old (s.tu k) w
  let s := (s.setFld R.STF_TU_PTR_RX_STATE k r.st).setFld R.STF_TU_PTR_RX_VALUE k r.value
  let s := s.updTu k (fun _ => { r.u with seen := r.u.seen && r.st == 0, spanNext := r.span old })
  match r.counted with
  | 1 => s.bump R.STF_TU_PJ_RX_RX_INC k 1
  | 2 => s.bump R.STF_TU_PJ_RX_RX_DEC k 1
  | 3 => s.bump R.STF_TU_PTR_CTR_RX_NDF k 1
  | _ => s

/-! ### Received frames (R189, R191, R200, R208, R214) -/

/-- A run of equal values: whether the same value arrived again. -/
def runOf {α : Type} [DecidableEq α] (last : α) (run : Nat) (v : α) : Nat := if run != 0 && last = v then min 3 (run + 1) else 1

/-- A valid section trace arrives. -/
def State.sectionTrace (s : State) (n : Nat) (ws : List Word64) : State :=
  if !traceOk (traceBytes ws) then s.updStf n (fun x => { x with traceRun := 0 })
  else
    let st := s.stfOf n
    let run := runOf st.traceLast st.traceRun ws
    let s := s.updStf n (fun x => { x with traceLast := ws, traceRun := run, traceAcc := if run = 3 then some ws else x.traceAcc })
    if run = 3 then
      (s.setFld R.STF_SEC_TRACE_RX_TRACE (2 * n) (ws.getD 0 0).toNat).setFld R.STF_SEC_TRACE_RX_TRACE (2 * n + 1) (ws.getD 1 0).toNat
    else s

/-- LANE_ID of a frame, accepted after three. -/
def State.laneId (s : State) (n id : Nat) : State :=
  let st := s.stfOf n
  let run := runOf st.idLast st.idRun id
  let s := s.updStf n (fun x => { x with idLast := id, idRun := run, idAcc := if run = 3 then some id else x.idAcc })
  if run = 3 then s.setFld R.STF_RX_FRAME_RX_ID n id else s

/-- The line overhead of a frame (chapter 06): its number, flags and phase, the BIP of the frame before it, REI, and the far
defects. `st` is its status word. -/
def State.stfOverhead (s : State) (n identity st parity : Nat) (phase : Int) : State :=
  let s := ((s.stfCount n 10 1).setFld R.STF_RX_FRAME_RX_FN n (bits identity 63 32)).setFld R.STF_RX_FRAME_RX_FLAGS n (bits identity 15 0)
  let s := (s.setFld R.STF_RX_PHASE_PHASE n (unsigned 32 phase)).laneId n (bits identity 31 16)
  let bip := popCount 8 (parity ^^^ bits st 63 56)
  let s :=
    if !(s.stfOf n).framed then s.updStf n (fun x => { x with framed := true })
    else
      let s := (s.setFld R.STF_STAT_LAST_BIP n bip).updStf n (fun x => { x with rei := bip })
      if bip = 0 then s else (s.stfCount n 0 bip).stfCount n 1 1
  let rei := bits st 55 52
  let s := s.setFld R.STF_STAT_LAST_REI n rei
  let s := if rei = 0 then s else (s.stfCount n 2 rei).stfCount n 3 1
  s.updStf n (fun x => { x with ais := x.ais.see (st.testBit 50), rdi := x.rdi.see (st.testBit 51) })

/-- What lies behind the line overhead of a frame: the section trace and the lane-control word. -/
def State.stfInner (s : State) (n st : Nat) (trace : List Word64) : State :=
  let s := (s.sectionTrace n trace).evalLane n
  match s.portOfLane n with
  | some p => if s.firstLane p = n then s.thinReceive p (bits st 23 0) else s
  | none => s

/-- Half an epoch in units of 2^-16 ns. -/
def halfEpochTime : Nat := 62500 * 65536

/-- The arrival of a FAW at reference time `t` against the local epoch edges, in 1/16 ns, from -62,500 ns to 62,500 ns. -/
def State.fawPhase (s : State) (t : Nat) : Int :=
  let d := (t + 2 * halfEpochTime - s.epoch.edgeAt % (2 * halfEpochTime)) % (2 * halfEpochTime)
  (((d / 4096 : Nat) : Int) - if halfEpochTime < d then ((2 * halfEpochTime / 4096 : Nat) : Int) else 0)

/-- STF_FRAME_RECEIVE: words 1 to 4 of row 0 of a frame in SYNC that have arrived, with the parity of the frame before it. -/
def State.stfFrame (s : State) (n : Nat) : State :=
  let x := s.stfOf n
  if !s.stfLane n || s.fld R.STF_STAT_ALIGN n != 2 || !x.ready then s
  else
    let w := fun i => (x.head.getD i 0).toNat
    let s := s.updStf n (fun x => { x with ready := false })
    (s.stfOverhead n (w 0) (w 1) x.framePar (s.fawPhase x.fawAt)).stfInner n (w 1) ((x.head.drop 2).take 2)

/-- STF_FRAME_RECEIVE. -/
def execStfFrameReceive (lane : Fin 512) (s : State) : Host.Outcome State Fault Refusal :=
  .next (s.awake (fun s => s.stfFrame lane.val))

/-! ### Containers (R201, R208, R209, R247) -/

/-- A byte of the path trace arrives (R192, R208). -/
def Tu.traceByte (u : Tu) (b : Byte) : Tu :=
  let have' := if b.toNat.testBit 7 then [b] else if u.partialTrace.isEmpty then [] else u.partialTrace ++ [b]
  if have'.length < 16 then { u with partialTrace := have' }
  else if !traceOk have' then { u with partialTrace := [], traceRun := 0 }
  else
    let run := runOf u.trace u.traceRun have'
    { u with partialTrace := [], trace := have', traceRun := run, traceAcc := if run = 3 then some have' else u.traceAcc }

/-- A path overhead word of a channel member joins its group, or begins one (R247). -/
def State.groupMember (s : State) (p t time : Nat) : State :=
  let c := s.channel p
  let late := c.group.any (fun e => decide (e.2 + 32000 * 65536 < time))
  let again := c.group.any (fun e => e.1 == t)
  let c := if late || again || c.group.isEmpty then { c with groups := c.groups + 1 } else c
  let s := s.updTu (tuKey (s.chanLane p) t) (fun u => { u with group := c.groups })
  if late || again then
    ((s.updChannel p (fun _ => { c with group := [(t, time)], good := 0 })).setFlag R.PORT_CHAN_STAT_SKEW (p - 512) true).refreshChannel p
  else
    let group := c.group ++ [(t, time)]
    if group.length < (s.chanTus p).length then s.updChannel p (fun _ => { c with group := group })
    else
      let good := min 3 (c.good + 1)
      let s := s.updChannel p (fun _ => { c with group := [], good := good })
      if good = 3 then (s.setFlag R.PORT_CHAN_STAT_SKEW (p - 512) false).refreshChannel p else s

/-- Bytes arrive in the stream of a channel, or are discarded in receive failure (R250). -/
def State.channelBytes (s : State) (p : Nat) (bs : List Byte) : State :=
  if s.portLife p == .off || s.flag R.PORT_CHAN_STAT_RX_FAIL (p - 512) then s
  else s.updChannel p (fun c => { c with rx := c.rx ++ bs })

/-- The data words that every member of a channel has received in one group join the stream, in ascending TU order; words of a group
that another member has left behind are discarded (R246, R247). The first argument bounds the words. -/
def State.channelDrain (p : Nat) : Nat → State → State
  | 0, s => s
  | fuel + 1, s =>
    let ks := (s.chanTus p).map (tuKey (s.chanLane p))
    let heads := ks.filterMap (fun k => (s.tu k).fifo.head?)
    if heads.length < ks.length || ks.isEmpty then s
    else
      let g := heads.foldl (fun m e => max m e.1) 0
      let whole := heads.all (fun e => e.1 == g)
      let s := ks.foldl (fun s k => s.updTu k (fun u => { u with
        fifo := if whole || (u.fifo.head?.any (fun e => decide (e.1 < g))) then u.fifo.drop 1 else u.fifo })) s
      State.channelDrain p fuel (if whole then s.channelBytes p (wordsToBytes (heads.map (fun e => e.2))) else s)

/-- A data word of a channel member arrives. -/
def State.memberWord (s : State) (p k : Nat) (w : Word64) : State :=
  let s := s.updTu k (fun u => { u with fifo := u.fifo ++ [(u.group, w)] })
  State.channelDrain p (s.tu k).fifo.length s

/-- The next container word of TU `t` of lane `n` (R221, R226): its first word, the path overhead word, ends the container before it. -/
def State.containerWord (s : State) (n t : Nat) (w : Word64) : State :=
  let k := tuKey n t
  let first := (s.tu k).place == 0
  let s := s.updTu k (fun u => { u with
    place := (u.place + 1) % 2560, count := u.count + 1, tail := ((u.place, w) :: u.tail).take 64
    parity := if first then byteParity w.toNat else u.parity ^^^ byteParity w.toNat
    arrived := if first then u.arrived ++ [(w, u.parity)] else u.arrived })
  match s.chanOf n t with
  | none => s
  | some p => if first then s.groupMember p t s.now else s.memberWord p k w

/-- Whether a TU yields the words of its span (R225). -/
def State.tuLive (s : State) (k : Nat) : Bool := (s.tu k).span.live && s.fld R.STF_TU_PTR_RX_STATE k == 0

/-- Slot `i` of TU `t` (R219 to R221): slot 1,345 begins the span of the pointer before it, and slot 1,344 carries no data in a positive
justification. -/
def State.slotWord (s : State) (n t i : Nat) (w : Word64) : State :=
  let k := tuKey n t
  let s := if i = 1345 then s.updTu k (fun u => { u with span := u.spanNext, place := (2560 - u.spanNext.value) % 2560 }) else s
  if !s.tuLive k || (i == 1344 && (s.tu k).span.just == 1) then s else s.containerWord n t w

/-- The negative stuff word of TU `t`: data in a negative justification (R220). -/
def State.stuffWord (s : State) (n t : Nat) (w : Word64) : State :=
  if s.tuLive (tuKey n t) && (s.tu (tuKey n t)).span.just == 2 then s.containerWord n t w else s

/-- CONTAINER_RECEIVE: the oldest path overhead word of a TU that has arrived, with the parity of the container before it. -/
def State.container (s : State) (n t : Nat) : State :=
  let k := tuKey n t
  match (s.tu k).arrived with
  | [] => s
  | (word, parity) :: rest =>
    let w := word.toNat
    let s := s.updTu k (fun u => { u with arrived := rest })
    let bip := popCount 8 (parity ^^^ bits w 63 56)
    let rei := bits w 55 52
    let s :=
      if !(s.tu k).seen then s.updTu k (fun u => { u with seen := true })
      else ((s.setFld R.STF_TU_STAT_LAST_BIP k bip).bump R.STF_TU_BIP_COUNT k bip).updTu k (fun u => { u with rei := bip })
    let s := (s.setFld R.STF_TU_STAT_LAST_REI k rei).bump R.STF_TU_REI_COUNT k rei
    let label := bits w 47 40
    let s := s.updTu k (fun u =>
      let run := runOf u.label u.labelRun label
      { (u.traceByte (BitVec.ofNat 8 (bits w 39 32))) with
        label := label, labelRun := run, labelAcc := if run = 3 then some label else u.labelAcc, rdi := u.rdi.see (w.testBit 51) })
    let s := match (s.tu k).labelAcc with
      | some l => s.setFld R.STF_TU_STAT_RX_LABEL k l
      | none => s
    let s := s.evalTu n t
    match s.chanOf n t with
    | some p => s.refreshChannel p
    | none => s

/-- CONTAINER_RECEIVE. -/
def execContainerReceive (lane : Fin 512) (tu : Fin 78) (s : State) : Host.Outcome State Fault Refusal :=
  .next (s.awake (fun s => s.container lane.val tu.val))

/-! ### Delineation (R213, R214, R248, R249) -/

/-- What a header makes of the delineation state: the state, and 0 nothing, 1 a frame delivered, 2 a header error, 3 a header
error that loses SYNC. -/
def Delin.header (d : Delin) (lo hi h : Nat) : Delin × Nat :=
  let len := bits h 31 16
  let ok := headerCrc len == bits h 15 0 && (len == 0 || (decide (lo ≤ len) && decide (len ≤ hi)))
  match d.st with
  | 0 => if ok then ({ st := 1, oks := 0, errs := 0 }, 0) else (d, 0)
  | 1 =>
    if !ok then (Delin.hunt, 0)
    else if d.oks + 1 = 2 then ({ st := 2, oks := 0, errs := 0 }, 0)
    else ({ d with oks := d.oks + 1 }, 0)
  | _ =>
    if ok then ({ d with errs := 0 }, if len = 0 then 0 else 1)
    else if d.errs + 1 = 3 then (Delin.hunt, 3)
    else ({ d with errs := d.errs + 1 }, 2)

/-- A byte stream from its next header, or its candidate, on, with the bytes that lie before the header that is expected next. -/
structure Stream where
  delin : Delin
  rest : List Byte
  skip : Nat
  deriving DecidableEq, Repr

/-- One header taken from a stream that has it (R249): the stream behind it, the outcome of `Delin.header`, and the frame that is
delivered. A stream without the header, or without the frame behind it, stays as it is. In HUNT the candidate moves on by one byte; a
candidate that fails is left by one byte; behind the header that loses SYNC hunting begins at its second byte. -/
def Stream.take (x : Stream) (lo hi : Nat) : Stream × Nat × List Byte :=
  let behind := x.rest.drop x.skip
  let h := beNat (behind.take 4)
  let len := bits h 31 16
  let r := x.delin.header lo hi h
  let within := len == 0 || (decide (lo ≤ len) && decide (len ≤ hi))
  if behind.length < 4 || (r.2 == 1 && decide (behind.length < 4 + len)) then (x, 0, [])
  else
    match x.delin.st, r.1.st with
    | 0, 0 | 1, 0 => ({ delin := r.1, rest := x.rest.drop 1, skip := 0 }, r.2, [])
    | 0, _ | 1, _ => ({ delin := r.1, rest := x.rest, skip := x.skip + 4 + len }, r.2, [])
    | _, 0 => ({ delin := r.1, rest := behind.drop 1, skip := 0 }, r.2, [])
    | _, _ =>
      if r.2 = 1 then ({ delin := r.1, rest := behind.drop (4 + len), skip := 0 }, 1, (behind.drop 4).take len)
      else ({ delin := r.1, rest := behind.drop 4, skip := if within then len else 0 }, r.2, [])

/-- Delineation that is not confirmed in time: HUNT again from the byte behind the candidate's first (R249). -/
def Stream.restart (x : Stream) : Stream := { delin := Delin.hunt, rest := x.rest.drop 1, skip := 0 }

/-- The stream of a lane's management channel. -/
def Stf.mgmtStream (x : Stf) : Stream := { delin := x.mgmt, rest := x.mgmtRx, skip := x.mgmtSkip }

/-- Stores the stream of a lane's management channel. -/
def Stf.setMgmt (x : Stf) (m : Stream) : Stf := { x with mgmt := m.delin, mgmtRx := m.rest, mgmtSkip := m.skip }

/-- The stream of a packet channel. -/
def Channel.stream (c : Channel) : Stream := { delin := c.delin, rest := c.rx, skip := c.skip }

/-- Stores the stream of a packet channel. -/
def Channel.setStream (c : Channel) (m : Stream) : Channel := { c with delin := m.delin, rx := m.rest, skip := m.skip }

/-! ### The received frame, block by block (R184 to R188, R196, R197, R200) -/

/-- Bytes of the management channel arrive (R213, R214). -/
def State.mgmtBytes (s : State) (n : Nat) (bs : List Byte) : State :=
  if !s.flag R.STF_CFG_MGMT_EN n || s.flag R.STF_STAT_AIS n then s.updStf n (fun x => { x with mgmt := Delin.hunt, mgmtRx := [], mgmtSkip := 0 })
  else s.updStf n (fun x => { x with mgmtRx := x.mgmtRx ++ bs })

/-- A descrambled word of row `r`, word `x`, of a frame in SYNC (R186, R187). -/
def State.frameWord (s : State) (n r x : Nat) (w : Word64) : State :=
  if 8 ≤ x then s.slotWord n ((x - 8) % 78) (64 * r + (x - 8) / 78) w
  else if r = 0 then
    if x ≤ 4 then s.updStf n (fun y => { y with head := y.head ++ [w], ready := x == 4 }) else s
  else if r ≤ 20 then
    if x = 0 then
      let s := ((List.range 4).filter (fun i => decide (4 * (r - 1) + i < 78))).foldl (fun s i =>
        s.pointer n (4 * (r - 1) + i) (bits w.toNat (16 * i + 15) (16 * i))) s
      if r = 20 then s.evalTus n else s
    else s
  else if r ≤ 30 then (if 8 * (r - 21) + x < 78 then s.stuffWord n (8 * (r - 21) + x) w else s)
  else s.mgmtBytes n (leBytes 8 w.toNat)

/-- Block `pos` of a locked lane at its place in the frame. A frame begins with the FAW that is expected, or with the one to which the
alignment has just been set; words are read once the frame that they belong to has been entered. -/
def State.frameBlock (s : State) (n pos w : Nat) : State :=
  let st := s.stfOf n
  let sync := s.fld R.STF_STAT_ALIGN n == 2
  let place := (pos - st.start) % 200000
  let moved := sync && place == 1 && st.opened + 1 != pos
  let starts := sync && place == 0
  let was := if moved then byteParity fawWord else st.parity
  let chase := st.jump.any (fun j => decide (j.1 + 1 < pos))
  let s := s.updStf n (fun x => { x with
    parity := if starts then byteParity w else was ^^^ byteParity w, before := was, blockAt := s.now
    framePar := if starts then x.parity else if moved then x.before else x.framePar
    opened := if starts then pos else if moved then pos - 1 else x.opened
    jumpReg := if chase then (stfScramble x.jumpReg w).2 else x.jumpReg
    fawAt := if starts then s.now else if moved then x.blockAt else x.fawAt })
  let word := BitVec.ofNat 64 w
  if !sync || (decide (2 ≤ place) && st.opened + place != pos) then s
  else if place = 0 then s.updStf n (fun x => { x with recent := (word :: x.recent).take 16 })
  else if place = 1 then
    s.updStf n (fun x => { x with
      reg := stfSeed (bits w 63 32) (bits w 31 16), head := [word], ready := false, recent := (word :: x.recent).take 16 })
  else
    let c := stfScramble st.reg w
    let word := BitVec.ofNat 64 c.1
    (s.updStf n (fun x => { x with reg := c.2, recent := (word :: x.recent).take 16 })).frameWord n (place / 5000) (place % 5000) word

/-! ### Block lock (R125, R126) -/

/-- Block lock is lost: hunting restarts, and every candidate goes (R202). -/
def State.loseBlocks (s : State) (n : Nat) : State :=
  let s := s.setLock R.LANE_STAT_BLOCK_LOCK n false
  let s := s.updLane n (fun l => { l with huntGood := 0, windowSeen := 0, windowBad := 0 })
  (s.startHunt n).evalLane n

/-- Block lock is gained. -/
def State.gainBlocks (s : State) (n : Nat) : State :=
  let s := s.setLock R.LANE_STAT_BLOCK_LOCK n true
  let s := s.updLane n (fun l => { l with huntGood := 0, windowSeen := 0, windowBad := 0 })
  (s.updStf n (fun x => { x with pos := 0, faw := 0, cands := [] })).evalLane n

/-- STF_BLOCK_RECEIVE: one block with its sync header. -/
def State.stfBlock (s : State) (n header w : Nat) : State :=
  if !s.stfLane n || s.fld R.LANE_STAT_RX_PWR n != 0 || (s.lane n).outOfService then s
  else
    let s := s.signalSeen n
    let good := header == 1
    let l := s.lane n
    if !s.flag R.LANE_STAT_BLOCK_LOCK n then
      if !good then s.updLane n (fun l => { l with huntGood := 0 })
      else if l.huntGood + 1 = 64 then s.gainBlocks n
      else s.updLane n (fun l => { l with huntGood := l.huntGood + 1 })
    else
      let bad := l.windowBad + ofFlag (!good)
      if bad = 16 then s.loseBlocks n
      else
        let full := l.windowSeen + 1 = 64
        let s := s.updLane n (fun l => { l with
          windowSeen := if full then 0 else l.windowSeen + 1, windowBad := if full then 0 else bad })
        (s.alignBlock n w).frameBlock n (s.stfOf n).pos w

end Sys2Proof.Machine
end

