-- ==== Sys2Proof/Machine/Tsi.lean ====
section
/-! DEFINITION. The transmit side of STF lanes (chapter 06), pointer generation and the time-slot interchange with its two
Leaves (chapter 07). -/

namespace Sys2Proof.Machine

/-! ### Leaves (R231 to R236) -/

/-- The quadrant that serves a lane. -/
def tsiQuadrant (n : Nat) : Nat := n / 128

/-- The page that is active in a quadrant, 0 for Leaf A. -/
def State.activeLeaf (s : State) (q : Nat) : Nat := s.fld R.TSI_Q_STAT_ACTIVE q

/-- The register array of a page. -/
def leafReg (page : Nat) : RegSpec := if page = 0 then R.TSI_LEAF_A else R.TSI_LEAF_B

/-- The word of a Leaf entry. -/
def leafWord (inLane inTu : Nat) (unequipped : Bool) : Nat := if unequipped then 0 else 1 <<< 31 + inLane <<< 16 + inTu

/-- The input of an entry, as a TU key; none where it is unconnected. -/
def leafInput (w : Nat) : Option Nat := if w.testBit 31 then some (tuKey (bits w 24 16) (bits w 6 0)) else none

/-- The quadrant of a Leaf entry. -/
def leafQuadrant (k : Nat) : Nat := tsiQuadrant (k / 78)

/-- The entry of the active page. -/
def State.leafActive (s : State) (k : Nat) : Nat := s.reg (leafReg (s.activeLeaf (leafQuadrant k))) k

/-- The entry of the standby page. -/
def State.leafStandby (s : State) (k : Nat) : Nat := s.reg (leafReg (1 - s.activeLeaf (leafQuadrant k))) k

/-- The standby entry as it stands once every LEAF.WR so far is done: a write that waits for the follow-copy, else the page
that is being copied, else the standby page. -/
def State.leafNow (s : State) (k : Nat) : Nat :=
  match s.leafHeld.find? (fun e => e.1 == k) with
  | some e => e.2.1
  | none => if s.flag R.TSI_Q_STAT_COPYING (leafQuadrant k) then s.leafActive k else s.leafStandby k

/-- The unit number of no queue. -/
def noUnit : Nat := 0xFFF

/-- A LEAF.WR of the queue with a unit number reaches its quadrant: held during the copy, else written to the standby page (R233,
R234). -/
def State.leafPut (s : State) (unit k w : Nat) : State :=
  if s.flag R.TSI_Q_STAT_COPYING (leafQuadrant k) then
    { s with leafHeld := s.leafHeld.filter (fun e => e.1 != k) ++ [(k, w, unit)] }
  else s.setReg (leafReg (1 - s.activeLeaf (leafQuadrant k))) k w

/-- A LEAF.WR is staged: the quadrant keeps the value that the entry had. -/
def State.leafStage (s : State) (set unit k w : Nat) : State :=
  let kept := s.leafPrev.any (fun e => e.1 == k && e.2.1 == set)
  let s := if kept then s else { s with leafPrev := s.leafPrev ++ [(k, set, s.leafNow k)] }
  s.leafPut unit k w

/-- A staged set is withdrawn: its entries are restored. -/
def State.leafRestore (s : State) (set : Nat) : State :=
  let own := s.leafPrev.filter (fun e => e.2.1 == set)
  let s := own.foldl (fun s e => s.leafPut noUnit e.1 e.2.2) s
  { s with leafPrev := s.leafPrev.filter (fun e => e.2.1 != set) }

/-- A staged set has applied. -/
def State.leafRelease (s : State) (set : Nat) : State :=
  { s with leafPrev := s.leafPrev.filter (fun e => e.2.1 != set) }

/-- The listed entries of a page in a quadrant. -/
def State.leafEntries (s : State) (page q : Nat) : List (Nat × Nat) :=
  s.regs.filterMap (fun e =>
    match (leafReg page).instanceAt e.1 with
    | some k => if leafQuadrant k = q then some (k, e.2.toNat) else none
    | none => none)

/-- LEAF_COPY_END (R234): a quadrant's standby page equals its active page, and the writes that waited are done. -/
def State.leafCopied (s : State) (q : Nat) : State :=
  if !s.flag R.TSI_Q_STAT_COPYING q then s
  else
    let a := s.activeLeaf q
    let s := (s.leafEntries (1 - a) q).foldl (fun s e => s.setReg (leafReg (1 - a)) e.1 0) s
    let s := (s.leafEntries a q).foldl (fun s e => s.setReg (leafReg (1 - a)) e.1 e.2) s
    let s := s.setFlag R.TSI_Q_STAT_COPYING q false
    let mine := s.leafHeld.filter (fun e => leafQuadrant e.1 == q)
    let s := { s with leafHeld := s.leafHeld.filter (fun e => leafQuadrant e.1 != q) }
    mine.foldl (fun s e => s.leafPut e.2.2 e.1 e.2.1) s

/-- The edge that carries LEAF_SWAP (R32, R234): every quadrant exchanges its pages and starts its copy. -/
def State.leafSwap (s : State) : State :=
  let s := (List.range 4).foldl State.leafCopied s
  let s := (List.range 4).foldl (fun s q =>
    (s.setFld R.TSI_Q_STAT_ACTIVE q (1 - s.activeLeaf q)).setFlag R.TSI_Q_STAT_COPYING q true) s
  s.raiseAt EV_TSI_SWAP 0 0 [s.epochNum, s.activeLeaf 0]

/-- The lanes and the pair of an active express pair that a lane transmits in: the pair, the partner, and whether the lane is
its B. -/
def State.expressOf (s : State) (n : Nat) : Option (Nat × Nat × Bool) :=
  (s.enabledPairs.find? (fun i => s.pairActive i && (s.fld R.TSI_XP_LANE_A i == n || s.fld R.TSI_XP_LANE_B i == n))).map (fun i =>
    let a := s.fld R.TSI_XP_LANE_A i
    let b := s.fld R.TSI_XP_LANE_B i
    if a = n then (i, b, false) else (i, a, true))

/-- Whether a connection is express under the pairs as they are enabled (R237): the same TU on the two lanes of a pair. -/
def State.expressConn (s : State) (k w : Nat) : Bool :=
  match leafInput w with
  | none => false
  | some src =>
    k % 78 == src % 78 && s.enabledPairs.any (fun i =>
      let a := s.fld R.TSI_XP_LANE_A i
      let b := s.fld R.TSI_XP_LANE_B i
      (a == k / 78 && b == src / 78) || (b == k / 78 && a == src / 78))

/-- CONN of a quadrant: connected outputs of the active Leaf that are not express. -/
def State.connCount (s : State) (q : Nat) : Nat :=
  ((s.leafEntries (s.activeLeaf q) q).filter (fun e => (leafInput e.2).isSome && !s.expressConn e.1 e.2)).length

/-- TSI_QUADRANT_TRANSITION_END (R236). -/
def State.quadrantEnd (s : State) (q : Nat) : State :=
  match s.life R.TSI_Q_STAT_LC q with
  | .starting => (s.lifeEnd R.TSI_Q_STAT_LC q .on).raise EV_TSI_STATE q
  | .stopping => (s.lifeEnd R.TSI_Q_STAT_LC q .off).raise EV_TSI_STATE q
  | _ => s

/-! ### What an output TU carries (R232, R236, R240) -/

/-- What feeds an output TU: terminated (unequipped, or a packet channel), its express partner, or a TU. -/
inductive TuSource
  | unequipped
  | channel
  | express
  | switched (key : Nat)
  deriving DecidableEq, Repr

/-- TX_MODE. -/
def TuSource.mode : TuSource → Nat
  | .unequipped => 0
  | .switched _ => 1
  | .express => 2
  | .channel => 3

/-- The number by which a generator remembers its source. -/
def TuSource.code : TuSource → Nat
  | .unequipped | .channel => 1
  | .express => 2
  | .switched k => 3 + k

/-- A channel whose frames have left, to the last byte of its stream, and that only waits for its first unequipped frame (R244). -/
def State.chanDone (s : State) (p : Nat) : Bool :=
  s.portLife p == .stopping && !(s.port p).draining && (s.channel p).tx.isEmpty

/-- What output TU `t` of lane `n` carries in the next frame. -/
def State.tuSource (s : State) (n t : Nat) : TuSource :=
  match s.chanOf n t with
  | some p => if s.chanDone p then .unequipped else .channel
  | none =>
    match leafInput (s.leafActive (tuKey n t)) with
    | none => .unequipped
    | some k =>
      match s.expressOf n with
      | some x => if k = tuKey x.2.1 t then .express
        else if s.life R.TSI_Q_STAT_LC (tsiQuadrant n) == .on then .switched k else .unequipped
      | none => if s.life R.TSI_Q_STAT_LC (tsiQuadrant n) == .on then .switched k else .unequipped

/-! ### Pointer generation (R226 to R230) -/

/-- A pointer word. -/
def pointerWord (newData : Bool) (v : Nat) : Nat := (if newData then 0x9000 else 0x6000) + v % 4096

/-- What the elastic store of a generator shows when a pointer is decided: its fill, and the VALUE that its read point gives a span that
starts anew. -/
structure Store where
  fill : Nat
  value : Nat
  deriving DecidableEq, Repr

/-- The justification of a span that makes none, gains a stuff slot, or fills its stuff word. -/
def justOf (fill : Nat) (settled : Bool) : Nat := if !settled then 0 else if fill < 24 then 1 else if 40 < fill then 2 else 0

/-- The pointer of a generator (R223, R226, R228) with the justification of its span: `anew` starts the span at the store's read point. -/
def State.genPointer (s : State) (k : Nat) (anew : Bool) (store : Store) : Nat × Nat × State :=
  let s := s.setFld R.STF_TU_FILL_FILL k (if anew then 32 else store.fill)
  let u := s.tu k
  if anew then
    (pointerWord true store.value, 0, (s.setFld R.STF_TU_PTR_TX_VALUE k store.value).updTu k (fun u => { u with
      ndf := false, next := store.value, sinceTx := 0 }))
  else
    let v := u.next
    let s := s.setFld R.STF_TU_PTR_TX_VALUE k v
    match justOf store.fill (decide (3 ≤ u.sinceTx)) with
    | 1 => (pointerWord false (v ^^^ 0xAAA), 1,
        (s.bump R.STF_TU_PJ_TX_TX_INC k 1).updTu k (fun u => { u with next := (v + 1) % 2560, sinceTx := 0 }))
    | 2 => (pointerWord false (v ^^^ 0x555), 2,
        (s.bump R.STF_TU_PJ_TX_TX_DEC k 1).updTu k (fun u => { u with next := (v + 2559) % 2560, sinceTx := 0 }))
    | _ => (pointerWord false v, 0, s.updTu k (fun u => { u with sinceTx := u.sinceTx + 1 }))

/-- The pointer of a terminated TU that has no store: VALUE 0 (R227). -/
def State.fixedPointer (s : State) (k : Nat) : Nat × State :=
  let nd := (s.tu k).ndf
  (pointerWord nd 0, (s.setFld R.STF_TU_PTR_TX_VALUE k 0).updTu k (fun u => { u with ndf := false, next := 0 }))

/-- The code of a span that is fed by the TU's own generated containers. -/
def ownFeed : Nat := 3 + 78 * 512

/-- The words that feed the store of TU `k` whose source has code `code`: how many so far, and the last 64 with their container
positions, newest first. -/
def State.feed (s : State) (k code : Nat) : Nat × List (Nat × Word64) :=
  if code = ownFeed then ((s.tu k).made, (s.tu k).gen) else ((s.tu (code - 3)).count, (s.tu (code - 3)).tail)

/-- The slots of a TU that are still to be sent before its next span, as its pointer in row 1 + t / 4 is sent (R219). -/
def slotsAhead (t : Nat) : Nat := 1345 - 64 * (1 + t / 4)

/-- The container position `d` words behind the newest word of a feed. -/
def placeAhead (feed : Nat × List (Nat × Word64)) (d : Int) : Nat :=
  ((((feed.2.headD (2559, 0)).1 : Int) + d) % 2560).toNat

/-- The pointer of a generated output TU: the store as it stands; a span that starts anew is entered so that the store then holds 32
words (R226, R228, R229). -/
def State.storePointer (s : State) (t k code : Nat) (again : Bool) : Nat × State :=
  let feed := s.feed k code
  let anew := again || (s.tu k).ndf
  let ahead : Int := (slotsAhead t : Int) - 31
  let place := placeAhead feed ahead
  let r := s.genPointer k anew { fill := min 64 (feed.1 - (s.tu k).read), value := (2560 - place) % 2560 }
  (r.1, r.2.2.updTu k (fun u => { u with txNext := {
    code := code, just := r.2.1, entry := if anew then some (feed.1 + slotsAhead t - 32, place) else none } }))

/-- The word `recent` blocks of a lane ago, descrambled; `q` is its place in the frame whose FAW was block `faw`. -/
def State.leaderWord (s : State) (m faw q : Nat) : Nat :=
  let x := s.stfOf m
  (x.recent.getD (x.pos - 1 - (faw + q)) 0).toNat

/-- The pointer of output TU `t` of lane `n` (R225 to R228, R240). -/
def State.txPointer (s : State) (n t : Nat) (f : TxFrame) : Nat × State :=
  let k := tuKey n t
  let src := s.tuSource n t
  let s := (s.setFld R.STF_TU_PTR_TX_MODE k src.mode).setFlag R.STF_TU_STAT_TERM k (src.code == 1)
  let code := if src.code = 1 && f.express then ownFeed else src.code
  let s := s.updTu k (fun u => { u with ndf := u.ndf || u.source != code, source := code })
  let ais := fun s : State => (0xFFFF, s.updTu k (fun u => { u with txNext := { code := 0, just := 0, entry := none } }))
  match src with
  | .express =>
    match f.leader with
    | none => ais s
    | some (m, faw) =>
      let s := s.updTu k (fun u => { u with ndf := false })
      if (s.tu k).fails then ais s
      else
        let w := bits (s.leaderWord m faw (5000 * (1 + t / 4))) (16 * (t % 4) + 15) (16 * (t % 4))
        (w, (s.setFld R.STF_TU_PTR_TX_VALUE k (bits w 11 0)).updTu k (fun u => { u with txNext := { code := 2, just := 0, entry := none } }))
  | .switched j =>
    if s.tuFails (j / 78) (j % 78) then ais (s.updTu k (fun u => { u with ndf := true })) else s.storePointer t k code f.again
  | _ =>
    if f.express then s.storePointer t k code f.again
    else
      let r := s.fixedPointer k
      (r.1, r.2.updTu k (fun u => { u with txNext := { code := 1, just := 0, entry := some (0, 0) } }))

/-- Upstream PRDI of a terminated TU (R210). -/
def State.pathRdi (s : State) (n t : Nat) : Bool :=
  let k := tuKey n t
  s.flag R.STF_TU_STAT_AIS k || s.flag R.STF_TU_STAT_LOP k || s.flag R.STF_TU_STAT_UNEQ k || s.flag R.STF_TU_STAT_PLM k ||
    (s.flag R.STF_TU_STAT_TIM k && s.flag R.STF_CFG_TIM_AIS_PATH n)

/-- The path overhead word of the next container of a terminated TU (R194, R195, R201), which begins the container. -/
def State.txOverhead (s : State) (n t : Nat) : Nat × State :=
  let k := tuKey n t
  let u := s.tu k
  let src := s.tuSource n t
  let empty := src.mode == 0
  let trace := bits (s.fld R.STF_PATH_TRACE_TX_TRACE (2 * n + u.traceAt / 8)) (8 * (u.traceAt % 8) + 7) (8 * (u.traceAt % 8))
  let w := u.txParity <<< 56 + (min 15 u.rei) <<< 52 + ofFlag (s.pathRdi n t) <<< 51 +
    (if empty then 0 else s.fld R.STF_TU_LABEL_TX_LABEL k <<< 40 + trace <<< 32)
  (w, s.updTu k (fun u => { u with
    rei := 0, txParity := byteParity w, traceAt := (u.traceAt + 1) % 16, carries := src == .channel }))

/-- The next byte of the stream of a packet channel: of a frame that waits, or of an idle header (R248). -/
def Channel.nextByte (c : Channel) : Byte × Channel :=
  if c.idle != 0 then ((headerBytes 0).getD (4 - c.idle) 0, { c with idle := c.idle - 1 })
  else
    match c.tx with
    | b :: rest => (b, { c with tx := rest })
    | [] => ((headerBytes 0).getD 0 0, { c with idle := 3 })

/-- The next bytes of the stream of a packet channel. -/
def Channel.nextBytes : Nat → Channel → List Byte × Channel
  | 0, c => ([], c)
  | n + 1, c =>
    let r := c.nextByte
    let m := Channel.nextBytes n r.2
    (r.1 :: m.1, m.2)

/-- The next word of the container originated on terminated TU `t` (R195, R246): `place` is its place in the container. -/
def State.originate (s : State) (n t place : Nat) : Nat × State :=
  let k := tuKey n t
  if place = 0 then s.txOverhead n t
  else
    let r := match if (s.tu k).carries then s.chanOf n t else none with
      | none => (0, s)
      | some p =>
        let b := (s.channel p).nextBytes 8
        (leNat b.1, s.updChannel p (fun _ => b.2))
    (r.1, r.2.updTu k (fun u => { u with txParity := u.txParity ^^^ byteParity r.1 }))

/-- Whether a TU's containers are generated into its store. -/
def Tu.generates (u : Tu) : Bool := u.txNext.code == ownFeed || u.txSpan.code == ownFeed

/-- The container words of each TU that an express transmitter has to generate on TB0 up to now, 2,560 in 125 µs (R226). -/
def State.genDue (s : State) (n : Nat) : Nat :=
  match (s.stfOf n).genFrom with
  | none => 0
  | some from' => ((s.tbGet 0).free - from') * 64 / (3125 * nsUnits)

/-- The containers of the terminated TUs of an express transmitter generated on TB0, a number of words of each. -/
def State.generate (n : Nat) : Nat → State → State
  | 0, s => s
  | fuel + 1, s =>
    let place := (s.stfOf n).genWords % 2560
    let s := (List.range 78).foldl (fun s t =>
      if (s.tu (tuKey n t)).generates then
        let r := s.originate n t place
        r.2.updTu (tuKey n t) (fun u => { u with made := u.made + 1, gen := ((place, BitVec.ofNat 64 r.1) :: u.gen).take 64 })
      else s) s
    State.generate n fuel (s.updStf n (fun y => { y with genWords := y.genWords + 1 }))

/-- An elastic store that has emptied or filled is re-centred: a slip (R229). -/
def State.slip (s : State) (n t code : Nat) : State :=
  let k := tuKey n t
  let feed := s.feed k code
  let s := (s.bump R.STF_TU_PTR_CTR_SLIP k 1).raiseOnce EV_TSI_SLIP 0 n n [t]
  (s.setFld R.STF_TU_FILL_FILL k 32).updTu k (fun u => { u with ndf := true, read := feed.1 - 32, txPlace := placeAhead feed (-31) })

/-- The next word that leaves an elastic store. -/
def State.readStore (s : State) (n t code : Nat) : Nat × State :=
  let k := tuKey n t
  let fill := (s.feed k code).1 - (s.tu k).read
  let s := if fill = 0 || decide (64 ≤ fill) then s.slip n t code else s
  let feed := s.feed k code
  let w := (feed.2.getD (feed.1 - 1 - (s.tu k).read) (0, 0)).2.toNat
  (w, (s.setFld R.STF_TU_FILL_FILL k (feed.1 - (s.tu k).read - 1)).updTu k (fun u => { u with
    read := u.read + 1, txPlace := (u.txPlace + 1) % 2560 }))

/-- All ones. -/
def onesWord : Nat := 2 ^ 64 - 1

/-- The word at the next data position of a switched TU. Its all-ones words start and end at a container boundary; a source that has
failed leaves no words to read (R210, R211). -/
def State.switchedWord (s : State) (n t code : Nat) : Nat × State :=
  let k := tuKey n t
  let fails := s.tuFails ((code - 3) / 78) ((code - 3) % 78)
  let first := (s.tu k).txPlace == 0
  let dry := decide ((s.tu (code - 3)).count ≤ (s.tu k).read)
  let ones := if (s.tu k).ones then !(first && !fails) else fails && (first || dry)
  let s := s.updTu k (fun u => { u with ones := ones })
  if ones && fails then (onesWord, s.updTu k (fun u => { u with txPlace := (u.txPlace + 1) % 2560 }))
  else
    let r := s.readStore n t code
    (if ones then onesWord else r.1, r.2)

/-- The word at the next data position of output TU `t` of lane `n`. -/
def State.dataWord (s : State) (n t : Nat) : Nat × State :=
  let k := tuKey n t
  let code := (s.tu k).txSpan.code
  if code = ownFeed then s.readStore n t code
  else if 3 ≤ code then s.switchedWord n t code
  else if (s.tu k).generates then (0, s)
  else
    let r := s.originate n t (s.tu k).txPlace
    (r.1, r.2.updTu k (fun u => { u with txPlace := (u.txPlace + 1) % 2560 }))

/-- A span begins at slot 1,345 (R219). -/
def Tu.enterSpan (u : Tu) : Tu :=
  let code := u.txNext.code
  let u := { u with txSpan := u.txNext, ones := if code = 1 || code = 2 || code == ownFeed then false else u.ones || code == 0 }
  match u.txNext.entry with
  | none => u
  | some (read, place) => { u with read := read, txPlace := place }

/-- Slot `i` of output TU `t` (R210, R220). `partner` is the partner's word at the same place. -/
def State.slotOut (s : State) (n t i : Nat) (partner : Nat) : Nat × State :=
  let k := tuKey n t
  let s := if i = 1345 then s.updTu k Tu.enterSpan else s
  let u := s.tu k
  if u.txSpan.code = 0 then (onesWord, s)
  else if u.txSpan.code = 2 then (if u.fails then onesWord else partner, s)
  else if i = 1344 && u.txSpan.just == 1 then (if u.ones then onesWord else 0, s)
  else s.dataWord n t

/-- The negative stuff word of output TU `t` (R210, R220). -/
def State.stuffOut (s : State) (n t : Nat) (partner : Nat) : Nat × State :=
  let u := s.tu (tuKey n t)
  if u.txSpan.code = 0 then (onesWord, s)
  else if u.txSpan.code = 2 then (if u.fails then onesWord else partner, s)
  else if u.txSpan.just = 2 then s.dataWord n t
  else (if u.ones then onesWord else 0, s)

/-! ### The management channel (R213, R214) -/

/-- The next byte of a lane's management channel, and whether a frame ends with it: of a frame that waits, or of an idle header. -/
def Stf.nextByte (x : Stf) (en : Bool) : Byte × Bool × Stf :=
  let idle := ((headerBytes 0).getD 0 0, false, { x with mgmtIdle := 3, mgmtDone := 0 })
  if x.mgmtIdle != 0 then ((headerBytes 0).getD (4 - x.mgmtIdle) 0, false, { x with mgmtIdle := x.mgmtIdle - 1 })
  else if !en then idle
  else
    match x.mgmtQ with
    | [] => idle
    | f :: rest =>
      if x.mgmtDone + 1 < f.length then (f.getD x.mgmtDone 0, false, { x with mgmtDone := x.mgmtDone + 1 })
      else (f.getD x.mgmtDone 0, true, { x with mgmtQ := rest, mgmtDone := 0 })

/-- The next bytes of a lane's management channel, and how many frames end with them. -/
def Stf.nextBytes (en : Bool) : Nat → Stf → List Byte × Nat × Stf
  | 0, x => ([], 0, x)
  | n + 1, x =>
    let r := x.nextByte en
    let m := Stf.nextBytes en n r.2.2
    (r.1 :: m.1, ofFlag r.2.1 + m.2.1, m.2.2)

/-- The next word of a lane's management channel. -/
def State.mgmtOut (s : State) (n : Nat) : Nat × State :=
  let r := Stf.nextBytes (s.flag R.STF_CFG_MGMT_EN n) 8 (s.stfOf n)
  let s := s.updStf n (fun _ => r.2.2)
  (leNat r.1, if r.2.1 = 0 then s else s.stfCount n 13 r.2.1)

/-! ### The words of a frame (R184 to R188, R196, R197) -/

/-- The word of pointers of row `r`: under section AIS each is the AIS pointer, and new data stays due (R210, R228). -/
def State.pointersOut (s : State) (n r : Nat) (f : TxFrame) : Nat × State :=
  ((List.range 4).filter (fun i => decide (4 * (r - 1) + i < 78))).foldl (fun (a : Nat × State) i =>
    let t := 4 * (r - 1) + i
    let p := a.2.txPointer n t f
    let new := p.1 / 4096 == 9
    if f.ais then (a.1 + 0xFFFF <<< (16 * i), if new then p.2.updTu (tuKey n t) (fun u => { u with ndf := true }) else p.2)
    else (a.1 + p.1 <<< (16 * i), p.2)) (0, s)

/-- The word at place `q` of the frame that a lane sends, before scrambling. -/
def State.wordOut (s : State) (n : Nat) (f : TxFrame) (q : Nat) : Nat × State :=
  let r := q / 5000
  let x := q % 5000
  let partner := match f.leader with
    | some (m, faw) => s.leaderWord m faw q
    | none => 0
  let cover := fun (a : Nat × State) => (if f.ais then onesWord else a.1, a.2)
  if 8 ≤ x then cover (s.slotOut n ((x - 8) % 78) (64 * r + (x - 8) / 78) partner)
  else if r = 0 then ((f.head.getD x 0).toNat, s)
  else if r ≤ 20 then (if x = 0 then s.pointersOut n r f else (0, s))
  else if r ≤ 30 then
    if 8 * (r - 21) + x < 78 then cover (s.stuffOut n (8 * (r - 21) + x) partner) else (0, s)
  else if f.ais then (onesWord, s)
  else s.mgmtOut n

/-- A word leaves on the line: its bytes count in the parity of the frame. It reaches the balls unless the generator or a far-end
loopback replaces it or a recalibration has taken the lane out of service, and under a near-end loopback the receive path, with the bits
that an injection inverts (R131, R137, R139, R140, R200). -/
def State.putWord (s : State) (n : Nat) (f : TxFrame) (w reg : Nat) : State :=
  let s := s.updStf n (fun x => { x with frame := some { f with words := f.words + 1, reg := reg, parity := f.parity ^^^ byteParity w } })
  let word := BitVec.ofNat 64 w
  if s.fld R.LANE_TEST_GEN_PAT n != 0 || (s.lane n).outOfService then s
  else
    match s.fld R.LANE_CFG_LOOPBACK n with
    | 0 => s.emit (.stfBlock n 1 word)
    | 3 => s
    | _ =>
      let k := min 64 (s.lane n).injDue
      let s := (s.updLane n (fun l => { l with injDue := l.injDue - k })).emit (.stfBlock n 1 word)
      s.updStf n (fun x => { x with looped := x.looped ++ [word ^^^ BitVec.ofNat 64 (2 ^ k - 1)] })

/-- The next word of the frame that a lane sends: words 0 and 1 of row 0 go out in clear, and behind the frame zero words fill
(R196, R197, R199). -/
def State.sendWord (s : State) (n : Nat) : State :=
  match (s.stfOf n).frame with
  | none => s
  | some f =>
    let r := if f.words < 200000 then s.wordOut n f f.words else (0, s)
    if f.words < 2 then r.2.putWord n f r.1 f.reg
    else
      let c := stfScramble f.reg r.1
      r.2.putWord n f c.1 c.2

/-- The words of the frame that a lane sends up to a number of them; the first argument is how many may go. -/
def State.sendWords (n : Nat) : Nat → State → State
  | 0, s => s
  | fuel + 1, s => State.sendWords n fuel (s.sendWord n)

/-- Brings the frame that a lane sends to `count` words. -/
def State.sendTo (s : State) (n count : Nat) : State :=
  match (s.stfOf n).frame with
  | none => s
  | some f => State.sendWords n (count - f.words) s

/-- Whole blocks of 0.625 ns between two step-free counts of TB0. -/
def blocksBetween (early late : Nat) : Nat := (late - early) / (5 * 2 ^ 61)

/-- The words of a lane's frame that are due: on TB0, or 5.0 ns, which are 8 blocks, behind the received frame that it follows (R198,
R239). -/
def State.wordsDue (s : State) (f : TxFrame) : Nat :=
  match f.leader with
  | none => blocksBetween f.start (s.tbGet 0).free
  | some (m, faw) => (s.stfOf m).pos - faw - 8

/-- Every lane sends the words that are due, to the end of its frame. -/
def State.sendDue (s : State) : State :=
  s.stf.foldl (fun s e =>
    match (s.stfOf e.1).frame with
    | none => s
    | some f =>
      if s.fld R.LANE_STAT_TX_PWR e.1 != 0 || !s.stfLane e.1 then s
      else
        let s := State.generate e.1 (s.genDue e.1 - (s.stfOf e.1).genWords) s
        s.sendTo e.1 (min 200000 (s.wordsDue f))) s

/-! ### The frame (R189 to R200, R241) -/

/-- How a frame starts: its FRAME_NUM, whether it carries PHASE_JUMP, whether section AIS goes out, whether the pointer generators
re-centre, and the lane whose received frame it follows. -/
structure FrameStart where
  fn : Nat
  jump : Bool
  ais : Bool
  again : Bool
  leader : Option Nat
  deriving DecidableEq, Repr

/-- Half a frame, in whole blocks (R241). -/
def halfFrame : Nat := 100000

/-- The frame starts in epoch phase (R190, R199); a lane that was slaved keeps its count by its offset. -/
def State.epochPhase (s : State) (n : Nat) : FrameStart × State :=
  let st := s.stfOf n
  let e := s.epochNum % 2 ^ 32
  let off := if st.slaved then (st.sent + 1 + 2 ^ 32 - e) % 2 ^ 32 else st.offset
  ({ fn := (e + off) % 2 ^ 32, jump := st.jumpDue || st.slaved, ais := s.flag R.STF_CFG_AIS_FORCE n, again := st.jumpDue, leader := none },
    s.updStf n (fun x => { x with offset := off, slaved := false }))

/-- The frame starts in slaved phase, or in the phase held while the partner does not lead (R190, R239, R241). -/
def State.slavedPhase (s : State) (n i m : Nat) (isB : Bool) : FrameStart × State :=
  let st := s.stfOf n
  let f := if isB then R.TSI_XP_SLAVED_AB else R.TSI_XP_SLAVED_BA
  let lead := s.leads m
  let was := s.flag f i
  let joins := lead && !was
  let s := if was == lead then s else (s.setFlag f i lead).raiseAt EV_TSI_XP 0 i []
  let jump := joins || (lead && was && ((s.stfOf m).head.headD 0).toNat.testBit 13) || (!lead && !st.slaved)
  ({ fn := (st.sent + 1) % 2 ^ 32, jump := jump, ais := !lead || s.laneFails m || s.flag R.STF_CFG_AIS_FORCE n, again := false,
     leader := if lead then some m else none },
    s.updStf n (fun x => { x with slaved := true }))

/-- Whether the frame that would start changes the lane's phase: into or out of the slaved phase of a partner that leads (R241). -/
def State.phaseChanges (s : State) (n : Nat) : Bool :=
  match s.expressOf n, (s.stfOf n).frame with
  | _, none => false
  | some e, some f => (s.leads e.2.1 && f.leader.map (fun l => l.1) != some e.2.1) || (!s.leads e.2.1 && !(s.stfOf n).slaved)
  | none, some _ => (s.stfOf n).slaved

/-- The section status word (R191); SBIP is the parity of the frame before. -/
def State.statusWord (s : State) (n : Nat) (ais : Bool) : Nat :=
  let sync := s.fld R.STF_STAT_ALIGN n == 2
  let thin : Nat := match s.portOfLane n with
    | some p => if s.firstLane p = n then (s.port p).thinWord else 0
    | none => 0
  ((s.stfOf n).txParity % 256) <<< 56 + (if sync then (s.stfOf n).rei else 0) <<< 52 +
    ofFlag (s.laneFails n || s.flag R.STF_CFG_RDI_FORCE n) <<< 51 + ofFlag ais <<< 50 + thin % 2 ^ 24

/-- The identity word (R189). -/
def State.identityWord (s : State) (n fn : Nat) (express jump : Bool) : Nat :=
  fn <<< 32 + s.fld R.STF_ID_TX_ID n <<< 16 + ofFlag express <<< 15 + ofFlag (s.tbState 0 != tbLocked) <<< 14 + ofFlag jump <<< 13

/-- The frame in progress ends: complete; or, before a frame that carries PHASE_JUMP, at the last whole block before it, with fill words
behind a frame that is complete too early (R199). -/
def State.endFrame (s : State) (n : Nat) (jump : Bool) : State :=
  match (s.stfOf n).frame with
  | none => s
  | some f =>
    let s := s.sendTo n (if jump then s.wordsDue f else 200000)
    s.updStf n (fun x => { x with txParity := (x.frame.map (fun f => f.parity)).getD 0, frame := none })

/-- The block at which the frame in progress began. -/
def Stf.lastFaw (x : Stf) : Nat := x.pos - 1 - (x.pos - 1 - x.start) % 200000

/-- The frame begins: words 0 to 4 of its row 0 are settled, and express TUs carry TU AIS while their input fails (R242). -/
def State.beginFrame (s : State) (n : Nat) (h : FrameStart) (express : Option Nat) : State :=
  let trace := [s.fld R.STF_SEC_TRACE_TX_TRACE (2 * n), s.fld R.STF_SEC_TRACE_TX_TRACE (2 * n + 1)]
  let head := ([fawWord, s.identityWord n h.fn express.isSome h.jump, s.statusWord n h.ais] ++ trace).map (fun w => BitVec.ofNat 64 w)
  let s := match s.portOfLane n with
    | some p => if s.firstLane p = n then s.updPort p (fun q => { q with thinWord := 0 }) else s
    | none => s
  let s := match express with
    | none => s
    | some m => (List.range 78).foldl (fun s t =>
        s.updTu (tuKey n t) (fun u => { u with fails := s.tuFails m t })) s
  let free := (s.tbGet 0).free
  s.updStf n (fun y => { y with
    rei := 0, due := false, jumpDue := false, sent := h.fn
    genFrom := if express.isSome then some (y.genFrom.getD free) else y.genFrom
    frame := some { words := 0, start := free, leader := h.leader.map (fun m => (m, (s.stfOf m).lastFaw)), head := head
                    express := express.isSome, ais := h.ais, again := h.again, reg := stfSeed h.fn (s.fld R.STF_ID_TX_ID n), parity := 0 } })

/-- A frame starts (R198). A change of phase waits until 62.5 µs after the start of the frame before it (R241). -/
def State.startFrame (s : State) (n : Nat) : State :=
  let x := s.expressOf n
  let early := s.phaseChanges n && (s.stfOf n).frame.any (fun f => decide (blocksBetween f.start (s.tbGet 0).free < halfFrame))
  let ready := s.stfLane n && s.fld R.LANE_STAT_TX_PWR n == 0 && (x.isSome || (s.stfOf n).due) && !early
  if !ready then s
  else
    let (h, s) := match x with
      | some e => s.slavedPhase n e.1 e.2.1 e.2.2
      | none => s.epochPhase n
    (s.endFrame n h.jump).beginFrame n h (x.map (fun e => e.2.1))

/-- Whether the framer of a lane's port runs: every lane of the port is On (R198). -/
def State.framerRuns (s : State) (n : Nat) : Bool := (s.portOfLane n).any (fun p => (s.lanesOf p).all s.laneOn)

/-- The edge of an epoch for an STF lane: a frame start falls due, with PHASE_JUMP behind an irregular edge, and an epoch with
a defect counts (R199, R215). -/
def State.stfEdge (irregular : Bool) (s : State) (n : Nat) : State :=
  if !s.stfLane n then s
  else
    let bad := (s.stfOf n).hadDefect
    let now := s.flag R.STF_STAT_LOS n || s.flag R.STF_STAT_LOB n || s.flag R.STF_STAT_LOF n || s.flag R.STF_STAT_AIS n
    let s := if bad || now then s.stfCount n 7 1 else s
    let runs := s.framerRuns n
    s.updStf n (fun x => { x with hadDefect := now, due := x.due || runs, jumpDue := x.jumpDue || irregular })

/-- STF_FRAME_START; `time` is the reference time. -/
def execStfFrameStart (lane : Fin 512) (time : Nat) (s : State) : Host.Outcome State Fault Refusal :=
  .next (s.awake (fun s => (s.advance time).sendDue.startFrame lane.val))

/-- The transmitters that follow a lane's received frame send what it has brought. -/
def State.followers (s : State) (m : Nat) : State :=
  s.stf.foldl (fun s e =>
    match (s.stfOf e.1).frame with
    | none => s
    | some f => if f.leader.map (fun l => l.1) = some m then s.sendTo e.1 (min 200000 (s.wordsDue f)) else s) s

/-- The block that a lane's receive path takes: under a near-end loopback its own transmitted word, if one has left (R140). -/
def State.blockIn (s : State) (n header w : Nat) : Option (Nat × Nat) × State :=
  match s.fld R.LANE_CFG_LOOPBACK n with
  | 1 | 2 =>
    match (s.stfOf n).looped with
    | [] => (none, s)
    | v :: rest => (some (1, v.toNat), s.updStf n (fun x => { x with looped := rest }))
  | _ => (some (header, w), s)

/-- A block on the receive balls of a lane; a far-end loopback sends it back out. -/
def State.receiveBlock (s : State) (n header w : Nat) : State :=
  let s := if s.laneOn n && s.fld R.LANE_CFG_LOOPBACK n == 3 then s.emit (.stfBlock n header (BitVec.ofNat 64 w)) else s
  let r := s.blockIn n header w
  match r.1 with
  | none => r.2
  | some (h, v) => (r.2.stfBlock n h v).followers n

/-- STF_BLOCK_RECEIVE; `time` is the reference time at which the first bit of its sync header arrives. -/
def execStfBlockReceive (lane : Fin 512) (header : BitVec 2) (word : Word64) (time : Nat) (s : State) :
    Host.Outcome State Fault Refusal :=
  .next (s.awake (fun s => (s.advance time).sendDue.receiveBlock lane.val header.toNat word.toNat))

/-- TSI_QUADRANT_TRANSITION_END. -/
def execTsiQuadrantTransitionEnd (quadrant : Fin 4) (s : State) : Host.Outcome State Fault Refusal :=
  .next (s.awake (fun s => s.quadrantEnd quadrant.val))

/-- LEAF_COPY_END. -/
def execLeafCopyEnd (quadrant : Fin 4) (s : State) : Host.Outcome State Fault Refusal :=
  .next (s.awake (fun s => s.leafCopied quadrant.val))

end Sys2Proof.Machine
end

