-- ==== Sys2Proof/Machine/Links.lean ====
section
/-! DEFINITION. The life of lanes, ports and packet channels (R128, R155 to R159, R243, R244), link faults, and the thinning
switch with what it means for STF lanes (R149, R152, R211). -/

namespace Sys2Proof.Machine

/-! ### Lanes -/

/-- Whether every field of the register at an offset is RO. -/
def readOnlyAt (off : Nat) : Bool :=
  match locate off with
  | some (r, _) => r.fields.all (fun f => f.acc == .ro)
  | none => false

/-- The RO registers of a lane that is no Class-112 STF lane read their reset values (chapter 06). -/
def State.stfForget (s : State) (n : Nat) : State :=
  let lo := 0x600000 + n * 0x2000
  { s with
    regs := s.regs.filter (fun e => !(decide (lo ≤ e.1) && decide (e.1 < lo + 0x2000) && readOnlyAt e.1))
    stf := SMap.del s.stf n
    tus := s.tus.filter (fun e => e.1 / 78 != n) }

/-- A lane stops to receive for good: an STF lane loses its blocks, and its packet channels are in receive failure (R250). -/
def State.laneOut (s : State) (n : Nat) : State :=
  let s := if s.fld R.LANE_STAT_CLASS n = 3 then
      (s.channelsOn n).foldl State.refreshChannel ((s.loseBlocks n).acquire n)
    else s
  let s := s.laneDark n
  match s.portOfLane n with
  | some p => s.relink p
  | none => s

/-- A lane belongs to a port form: its class and its enable; TEST_EN is cleared first (R119, R129). -/
def State.laneJoin (s : State) (p cls n : Nat) : State :=
  let s := if s.flag R.LANE_CFG_TEST_EN n then (s.setFlag R.LANE_CFG_TEST_EN n false).askLane n false else s
  let s := if cls = 3 then s.stfForget n else s
  let s := (s.setFld R.LANE_STAT_CLASS n cls).updLane n (fun l => { l with port := some p })
  s.askLane n true

/-- A lane belongs to no port. PARTNER_THIN and WIDTH keep what they showed (DESIGN CHOICE, log 129). -/
def State.laneLeave (s : State) (n : Nat) : State :=
  let was := s.fld R.LANE_STAT_CLASS n
  let s := (s.setFld R.LANE_STAT_CLASS n 0).updLane n (fun l => { l with port := none })
  let s := if was = 3 then (s.channelsOn n).foldl State.refreshChannel (s.stfForget n) else s
  s.refreshPairs n

/-- RECAL of a lane at its edge (R131): one that is On goes out of service until the recalibration is done, and loses its locks; its
port counts what follows. -/
def State.recalLane (s : State) (n : Nat) : State :=
  if !s.laneOn n then s
  else
    let s := s.updLane n (fun l => { l with outOfService := true })
    let s := if s.fld R.LANE_STAT_CLASS n = 3 then s.loseBlocks n else s.setAmLock n false
    let s := s.setFlag R.LANE_STAT_CDR_LOCK n false
    match s.portOfLane n with
    | some p => s.relink p
    | none => s

/-! ### Ports and channels -/

/-- Counters, threshold and what a port holds start afresh (R156, R244). -/
def State.portFresh (s : State) (p : Nat) : State :=
  let s := (List.range 64).foldl (fun s i => s.setFld R.PORT_CTR_COUNT (p * 64 + i) 0) s
  let s := s.resetReg R.PORT_CT_THRESH p
  let s := s.setFld R.PORT_PFC_STAT_PAUSED p 0
  let s := (s.setFlag R.PORT_STAT_LOCAL_FAULT p false).setFlag R.PORT_STAT_REMOTE_FAULT p false
  let s := if p < 512 then (s.setFld R.PORT_TSF_WR_WR p 0).setFld R.PORT_TSF_RD_RD p 0 else s
  let s := s.updPort p (fun q => { Port.reset with
    place := q.place, input := q.input, arriving := q.arriving, rxWidth := s.fullWidth p })
  (s.queuesOf p).foldl (fun s q => s.askQueue q true false) s

/-- What a port does in Stopping: its queues drain, and a thinning announcement ends (R150, R156). -/
def State.portStop (s : State) (p : Nat) : State :=
  let s := s.updPort p (fun q => { q with draining := true, own := none, peer := none, held := false, wantWide := false })
  let s := (s.queuesOf p).foldl (fun s q => s.askQueue q false false) s
  let s := if isChannel p then s else (s.lanesOf p).foldl State.refreshPairs s
  s.settlePort p

/-- What a port that lanes form does in Starting. -/
def State.portBegin (s : State) (p : Nat) : State :=
  let s := s.portFresh p
  let cls := laneClass (s.portMode p) (s.fld R.PORT_STAT_SPEED p) (s.fld R.PORT_STAT_LANES p)
  let s := (s.lanesOf p).foldl (fun s n => s.laneJoin p cls n) s
  let s := s.setFld R.LANE_STAT_WIDTH (s.firstLane p) (s.fullWidth p)
  s.showPartner p

/-- What a packet channel does in Starting: without an STF port that is On beneath it, it fails (R244). -/
def State.chanBegin (s : State) (p : Nat) : State :=
  let s := s.portFresh p
  let s := s.updChannel p (fun _ => Channel.reset)
  let s := s.setReg R.PORT_CHAN_STAT (p - 512) 0
  let under : Bool := match s.portOfLane (s.chanLane p) with
    | some b => s.portLife b == .on
    | none => false
  if under then (s.labelChannel p 2).refreshChannel p
  else
    let s := s.raiseOf EV_PORT_START_FAIL p
    (s.setFld R.PORT_STAT_LC p (lifeFail (s.fld R.PORT_STAT_LC p))).portStop p

/-- What follows a change of a port's life-cycle state. -/
def State.portFollow (s : State) (p : Nat) (was : Life) : State :=
  match was, s.portLife p with
  | .off, .starting => if isChannel p then s.chanBegin p else s.portBegin p
  | .starting, .stopping => s.portStop p
  | .on, .stopping => s.portStop p
  | _, _ => s

/-- A request for a port or a channel. -/
def State.askPort (s : State) (p : Nat) (enable : Bool) : State :=
  (s.lifeAsk R.PORT_STAT_LC p enable).portFollow p (s.portLife p)

/-- The device's own disable of a port (R35). -/
def State.forcePort (s : State) (p : Nat) : State := (s.lifeForce R.PORT_STAT_LC p).portFollow p (s.portLife p)

/-- A port reaches On; a pending request then applies. -/
def State.portArrive (s : State) (p : Nat) : State :=
  let s := (s.setFld R.PORT_STAT_LC p (lifeBits .on (pendingOf (s.fld R.PORT_STAT_LC p)))).raiseOf EV_PORT_STATE p
  let s := if isChannel p then s.refreshChannel p else (s.lanesOf p).foldl State.refreshPairs (s.relink p)
  match pendingOf (s.fld R.PORT_STAT_LC p) with
  | none => s
  | some e =>
    let s := s.setFld R.PORT_STAT_LC p (lifeBits .on none)
    let s := { s with forced := s.forced.filter (fun a => a != R.PORT_STAT.addr p) }
    s.askPort p e

/-- A port reaches Off; a pending enable then applies. -/
def State.portLeave (s : State) (p : Nat) : State :=
  let want := pendingOf (s.fld R.PORT_STAT_LC p)
  let s := s.setFld R.PORT_STAT_LC p (lifeBits .off none)
  let s := { s with forced := s.forced.filter (fun a => a != R.PORT_STAT.addr p) }
  let s := (s.setLinkUp p false).raiseOf EV_PORT_STATE p
  let s := s.updPort p (fun q => { q with faulting := false })
  let s := if isChannel p then s else (s.lanesOf p).foldl State.laneLeave s
  if want = some true then s.askPort p true else s

/-- PORT.UP at its edge (R119, R154): the form is recorded where the port is Off. -/
def State.applyPortUp (s : State) (p lane lanes speed fec mode : Nat) : State :=
  let s :=
    if s.portLife p != .off then s
    else
      let s := ((s.setFld R.PORT_STAT_FIRST_LANE p lane).setFld R.PORT_STAT_LANES p lanes).setFld R.PORT_STAT_SPEED p speed
      let s := (s.setFld R.PORT_STAT_FEC p fec).setFld R.PORT_STAT_MODE p mode
      s.updPort p (fun q => { q with place := some lane })
  s.askPort p true

/-- PORT.DOWN at its edge. -/
def State.applyPortDown (s : State) (p : Nat) : State := s.askPort p false

/-- The binding of a channel is removed. -/
def State.unbindChannel (s : State) (p : Nat) : State :=
  let s := ((s.setFld R.PORT_CHAN_BIND_LANE (p - 512) 0).setFld R.PORT_CHAN_BIND_MEMBERS (p - 512) 0)
  let s := (s.setFld R.PORT_CHAN_TU_LO_TUS (p - 512) 0).setFld R.PORT_CHAN_TU_HI_TUS (p - 512) 0
  s.updChannel p (fun c => { c with unbind := false })

/-- CHAN.BIND at its edge (R243 to R245). -/
def State.applyChanBind (s : State) (p lane : Nat) (unbind : Bool) (lo hi : Word64) : State :=
  if unbind then
    if s.portLife p == .off then s.unbindChannel p
    else (s.updChannel p (fun c => { c with unbind := true })).askPort p false
  else
    let s := s.updChannel p (fun c => { c with unbind := false })
    let s :=
      if s.portLife p != .off then s
      else
        let members := popCount 64 lo.toNat + popCount 14 hi.toNat
        let s := (s.setFld R.PORT_CHAN_BIND_LANE (p - 512) lane).setFld R.PORT_CHAN_BIND_MEMBERS (p - 512) members
        let s := (s.setFld R.PORT_CHAN_TU_LO_TUS (p - 512) lo.toNat).setFld R.PORT_CHAN_TU_HI_TUS (p - 512) hi.toNat
        let s := (s.setFld R.PORT_STAT_MODE p 2).setFld R.PORT_STAT_FIRST_LANE p lane
        let s := ((s.setFld R.PORT_STAT_SPEED p 0).setFld R.PORT_STAT_LANES p 0).setFld R.PORT_STAT_FEC p 0
        s.updPort p (fun q => { q with place := some lane })
    s.askPort p true

/-! ### The ends of transitions -/

/-- LANE_STARTING_END: `ok` is false for a PLL or calibration fault. -/
def State.laneStarted (s : State) (n : Nat) (ok : Bool) : State :=
  if s.life R.LANE_STAT_LC n != .starting then s
  else if ok then
    let s := ((s.laneUp n).lifeEnd R.LANE_STAT_LC n .on).raiseOf EV_LANE_STATE n
    s.evalLane n
  else
    let s := (s.setFld R.LANE_STAT_LC n (lifeFail (s.fld R.LANE_STAT_LC n))).raiseOf EV_LANE_START_FAIL n
    match s.portOfLane n with
    | none => s
    | some p =>
      if s.portLife p != .starting then s
      else
        let s := s.raiseOf EV_PORT_START_FAIL p
        (s.setFld R.PORT_STAT_LC p (lifeFail (s.fld R.PORT_STAT_LC p))).portStop p

/-- LANE_STOPPING_END. -/
def State.laneStopped (s : State) (n : Nat) : State :=
  if s.life R.LANE_STAT_LC n != .stopping then s
  else ((s.laneOut n).lifeEnd R.LANE_STAT_LC n .off).raiseOf EV_LANE_STATE n

/-- PORT_STARTING_END: every lane is On and the MAC is ready. -/
def State.portStarted (s : State) (p : Nat) : State :=
  if isChannel p || s.portLife p != .starting || !(s.lanesOf p).all s.laneOn then s else s.portArrive p

/-- PORT_DRAIN_EXPIRY: the frames that have not left after 1 ms are flushed. -/
def State.drainExpired (s : State) (p : Nat) : State :=
  if s.portLife p == .stopping && (s.port p).draining then (s.flushPort p).settlePort p else s

/-- PORT_STOPPING_END: no frame is left and every lane is Off. -/
def State.portStopped (s : State) (p : Nat) : State :=
  let done := s.portLife p == .stopping && !(s.port p).draining && (s.lanesOf p).all (fun n => s.life R.LANE_STAT_LC n == .off)
  if isChannel p || !done then s else s.portLeave p

/-- CHANNEL_STARTING_END: the first frame that carries the channel has been sent. -/
def State.chanStarted (s : State) (p : Nat) : State := if s.portLife p != .starting then s else s.portArrive p

/-- CHANNEL_STOPPING_END: no frame is left and the first unequipped frame has been sent. -/
def State.chanStopped (s : State) (p : Nat) : State :=
  if !s.chanDone p then s
  else
    let s := if (s.channel p).unbind then s.unbindChannel p else s
    s.portLeave p

/-- LINK_FAULT_SIGNALLING (R159): what the reconciliation sublayer reports. -/
def State.linkFaults (s : State) (p : Nat) (loc rem : Bool) : State :=
  if s.portMode p != 0 || s.portLife p == .off then s
  else ((s.setFlag R.PORT_STAT_LOCAL_FAULT p loc).setFlag R.PORT_STAT_REMOTE_FAULT p rem).relink p |>.settlePort p

/-! ### Thinning of STF ports (R152, R211) -/

/-- The lanes that a staged connection, binding or express pair would use. -/
def State.itemLanes (s : State) (i : OrderInstr) : List Nat :=
  match i with
  | .leafWr outLane _ inLane _ false => [outLane, inLane]
  | .chanBind _ lane false _ _ => [lane]
  | .set off w64 _ v m =>
    match setTarget off w64 v.toNat m.toNat with
    | some (r, n, value, mask) =>
      let w := setMerge r (s.reg r n) value mask
      if r = R.TSI_XP ∧ bit w 31 = true then [bits w 8 0, bits w 24 16] else []
    | none => []
  | _ => []

/-- Whether a Leaf entry connects a TU of a lane, as output or as input. -/
def leafUses (n : Nat) (e : Nat × Nat) : Bool :=
  (leafInput e.2).isSome && (e.1 / 78 == n || (leafInput e.2).any (fun k => k / 78 == n))

/-- The packet channels that have a binding, On or not. -/
def State.boundChannels (s : State) : List Nat :=
  s.regs.filterMap (fun e =>
    match R.PORT_CHAN_BIND.instanceAt e.1 with
    | some i => if bits e.2.toNat 6 0 = 0 then none else some (512 + i)
    | none => none)

/-- Whether a lane carries a connection of either Leaf, a TU bound to a packet channel, or an express pair, or would carry one by what
commits in progress have staged (R152). -/
def State.laneUsed (s : State) (n : Nat) : Bool :=
  [0, 1].any (fun page => (List.range 4).any (fun q => (s.leafEntries page q).any (leafUses n))) ||
    s.leafHeld.any (fun e => leafUses n (e.1, e.2.1)) || s.boundChannels.any (fun p => s.chanLane p == n) ||
    s.enabledPairs.any (fun i => s.fld R.TSI_XP_LANE_A i == n || s.fld R.TSI_XP_LANE_B i == n) ||
    s.bureau.commits.any (fun c => c.items.any (fun i => (s.itemLanes i).contains n))

/-- Whether a lane's transmitter is narrowed away. -/
def State.laneNarrow (s : State) (n : Nat) : Bool :=
  match s.portOfLane n with
  | some p => s.portMode p == 1 && s.portLife p == .on && decide (2 ^ s.txWidth p ≤ s.laneIndex p n)
  | none => false

/-- A connection, a binding or a pair would use a lane: a port that is narrowed past it starts to widen. -/
def State.wantLane (s : State) (n : Nat) : State :=
  match s.portOfLane n with
  | some p => if s.laneNarrow n then s.startWiden p else s
  | none => s

/-- An STF port widens while a lane that is in use is narrowed away. -/
def State.widenUsed (s : State) (p : Nat) : State :=
  if s.portMode p == 1 && (s.lanesOf p).any (fun n => s.laneNarrow n && s.laneUsed n) then s.startWiden p else s

/-- What the partner's switch means for the receivers of an STF port (R211): parked lanes declare nothing, on the lane or on its TUs, and
woken ones stay masked. -/
def State.stfSwitched (s : State) (p old new : Nat) : State :=
  let parked := (s.lanesBetween p new old).filter (fun n => s.fld R.LANE_STAT_RX_PWR n != 0)
  let woken := s.lanesBetween p old new
  let s := parked.foldl (fun s n => (((s.setFlag R.STF_STAT_PARKED n true).startHunt n).evalLane n).evalTus n) s
  woken.foldl (fun s n =>
    ((s.setFlag R.STF_STAT_PARKED n false).updStf n (fun x => { x with masked := s.fld R.STF_STAT_ALIGN n != 2 })).evalLane n) s

/-- Before an STF port narrows, the transmitters that it parks end their frames, and send no more (R152). -/
def State.parkFrames (s : State) (p : Nat) : State :=
  match (s.port p).own with
  | none => s
  | some r =>
    if s.portMode p != 1 || r.widen || !r.closed then s
    else
      (s.lanesBetween p r.width (s.txWidth p)).foldl (fun s n =>
        (s.sendTo n 200000).updStf n (fun x => { x with frame := none, due := false })) s

/-- THIN_SWITCH: the boundary after COUNT 0 of the partner's announcement, or of the own one. -/
def State.thinSwitch (s : State) (p : Nat) (received : Bool) : State :=
  if s.portLife p != .on then s
  else if received then
    if (s.port p).peer.isNone then s
    else
      let old := (s.port p).rxWidth
      let s := s.peerSwitch p
      if s.portMode p = 1 then s.stfSwitched p old (s.port p).rxWidth else s
  else ((s.parkFrames p).ownSwitch p).widenUsed p

/-- The thinning decision of a port at an edge (R146, R152). -/
def State.thinningEdge (s : State) (p : Nat) : State :=
  (State.thinEdge (fun n => !s.laneUsed n) s p).widenUsed p

/-! ### Meanings -/

/-- LANE_STARTING_END. -/
def execLaneStartingEnd (lane : Fin 512) (ok : Bool) (s : State) : Host.Outcome State Fault Refusal :=
  .next (s.awake (fun s => s.laneStarted lane.val ok))

/-- LANE_STOPPING_END. -/
def execLaneStoppingEnd (lane : Fin 512) (s : State) : Host.Outcome State Fault Refusal :=
  .next (s.awake (fun s => s.laneStopped lane.val))

/-- PORT_STARTING_END. -/
def execPortStartingEnd (port : Fin 512) (s : State) : Host.Outcome State Fault Refusal :=
  .next (s.awake (fun s => s.portStarted port.val))

/-- PORT_DRAIN_EXPIRY. -/
def execPortDrainExpiry (port : Fin 1024) (s : State) : Host.Outcome State Fault Refusal :=
  .next (s.awake (fun s => s.drainExpired port.val))

/-- PORT_STOPPING_END. -/
def execPortStoppingEnd (port : Fin 512) (s : State) : Host.Outcome State Fault Refusal :=
  .next (s.awake (fun s => s.portStopped port.val))

/-- CHANNEL_STARTING_END. -/
def execChannelStartingEnd (channel : Fin 512) (s : State) : Host.Outcome State Fault Refusal :=
  .next (s.awake (fun s => s.chanStarted (512 + channel.val)))

/-- CHANNEL_STOPPING_END. -/
def execChannelStoppingEnd (channel : Fin 512) (s : State) : Host.Outcome State Fault Refusal :=
  .next (s.awake (fun s => s.chanStopped (512 + channel.val)))

/-- LINK_FAULT_SIGNALLING. -/
def execLinkFaultSignalling (port : Fin 512) (localFault remoteFault : Bool) (s : State) : Host.Outcome State Fault Refusal :=
  .next (s.awake (fun s => s.linkFaults port.val localFault remoteFault))

/-- THIN_SWITCH. -/
def execThinSwitch (port : Fin 512) (received : Bool) (s : State) : Host.Outcome State Fault Refusal :=
  .next (s.awake (fun s => s.thinSwitch port.val received))

end Sys2Proof.Machine
end

