-- ==== Sys2Proof/Machine/Parse.lean ====
section
/-! DEFINITION. Parsing and classification (chapter 08): the parse graph, keys, TCAM passes, the slow path, edits, patterns
and the pattern engine. -/

namespace Sys2Proof.Machine

/-! ### Parse banks (R253, R254) -/

/-- An empty node. -/
def emptyNode : List Word64 := [0, 0, 0, 0]

/-- The node of a bank of a pipeline. -/
def State.node (s : State) (pl bank n : Nat) : List Word64 := SMap.get emptyNode s.nodes (512 * pl + 256 * bank + n)

/-- The bank that serves frames of version `v`. -/
def State.bankFor (s : State) (pl v : Nat) : Nat :=
  let cur := s.fld R.PIPE_PARSE_STAT_CUR_BANK pl
  if vdist v (s.fld R.PIPE_PARSE_STAT_FROM_CUR pl) ≤ 3 then cur else 1 - cur

/-- Whether the standby bank still serves a live version. -/
def State.standbyLive (s : State) (pl : Nat) : Bool := decide (3 < vdist s.oldest (s.fld R.PIPE_PARSE_STAT_FROM_CUR pl))

/-- The current bank of a pipeline copied into the standby bank (R254). -/
def State.copyBank (s : State) (pl : Nat) : State :=
  let cur := s.fld R.PIPE_PARSE_STAT_CUR_BANK pl
  { s with nodes := (List.range 256).foldl (fun m n =>
      SMap.set emptyNode m (512 * pl + 256 * (1 - cur) + n) (s.node pl cur n)) s.nodes }

/-- Writes nodes into the standby bank of a pipeline, from node `first` on. -/
def State.writeNodes (pl : Nat) : Nat → List Word64 → State → State
  | first, a :: b :: c :: d :: rest, s =>
    let bank := 1 - s.fld R.PIPE_PARSE_STAT_CUR_BANK pl
    State.writeNodes pl (first + 1) rest
      { s with nodes := SMap.set emptyNode s.nodes (512 * pl + 256 * bank + first) [a, b, c, d] }
  | _, _, s => s

/-- The claimed bank of a pipeline becomes current under version `v`. -/
def State.swapBank (s : State) (pl v : Nat) : State :=
  let cur := s.fld R.PIPE_PARSE_STAT_CUR_BANK pl
  let s := s.setFld R.PIPE_PARSE_STAT_FROM_STANDBY pl (s.fld R.PIPE_PARSE_STAT_FROM_CUR pl)
  (s.setFld R.PIPE_PARSE_STAT_CUR_BANK pl (1 - cur)).setFld R.PIPE_PARSE_STAT_FROM_CUR pl v

/-! ### Node fields (R255) -/

/-- Bits of word `w` of a node. -/
def nodeBits (d : List Word64) (w hi lo : Nat) : Nat := bits ((d.getD w 0).toNat) hi lo

/-- What a parse node must keep to (R256), as the word that each test looks at with its answer. -/
def nodeTests (d : List Word64) : List (Nat × Bool) :=
  let f := nodeBits d
  let sel := [f 2 63 48, f 2 39 24, f 2 15 0].all (fun v => v &&& (65535 - f 1 53 38) == 0)
  match f 0 63 62 with
  | 0 => d.zipIdx.map (fun w => (w.2, w.1 == 0))
  | 1 =>
    [(0, f 0 13 0 == 0 && decide (f 0 55 53 ≤ 4) && f 0 21 14 != 0 &&
        (f 0 44 44 == 1 || f 0 52 45 == 0 || decide (f 0 21 14 ≤ f 0 52 45)) && (f 0 44 44 == 0 || decide (f 0 43 36 < f 0 21 14))),
     (1, f 1 55 54 != 3 && f 1 12 0 == 0 &&
        decide (f 1 63 56 + (if f 1 55 54 = 2 then 0 else f 1 55 54 + 1) ≤ f 0 21 14)),
     (2, sel), (3, f 3 52 0 == 0)]
  | 2 => [(0, f 0 61 0 == 0), (1, f 1 63 38 == 0 && f 1 12 0 == 0), (3, f 3 52 0 == 0)]
  | _ => [(0, f 0 45 0 == 0), (1, f 1 8 0 == 0), (2, f 2 41 0 == 0), (3, f 3 63 0 == 0)]

/-! ### The walk (R257, R258) -/

/-- What the walk carries from node to node. -/
structure Walk where
  off : Nat
  sel : Nat
  selMask : Nat
  v : ParseVector
  deriving DecidableEq, Repr

/-- A parse vector of a frame before its walk. -/
def ParseVector.start (frame : List Byte) : ParseVector :=
  { bytes := frame.take 512, flen := frame.length, slots := [], endNode := 0, cause := 0, tags := 0, user := 0,
    payloadOff := 0, l4 := false, ip := none }

/-- Byte `i` of a frame. -/
def byteAt (frame : List Byte) (i : Nat) : Nat := (frame.getD i 0).toNat

/-- The big-endian 16-bit number at byte `i`. -/
def be16At (frame : List Byte) (i : Nat) : Nat := byteAt frame i * 256 + byteAt frame (i + 1)

/-- The one's complement sum of 16-bit words of a list of bytes, folded to 16 bits. -/
def onesSum (bs : List Byte) : Nat :=
  let raw := (List.range ((bs.length + 1) / 2)).foldl (fun n i => n + be16At bs (2 * i)) 0
  let once := raw % 65536 + raw / 65536
  once % 65536 + once / 65536

/-- The cause that a node's CHECK gives, 0 if it passes. -/
def runCheck (frame : List Byte) (check off len : Nat) : Nat :=
  let flen := frame.length
  match check with
  | 1 =>
    let total := be16At frame (off + 2)
    if byteAt frame off / 16 != 4 || onesSum ((frame.drop off).take len) != 65535 || decide (total < len) ||
        decide (flen < off + total) then 5
    else if be16At frame (off + 6) % 16384 != 0 then 1
    else if len != 20 then 2
    else 0
  | 2 =>
    let payload := be16At frame (off + 4)
    if byteAt frame off / 16 != 6 || payload == 0 || decide (flen < off + 40 + payload) then 5 else 0
  | 3 => 1
  | 4 => 2
  | _ => 0

/-- The first enabled transition for a select value. -/
def transition (d : List Word64) (sel : Nat) : Option Nat :=
  let en := nodeBits d 3 55 53
  if en.testBit 0 && sel == nodeBits d 2 63 48 then some (nodeBits d 2 47 40)
  else if en.testBit 1 && sel == nodeBits d 2 39 24 then some (nodeBits d 2 23 16)
  else if en.testBit 2 && sel == nodeBits d 2 15 0 then some (nodeBits d 3 63 56)
  else none

/-- The walk stops with a cause at a node. -/
def Walk.stop (w : Walk) (n cause : Nat) : Walk := { w with v := { w.v with cause := cause, endNode := n } }

/-- A header node of length `len`: what it records, and the cause of its check (R257, R258). -/
def headerVisit (frame : List Byte) (d : List Word64) (len : Nat) (w : Walk) : Nat × Walk :=
  let f := nodeBits d
  let check := f 0 55 53
  let slot := f 0 58 56
  let v := w.v
  let v := if (check == 1 || check == 2) && v.ip.isNone then { v with ip := some (w.off, check == 2) } else v
  let v := if f 0 59 59 == 1 && (SMap.find v.slots slot).isNone then { v with slots := SMap.put v.slots slot w.off } else v
  let v := if f 0 60 60 == 1 then { v with tags := min 3 (v.tags + 1) } else v
  let v := if f 0 61 61 == 1 && !v.l4 then { v with l4 := true, payloadOff := w.off + len } else v
  let at' := w.off + f 1 63 56
  let width := f 1 55 54
  (runCheck frame check w.off len,
   { off := w.off + len, sel := if width = 2 then 0 else if width = 0 then byteAt frame at' else be16At frame at',
     selMask := if width = 2 then 0 else f 1 53 38, v := v })

/-- The node's USER_OR taken and its next node found, or a stop with cause UNKNOWN. -/
def leave (d : List Word64) (n : Nat) (w : Walk) : Walk × Option Nat :=
  let w := { w with v := { w.v with user := w.v.user ||| nodeBits d 1 28 13 } }
  match transition d (w.sel &&& w.selMask) with
  | some m => (w, some m)
  | none => if nodeBits d 1 29 29 = 1 then (w.stop n 3, none) else (w, some (nodeBits d 1 37 30))

/-- The walk from node `n` with `fuel` visits left. -/
def walkFrom (node : Nat → List Word64) (frame : List Byte) : Nat → Nat → Walk → Walk
  | 0, n, w => w.stop n 4
  | fuel + 1, n, w =>
    let d := node n
    let f := nodeBits d
    match f 0 63 62 with
    | 0 => w.stop n 3
    | 3 => { w with v := { w.v with user := w.v.user ||| f 0 61 46, endNode := n } }
    | 1 =>
      let least := f 0 21 14
      if frame.length < w.off + least then w.stop n 5
      else
        let len := f 0 52 45 +
          (if f 0 44 44 = 1 then ((byteAt frame (w.off + f 0 43 36) &&& f 0 35 28) >>> f 0 27 25) <<< f 0 24 22 else 0)
        if len < least || decide (frame.length < w.off + len) then w.stop n 5
        else if 512 < w.off + len then w.stop n 4
        else
          let r := headerVisit frame d len w
          if r.1 != 0 then r.2.stop n r.1
          else
            match leave d n r.2 with
            | (w, none) => w
            | (w, some m) => walkFrom node frame fuel m w
    | _ =>
      match leave d n w with
      | (w, none) => w
      | (w, some m) => walkFrom node frame fuel m w

/-- The parse vector of a frame, its FCS left out (R257, R259). -/
def parse (node : Nat → List Word64) (frame : List Byte) : ParseVector :=
  let w := walkFrom node frame 24 0 { off := 0, sel := 0, selMask := 0, v := ParseVector.start frame }
  if w.v.l4 then w.v else { w.v with payloadOff := w.off }

/-! ### Keys (R262, R263) -/

/-- The window field k, 1 to 7, of an end node: SLOT and DELTA. -/
def windowField (d : List Word64) (k : Nat) : Nat × Nat :=
  let x := if k ≤ 5 then nodeBits d 1 (63 - 11 * (k - 1)) (53 - 11 * (k - 1)) else nodeBits d 2 (63 - 11 * (k - 6)) (53 - 11 * (k - 6))
  (x / 256, x % 256)

/-- The end node whose windows a frame uses. -/
def windowNode (node : Nat → List Word64) (v : ParseVector) : List Word64 :=
  let d := node (if v.cause = 0 then v.endNode else 255)
  if nodeBits d 0 63 62 = 3 then d else emptyNode

/-- Key word k and whether its slot was recorded. -/
def keyWord (d : List Word64) (v : ParseVector) (k : Nat) : Bool × Nat :=
  if nodeBits d 0 63 62 != 3 then (false, 0)
  else
    match SMap.find v.slots (windowField d k).1 with
    | none => (false, 0)
    | some off =>
      (true, (List.range 8).foldl (fun n i =>
        let p := off + (windowField d k).2 + i
        n * 256 + (if p < v.flen && p < 512 then byteAt v.bytes p else 0)) 0)

/-- WIN_VALID. -/
def winValid (d : List Word64) (v : ParseVector) : Nat :=
  maskOf ((List.range 7).filter (fun k => (keyWord d v (k + 1)).1))

/-- Key words 1 to 7. -/
def keyWindows (d : List Word64) (v : ParseVector) : List Nat := (List.range 7).map (fun k => (keyWord d v (k + 1)).2)

/-- The ingress key; `second` holds the pass-1 index and the group vector of a second pass. -/
def ingressKey (d : List Word64) (v : ParseVector) (port : Nat) (second : Option (Nat × Nat)) : List Nat :=
  let base := port <<< 53 + v.endNode <<< 45 + v.cause <<< 42 + v.tags <<< 40 + winValid d v <<< 33 + v.user % 65536
  match second with
  | none => base :: keyWindows d v
  | some (i, groups) => (1 <<< 63 + i <<< 19 + base) :: (keyWindows d v).take 6 ++ [groups]

/-- The egress key. -/
def egressKey (d : List Word64) (v : ParseVector) (colour port queue : Nat) : List Nat :=
  (colour <<< 62 + port <<< 52 + v.endNode <<< 44 + v.tags <<< 42 + winValid d v <<< 35 + queue <<< 19 + v.user % 65536) ::
    keyWindows d v

/-! ### TCAM passes (R264) -/

/-- Whether an entry matches a key. -/
def Entry.matchesKey (e : Entry) (key : List Nat) : Bool :=
  (key.zip ((e.words.take 8).zip (e.words.drop 8))).all (fun t => (t.1 ^^^ t.2.1.toNat) &&& t.2.2.toNat == 0)

/-- The number of a TCAM index. -/
def tcamKey (pl : Nat) (egress : Bool) (i : Nat) : Nat := 32768 * pl + 16384 * ofFlag egress + i

/-- The matching entry with the lowest index, and its action words. -/
def State.tcamLookup (s : State) (pl : Nat) (egress : Bool) (version : Nat) (key : List Nat) : Option (Nat × List Word64) :=
  let lo := tcamKey pl egress 0
  match s.tcam.find? (fun e => decide (lo ≤ e.1) && decide (e.1 < lo + 16384) && entryValid version e.2.since e.2.until' &&
      e.2.matchesKey key) with
  | none => none
  | some e => some (e.1 - lo, e.2.words.drop 16)

/-! ### Actions (R269, R270) -/

/-- Bits of a word of an action. -/
def actionBits (a : List Word64) (w hi lo : Nat) : Nat := bits ((a.getD w 0).toNat) hi lo

/-- What an ingress action of a pipeline must keep to, word by word; LOOKUP_KIND 3 to 7 are reserved (R288). -/
def ingressActionTests (pl : Nat) (a : List Word64) : List (Nat × Bool) :=
  let f := actionBits a
  [(0, decide (f 0 63 60 ≤ 3) && decide (f 0 56 54 ≤ 2) && f 0 53 48 == 0 && f 0 10 0 == 0 &&
      (f 0 57 57 == 1 || f 0 37 36 == 1 || f 0 37 36 == 2) && (f 0 11 11 == 0 || f 0 28 12 / 16384 == pl)),
   (1, decide (f 1 63 61 ≤ 4) && f 1 35 0 == 0 && f 1 37 36 != 3),
   (2, f 2 54 32 == 0 && (f 2 58 55 == 0 || f 0 63 60 == 3)), (3, f 3 63 0 == 0)]

/-- What an egress action must keep to, word by word. -/
def egressActionTests (a : List Word64) : List (Nat × Bool) :=
  let f := actionBits a
  [(0, decide (f 0 63 60 ≤ 1) && f 0 59 0 == 0), (1, decide (f 1 63 61 ≤ 4) && f 1 37 0 == 0), (2, f 2 58 32 == 0), (3, f 3 63 0 == 0)]

/-! ### Edits (R269, R272) -/

/-- Whether a frame's outer tag, if any, stands at byte 12. -/
def hasTag (bs : List Byte) : Bool := decide (16 ≤ bs.length) && (be16At bs 12 == 0x8100 || be16At bs 12 == 0x88A8)

/-- A frame with the 16-bit number at byte `i` replaced. -/
def put16 (bs : List Byte) (i v : Nat) : List Byte := bs.take i ++ beBytes 2 v ++ bs.drop (i + 2)

/-- A tag operation on a frame and on the offset of its outer IP header. -/
def editTag (op vid pcp : Nat) (bs : List Byte) (ip : Option (Nat × Bool)) : List Byte × Option (Nat × Bool) :=
  if op = 1 || op = 2 then
    (bs.take 12 ++ beBytes 2 (if op = 1 then 0x8100 else 0x88A8) ++ beBytes 2 (pcp * 8192 + vid) ++ bs.drop 12,
     ip.map (fun e => (e.1 + 4, e.2)))
  else if !hasTag bs then (bs, ip)
  else if op = 3 then (bs.take 12 ++ bs.drop 16, ip.map (fun e => (e.1 - 4, e.2)))
  else if op = 4 then (put16 bs 14 (be16At bs 14 / 4096 * 4096 + vid), ip)
  else (bs, ip)

/-- The DSCP of the outer IP header rewritten, with the IPv4 checksum brought up to date. -/
def editDscp (dscp : Nat) (bs : List Byte) (ip : Option (Nat × Bool)) : List Byte :=
  match ip with
  | none => bs
  | some (off, true) => put16 bs off (withBits (be16At bs off) 11 6 dscp)
  | some (off, false) =>
    let bs := put16 bs off (withBits (be16At bs off) 7 2 dscp)
    let bs := put16 bs (off + 10) 0
    let len := byteAt bs off % 16 * 4
    put16 bs (off + 10) (65535 - onesSum ((bs.drop off).take len))

/-- The edits of action word 1. -/
def editWith (e : List Byte × Option (Nat × Bool)) (w : Word64) : List Byte × Option (Nat × Bool) :=
  let x := w.toNat
  let r := editTag (bits x 63 61) (bits x 60 49) (bits x 48 46) e.1 e.2
  let bs := if bits x 45 45 = 1 && hasTag r.1 then put16 r.1 14 (withBits (be16At r.1 14) 15 13 (bits x 48 46)) else r.1
  (if bits x 38 38 = 1 then editDscp (bits x 44 39) bs r.2 else bs, r.2)

/-- A frame after its edits, in order. -/
def editFrame (bs : List Byte) (ip : Option (Nat × Bool)) (edits : List Word64) : List Byte := (edits.foldl editWith (bs, ip)).1

/-! ### Patterns (R273 to R276) -/

/-- What a pattern must keep to (R274), word by word: a byte of the value beyond the length or outside the mask is 0, and so is a
byte of the mask beyond the length. -/
def patternTests (ws : List Word64) : List (Nat × Bool) :=
  let c := (ws.getD 0 0).toNat
  let bytes := fun (w : Nat) => beBytes 8 (ws.getD w 0).toNat
  let len := bits c 45 41 + 1
  let within := fun (w : Nat) => (bytes w).zipIdx.all (fun b => b.1 == 0 || decide (8 * ((w - 1) % 4) + b.2 < len))
  match bits c 63 62 with
  | 0 =>
    (0, bits c 46 46 == 0 && bits c 40 0 == 0 && (bits c 55 55 == 0 || decide (bits c 54 47 + len ≤ 256))) ::
      ([1, 2, 3, 4].map (fun w => (w, within w && ((bytes w).zip (bytes (w + 4))).all (fun e => e.1 &&& ~~~e.2 == 0))) ++
        (5, (ws.drop 5).any (fun w => w != 0)) :: [5, 6, 7, 8].map (fun w => (w, within w)))
  | 1 => (0, bits c 61 0 == 0) :: (ws.drop 1).zipIdx.map (fun w => (w.2 + 1, w.1 == 0))
  | _ => [(0, false)]

/-- Whether masked bytes match the start of a window. -/
def maskedPrefix : List (Byte × Byte) → List Byte → Bool
  | [], _ => true
  | _ :: _, [] => false
  | (v, m) :: rest, b :: w => (b ^^^ v) &&& m == 0 && maskedPrefix rest w

/-- Whether a pattern matches at some position of a window. -/
def patternMatches (ws : List Word64) (window : List Byte) : Bool :=
  let c := (ws.getD 0 0).toNat
  let len := bits c 45 41 + 1
  let value := ((ws.drop 1).take 4).flatMap (fun w => beBytes 8 w.toNat)
  let mask := (ws.drop 5).flatMap (fun w => beBytes 8 w.toNat)
  let pat := (value.zip mask).take len
  if bits c 55 55 = 1 then maskedPrefix pat (window.drop (bits c 54 47))
  else decide (len ≤ window.length) && (List.range (window.length - len + 1)).any (fun p => maskedPrefix pat (window.drop p))

/-- The window of a frame without its FCS (R275). -/
def scanWindow (frame : List Byte) (v : ParseVector) : List Byte := (frame.drop v.payloadOff).take 256

/-- The group vector of a window (R276). -/
def State.groupVector (s : State) (pl version : Nat) (window : List Byte) : Nat :=
  (s.patterns.filter (fun e => e.1 / 4096 == pl && entryValid version e.2.since e.2.until' && patternMatches e.2.words window)).foldl
    (fun m e => m ||| 1 <<< actionBits e.2.words 0 61 56) 0

/-! ### Counters and the slow path (R261) -/

/-- A pipeline counter advances (R282). -/
def State.pipeCount (s : State) (pl i k : Nat) : State := s.bump R.PIPE_CTR_COUNT (pl * 32 + i) k

/-- The register index of the bucket settings of a cause. -/
def slowIndex (pl cause : Nat) : Nat := pl * 7 + (cause - 1)

/-- A slow-path bucket at reset: full. -/
def slowFull : Bucket := { level := ((256 * 65536 : Nat) : Int), since := 0 }

/-- A frame goes to the slow path of its pipeline with a cause, if the cause's bucket has a token. -/
def State.slowPath (s : State) (pl cause : Nat) (f : HostFrame) : State :=
  let i := slowIndex pl cause
  let burst := s.fld R.PIPE_SLOW_CFG_BURST i
  let rate := s.fld R.PIPE_SLOW_CFG_RATE i
  let now := s.tbFreeNs 0
  let b := SMap.get slowFull s.slow (8 * pl + cause)
  let b : Bucket :=
    { level := min (b.level + (fillAmount rate 1000000000 (min b.since now) now : Nat)) ((burst * 65536 : Nat) : Int), since := now }
  if rate != 0 && decide (65536 ≤ b.level) then
    let ring := s.fld R.PIPE_SLOW_CFG_RING i
    let s := { s with
      slow := SMap.set slowFull s.slow (8 * pl + cause) { b with level := b.level - 65536 }
      hostRx := SMap.upd [] s.hostRx ring (fun q => q ++ [f]) }
    s.pipeCount pl (15 + cause) 1
  else
    let s := { s with slow := SMap.set slowFull s.slow (8 * pl + cause) b }
    (s.pipeCount pl (23 + cause) 1).raiseOnce EV_SLOW_DROP pl pl (8 * pl + cause) [cause]

/-- The bucket of a cause is full after a change of its settings. -/
def State.slowReset (s : State) (pl cause : Nat) : State :=
  { s with slow := SMap.set slowFull s.slow (8 * pl + cause)
             (Bucket.full (s.fld R.PIPE_SLOW_CFG_BURST (slowIndex pl cause)) (s.tbFreeNs 0)) }

/-! ### Retirement (R22, R267) -/

/-- The entries of a store at the retirement of version `o`: those closed at o + 1 go, and F of o becomes o + 1. -/
def retireEntries (o : Nat) (m : SMap Entry) : SMap Entry :=
  let n := (o + 1) % 256
  (m.filter (fun e => !(e.2.staged == .applied && e.2.until' == n && e.2.since != e.2.until'))).map (fun e =>
    if e.2.since = o ∧ e.2.staged ≠ .entering then
      (e.1, { e.2 with since := n, until' := if e.2.until' = o then n else e.2.until' })
    else e)

/-- The FROM of the current parse banks at the retirement of version `o`. -/
def State.retireBank (o : Nat) (s : State) (pl : Nat) : State :=
  if s.fld R.PIPE_PARSE_STAT_FROM_CUR pl = o then s.setFld R.PIPE_PARSE_STAT_FROM_CUR pl (o + 1) else s

/-! ### The pattern engine (R279) -/

/-- PAT_EN at its edge: a request for the engine; Starting clears the scan queues. -/
def State.askEngine (s : State) (pl : Nat) (enable : Bool) : State :=
  let s := s.lifeAsk R.PIPE_PAT_STAT_LC pl enable
  if s.life R.PIPE_PAT_STAT_LC pl == .starting then
    { s with scans := (s.scans.filter (fun e => e.1 / 2 != pl)) }
  else s

/-- PATTERN_ENGINE_TRANSITION_END: Starting ends in On; Stopping ends in Off once the queued frames are scanned. -/
def State.engineEnd (s : State) (pl : Nat) : State :=
  match s.life R.PIPE_PAT_STAT_LC pl with
  | .starting => (s.lifeEnd R.PIPE_PAT_STAT_LC pl .on).raiseOf EV_PAT_STATE pl
  | .stopping =>
    if (SMap.get [] s.scans (2 * pl)).isEmpty && (SMap.get [] s.scans (2 * pl + 1)).isEmpty then
      let s := (s.lifeEnd R.PIPE_PAT_STAT_LC pl .off).raiseOf EV_PAT_STATE pl
      if s.life R.PIPE_PAT_STAT_LC pl == .starting then { s with scans := s.scans.filter (fun e => e.1 / 2 != pl) } else s
    else s
  | _ => s

/-- PATTERN_ENGINE_TRANSITION_END. -/
def execPatternEngineTransitionEnd (pipe : Fin 8) (s : State) : Host.Outcome State Fault Refusal :=
  .next (s.clocked (fun s => s.engineEnd pipe.val))

end Sys2Proof.Machine
end

