-- ==== Sys2Proof/Machine/Tables.lean ====
section
/-! DEFINITION. Exact-match tables and learning (chapter 09): placement, lookup, table writes, learn notices, aging, errors
and the shadow compare. -/

namespace Sys2Proof.Machine

/-! ### Keys and places (R284 to R287) -/

/-- The home bucket of a key (R286). -/
def homeBucket (seed : Nat) (key : List Word64) : Nat :=
  let c := key.foldl (fun c w => (bitsMsb 64 w.toNat).foldl (crcBitMsb 32 0x1EDC6F41) c) seed
  (c ^^^ (c >>> 16)) % 65536

/-- HASH_SEED. -/
def State.hashSeed (s : State) : Nat := s.fld R.TBL_HASH_SEED_HASH_SEED 0

/-- The number of a place of a pipeline's replica. -/
def placeKey (pl place : Nat) : Nat := 2 ^ 20 * pl + place

/-- The first overflow place. -/
def overflowBase : Nat := 262144

/-- Whether a key is wide. -/
def isWide (key : List Word64) : Bool := key.length != 1

/-- Whether a slot is taken, by an entry of its own or by a wide one below it. -/
def State.slotTaken (s : State) (pl slot : Nat) : Bool :=
  (SMap.find s.table (placeKey pl slot)).isSome ||
    (slot % 2 == 1 && (SMap.find s.table (placeKey pl (slot - 1))).any (fun e => isWide e.key))

/-- The place for a new entry (R287): the lowest free slot or aligned pair of its home bucket, else the lowest free overflow
entry. -/
def State.placeFor (s : State) (pl : Nat) (key : List Word64) : Option Nat :=
  let b := 4 * homeBucket s.hashSeed key
  let free := fun n => !s.slotTaken pl n
  let slot := if isWide key then [b, b + 2].find? (fun n => free n && free (n + 1)) else [b, b + 1, b + 2, b + 3].find? free
  match slot with
  | some n => some n
  | none =>
    let used := s.table.filterMap (fun e => if e.1 / 2 ^ 20 == pl && decide (overflowBase ≤ e.1 % 2 ^ 20) then some (e.1 % 2 ^ 20 - overflowBase) else none)
    match (List.range 2048).find? (fun i => !used.contains i) with
    | some i => some (overflowBase + i)
    | none => none

/-- Whether an entry is open: applied and open-ended (R293). -/
def TblEntry.isOpen (e : TblEntry) : Bool := !e.staged && e.since == e.until'

/-- Whether an entry is closing: applied and given a U. -/
def TblEntry.isClosing (e : TblEntry) : Bool := !e.staged && e.since != e.until'

/-- The entries of a key in a pipeline's replica, with their numbers. -/
def State.entriesOf (s : State) (pl : Nat) (key : List Word64) : List (Nat × TblEntry) :=
  s.table.filter (fun e => e.1 / 2 ^ 20 == pl && e.2.key == key)

/-- The open entry of a key. -/
def State.openEntry (s : State) (pl : Nat) (key : List Word64) : Option (Nat × TblEntry) :=
  (s.entriesOf pl key).find? (fun e => e.2.isOpen)

/-- The entry that a frame of a version finds (R289). -/
def State.findEntry (s : State) (pl : Nat) (key : List Word64) (version : Nat) : Option (Nat × TblEntry) :=
  (s.entriesOf pl key).find? (fun e => !e.2.staged && entryValid version e.2.since e.2.until')

/-- A place as a slot number counts: 2 for a wide entry outside the overflow store. -/
def slotsUsed (e : Nat × TblEntry) : Nat := if isWide e.2.key then 2 else 1

/-- SLOTS and OVF of TBL_STAT. -/
def State.occupancy (s : State) (pl : Nat) : Nat × Nat :=
  let own := s.table.filter (fun e => e.1 / 2 ^ 20 == pl)
  let beyond := own.filter (fun e => decide (overflowBase ≤ e.1 % 2 ^ 20))
  let slots := own.filter (fun e => decide (e.1 % 2 ^ 20 < overflowBase))
  (slots.foldl (fun n e => n + slotsUsed e) 0, beyond.length)

/-! ### Result fields (R290) -/

/-- Whether the first word of a software RESULT is in range. -/
def resultOk (r0 : Nat) : Bool := bits r0 42 0 == 0

/-- Whether the second word of a wide software RESULT is in range for a pipeline mask: its meter belongs to a pipeline of the mask. -/
def wideResultOk (pipes r1 : Nat) : Bool := bits r1 45 0 == 0 && (bits r1 63 63 == 0 || pipes.testBit (bits r1 62 46 / 16384))

/-- A table counter advances (R316). -/
def State.tblCount (s : State) (pl i k : Nat) : State := s.bump R.TBL_CTR_COUNT (pl * 16 + i) k

/-- Stores an entry. -/
def State.putEntry (s : State) (k : Nat) (e : TblEntry) : State := { s with table := SMap.put s.table k e }

/-- Removes an entry. -/
def State.delEntry (s : State) (k : Nat) : State := { s with table := SMap.del s.table k }

/-- Changes an entry. -/
def State.updEntry (s : State) (k : Nat) (f : TblEntry → TblEntry) : State :=
  match SMap.find s.table k with
  | none => s
  | some e => s.putEntry k (f e)

/-- Sets HIT of an entry. -/
def TblEntry.hit (e : TblEntry) : TblEntry := { e with result0 := withBits e.result0 42 42 1 }

/-! ### Table writes (R293 to R296) -/

/-- The code that a write of a key meets before it needs a place; 0 for none. -/
def State.keyCode (s : State) (pl : Nat) (key : List Word64) (insert direct : Bool) : Nat :=
  let es := s.entriesOf pl key
  if es.any (fun e => e.2.claim.isSome) then 4
  else if es.any (fun e => e.2.isOpen) then (if insert then 1 else 0)
  else if direct && es.any (fun e => e.2.isClosing) then 7
  else if insert then 0 else 2

/-- Pipelines of a mask, in order. -/
def maskPipes (m : Nat) : List Nat := onesOf 8 m

/-- What a table write answers: the state, or the code with its pipeline and home bucket (R296). -/
abbrev TblResult := Except (Nat × Nat × Nat) State

/-- Checks of every pipeline before any is written (R294): the first failure, if any. -/
def State.firstFailure (s : State) (key : List Word64) (code : Nat → Nat) (pls : List Nat) : Option (Nat × Nat × Nat) :=
  match pls.find? (fun pl => code pl != 0) with
  | none => none
  | some pl => some (code pl, pl, homeBucket s.hashSeed key)

/-- The code of an insert in a pipeline, that of a full bucket and overflow store included. -/
def State.insertCode (s : State) (key : List Word64) (direct : Bool) (pl : Nat) : Nat :=
  let c := s.keyCode pl key true direct
  if c != 0 then c else if (s.placeFor pl key).isNone then 3 else 0

/-- An entry as written: open-ended from a version, HIT 1 and marked. -/
def newEntry (key : List Word64) (r0 r1 f : Nat) : TblEntry :=
  { key := key, result0 := withBits r0 42 42 1, result1 := r1, since := f, until' := f, claim := none, staged := false, mark := true }

/-- Writes a new entry at its place in one replica. -/
def State.insertAt (key : List Word64) (e : TblEntry) (s : State) (pl : Nat) : State :=
  match s.placeFor pl key with
  | none => s
  | some p => s.putEntry (placeKey pl p) e

/-- TBL.INS outside a stage block. -/
def State.insertDirect (s : State) (pipes : Nat) (key : List Word64) (r0 r1 : Nat) : TblResult :=
  match s.firstFailure key (s.insertCode key true) (maskPipes pipes) with
  | some f => .error f
  | none => .ok ((maskPipes pipes).foldl (State.insertAt key (newEntry key r0 r1 s.oldest)) s)

/-- TBL.INS inside a stage block: places are claimed for set `id`. -/
def State.insertStaged (s : State) (id pipes : Nat) (key : List Word64) (r0 r1 : Nat) : TblResult :=
  match s.firstFailure key (s.insertCode key false) (maskPipes pipes) with
  | some f => .error f
  | none =>
    let e := { newEntry key r0 r1 0 with claim := some id, staged := true }
    .ok ((maskPipes pipes).foldl (State.insertAt key e) s)

/-- TBL.DEL outside a stage block. -/
def State.deleteDirect (s : State) (pipes : Nat) (key : List Word64) : TblResult :=
  match s.firstFailure key (fun pl => s.keyCode pl key false true) (maskPipes pipes) with
  | some f => .error f
  | none => .ok ((maskPipes pipes).foldl (fun s pl =>
      match s.openEntry pl key with
      | none => s
      | some e => s.delEntry e.1) s)

/-- TBL.DEL inside a stage block: the open entries are claimed. -/
def State.deleteStaged (s : State) (id pipes : Nat) (key : List Word64) : TblResult :=
  match s.firstFailure key (fun pl => s.keyCode pl key false false) (maskPipes pipes) with
  | some f => .error f
  | none => .ok ((maskPipes pipes).foldl (fun s pl =>
      match s.openEntry pl key with
      | none => s
      | some e => s.updEntry e.1 (fun e => { e with claim := some id })) s)

/-- TBL.MOD outside a stage block: HIT and IDLE stay, FROZEN, MOVE_CNT, MOVE_SEC and LEARNED clear. -/
def State.modifyDirect (s : State) (pipes : Nat) (key : List Word64) (r0 r1 : Nat) : TblResult :=
  match s.firstFailure key (fun pl => s.keyCode pl key false true) (maskPipes pipes) with
  | some f => .error f
  | none => .ok ((maskPipes pipes).foldl (fun s pl =>
      match s.openEntry pl key with
      | none => s
      | some e => s.updEntry e.1 (fun e => { e with
          result0 := withBits (withBits r0 42 42 (bits e.result0 42 42)) 31 31 (bits e.result0 31 31), result1 := r1, mark := true })) s)

/-- TBL.MOD inside a stage block: the open entry and a second place are claimed. -/
def State.modifyStaged (s : State) (id pipes : Nat) (key : List Word64) (r0 r1 : Nat) : TblResult :=
  let code := fun pl =>
    let c := s.keyCode pl key false false
    if c != 0 then c else if (s.placeFor pl key).isNone then 3 else 0
  match s.firstFailure key code (maskPipes pipes) with
  | some f => .error f
  | none => .ok ((maskPipes pipes).foldl (fun s pl =>
      match s.openEntry pl key with
      | none => s
      | some e =>
        State.insertAt key { newEntry key r0 r1 0 with result0 := r0, claim := some id, staged := true }
          (s.updEntry e.1 (fun e => { e with claim := some id })) pl) s)

/-- The claims of set `id` take effect under version `v`: staged entries open with F = v, claimed open entries close. -/
def applyClaims (id v : Nat) (m : SMap TblEntry) : SMap TblEntry :=
  m.map (fun e =>
    if e.2.claim != some id then e
    else if e.2.staged then (e.1, { e.2 with since := v, until' := v, claim := none, staged := false, mark := true })
    else (e.1, { e.2 with until' := v, claim := none, mark := true }))

/-- Staged entries have F = C + 1, for the current version `c` (R22). -/
def restageTable (c : Nat) (m : SMap TblEntry) : SMap TblEntry :=
  let v := (c + 1) % 256
  m.map (fun e => if e.2.staged then (e.1, { e.2 with since := v, until' := v }) else e)

/-- The claims of set `id` are released without effect. -/
def releaseClaims (id : Nat) (m : SMap TblEntry) : SMap TblEntry :=
  (m.filter (fun e => !(e.2.claim == some id && e.2.staged))).map (fun e =>
    if e.2.claim = some id then (e.1, { e.2 with claim := none }) else e)

/-- The replicas at the retirement of version `o` (R22, R293). -/
def retireTable (o : Nat) (m : SMap TblEntry) : SMap TblEntry :=
  let n := (o + 1) % 256
  (m.filter (fun e => !(e.2.isClosing && e.2.until' == n))).map (fun e =>
    if e.2.since = o && !e.2.staged then
      (e.1, { e.2 with since := n, until' := if e.2.until' = o then n else e.2.until', mark := true })
    else e)

/-! ### Learned writes (R295) -/

/-- The VID of an L2 key. -/
def vidOf (key : Word64) : Nat := bits key.toNat 59 48

/-- MODE of a VID's learning domain in a pipeline. -/
def State.domainMode (s : State) (pl vid : Nat) : Nat := s.fld R.TBL_DOMAIN_MODE (pl * 4096 + vid)

/-- The pipelines in which a VID is Shared. -/
def State.sharedPipes (s : State) (vid : Nat) : List Nat := (List.range 8).filter (fun pl => s.domainMode pl vid == 2)

/-- The pipelines on which a learned write of a key acts. -/
def State.learnedPipes (s : State) (key : Word64) (pipes : Nat) : List Nat :=
  let shared := s.sharedPipes (vidOf key)
  if shared.isEmpty then maskPipes pipes else shared

/-- The code of a learned insert in a pipeline. -/
def State.learnedCode (s : State) (key : Word64) (pl : Nat) : Nat :=
  let es := s.entriesOf pl [key]
  if es.any (fun e => e.2.claim.isSome) then 4
  else
    match es.find? (fun e => e.2.isOpen) with
    | some e => if bits e.2.result0 32 32 = 0 then 5 else if bits e.2.result0 41 41 = 1 then 6 else 0
    | none => if es.any (fun e => e.2.isClosing) then 7 else if (s.placeFor pl [key]).isNone then 3 else 0

/-- Acknowledges the pending notice of a key in some pipelines; a Shared notice is pending in every pipeline whose domain is Shared. -/
def State.acknowledge (s : State) (key : Word64) (pls : List Nat) : State :=
  let shared := pls.any (fun pl => s.domainMode pl (vidOf key) == 2)
  let s := { s with notices := s.notices.filter (fun n => !(n.key == key && (n.shared && shared || pls.contains n.pipe))) }
  s.setFld R.TBL_LEARN_STAT_PENDING 0 s.notices.length

/-- A learned insert of DEST, GROUP, QIDX_EN and QIDX as RESULT word 0 carries them. -/
def State.learnedInsert (s : State) (key : Word64) (pls : List Nat) (r0 : Nat) : TblResult :=
  match s.firstFailure [key] (s.learnedCode key) pls with
  | some f => .error f
  | none =>
    let s := pls.foldl (fun s pl =>
      match s.openEntry pl [key] with
      | some e => s.updEntry e.1 (fun e =>
          let r := withBits (withBits e.result0 63 53 (bits r0 63 53)) 51 44 (bits r0 51 44)
          { e with result0 := withBits (withBits r 42 42 1) 31 31 0, mark := true })
      | none => State.insertAt [key] (newEntry [key] (withBits (withBits r0 43 43 1) 32 32 1) 0 s.oldest) s pl) s
    .ok (s.acknowledge key pls)

/-- A learned delete: an absent key completes without effect, a static entry does not. -/
def State.learnedDelete (s : State) (key : Word64) (pls : List Nat) : TblResult :=
  let code := fun pl =>
    let es := s.entriesOf pl [key]
    if es.any (fun e => e.2.claim.isSome) then 4
    else
      match es.find? (fun e => e.2.isOpen) with
      | some e => if bits e.2.result0 32 32 = 0 then 5 else 0
      | none => if es.any (fun e => e.2.isClosing) then 7 else 0
  match s.firstFailure [key] code pls with
  | some f => .error f
  | none =>
    .ok ((pls.foldl (fun s pl =>
      match s.openEntry pl [key] with
      | none => s
      | some e => s.delEntry e.1) s).acknowledge key pls)

/-! ### Lookup (R288 to R292) -/

/-- The frame's VID (R288) under a tag operation of its ingress action. -/
def frameVid (frame : List Byte) (tagOp vid : Nat) : Nat :=
  let tpid := fun i => be16At frame i == 0x8100 || be16At frame i == 0x88A8
  let outer := if tpid 12 then be16At frame 14 % 4096 else 0
  if tagOp = 1 || tagOp = 2 || tagOp = 4 then vid
  else if tagOp = 3 then (if tpid 12 && tpid 16 then be16At frame 18 % 4096 else 0)
  else outer

/-- The L2 key of a VID and the six bytes at an offset. -/
def l2Key (vid : Nat) (frame : List Byte) (off : Nat) : Word64 :=
  BitVec.ofNat 64 (vid <<< 48 + beNat ((frame.drop off).take 6))

/-- The lookup key of a frame. -/
def lookupKey (kind : Nat) (frame : List Byte) (vid : Nat) (windows : List Nat) : List Word64 :=
  match kind with
  | 0 => [l2Key vid frame 0]
  | 1 => [BitVec.ofNat 64 (1 <<< 60 + windows.getD 0 0 % 2 ^ 60)]
  | _ => (windows.take 5).map (fun w => BitVec.ofNat 64 w)

/-- The destination lookup: counted, and HIT set on an aging NARROW or WIDE entry. -/
def State.lookup (s : State) (pl kind : Nat) (key : List Word64) (version : Nat) : Option TblEntry × State :=
  let s := s.tblCount pl 0 1
  match s.findEntry pl key version with
  | none => (none, s)
  | some (k, e) =>
    let s := s.tblCount pl 1 1
    (some e, if kind != 0 && bits e.result0 43 43 == 1 then s.putEntry k e.hit else s)

/-- A notice for the learn queue of its pipeline, dropped where the queue is full (R298). -/
def State.learnNotice (s : State) (n : Notice) : State :=
  let q := SMap.get [] s.learnQ n.pipe
  if 1024 ≤ q.length then (s.tblCount n.pipe 8 1).raiseOnce EV_LEARN_OVF n.pipe n.pipe n.pipe []
  else
    { s with learnQ := SMap.set [] s.learnQ n.pipe (q ++ [n]) }.setFld R.TBL_LEARN_Q_DEPTH n.pipe (q.length + 1)

/-- The source lookup of a frame (R292). -/
def State.sourceLookup (s : State) (pl vid version : Nat) (n : Notice) : State :=
  let s := s.tblCount pl 3 1
  match s.findEntry pl [n.key] version with
  | none => s.learnNotice { n with shared := s.domainMode pl vid == 2 }
  | some (k, e) =>
    let r := e.result0
    let own := bits r 53 53 == 0 && bits r 63 54 == n.port
    if own then
      let s := if bits r 43 43 = 1 then s.putEntry k e.hit else s
      s.tblCount pl 4 1
    else if bits r 32 32 = 1 then
      let s := s.putEntry k e.hit
      if bits r 41 41 = 1 then s.tblCount pl 11 1 else s.learnNotice { n with shared := s.domainMode pl vid == 2 }
    else if bits r 43 43 = 1 then s.putEntry k e.hit
    else s

/-! ### Learn notices at T0 (R299 to R303) -/

/-- Whether two notices have the same key: VID and MAC, and the pipeline for Local domains. -/
def Notice.same (a b : Notice) : Bool := a.key == b.key && (a.shared && b.shared || a.pipe == b.pipe && a.shared == b.shared)

/-- The three words of an EV_LEARN record (R301). -/
def learnWords (kind : Nat) (n : Notice) (oldPort : Nat) (race win auto frozen : Bool) : List Nat :=
  let t := tbSplit n.stamp
  [kind <<< 60 + n.key.toNat % 2 ^ 60,
   n.port <<< 54 + oldPort <<< 44 + n.pipe <<< 41 + ofFlag n.shared <<< 40 + ofFlag race <<< 39 + ofFlag win <<< 38 +
     ofFlag auto <<< 37 + ofFlag frozen <<< 36,
   (t.1 % 65536) <<< 48 + t.2.1 <<< 16 + t.2.2]

/-- The learned entry of a key, in the lowest pipeline concerned that holds one. -/
def State.learnedEntry (s : State) (n : Notice) : Option TblEntry :=
  ((if n.shared then s.sharedPipes (vidOf n.key) else [n.pipe]).filterMap (fun pl =>
    (s.openEntry pl [n.key]).bind (fun e => if bits e.2.result0 32 32 = 1 then some e.2 else none))).head?

/-- The move count of an entry after one more move in TB0 second bits `sec` (R303). -/
def moveCount (r sec : Nat) : Nat :=
  if bits r 34 33 = sec then min 63 (bits r 40 35 + 1) else 1

/-- An accepted MOVE updates the learned entry's move count in every replica concerned; whether it freezes the entry. -/
def State.countMove (s : State) (n : Notice) : Bool × State :=
  let sec := (tbSplit (s.tbGet 0).value).1 % 4
  let limit := s.fld R.TBL_DOMAIN_MOVE_LIMIT (n.pipe * 4096 + vidOf n.key)
  let pls := if n.shared then s.sharedPipes (vidOf n.key) else [n.pipe]
  match s.learnedEntry n with
  | none => (false, s)
  | some e =>
    let c := moveCount e.result0 sec
    let freeze := limit != 0 && decide (limit < c)
    (freeze, pls.foldl (fun s pl =>
      match s.openEntry pl [n.key] with
      | none => s
      | some f => if !bit f.2.result0 32 then s else s.updEntry f.1 (fun f =>
          let r := withBits (withBits f.result0 40 35 c) 34 33 sec
          { f with result0 := if freeze then withBits r 41 41 1 else r, mark := true })) s)

/-- How far apart two notices arrived, in units of 2^-64 ns of step-free time. -/
def Notice.apart (a b : Notice) : Nat := max a.free b.free - min a.free b.free

/-- Whether notice `a` wins a race against `b` (R302): the later stamp, or the lower port. -/
def Notice.beats (a b : Notice) : Bool := decide (b.free < a.free) || (a.free == b.free && decide (a.port < b.port))

/-- A notice delivered to the event ring, and counted; FROZEN says that the key's learned entry is frozen now. -/
def State.deliver (s : State) (kind : Nat) (n : Notice) (oldPort : Nat) (race win auto : Bool) : State :=
  let frozen := (s.learnedEntry n).any (fun e => bit e.result0 41)
  (s.tblCount n.pipe (if kind = 1 then 5 else 6) 1).raiseAt EV_LEARN n.pipe n.pipe (learnWords kind n oldPort race win auto frozen)

/-- An accepted notice: T0 writes the table with AUTO, and it becomes pending unless that acknowledged it. -/
def State.acceptNotice (s : State) (n : Notice) (move : Bool) (oldPort : Nat) (race : Bool) : State :=
  let pls := if n.shared then s.sharedPipes (vidOf n.key) else [n.pipe]
  let s := { s with accepted := n :: s.accepted.filter (fun (m : Notice) => !m.same n) }
  let m := if move then s.countMove n else (false, s)
  let s := if move || race then m.2.tblCount n.pipe 10 1 else m.2
  let auto := s.flag R.TBL_DOMAIN_AUTO (n.pipe * 4096 + vidOf n.key)
  let keep := fun s : State =>
    let s := { s with notices := s.notices.filter (fun (m : Notice) => !m.same n) ++ [n] }
    s.setFld R.TBL_LEARN_STAT_PENDING 0 s.notices.length
  if m.1 then
    let s := s.noteChange { kind := 2, pipes := pls, key := [n.key], result := 0 }
    ((keep s).deliver 4 n oldPort race race false).raiseOf EV_LEARN_FLAP n.pipe
  else
    let kind := if move then 2 else 1
    if auto then
      match s.learnedInsert n.key pls (n.port <<< 54) with
      | .ok t =>
        (t.noteChange { kind := 0, pipes := pls, key := [n.key], result := n.port <<< 54 }).deliver kind n oldPort race race true
      | .error _ => (keep s).deliver kind n oldPort race race false
    else (keep s).deliver kind n oldPort race race false

/-- T0 handles a notice (R299, R302). -/
def State.handleNotice (s : State) (n : Notice) : State :=
  match s.notices.find? (fun m => m.same n) with
  | some m =>
    if m.port = n.port then s.tblCount n.pipe 7 1 else handle s (some m.port)
  | none =>
    if 16384 ≤ s.notices.length then (s.tblCount n.pipe 8 1).raiseOnce EV_LEARN_OVF n.pipe n.pipe n.pipe []
    else handle s none
where
  /-- Races and flapping, with the port of the pending notice if there is one. -/
  handle (s : State) (held : Option Nat) : State :=
    let entry := s.learnedEntry n
    let move := held.isSome || entry.isSome
    let oldPort := match held with
      | some p => p
      | none => match entry with
        | some e => bits e.result0 63 54
        | none => 0
    match s.accepted.find? (fun m => m.same n) with
    | some m =>
      if m.port != n.port && decide (m.apart n ≤ 1000 * nsUnits) then
        if n.beats m then s.acceptNotice n move oldPort true
        else (s.tblCount n.pipe 10 1).deliver (if move then 2 else 1) n oldPort true false false
      else s.acceptNotice n move oldPort false
    | none => s.acceptNotice n move oldPort false

/-- LEARN_NOTICE: T0 takes the oldest notice of a pipeline's learn queue; on a STANDBY device it does nothing with it (R422). -/
def State.takeNotice (s : State) (pl : Nat) : State :=
  match SMap.get [] s.learnQ pl with
  | [] => s
  | n :: rest =>
    let t : State := { s with learnQ := SMap.set [] s.learnQ pl rest }
    let t := t.setFld R.TBL_LEARN_Q_DEPTH pl rest.length
    if s.role = 3 then t else t.handleNotice n

/-- LEARN_ACK_TIMEOUT (R300): ACK_MS expires on the pending notice of a key. -/
def State.ackTimeout (s : State) (pl : Nat) (key : Word64) : State :=
  match s.notices.find? (fun n => n.key == key && n.pipe == pl) with
  | none => s
  | some n =>
    let s := { s with notices := s.notices.filter (fun m => m != n) }
    (s.setFld R.TBL_LEARN_STAT_PENDING 0 s.notices.length).tblCount pl 9 1

/-! ### Aging (R305 to R309) -/

/-- Whether T1 ages an entry. -/
def TblEntry.agable (e : TblEntry) : Bool := e.isOpen && (bits e.result0 32 32 == 1 || bits e.result0 43 43 == 1)

/-- Whether a key is a Shared L2 key of a pipeline. -/
def State.sharedKey (s : State) (pl : Nat) (key : List Word64) : Bool :=
  match key with
  | [k] => bits k.toNat 63 60 == 0 && s.domainMode pl (vidOf k) == 2
  | _ => false

/-- Sets IDLE and HIT of an entry. -/
def TblEntry.aged (e : TblEntry) (idle hit : Nat) : TblEntry :=
  { e with result0 := withBits (withBits e.result0 31 31 idle) 42 42 hit }

/-- Half of PERIOD_S, the length of a sweep that starts now, in units of 2^-16 ns (R306). -/
def State.sweepLength (s : State) : Nat := s.fld R.TBL_AGE_CFG_PERIOD_S 0 * (500000000 * 65536)

/-- The sweep that is under way at reference time `t` (R306): sweeps follow one another, and one that starts takes PERIOD_S as it
then stands. -/
def Sweep.at (w : Sweep) (length t : Nat) : Sweep :=
  if t < w.start + w.length then w
  else
    let start := w.start + w.length
    { start := start + (t - start) / length * length, length := length, visited := [] }

/-- The sweeps at an edge: the first starts at the first edge after boot step 6. -/
def State.sweepEdge (s : State) : State :=
  if s.fld R.PWR_STAT_BOOT_STEP 0 < 6 then s
  else { s with sweep := some ((s.sweep.getD ⟨s.now, s.sweepLength, []⟩).at s.sweepLength s.now) }

/-- The entry of the place `p` in each replica that a visit of it acts on (R308), by number. -/
def State.agedWith (s : State) (pl : Nat) (e : TblEntry) : List (Nat × TblEntry) :=
  let pls := if s.sharedKey pl e.key then (List.range 8).filter (fun p => s.sharedKey p e.key) else [pl]
  (pls.filterMap (fun p => s.openEntry p e.key)).filter (fun f => f.2.agable)

/-- Removal by aging of an entry from the replicas that hold it (R309). -/
def State.ageOut (s : State) (shared : Bool) (e : TblEntry) (held : List (Nat × TblEntry)) (first : Nat) : State :=
  let s := held.foldl (fun s f => s.delEntry f.1) s
  let s := s.noteChange { kind := 1, pipes := held.map (fun f => f.1 / 2 ^ 20), key := e.key, result := 0 }
  let n : Notice := { key := e.key.getD 0 0, port := bits e.result0 63 54, pipe := first, shared := shared, stamp := 0, free := 0 }
  (s.tblCount first 12 1).raiseAt EV_LEARN first first (learnWords 3 n 0 false false false (bit e.result0 41))

/-- AGE_SWEEP_VISIT (R306 to R308), once a sweep for each place: `late` says that a hit lands in the cycle of the visit's read, or of the
removal's re-read. -/
def State.ageVisit (s : State) (pl place : Nat) (late : Option Bool) : State :=
  match SMap.find s.table (placeKey pl place), s.sweep.map (fun w => w.at s.sweepLength s.now) with
  | some e, some w =>
    if !e.agable || !s.flag R.TBL_AGE_CFG_AGE_EN 0 || s.role == 3 || w.visited.contains (placeKey pl place) then s
    else
      let held := s.agedWith pl e
      let s : State := { s with sweep := some { w with visited := held.map (fun f => f.1) ++ w.visited } }
      let hit := held.any (fun f => bit f.2.result0 42)
      let first := ((held.map (fun f => f.1 / 2 ^ 20)).head?).getD pl
      let all := fun (idle v : Nat) => held.foldl (fun s f => s.updEntry f.1 (fun g => g.aged idle v)) s
      if late = some false then (all 0 0).updEntry (placeKey pl place) TblEntry.hit
      else if hit then all 0 0
      else if !bit e.result0 31 then all 1 0
      else if late = some true then ((all 0 0).updEntry (placeKey pl place) TblEntry.hit).tblCount first 13 1
      else s.ageOut (s.sharedKey pl e.key) e held first
  | _, _ => s

/-! ### Errors (R310) -/

/-- A place of the exact-match tables as TBL_ECC_LOC names it: OVF, SLOT and INDEX. -/
def placeWord (place : Nat) : Nat :=
  if overflowBase ≤ place then 1 <<< 20 + (place - overflowBase) else (place % 4) <<< 18 + place / 4

/-- The number of the entry that a place belongs to: its own, or a wide one that starts in the slot below. -/
def State.ownerOf (s : State) (pl place : Nat) : Nat :=
  let below := placeKey pl (place - 1)
  if place % 2 = 1 && decide (place < overflowBase) && (SMap.find s.table below).any (fun e => isWide e.key) then below
  else placeKey pl place

/-- A read of a place finds an error: it is corrected, or what the place holds is invalidated. -/
def State.tblError (s : State) (pl place : Nat) (fatal : Bool) : State :=
  if !fatal then s.tblCount pl 14 1
  else (((s.delEntry (s.ownerOf pl place)).tblCount pl 15 1).setReg R.TBL_ECC_LOC pl (placeWord place)).raiseOf EV_TBL_ECC pl

/-- The errors that reads of the replicas find, as pipeline, place and whether the error is fatal. -/
def State.readErrors (s : State) (errors : List (Fin 8 × Nat × Bool)) : State :=
  errors.foldl (fun s e => s.tblError e.1.val e.2.1 e.2.2) s

/-! ### Shadow compare (R311 to R314) -/

/-- A mismatch of a run: the first 256 raise an event that names its kind, the pipeline, the entry's place if there is one (in one
word, DESIGN CHOICE), the ring index and the record index. -/
def State.mismatch (s : State) (kind pl : Nat) (place : Option Nat) (ring record : Nat) : State :=
  match s.shadow with
  | none => s
  | some r =>
    let s := { s with shadow := some { r with found := r.found + 1 } }
    let s := s.setFld R.TBL_SHADOW_STAT_MISMATCHES 0 (min 32767 (r.found + 1))
    if 256 ≤ r.found then s
    else
      s.raiseAt EV_SHADOW_MISMATCH 0 0 [kind, pl, (place.map placeWord).getD 0, ring, record]

/-- One record of a segment in one pipeline. -/
def State.shadowPipe (ws : List Word64) (ring record : Nat) (s : State) (pl : Nat) : State :=
  let w0 := (ws.getD 0 0).toNat
  let wide := w0.testBit 62
  let key := (ws.drop 1).take (if wide then 5 else 1)
  let r0 := (ws.getD 6 0).toNat
  let r1 := (ws.getD 7 0).toNat
  match s.findEntry pl key s.version with
  | none => if w0.testBit (52 + pl) then s.mismatch 1 pl none ring record else s
  | some (k, e) =>
    let s := s.putEntry k { e with mark := true }
    if !w0.testBit (52 + pl) then s.mismatch 2 pl (some (k % 2 ^ 20)) ring record
    else if (bits e.result0 32 32 == 1) == w0.testBit 61 && bits e.result0 63 43 == bits r0 63 43 && e.result1 == r1 then s
    else s.mismatch 3 pl (some (k % 2 ^ 20)) ring record

/-- The records of a segment, in order. -/
def State.shadowRecords (ring : Nat) : Nat → Nat → List Word64 → State → State
  | 0, _, _, s => s
  | n + 1, i, ws, s =>
    let s := if (ws.getD 0 0).toNat.testBit 63 then (List.range 8).foldl (State.shadowPipe (ws.take 8) ring i) s else s
    State.shadowRecords ring n (i + 1) (ws.drop 8) s

/-- A run ends on a bad descriptor or read. -/
def State.shadowFail (s : State) : State :=
  ({ s with shadow := none }.setFlag R.TBL_SHADOW_STAT_RUNNING 0 false).raise EV_SHADOW_FETCH 0

/-- HEAD of the shadow ring advances past a descriptor. -/
def State.shadowNext (s : State) : State := s.bump R.TBL_SHADOW_HEAD_HEAD 0 1

/-- Whether the shadow ring holds a posted descriptor that may be fetched (R312, R433). -/
def State.shadowPosted (s : State) : Bool :=
  !s.host.d3hot && s.fld R.TBL_SHADOW_SIZE_SIZE 0 != 0 && s.fld R.TBL_SHADOW_HEAD_HEAD 0 != s.fld R.TBL_SHADOW_TAIL_TAIL 0

/-- SHADOW_SEGMENT (R312, R313): the descriptor at HEAD and the words read; none is a failed read. -/
def State.shadowSegment (s : State) (addr count flags rsv : Nat) (words : Option (List Word64)) : State :=
  if !s.shadowPosted || s.shadow.any (fun r => r.last) then s
  else
    let ring := s.fld R.TBL_SHADOW_HEAD_HEAD 0 % s.fld R.TBL_SHADOW_SIZE_SIZE 0
    let first := flags.testBit 0
    if s.shadow.isNone && !first then s.shadowNext
    else if addr % 64 != 0 || count = 0 || decide (4096 < count) || decide (4 ≤ flags) || rsv != 0 then s.shadowFail.shadowNext
    else
      match words with
      | none => s.shadowFail.shadowNext
      | some ws =>
        let s := if first then
            ({ s with
                shadow := some ⟨false, 0⟩
                table := s.table.map (fun (e : Nat × TblEntry) => (e.1, { e.2 with mark := false })) }.setFlag
              R.TBL_SHADOW_STAT_RUNNING 0 true).setFld R.TBL_SHADOW_STAT_MISMATCHES 0 0
          else s
        let s := (State.shadowRecords ring count 0 ws s).shadowNext
        { s with shadow := s.shadow.map (fun r => { r with last := flags.testBit 1 }) }

/-- SHADOW_FINAL_SCAN (R313): every valid entry that is not marked is EXTRA; the run ends. -/
def State.shadowScan (s : State) : State :=
  if !s.shadow.any (fun r => r.last) then s
  else
    let ring := (s.fld R.TBL_SHADOW_HEAD_HEAD 0 + 65535) % s.fld R.TBL_SHADOW_SIZE_SIZE 0
    let s := (s.table.filter (fun e => !e.2.staged && !e.2.mark && entryValid s.version e.2.since e.2.until')).foldl
      (fun s e => s.mismatch 2 (e.1 / 2 ^ 20) (some (e.1 % 2 ^ 20)) ring 0xFFFF) s
    ({ s with shadow := none }.setFlag R.TBL_SHADOW_STAT_RUNNING 0 false).raise EV_SHADOW_DONE 0

/-- LEARN_NOTICE; `errors` are what T0's reads of the replicas find. -/
def execLearnNotice (pipe : Fin 8) (errors : List (Fin 8 × Nat × Bool)) (s : State) : Host.Outcome State Fault Refusal :=
  .next (s.clocked (fun s => (s.readErrors errors).takeNotice pipe.val))

/-- LEARN_ACK_TIMEOUT. -/
def execLearnAckTimeout (pipe : Fin 8) (key : Word64) (s : State) : Host.Outcome State Fault Refusal :=
  .next (s.awake (fun s => s.ackTimeout pipe.val key))

/-- AGE_SWEEP_VISIT; `errors` are what the visit's reads find. -/
def execAgeSweepVisit (pipe : Fin 8) (place : Nat) (late : Option Bool) (errors : List (Fin 8 × Nat × Bool)) (s : State) :
    Host.Outcome State Fault Refusal :=
  .next (s.clocked (fun s => (s.readErrors errors).ageVisit pipe.val place late))

/-- SHADOW_SEGMENT; `errors` are what T2's reads of the replicas find. -/
def execShadowSegment (addr : Word64) (count flags rsv : Nat) (words : Option (List Word64)) (errors : List (Fin 8 × Nat × Bool))
    (s : State) : Host.Outcome State Fault Refusal :=
  .next (s.clocked (fun s => (s.readErrors errors).shadowSegment addr.toNat count flags rsv words))

/-- SHADOW_FINAL_SCAN; `errors` are what T2's reads of the replicas find. -/
def execShadowFinalScan (errors : List (Fin 8 × Nat × Bool)) (s : State) : Host.Outcome State Fault Refusal :=
  .next (s.clocked (fun s => (s.readErrors errors).shadowScan))

/-- SHADOW_FETCH_TIMEOUT (R312): a descriptor or read fails or takes longer than 1 ms. -/
def execShadowFetchTimeout (s : State) : Host.Outcome State Fault Refusal :=
  .next (s.awake (fun s => if s.shadowPosted then s.shadowFail.shadowNext else s))

end Sys2Proof.Machine
end

