-- ==== Sys2Proof/Machine/Ptp.lean ====
section
/-! DEFINITION. The length/type field of a frame (R163), and PTP event messages: how they are recognised and what time
stamping changes in them (R393, R394, R396). -/

namespace Sys2Proof.Machine

/-- The bytes after up to two VLAN tags (R163): the offset of the length/type field. -/
def typeOffset (bs : List Byte) : Nat :=
  let tag := fun i => be16At bs i == 0x8100 || be16At bs i == 0x88A8
  if tag 12 then (if tag 16 then 20 else 16) else 12

/-! ### Event messages (R393, R394, R396) -/

/-- Where a recognised PTP event message starts, with the offset of its UDP checksum and whether it is over IPv4 (R393). -/
structure PtpPlace where
  msg : Nat
  check : Option (Nat × Bool)
  deriving DecidableEq, Repr

/-- The tests of R393 before the message itself. -/
def ptpPlace (bs : List Byte) : Option PtpPlace :=
  let off := typeOffset bs
  let ip := off + 2
  match be16At bs off with
  | 0x88F7 => some ⟨ip, none⟩
  | 0x0800 =>
    if byteAt bs ip = 0x45 && be16At bs (ip + 6) % 16384 == 0 && byteAt bs (ip + 9) == 17 && be16At bs (ip + 22) == 319 then
      some ⟨ip + 28, some (ip + 26, true)⟩
    else none
  | 0x86DD =>
    if byteAt bs ip / 16 = 6 && byteAt bs (ip + 6) == 17 && be16At bs (ip + 42) == 319 then some ⟨ip + 48, some (ip + 46, false)⟩
    else none
  | _ => none

/-- The recognised event message of a frame, if it is one. -/
def ptpEvent (bs : List Byte) : Option PtpPlace :=
  match ptpPlace bs with
  | none => none
  | some p =>
    if bs.length < p.msg + 34 then none
    else if byteAt bs (p.msg + 1) % 16 = 2 && decide (byteAt bs p.msg % 16 ≤ 3) then some p
    else none

/-- messageType of a recognised message. -/
def PtpPlace.kind (p : PtpPlace) (bs : List Byte) : Nat := byteAt bs p.msg % 16

/-- Bytes of a frame replaced, as far as the frame goes, with the UDP checksum brought up to date incrementally (R394). The first byte replaced and
the number of bytes have the parity of the checksummed words. -/
def ptpPut (bs : List Byte) (place : PtpPlace) (i : Nat) (new : List Byte) : List Byte :=
  let new := new.take (bs.length - i)
  let out := bs.take i ++ new ++ bs.drop (i + new.length)
  match place.check with
  | none => out
  | some (at', v4) =>
    let sum := be16At bs at'
    if v4 && sum == 0 then out
    else
      let words := (List.range (new.length / 2)).map (fun k => (be16At bs (i + 2 * k), be16At out (i + 2 * k)))
      let raw := words.foldl (fun n w => n + (65535 - w.1) + w.2) (65535 - sum)
      let once := raw % 65536 + raw / 65536
      let c := 65535 - (once % 65536 + once / 65536)
      put16 out at' (if c = 0 then 65535 else c)

/-- A signed 64-bit number; free where the sum is none. -/
def correctionSum (old v : Int) : Nat :=
  if -((2 ^ 63 : Nat) : Int) ≤ old + v ∧ old + v < ((2 ^ 63 : Nat) : Int) then unsigned 64 (old + v)
  else (Config.correctionBeyond (old + v)).toNat

/-- `v` added to correctionField. -/
def addCorrection (bs : List Byte) (p : PtpPlace) (v : Int) : List Byte :=
  let old := BitVec.toInt (BitVec.ofNat 64 (beNat ((bs.drop (p.msg + 8)).take 8)))
  ptpPut bs p (p.msg + 8) (beBytes 8 (correctionSum old v))

/-- Frame bytes after residence correction or one-step insertion. -/
def timeEdit (bs : List Byte) (correction : Option Int) (origin : Option (Nat × Nat)) : List Byte :=
  match ptpEvent bs with
  | none => bs
  | some p =>
    let bs := match origin with
      | none => bs
      | some (sec, ns) => ptpPut bs p (p.msg + 34) (beBytes 6 sec ++ beBytes 4 ns)
    match correction with
    | none => bs
    | some v => addCorrection bs p v

end Sys2Proof.Machine
end

