-- ==== Sys2Proof/Machine/Frames.lean ====
section
/-! DEFINITION. Frames on their way in: the receive MAC (chapter 05), the ingress pipeline with its pattern engine (chapter
08), and the admission and writing of copies (chapters 10 and 11). -/

namespace Sys2Proof.Machine

/-! ### Copies (R326, R339 to R343, R354) -/

/-- A copy that is wanted: the port, QIDX and what the copy will say of itself. -/
structure Want where
  port : Nat
  qidx : Nat
  copy : Copy
  deriving DecidableEq, Repr

/-- Whether a copy is a mirror copy. -/
def Copy.isMirror (c : Copy) : Bool := c.kind == .ingressMirror || c.kind == .egressMirror

/-- A copy of a frame of `len` bytes that has no cells and no queue yet. -/
def Copy.fresh (kind : CopyKind) (len colour : Nat) (info : FrameInfo) : Copy :=
  { frame := none, head := 0, gen := 0, cells := 0, len := len, kind := kind, colour := colour, queue := 0, pri := 0,
    pool := .shared, trunc := 0, stamp := none, oneStep := none, info := info }

/-- Enqueue tests and admission of a wanted copy of `n` cells: the copy with its queue and pool if it is admitted. -/
def State.tryCopy (s : State) (w : Want) (n : Nat) : Option Copy × State :=
  match s.pickQueue w.port w.qidx with
  | none => (none, s.portCount w.port 57 1)
  | some q =>
    let c := w.copy
    match s.refuseCopy w.port q c.colour c.len c.info.meter c.isMirror with
    | some s => (none, s)
    | none =>
      match s.admitCopy q n c.colour c.info.inPort c.isMirror with
      | .pool pool =>
        let s := s.cellCount (Admit.pool pool).counter 1
        (some { c with queue := q, pri := (s.queue q).pfcPri, pool := pool }, if c.isMirror then s.cellCount 21 1 else s)
      | .drop i =>
        let s := (s.cellCount i 1).queueDrop q
        (none, if c.isMirror then s.cellCount 22 1 else s)

/-- The admitted ones of some wanted copies, in order, each with its port. -/
def State.tryCopies (n : Nat) : List Want → State → List (Nat × Copy) × State
  | [], s => ([], s)
  | w :: ws, s =>
    let r := s.tryCopy w n
    let m := State.tryCopies n ws r.2
    (match r.1 with
      | none => m.1
      | some c => (w.port, c) :: m.1, m.2)

/-- Gives back cells that were written and not yet charged (R325). -/
def State.unwrite (s : State) (h : Nat) (cells : List Nat) : State :=
  cells.foldl (fun s c => (List.range h).foldl (fun s _ => (s.releaseCell c (s.cell c).gen).2) s) s

/-- A frame whose cells cannot be written is abandoned (R325). -/
def State.noCell (s : State) (h : Nat) (cells : List Nat) : State := (s.unwrite h cells).cellCount 19 1

/-- Copies enter their queues. -/
def State.enqueueAll (cs : List (Nat × Copy)) (s : State) : State :=
  cs.foldl (fun s e => (s.enqueue e.1 e.2).thinWake e.1) s

/-- Writes a frame's cells in a quadrant for its admitted copies and enqueues them; `frame` names a frame that goes on. The
second part says whether it was written, with the first and the last cell. -/
def State.writeFrame (s : State) (quadrant : Nat) (bytes : List Byte) (frame : Option Nat) (copies : List (Nat × Copy)) :
    Option Nat × State :=
  if copies.isEmpty then (none, s)
  else
    let r := State.writeCells quadrant copies.length none (blocksOf bytes.length bytes) [] s
    if !r.1 then (none, r.2.2.noCell copies.length r.2.1)
    else
      let cells := r.2.1
      let head := cells.headD 0
      let gen := (r.2.2.cell head).gen
      let copies := copies.map (fun e => (e.1, { e.2 with frame := frame, head := head, gen := gen, cells := cells.length }))
      let s := copies.foldl (fun s e => s.charge e.2 cells.length) r.2.2
      (cells.getLast?, State.enqueueAll copies s)

/-! ### Mirror sessions (R343) -/

/-- A mirror request from a direction (0 ingress, 1 egress): whether the session makes a copy now. -/
def State.mirrorRequest (s : State) (session dir : Nat) : Bool × State :=
  if !s.flag R.CELL_MIRROR_EN session || s.fld R.CELL_MIRROR_DIR session != dir then (false, s.cellCount 23 1)
  else
    let n := SMap.get 0 s.mirrorCount session + 1
    let every := s.fld R.CELL_MIRROR_SAMPLE session + 1
    (n % every == 0, { s with mirrorCount := SMap.set 0 s.mirrorCount session (n % every) })

/-- The copy that a session wants of a frame. -/
def State.mirrorWant (s : State) (session : Nat) (kind : CopyKind) (len : Nat) (info : FrameInfo) : Want :=
  { port := s.fld R.CELL_MIRROR_PORT session, qidx := s.fld R.CELL_MIRROR_QIDX session,
    copy := { Copy.fresh kind len 2 info with trunc := s.fld R.CELL_MIRROR_TRUNC session } }

/-! ### Resolution of the ingress action (R271, R291) -/

/-- A frame that goes to the slow path, as its record describes it (R260, R452). -/
def State.slowFrame (s : State) (pl cause : Nat) (bytes : List Byte) (info : FrameInfo) : HostFrame :=
  let tb := s.fld R.PORT_TS_CFG_PTP_TB info.inPort
  { bytes := bytes.take (bytes.length - 4), kind := 1, cause := cause, source := info.inPort, endNode := info.vector.endNode,
    ruleId := info.ruleId, version := info.version, pipe := pl, tb := tb, stamp := info.stampValue.getD tb 0 }

/-- What a forwarded frame's lookup decides: destination and whether it is a group, QIDX, meter; none is a discard. -/
def State.destination (s : State) (pl : Nat) (bytes : List Byte) (info : FrameInfo) (a : List Word64) :
    Option (Nat × Bool × Nat × Option Nat) × State :=
  let f := actionBits a
  let own := if f 0 11 11 = 1 then some (f 0 28 12) else none
  let kind := f 0 37 36
  if f 0 57 57 = 0 then (some (f 0 47 38, kind == 2, f 0 35 29, own), s)
  else
    let frame := bytes.take (bytes.length - 4)
    let d := windowNode (s.node pl (s.bankFor pl info.version)) info.vector
    let vid := frameVid frame (f 1 63 61) (f 1 60 49)
    let key := lookupKey (f 0 56 54) frame vid (keyWindows d info.vector)
    let r := s.lookup pl (f 0 56 54) key info.version
    let s := r.2
    let s :=
      if f 0 56 54 = 0 && !(byteAt frame 6).testBit 0 && s.domainMode pl vid != 0 then
        s.sourceLookup pl vid info.version
          { key := l2Key vid frame 6, port := info.inPort, pipe := pl, shared := false,
            stamp := info.stampValue.getD 0 0, free := info.stampFree.getD 0 0 }
      else s
    match r.1 with
    | none =>
      if kind = 3 then (none, s.pipeCount pl 5 1)
      else (some (f 0 47 38, kind == 2, f 0 35 29, own), s)
    | some e =>
      let x := e.result0
      if bits x 52 52 = 1 then (none, s.tblCount pl 2 1)
      else
        let meter := if isWide e.key && bits e.result1 63 63 == 1 && bits e.result1 62 46 / 16384 == pl then
          some (bits e.result1 62 46) else own
        let qidx := if bits x 51 51 = 1 then bits x 50 44 else f 0 35 29
        (some (if kind = 0 || kind = 3 then (bits x 63 54, bits x 53 53 == 1, qidx, meter)
          else (f 0 47 38, kind == 2, qidx, meter)), s)

/-- The copies that a forwarded frame wants: metered, and one for each port of its destination (R271, R341, R349). -/
def State.forwardWants (s : State) (len : Nat) (info : FrameInfo) (a : List Word64) (dest : Nat) (group : Bool)
    (qidx : Nat) (meter : Option Nat) : List Want × State :=
  let r := match meter with
    | none => (0, s)
    | some m =>
      let r := (s.meter m).colour len (actionBits a 1 37 36) (s.tbFreeNs 0)
      (r.1, s.setMeter m r.2)
  let info := { info with meter := meter }
  let want := fun p : Nat => (⟨p, qidx, Copy.fresh .plain len r.1 info⟩ : Want)
  if !group then ([want dest], r.2)
  else
    let out := (r.2.members dest).filter (fun p => !(p == info.inPort && r.2.flag R.CELL_MCAST_CTL_PRUNE dest))
    (out.map want, r.2.cellCount 20 out.length)

/-- The disposition of an action, the copies that it wants and what else it does (R271 steps 3 to 5). -/
def State.dispose (s : State) (pl : Nat) (bytes : List Byte) (info : FrameInfo) (a : List Word64) : List Want × State :=
  match actionBits a 0 63 60 with
  | 0 =>
    if info.vector.cause != 0 then ([], s.slowPath pl info.vector.cause (s.slowFrame pl info.vector.cause bytes info))
    else
      match s.destination pl bytes info a with
      | (none, s) => ([], s)
      | (some (dest, group, qidx, meter), s) => s.forwardWants bytes.length info a dest group qidx meter
  | 1 => ([], s.pipeCount pl 2 1)
  | 2 => ([], s.slowPath pl 6 (s.slowFrame pl 6 bytes info))
  | _ =>
    let payload := (bytes.take (bytes.length - 4)).drop info.vector.payloadOff
    let s := s.pipeCount pl 4 1
    ([], { s with bureau := { s.bureau with carried := s.bureau.carried ++ [(actionBits a 2 58 55, info.ruleId, payload)] } })

/-- An action carried out on a frame (R271); `early` is the number of bytes of a frame that still arrives. -/
def State.resolve (s : State) (pl : Nat) (bytes : List Byte) (early : Option Nat) (info : FrameInfo) (a : List Word64) : State :=
  let len := bytes.length
  let info := { info with edits := [a.getD 1 0], ruleId := actionBits a 2 31 0 }
  let r := s.dispose pl bytes info a
  let m := if actionBits a 2 63 63 = 1 && actionBits a 0 63 60 != 3 then r.2.mirrorRequest (actionBits a 2 62 59) 0 else (false, r.2)
  let wants := r.1 ++
    (if m.1 then [m.2.mirrorWant (actionBits a 2 62 59) .ingressMirror len { info with edits := [], meter := none }] else [])
  let n := ceilDiv (if early.isSome then m.2.fld R.PORT_CFG_MAX_FRAME info.inPort else len) 256
  let t := State.tryCopies n wants m.2
  match early with
  | none => (t.2.writeFrame (s.quadrantOf info.inPort) bytes none t.1).2
  | some got =>
    let id := t.2.frames
    let w := t.2.writeFrame (s.quadrantOf info.inPort) (bytes.take got) (some id) t.1
    let arriving : Arriving :=
      { frame := id, got := got, last := w.1.getD 0, cells := got / 256, holders := t.1.length, gone := 0, dead := w.1.isNone }
    { w.2 with frames := id + 1 }.updPort info.inPort (fun r => { r with arriving := some arriving })

/-! ### Ingress (R252) -/

/-- A frame over the scan budget (R277). -/
def State.overBudget (s : State) (pl : Nat) (bytes : List Byte) (info : FrameInfo) (a : List Word64) (reserved : Bool) : State :=
  let s := s.raiseOnce EV_PAT_OVER pl pl pl []
  let s := if reserved then (s.pipeCount pl 11 1).raiseOnce EV_PAT_RSV_OVER pl pl pl [] else s
  if actionBits a 0 58 58 = 0 then s.pipeCount pl 9 1
  else
    let info := { info with ruleId := actionBits a 2 31 0 }
    (s.pipeCount pl 10 1).slowPath pl 7 (s.slowFrame pl 7 bytes info)

/-- The second pass of an inspected frame with its group vector (R276), and its resolution. -/
def State.secondPass (s : State) (pl : Nat) (bytes : List Byte) (info : FrameInfo) (index : Nat) (a : List Word64)
    (groups : Nat) : State :=
  let d := windowNode (s.node pl (s.bankFor pl info.version)) info.vector
  match s.tcamLookup pl false info.version (ingressKey d info.vector info.inPort (some (index, groups))) with
  | none => s.resolve pl bytes none info a
  | some (_, b) => (s.pipeCount pl 6 1).resolve pl bytes none info b

/-- A frame whose pass-1 action asks for inspection (R275, R277). -/
def State.inspect (s : State) (pl : Nat) (bytes : List Byte) (info : FrameInfo) (index : Nat) (a : List Word64) : State :=
  let frame := bytes.take (bytes.length - 4)
  if (scanWindow frame info.vector).isEmpty then s.secondPass pl bytes info index a 0
  else
    let reserved := actionBits a 0 11 11 == 1 && s.flows.any (fun e => e.2.meter == actionBits a 0 28 12)
    let k := 2 * pl + ofFlag (!reserved)
    let q := SMap.get [] s.scans k
    if s.life R.PIPE_PAT_STAT_LC pl != .on || decide ((if reserved then 256 else 64) ≤ q.length) then
      s.overBudget pl bytes info a reserved
    else
      let last := (SMap.get [] s.scans (2 * pl) ++ SMap.get [] s.scans (2 * pl + 1)).foldl (fun m f => max m f.order) 0
      { s with scans := SMap.set [] s.scans k (q ++ [{ order := last + 1, bytes := bytes, info := info, index := index, action := a }]) }

/-- What the parser and the first pass make of a frame. -/
def State.classify (s : State) (p : Nat) (f : Stored) : FrameInfo × Option (Nat × List Word64) :=
  let pl := s.pipeOf p
  let node := s.node pl (s.bankFor pl s.version)
  let v := parse node (f.bytes.take (f.bytes.length - 4))
  let info : FrameInfo :=
    { inPort := p, version := s.version, arrived := f.arrived, stampFree := f.stampFree, stampValue := f.stampValue,
      vector := v, edits := [], ruleId := 0, meter := none }
  (info, s.tcamLookup pl false s.version (ingressKey (windowNode node v) v p none))

/-- A whole frame enters its ingress pipeline. -/
def State.ingress (s : State) (p : Nat) (f : Stored) : State :=
  let pl := s.pipeOf p
  let s := s.pipeCount pl 0 1
  let c := s.classify p f
  match c.2 with
  | none => (s.pipeCount pl 1 1).raiseOnce EV_TCAM_NO_MATCH pl pl pl []
  | some (i, a) =>
    if actionBits a 0 59 59 = 1 && c.1.vector.cause == 0 then s.inspect pl f.bytes c.1 i a
    else s.resolve pl f.bytes none c.1 a

/-- A frame arrives at the ingress arbiter of a pipeline (R371, R478). -/
def State.arrive (s : State) (pl : Nat) : State :=
  s.updPower (fun q => { q with arrivals := SMap.upd 0 q.arrivals pl (fun n => n + 1) })

/-- A frame enters when its first `got` bytes have arrived: only one that is forwarded without inspection does so. -/
def State.ingressEarly (s : State) (p : Nat) (f : Stored) (got : Nat) : State :=
  let pl := s.pipeOf p
  let c := s.classify p f
  match c.2 with
  | none => s
  | some (_, a) =>
    if be16At f.bytes (typeOffset f.bytes) = 0x8808 || c.1.vector.cause != 0 || actionBits a 0 63 59 != 0 then s
    else ((s.arrive pl).pipeCount pl 0 1).resolve pl f.bytes (some got) c.1 a

/-! ### The line of a port (R137, R140, R167, R245, R248) -/

/-- The lanes on which a port sends. -/
def State.txLanes (s : State) (p : Nat) : List Nat := (s.lanesOf p).take (2 ^ s.txWidth p)

/-- Whether the receive path of an Ethernet port takes the port's own transmitted frames (R140). -/
def State.portNearLoop (s : State) (p : Nat) : Bool := !isChannel p && s.portMode p == 0 && (s.rxLanes p).all s.nearLoop

/-- Whether an Ethernet port sends what it receives back out (R140). -/
def State.portFarLoop (s : State) (p : Nat) : Bool :=
  !isChannel p && s.portMode p == 0 && (s.lanesOf p).all (fun n => s.fld R.LANE_CFG_LOOPBACK n == 3)

/-- A frame as it stands on an Ethernet line: preamble, start delimiter and bytes (R167). -/
def lineBytes (bytes : List Byte) : List Byte := List.replicate 7 0x55 ++ [0xD5] ++ bytes

/-- A frame leaves its transmit MAC: into the stream of a packet channel behind its header, or on the lanes of an Ethernet port, unless a
generator or a far-end loopback replaces it or a lane is out of service; under a near-end loopback it also reaches the receive path. -/
def State.putFrame (s : State) (p : Nat) (bytes : List Byte) : State :=
  if isChannel p then s.updChannel p (fun c => { c with tx := c.tx ++ headerBytes bytes.length ++ bytes })
  else
    let s := if s.portNearLoop p then s.updPort p (fun q => { q with looped := q.looped ++ [bytes] }) else s
    if (s.txLanes p).any (fun n => s.fld R.LANE_TEST_GEN_PAT n != 0 || s.fld R.LANE_CFG_LOOPBACK n == 3 || (s.lane n).outOfService) then s
    else s.emit (.frame p (lineBytes bytes))

/-! ### A frame that goes on (R173, R175, R320) -/

/-- Changes every copy of an unfinished frame. -/
def State.updCopies (s : State) (id : Nat) (f : Copy → Copy) : State :=
  let on := fun c : Copy => if c.frame = some id then f c else c
  { s with
    queues := s.queues.map (fun (e : Nat × Queue) => (e.1, { e.2 with copies := e.2.copies.map on }))
    ports := s.ports.map (fun (e : Nat × Port) =>
      (e.1, { e.2 with sending := e.2.sending.map (fun (t : Sending) => { t with copy := on t.copy }) })) }

/-- The copies of an unfinished frame that still hold it. -/
def State.copiesOf (s : State) (id : Nat) : List Copy :=
  (s.queues.flatMap (fun e => e.2.copies) ++ s.ports.filterMap (fun e => e.2.sending.map (fun t => t.copy))).filter
    (fun c => c.frame == some id)

/-- The next cells of an arriving frame: written for all its holders, charged to those that are left, and released for those
that gave it up. -/
def State.writeMore (s : State) (p : Nat) (a : Arriving) (bytes : List Byte) : Bool × State :=
  let r := State.writeCells (s.quadrantOf p) a.holders (if a.gone < a.holders then some a.last else none)
    (blocksOf bytes.length bytes) [] s
  let cells := r.2.1
  let s := (r.2.2.copiesOf a.frame).foldl (fun s c => s.charge c cells.length) r.2.2
  let s := s.updCopies a.frame (fun c => { c with cells := c.cells + cells.length })
  let s := s.unwrite a.gone cells
  (r.1, s.updPort p (fun q => { q with arriving := some { a with
    got := a.got + bytes.length, last := cells.getLastD a.last, cells := a.cells + cells.length } }))

/-- The bytes of a frame as it leaves, its edits applied, without FCS. -/
def Sending.edited (t : Sending) : List Byte :=
  timeEdit (editFrame t.raw t.copy.info.vector.ip t.copy.info.edits) t.correction t.origin

/-- What a frame sent counts on its port and its queue (R181); `ok` says that its FCS was correct. -/
def State.countSent (s : State) (p : Nat) (t : Sending) (bytes : List Byte) (ok : Bool) : State :=
  let n := bytes.length
  let s := (s.portCount p (32 + sizeBucket n) 1).portCount p 43 n
  let s := if ok then s.portCount p 42 n else s.portCount p 59 1
  let control := be16At bytes (typeOffset bytes) == 0x8808
  let s := if control then (if t.copy.kind == .host then s.portCount p 48 1 else s) else s.portCount p (44 + addressKind bytes) 1
  let s := if t.cut then s.portCount p 49 1 else s
  let s := s.updQueue t.copy.queue (fun u => { u with sent := (u.sent + 1) % 2 ^ 48, octets := (u.octets + n) % 2 ^ 48 })
  s.updPort p (fun q => { q with sending := none, sentBits := q.sentBits + (8 * (n + 20) - t.counted) })

/-- A frame on the wire is ended at once with an inverted FCS (R175 steps 1 and 2): what is left of it is released. `more` are
the bytes of its current cell that have left. -/
def State.stomp (s : State) (p : Nat) (t : Sending) (more : List Byte) : State :=
  let t := { t with raw := t.raw ++ more }
  let data := t.edited
  let bytes := data ++ leBytes 4 (crc32 data ^^^ 0xFFFFFFFF)
  let s := (s.countSent p t bytes false).putFrame p bytes
  let left := t.copy.cells - t.taken
  let whole := t.copy.frame.isNone && (t.copy.trunc == 0 || decide (t.copy.cells < t.copy.trunc))
  (if left = 0 then s else State.walk t.copy whole left t.cell t.gen s).giveUp t.copy

/-- The copies of a frame that fails are ended: those whose transmission has started with an inverted FCS after at least one cell (R175),
the others discarded. `counter` counts each that had started. -/
def State.failCopies (s : State) (id : Nat) (counter : Option Nat) : State :=
  let s := s.ports.foldl (fun s e =>
    match (s.port e.1).sending with
    | some t =>
      if t.copy.frame ≠ some id then s
      else if !t.started then (s.updPort e.1 (fun q => { q with sending := none })).dropCopy t.copy
      else
        let s := s.stomp e.1 t (if t.taken = 0 then (s.cell t.cell).data else [])
        match counter with
        | some i => s.portCount e.1 i 1
        | none => s
    | none => s) s
  s.queues.foldl (fun s e =>
    let mine := (s.queue e.1).copies.filter (fun c => c.frame == some id)
    if mine.isEmpty then s
    else
      let first := (s.queue e.1).copies.head?.any (fun c => c.frame == some id)
      let s := mine.foldl State.dropCopy (s.updQueue e.1 (fun q => { q with copies := q.copies.filter (fun c => c.frame != some id) }))
      match (s.queue e.1).port, (s.queue e.1).copies with
      | some p, c :: _ => if first then s.newHead p e.1 c.len false else s
      | _, _ => s) s

/-- An arriving frame finds no cell (R325). -/
def State.abandon (s : State) (p : Nat) (a : Arriving) : State :=
  ((s.failCopies a.frame none).cellCount 19 1).updPort p (fun q => { q with arriving := some { a with dead := true } })

/-- More cells of an arriving frame, given whole cells. -/
def State.continueFrame (s : State) (p : Nat) (a : Arriving) (bytes : List Byte) : State :=
  if a.dead then s
  else
    let r := s.writeMore p a bytes
    if r.1 then r.2 else r.2.abandon p a

/-- The end of an arriving frame whose bytes all passed the checks. -/
def State.finishFrame (s : State) (p : Nat) (a : Arriving) (bytes : List Byte) : State :=
  let s := s.continueFrame p a (bytes.drop a.got)
  let s := if (s.port p).arriving.any (fun b => b.dead) then s
    else s.updCopies a.frame (fun c => { c with frame := none })
  s.updPort p (fun q => { q with arriving := none })

/-- The end of an arriving frame that fails a check (R165). -/
def State.failFrame (s : State) (p : Nat) (a : Arriving) : State :=
  (if a.dead then s else s.failCopies a.frame (some 51)).updPort p (fun q => { q with arriving := none })

/-! ### The receive MAC (R162 to R166, R371, R389 to R391) -/

/-- A time base value or count reduced by a signed adjustment in 2^-16 ns. -/
def adjusted (v : Nat) (adj : Int) : Nat := movedStamp v (adj * ((2 ^ 48 : Nat) : Int))

/-- A frame with its receive stamps, taken now (R390). -/
def State.stamped (s : State) (p : Nat) (bytes : List Byte) : Stored :=
  let adj := s.sfld R.PORT_TS_ADJ_RX_ADJ p
  { bytes := bytes, arrived := s.now
    stampFree := (List.range 8).map (fun b => adjusted (s.tbGet b).free (-adj))
    stampValue := (List.range 8).map (fun b => adjusted (s.tbGet b).value (-adj)) }

/-- Whether a frame ends with the right FCS. -/
def fcsGood (bs : List Byte) : Bool := decide (4 ≤ bs.length) && crc32 (bs.take (bs.length - 4)) == leNat (bs.drop (bs.length - 4))

/-- The counter of the first check of orders 1 to 7 that a frame fails (R162). -/
def rxFailure (bs : List Byte) (maxFrame : Nat) (codeError truncated : Bool) : Option Nat :=
  let n := bs.length
  if codeError then some 23
  else if truncated then some 24
  else if n < 64 then some (if fcsGood bs then 19 else 20)
  else if maxFrame < n then some (if fcsGood bs then 21 else 22)
  else if !fcsGood bs then some 18
  else none

/-- Whether a frame's length/type value is a length that its data does not have (R162 order 8). -/
def lengthWrong (bs : List Byte) : Bool :=
  let off := typeOffset bs
  let v := be16At bs off
  decide (64 < bs.length) && decide (v ≤ 1500) && v != bs.length - 4 - (off + 2)

/-- A good MAC control frame (R166): counted, and kept until it is acted on. -/
def State.controlFrame (s : State) (p : Nat) (bs : List Byte) : State :=
  let off := typeOffset bs
  let keep := fun (s : State) (c : Control) => s.updPort p (fun q => { q with control := q.control ++ [c] })
  match be16At bs (off + 2) with
  | 0x0101 =>
    let s := s.portCount p 16 1
    if beNat (bs.take 6) = 0x0180C2000001 then
      keep s (.pfc (be16At bs (off + 4)) ((List.range 8).map (fun i => be16At bs (off + 6 + 2 * i))))
    else s
  | 0x0001 => keep (s.portCount p 15 1) (.pause (be16At bs (off + 4)))
  | _ => s.portCount p 17 1

/-- A good frame joins its port's input store, or is discarded where that is full (R371). -/
def State.store (s : State) (p : Nat) (f : Stored) : State :=
  let s := s.arrive (s.pipeOf p)
  if 64 ≤ (s.port p).input.length then
    (s.tmCount (s.pipeOf p) 1).raiseOnce EV_ARB_DROP 0 (s.pipeOf p) (s.pipeOf p) [p]
  else s.updPort p (fun q => { q with input := q.input ++ [f] })

/-- Whether the receive MAC of a port takes a frame: one that starts while the port is On and linked, or one in progress. -/
def State.receives (s : State) (p : Nat) : Bool :=
  (s.portLife p == .on && s.flag R.PORT_STAT_LINK_UP p) || (s.port p).arriving.isSome

/-- The receive MAC takes a frame: its bytes with FCS, and what the PCS says of it. -/
def State.receiveFrame (s : State) (p : Nat) (bs : List Byte) (codeError truncated : Bool) (badBlocks : Nat) : State :=
  if !s.receives p then s
  else
    let s := if badBlocks = 0 || isChannel p then s else s.portCount p 30 badBlocks
    let maxFrame := s.fld R.PORT_CFG_MAX_FRAME p
    let s := s.portCount p 11 (min bs.length (maxFrame + 1))
    let arriving := (s.port p).arriving
    match rxFailure bs maxFrame codeError truncated with
    | some i =>
      let s := s.portCount p i 1
      match arriving with
      | some a => s.failFrame p a
      | none => s
    | none =>
      let s := (s.portCount p (sizeBucket bs.length) 1).portCount p 10 bs.length
      if arriving.isNone && be16At bs (typeOffset bs) == 0x8808 then s.controlFrame p bs
      else
        let s := s.portCount p (12 + (match addressKind bs with | 0 => 0 | 1 => 1 | _ => 2)) 1
        let s := if lengthWrong bs then s.portCount p 25 1 else s
        match arriving with
        | some a => s.finishFrame p a bs
        | none => s.store p (s.stamped p bs)

/-- A frame on the receive balls of a port. A far-end loopback sends it back out; under a near-end loopback it is discarded, and the
receive path takes the oldest frame that the port has sent instead, with what the PCS says of it (R140). -/
def State.ballFrame (s : State) (p : Nat) (bytes : List Byte) (codeError truncated : Bool) (badBlocks : Nat) : State :=
  if s.portNearLoop p then
    match (s.port p).looped with
    | [] => s
    | bs :: rest => (s.updPort p (fun q => { q with looped := rest })).receiveFrame p bs codeError truncated badBlocks
  else
    let s := if s.portFarLoop p then s.emit (.frame p (lineBytes bytes)) else s
    s.receiveFrame p bytes codeError truncated badBlocks

/-- FRAME_RECEIVE; `time` is the reference time at the frame's timestamp point. -/
def execFrameReceive (port : Fin 1024) (bytes : List Byte) (codeError truncated : Bool) (badBlocks time : Nat) (s : State) :
    Host.Outcome State Fault Refusal :=
  .next (s.awake (fun s => (s.advance time).ballFrame port.val bytes codeError truncated badBlocks))

/-- Errors that reads of a replica find (R310). -/
def State.tblErrors (s : State) (pl : Nat) (errors : List (Nat × Bool)) : State :=
  errors.foldl (fun s e => s.tblError pl e.1 e.2) s

/-- The pipeline takes the oldest frame of a port's input store, or the cells so far of one that still arrives, up to MAX_FRAME (R164). -/
def State.frameIngress (s : State) (p : Nat) (early : Option (Nat × List Byte)) : State :=
  match early with
  | none =>
    match (s.port p).input with
    | [] => s
    | f :: rest => (s.updPort p (fun q => { q with input := rest })).ingress p f
  | some (arrived, bytes) =>
    let got := min arrived (s.fld R.PORT_CFG_MAX_FRAME p / 256 * 256)
    if got = 0 || got % 256 != 0 || decide (bytes.length ≤ got) || s.portNearLoop p then s
    else
      match (s.port p).arriving with
      | some a => if got ≤ a.got then s else s.continueFrame p a ((bytes.take got).drop a.got)
      | none => if !s.receives p || !(s.port p).input.isEmpty then s else s.ingressEarly p (s.stamped p bytes) got

/-- FRAME_INGRESS. `early` names a frame that still arrives: how many of its bytes, in whole cells, are there, and the frame
as it will be; `errors` are the places of the replica whose reads find a corrected or a fatal error. -/
def execFrameIngress (port : Fin 1024) (early : Option (Nat × List Byte)) (errors : List (Nat × Bool)) (time : Nat) (s : State) :
    Host.Outcome State Fault Refusal :=
  .next (s.clocked (fun s =>
    let s := s.advance time
    (s.tblErrors (s.pipeOf port.val) errors).frameIngress port.val early))

/-- The frame that the engine of a pipeline scans next, with its queue (R277, R278): the oldest reserved one that no earlier frame of its
ingress port waits before, else the oldest unreserved one. -/
def State.nextScan (s : State) (pl : Nat) : Option (Nat × Scan) :=
  let reserved := SMap.get [] s.scans (2 * pl)
  let others := SMap.get [] s.scans (2 * pl + 1)
  let behind := fun (f : Scan) => others.any (fun g => g.info.inPort == f.info.inPort && decide (g.order < f.order))
  match reserved.find? (fun f => !behind f) with
  | some f => some (2 * pl, f)
  | none => others.head?.map (fun f => (2 * pl + 1, f))

/-- The pattern engine scans the next frame (R275, R276). -/
def State.patternScan (s : State) (pl : Nat) : State :=
  match s.life R.PIPE_PAT_STAT_LC pl, s.nextScan pl with
  | .on, some (k, f) | .stopping, some (k, f) =>
    let s := { s with scans := SMap.set [] s.scans k ((SMap.get [] s.scans k).filter (fun g => g.order != f.order)) }
    let window := scanWindow (f.bytes.take (f.bytes.length - 4)) f.info.vector
    let s := (s.pipeCount pl 7 1).pipeCount pl 8 window.length
    s.secondPass pl f.bytes f.info f.index f.action (s.groupVector pl f.info.version window)
  | _, _ => s

/-- PATTERN_SCAN. -/
def execPatternScan (pipe : Fin 8) (errors : List (Nat × Bool)) (s : State) : Host.Outcome State Fault Refusal :=
  .next (s.clocked (fun s => (s.tblErrors pipe.val errors).patternScan pipe.val))

end Sys2Proof.Machine
end

