-- ==== Sys2Proof/Machine/Transmit.lean ====
section
/-! DEFINITION. Frames on their way out: dequeue, egress classification, time stamping, cell release, cut-through and
priority flow control (chapters 05, 08, 10 and 12), and FEC codewords. -/

namespace Sys2Proof.Machine

/-! ### The dequeue tests (R24, R167, R272) -/

/-- Whether a frame is too old, or its version is no longer live (R24). -/
def State.expired (s : State) (i : FrameInfo) : Bool :=
  decide (s.fld R.DEV_LIFETIME_LIMIT_MS 0 * 1000000 * nsUnits < (s.tbGet 0).free - i.stampFree.getD 0 0) || !s.liveVersion i.version

/-- The egress action of a copy: its disposition, the copy's edits, and a mirror request (R272). -/
def State.egressAction (s : State) (p q : Nat) (c : Copy) : Option (List Word64) :=
  if c.kind != .plain then none
  else
    let pl := s.pipeOf c.info.inPort
    let d := windowNode (s.node pl (s.bankFor pl c.info.version)) c.info.vector
    (s.tcamLookup (s.pipeOf p) true c.info.version (egressKey d c.info.vector c.colour p q)).map (fun e => e.2)

/-- The data bytes that a copy carries without FCS, before its edits: all, or the cells that a truncated copy keeps. -/
def Copy.dataLen (c : Copy) : Nat := if c.trunc = 0 then c.len - 4 else min (c.len - 4) (256 * c.trunc)

/-- How many bytes the edits add to a copy's frame. -/
def Copy.editedLen (c : Copy) (edits : List Word64) : Nat :=
  let head := c.info.vector.bytes
  c.dataLen + (editFrame head c.info.vector.ip edits).length - head.length

/-- The length of a copy's frame on the wire, FCS and padding included. -/
def Copy.wireLen (c : Copy) (edits : List Word64) : Nat := max 60 (c.editedLen edits) + 4

/-! ### Egress mirror copies (R328, R343) -/

/-- The cells of a chain in order, at most `n`, as far as its links have not been lost (R333). -/
def State.chain (s : State) : Nat → Nat → List Nat
  | 0, _ => []
  | n + 1, c => if (s.cell c).lost then [] else c :: (if (s.cell c).next = 0xFFFFF then [] else s.chain n (s.cell c).next)

/-- An egress mirror copy of a copy that is dequeued with its edits. -/
def State.egressMirror (s : State) (session : Nat) (c : Copy) (edits : List Word64) : State :=
  let r := s.mirrorRequest session 1
  if !r.1 then r.2
  else
    let w := r.2.mirrorWant session .egressMirror c.len { c.info with edits := edits, meter := none }
    let n := if c.frame.isSome then ceilDiv (r.2.fld R.PORT_CFG_MAX_FRAME c.info.inPort) 256 else c.cells
    let cells := r.2.chain c.cells c.head
    if cells.any (fun k => (r.2.cell k).refcnt == 1023) then r.2.cellCount 22 1
    else
      match r.2.tryCopy w n with
      | (none, s) => s
      | (some m, s) =>
        let s := cells.foldl (fun s k => s.setCell k { s.cell k with refcnt := (s.cell k).refcnt + 1 }) s
        let m := { m with frame := c.frame, head := c.head, gen := c.gen, cells := c.cells }
        let s := s.charge m c.cells
        let s := if c.frame.isNone then s
          else s.updPort c.info.inPort (fun p => { p with arriving := p.arriving.map (fun a => { a with holders := a.holders + 1 }) })
        (s.enqueue w.port m).thinWake w.port

/-! ### Time stamps of a frame that leaves (R390, R394 to R396) -/

/-- How far reference time `point` lies after now on a time base, in units of 2^-64 ns. -/
def State.until (s : State) (b point : Nat) : Nat := tbDelta (point - s.now) (s.tbRate b)

/-- The transmit stamp on a time base at reference time `point`: its step-free count and its value (R390). -/
def State.txStamp (s : State) (p b point : Nat) : Nat × Nat :=
  let adj := s.sfld R.PORT_TS_ADJ_TX_ADJ p
  (adjusted ((s.tbGet b).free + s.until b point) adj, adjusted ((s.tbGet b).value + s.until b point) adj)

/-- The residence time that a recognised event message takes with it (R394), in 2^-16 ns. -/
def State.residence (s : State) (p point : Nat) (c : Copy) (head : List Byte) : Option Int :=
  if c.kind != .plain || !s.flag R.PORT_TS_CFG_TC_EN p then none
  else
    match ptpEvent head with
    | none => none
    | some m =>
      if byteAt head m.msg / 16 = 1 then none
      else
        let tb := s.fld R.TIME_TC_CFG_TC_TB 0
        some (((s.txStamp p tb point).1 / 2 ^ 48 : Nat) - ((c.info.stampFree.getD tb 0) / 2 ^ 48 : Nat))

/-- The nanoseconds and fraction of a stamp word, with its 16 bits of seconds, in 2^-16 ns. -/
def stampWordFine (w : Word64) : Nat := (bits w.toNat 63 48 * 1000000000 + bits w.toNat 47 16) * 65536 + bits w.toNat 15 0

/-- One-step insertion (R396): correctionField's increment and originTimestamp. -/
def State.oneStepEdit (s : State) (p point : Nat) (c : Copy) (head : List Byte) : Option Int × Option (Nat × Nat) :=
  match c.oneStep, ptpEvent head with
  | some rx, some m =>
    let stamp := (s.txStamp p (s.fld R.PORT_TS_CFG_PTP_TB p) point).2
    let t := tbSplit stamp
    if m.kind head = 0 && decide (m.msg + 44 ≤ head.length) then (some (t.2.2 : Int), some (t.1, t.2.1))
    else if m.kind head = 3 then
      let span := 65536 * 1000000000 * 65536
      (some (((stamp / 2 ^ 48 % span + span - stampWordFine rx) % span : Nat) : Int), none)
    else (none, none)
  | _, _ => (none, none)

/-! ### Dequeue (R356) -/

/-- A truncated copy gives up the cells that it does not carry, and those of its frame to come (R343); it reads next the cell `c`, and has
read `taken`. -/
def State.truncate (s : State) (u : Copy) (c taken : Nat) : Copy × State :=
  if u.trunc = 0 || decide (u.cells < u.trunc) then (u, s)
  else
    let k := (s.chain (u.cells - taken) c)[u.trunc - taken]?
    let s := match k with
      | none => s
      | some k => State.walk u u.frame.isNone (u.cells - u.trunc) k (s.cell k).gen s
    ({ u with frame := none, cells := u.trunc }, s.giveUp u)

/-- A copy starts on the wire of its port; `point` is the reference time of its timestamp point. -/
def State.startCopy (s : State) (p q point : Nat) (c : Copy) (edits : List Word64) : State :=
  let cut := c.frame.isSome
  let s := s.startHead p q c.len
  let r := (s.popHead p q).truncate c c.head 0
  let head := editFrame c.info.vector.bytes c.info.vector.ip edits
  let one := if c.kind == .host then r.2.oneStepEdit p point c head else (none, none)
  let t : Sending :=
    { copy := { r.1 with info := { c.info with edits := edits } }, cell := c.head, gen := c.gen, taken := 0, raw := [], counted := 0
      correction := if c.kind == .host then one.1 else r.2.residence p point c head
      origin := one.2, cut := cut, started := !cut, stamped := false }
  r.2.updPort p (fun u => { u with sending := some t })

/-- A copy is discarded at its dequeue. -/
def State.discardHead (s : State) (p q : Nat) (c : Copy) : State := (s.popHead p q).dropCopy c

/-- The scheduler takes the next copy of a port, tests it and starts it, unless a PFC frame is due first (R172). A mirror copy adds to the
cells before the head is read (R328). -/
def State.frameDequeue (s : State) (p point : Nat) (fault : Option CellFault) : State :=
  if (s.port p).sending.isSome || (s.port p).pfcDue then s
  else
    match s.choose p with
    | none => s
    | some (q, c, s) =>
      if s.expired c.info then ((s.readLink c.head fault).2.discardHead p q c).bump R.DEV_LIFETIME_DROPS_COUNT 0 1
      else
        let a := s.egressAction p q c
        let act : Nat → Nat → Nat → Nat := fun w hi lo => actionBits (a.getD []) w hi lo
        let edits := c.info.edits ++ (match a with
          | none => []
          | some a => [a.getD 1 0])
        let s := if act 2 63 63 = 1 then s.egressMirror (act 2 62 59) c edits else s
        let r := s.readCell c.head fault
        if !r.1 then r.2.discardHead p q c
        else if act 0 63 60 = 1 then (r.2.discardHead p q c).pipeCount (r.2.pipeOf p) 3 1
        else if r.2.fld R.PORT_CFG_MAX_FRAME p < c.wireLen edits then (r.2.discardHead p q c).portCount p 52 1
        else r.2.startCopy p q point c edits

/-- FRAME_DEQUEUE; `fault` is what the read of the head cell meets, `point` the reference time at which the frame's timestamp
point leaves the balls. -/
def execFrameDequeue (port : Fin 1024) (fault : Option CellFault) (time point : Nat) (s : State) :
    Host.Outcome State Fault Refusal :=
  .next (s.clocked (fun s => ((s.advance time).frameDequeue port.val point fault).settlePort port.val))

/-! ### Transmission (R167, R175 to R177, R327) -/

/-- A whole frame as it leaves: edited, stamped, padded, with its FCS. -/
def Sending.bytes (t : Sending) : List Byte :=
  let data := { t with raw := t.raw.take t.copy.dataLen }.edited
  let data := data ++ List.replicate (60 - data.length) 0
  data ++ leBytes 4 (crc32 data)

/-- Whether a whole frame needs padding. -/
def Sending.padded (t : Sending) : Bool :=
  decide ((editFrame (t.raw.take t.copy.dataLen) t.copy.info.vector.ip t.copy.info.edits).length < 60)

/-- A cut-through frame went without underrun (R177). -/
def State.countClean (s : State) (p : Nat) : State :=
  let clean := s.fld R.PORT_CT_THRESH_CLEAN p + 1
  let thresh := s.fld R.PORT_CT_THRESH_THRESH p
  if clean = 65536 then
    (s.setFld R.PORT_CT_THRESH_CLEAN p 0).setFld R.PORT_CT_THRESH_THRESH p (if 1 < thresh then thresh - 1 else thresh)
  else s.setFld R.PORT_CT_THRESH_CLEAN p clean

/-- The last byte of a frame has been read: it leaves whole. -/
def State.finishSending (s : State) (p : Nat) (t : Sending) : State :=
  let bytes := t.bytes
  let s := (s.countSent p t bytes true).putFrame p bytes
  let s := if t.padded then s.portCount p 53 1 else s
  if t.cut then s.countClean p else s

/-- The bits of a cell of `n` bytes that a port sends, with the overhead of the frame before its first one (R146). -/
def Sending.cellBits (t : Sending) (n : Nat) : Nat := 8 * n + (if t.taken = 0 then 160 else 0)

/-- Whether a frame that a port has taken may be sent (R174): it has started, or is whole, or THRESH of its cells are written. -/
def State.maySend (s : State) (p : Nat) (t : Sending) : Bool :=
  t.started || t.copy.frame.isNone || decide (s.fld R.PORT_CT_THRESH_THRESH p ≤ t.copy.cells)

/-- The copy that a port sends reads its next cell to the end and releases it. -/
def State.sendCell (s : State) (p : Nat) (t : Sending) (fault : Option CellFault) : State :=
  if !s.maySend p t then s
  else
    let cut := s.truncate t.copy t.cell t.taken
    let t := { t with copy := cut.1, started := true }
    let r := cut.2.readCell t.cell fault
    if !r.1 then r.2.stomp p t []
    else
      let e := r.2.cell t.cell
      let last := decide (t.taken + 1 = t.copy.cells)
      if last && t.copy.frame.isSome then r.2.updPort p (fun u => { u with sending := some t })
      else
        let f := r.2.releaseCell t.cell t.gen
        let s := if f.1 then f.2.uncharge t.copy 1 else f.2
        let sent := t.cellBits e.data.length
        let t := { t with
          taken := t.taken + 1, raw := t.raw ++ e.data, cell := e.next, gen := (s.cell e.next).gen, counted := t.counted + sent }
        let s := s.updPort p (fun u => { u with sending := some t, sentBits := u.sentBits + sent })
        if last then s.finishSending p t else s

/-- A release that names a cell and a generation, by a copy that reads no data (R321, R327, R333). -/
def State.otherRelease (s : State) (cell gen : Nat) (fault : Option CellFault) : State :=
  let r := s.readLink cell fault
  if r.1 then (r.2.releaseCell cell gen).2 else r.2

/-- CELL_RELEASE: a release that names a cell and a generation, with what the read meets. Where they are those of the copy that the port
sends, the copy moves on. -/
def execCellRelease (port : Fin 1024) (cell gen : Nat) (fault : Option CellFault) (s : State) :
    Host.Outcome State Fault Refusal :=
  .next (s.clocked (fun s =>
    match (s.port port.val).sending with
    | some t =>
      if t.cell = cell && t.gen == gen then (s.sendCell port.val t fault).settlePort port.val else s.otherRelease cell gen fault
    | none => s.otherRelease cell gen fault))

/-- THRESH rises by one, unless it is 8 (R175, R177). -/
def State.raiseThreshold (s : State) (p : Nat) : State :=
  let thresh := s.fld R.PORT_CT_THRESH_THRESH p
  if thresh = 8 then s
  else
    let s := s.setFld R.PORT_CT_THRESH_THRESH p (thresh + 1)
    if thresh = 7 then s.raiseOf EV_PORT_CT_MAX p else s

/-- An underrun (R175): the copy has only its last written cell left, and the frame goes on. -/
def State.underrun (s : State) (p : Nat) : State :=
  match (s.port p).sending with
  | none => s
  | some t =>
    if t.copy.frame.isNone || !t.started || t.taken + 1 != t.copy.cells then s
    else
      let s := s.stomp p t (s.cell t.cell).data
      let s := (s.portCount p 50 1).raiseOnce EV_PORT_UNDERRUN p p p []
      (s.raiseThreshold p).setFld R.PORT_CT_THRESH_CLEAN p 0

/-- UNDERRUN. -/
def execUnderrun (port : Fin 1024) (s : State) : Host.Outcome State Fault Refusal :=
  .next (s.clocked (fun s => (s.underrun port.val).settlePort port.val))

/-! ### The transmit timestamp FIFO (R397, R398) -/

/-- Words of a timestamp record. -/
def stampRecord (bs : List Byte) (tb tag lost value : Nat) : Nat × Nat :=
  let t := tbSplit value
  let w := match ptpEvent bs with
    | some m => be16At bs (m.msg + 30) <<< 48 + byteAt bs (m.msg + 4) <<< 40 + m.kind bs <<< 36
    | none => 0xF <<< 36
  (w + ofFlag (lost != 0) <<< 35 + tb <<< 32 + lost <<< 16 + tag, (t.1 % 65536) <<< 48 + t.2.1 <<< 16 + t.2.2)

/-- The timestamp point of the frame that a port sends leaves the balls. -/
def State.timestampPoint (s : State) (p : Nat) : State :=
  match (s.port p).sending with
  | none => s
  | some t =>
    match t.copy.stamp with
    | none => s
    | some tag =>
      if t.stamped then s
      else
        let s := s.updPort p (fun u => { u with sending := some { t with stamped := true } })
        let wr := s.fld R.PORT_TSF_WR_WR p
        if (wr + 65536 - s.fld R.PORT_TSF_RD_RD p) % 65536 = 64 then
          ((s.bump R.PORT_TSF_OVF_COUNT p 1).updPort p (fun u => { u with lost := min 65535 (u.lost + 1) })).raiseOnce EV_TSF_OVF p p p []
        else
          let tb := s.fld R.PORT_TS_CFG_PTP_TB p
          let w := stampRecord t.copy.info.vector.bytes tb tag (s.port p).lost (s.txStamp p tb s.now).2
          let i := 128 * p + 2 * (wr % 64)
          let s := (s.setFld R.PORT_TSF_REC_WORD i w.1).setFld R.PORT_TSF_REC_WORD (i + 1) w.2
          (s.setFld R.PORT_TSF_WR_WR p (wr + 1)).updPort p (fun u => { u with lost := 0 })

/-- TIMESTAMP_POINT. -/
def execTimestampPoint (port : Fin 512) (time : Nat) (s : State) : Host.Outcome State Fault Refusal :=
  .next (s.awake (fun s => (s.advance time).timestampPoint port.val))

/-! ### Priority flow control (R169 to R172) -/

/-- A pause timer of a priority loaded with a time (R169). -/
def State.loadPause (p quanta : Nat) (s : State) (k : Nat) : State :=
  let s := s.setFld R.PORT_PFC_STAT_PAUSED p (withBits (s.fld R.PORT_PFC_STAT_PAUSED p) k k (ofFlag (quanta != 0)))
  s.updPort p (fun q => { q with pause := SMap.set 0 q.pause k quanta })

/-- A frame that some reserved queue of the port ignores is counted (R171). -/
def State.countIgnored (s : State) (p : Nat) (touches : Nat → Bool) : State :=
  if (s.queuesOf p).any (fun q => s.queueReserved q && touches (s.queue q).pfcPri) then
    (s.portCount p 29 1).raiseOnce EV_PORT_PFC_IGNORED p p p []
  else s

/-- The oldest MAC control frame is acted on, if it is of the kind wanted. -/
def State.actOnControl (s : State) (p : Nat) (pfc : Bool) : State :=
  match (s.port p).control with
  | .pfc enable times :: rest =>
    if !pfc then s
    else
      let on := onesOf 8 (enable &&& s.fld R.PORT_PFC_RX_EN p)
      let s := s.updPort p (fun q => { q with control := rest })
      let s := s.countIgnored p (fun k => on.contains k)
      on.foldl (fun s k => s.loadPause p (times.getD k 0) k) s
  | .pause quanta :: rest =>
    if pfc then s
    else
      let s := s.updPort p (fun q => { q with control := rest })
      if !s.flag R.PORT_CFG_PAUSE_RX_EN p then s
      else (List.range 8).foldl (State.loadPause p quanta) (s.countIgnored p (fun _ => true))
  | [] => s

/-- PFC_FRAME_RECEIVE. -/
def execPfcFrameReceive (port : Fin 1024) (s : State) : Host.Outcome State Fault Refusal :=
  .next (s.awake (fun s => s.actOnControl port.val true))

/-- PAUSE_FRAME_RECEIVE. -/
def execPauseFrameReceive (port : Fin 1024) (s : State) : Host.Outcome State Fault Refusal :=
  .next (s.awake (fun s => s.actOnControl port.val false))

/-- PAUSE_TIMER_EXPIRY: a running timer reaches zero. -/
def execPauseTimerExpiry (port : Fin 1024) (priority : Fin 8) (s : State) : Host.Outcome State Fault Refusal :=
  .next (s.awake (fun s => s.loadPause port.val 0 priority.val))

/-- The PFC frame of a port (R172): QUANTA for each asserted priority, the enable bits those of TX_EN. -/
def State.pfcBytes (s : State) (p : Nat) : List Byte :=
  let off := s.pfcAsserted p
  let quanta := s.fld R.PORT_PFC_QUANTA p
  let data := beBytes 6 0x0180C2000001 ++ beBytes 6 (Config.portAddress p).toNat ++ beBytes 2 0x8808 ++ beBytes 2 0x0101 ++
    beBytes 2 (s.fld R.PORT_PFC_TX_EN p) ++ (List.range 8).flatMap (fun k => beBytes 2 (if off.testBit k then quanta else 0)) ++
    List.replicate 26 0
  data ++ leBytes 4 (crc32 data)

/-- The MAC sends a PFC frame; while a priority stays asserted, the resend timer runs. -/
def State.sendPfc (s : State) (p : Nat) : State :=
  let bytes := s.pfcBytes p
  let s := (((s.portCount p 47 1).portCount p 32 1).portCount p 42 64).portCount p 43 64
  (s.putFrame p bytes).updPort p (fun q => { q with
    pfcDue := false, resend := s.pfcAsserted p != 0, sentBits := q.sentBits + 8 * 84 })

/-- PFC_FRAME_SEND: a frame is due, the link is up and no frame is in progress. -/
def execPfcFrameSend (port : Fin 1024) (s : State) : Host.Outcome State Fault Refusal :=
  .next (s.awake (fun s =>
    if (s.port port.val).pfcDue && s.flag R.PORT_STAT_LINK_UP port.val && (s.port port.val).sending.isNone then
    s.sendPfc port.val else s))

/-- PFC_RESEND: half of QUANTA has elapsed since the last PFC frame. Behind a frame in progress the frame falls due. -/
def execPfcResend (port : Fin 1024) (s : State) : Host.Outcome State Fault Refusal :=
  .next (s.awake (fun s =>
    if (s.port port.val).resend && s.flag R.PORT_STAT_LINK_UP port.val then
    (if (s.port port.val).sending.isNone then s.sendPfc port.val
     else s.updPort port.val (fun q => { q with pfcDue := true }))
    else s))

/-! ### FEC (R160) -/

/-- A codeword with `symbols` symbol errors is decoded. -/
def State.fecCodeword (s : State) (p symbols : Nat) : State :=
  if !s.flag R.PORT_STAT_FEC p || symbols = 0 || s.portLife p == .off then s
  else if symbols ≤ 15 then (s.portCount p 26 1).portCount p 28 symbols
  else (s.portCount p 27 1).raiseOnce EV_PORT_FEC_UNCORR p p p []

/-- FEC_CODEWORD. -/
def execFecCodeword (port : Fin 512) (symbols : Nat) (s : State) : Host.Outcome State Fault Refusal :=
  .next (s.awake (fun s => s.fecCodeword port.val symbols))

end Sys2Proof.Machine
end

