-- ==== Sys2Proof/Machine/HostRegs.lean ====
section
/-! DEFINITION. Register behaviour (chapter 14): what each register reads as, legal accesses and bus errors, sequence-cleared
status, the LH registers, interrupts, the ring registers, and snapshots. -/

namespace Sys2Proof.Machine

/-! ### What registers read as (R4) -/

/-- Changes what the host side holds. -/
def State.updHost (s : State) (f : HostSide → HostSide) : State := { s with host := f s.host }

/-- The seconds and nanoseconds registers of a value in units of 2^-16 ns: nanoseconds with the fraction, and seconds. -/
def timeWords (fine : Nat) : Nat × Nat :=
  let ns := fine / 65536
  ((ns % 1000000000) <<< 16 + fine % 65536, ns / 1000000000 % 2 ^ 48)

/-- TM_Q_CFG of a queue. -/
def Queue.cfgWord (q : Queue) : Nat :=
  (q.port.getD 0) <<< 54 + ofFlag q.port.isNone <<< 53 + q.tier <<< 51 + q.group <<< 48 + q.weight <<< 32 + q.profile <<< 3 + q.pfcPri

/-- TM_Q_STAT of queue `q` (R339, R354, R360). -/
def State.queueWord (s : State) (q : Nat) : Nat :=
  let u := s.queue q
  let at' : Nat × Bool × Bool := match u.port with
    | none => (0, false, false)
    | some p => (((s.queuesOf p).findIdx? (fun x => x == q)).getD 0,
        (s.fld R.PORT_PFC_STAT_PAUSED p).testBit u.pfcPri && !s.queueReserved q, !s.shapersPermit p q)
  u.charged <<< 44 + ofFlag (s.queueReserved q) <<< 31 + ofFlag at'.2.1 <<< 30 + ofFlag at'.2.2 <<< 29 + (at'.1 % 128) <<< 16 + u.life

/-- The four words of a reserved flow's record. -/
def Flow.word (f : Flow) (w : Nat) : Nat :=
  match w with
  | 0 => 1 <<< 63 + ofFlag f.inspect <<< 62 + f.inPort <<< 52 + f.outPort <<< 42 + f.meter <<< 25 + f.queue <<< 9
  | 1 => f.deadline <<< 32 + f.bound
  | 2 => f.maxFrame <<< 32 + f.burst
  | _ => f.epoch

/-- The empty indices of a TCAM: neither an entry nor a claim. -/
def State.tcamFree (s : State) (pl : Nat) (egress : Bool) : Nat :=
  let size := if egress then 4096 else 16384
  let lo := tcamKey pl egress 0
  let used := s.tcam.filter (fun e => decide (lo ≤ e.1) && decide (e.1 < lo + size))
  let claimed := s.tcamClaims.filter (fun e => decide (lo ≤ e.1) && decide (e.1 < lo + size) && (SMap.find s.tcam e.1).isNone)
  size - used.length - claimed.length

/-- The empty pattern slots of a pipeline. -/
def State.patFree (s : State) (pl : Nat) : Nat :=
  let used := s.patterns.filter (fun e => e.1 / 4096 == pl)
  let claimed := s.patClaims.filter (fun e => e.1 / 4096 == pl && (SMap.find s.patterns e.1).isNone)
  4096 - used.length - claimed.length

/-- The TCAM entry that PIPE_TCAM_RD_SEL names, as its key. -/
def State.tcamShown (s : State) (pl : Nat) : Nat :=
  tcamKey pl (s.flag R.PIPE_TCAM_RD_SEL_EGRESS pl) (s.fld R.PIPE_TCAM_RD_SEL_INDEX pl)

/-- PIPE_TCAM_RD_META. -/
def State.tcamMeta (s : State) (pl : Nat) : Nat :=
  let k := s.tcamShown pl
  let claimed := ofFlag (SMap.find s.tcamClaims k).isSome <<< 29
  match SMap.find s.tcam k with
  | none => claimed
  | some e => 1 <<< 31 + ofFlag (e.since == e.until') <<< 30 + claimed + e.until' <<< 8 + e.since

/-- The Enrolled and the Revoked slots, as bit maps. -/
def Otp.slotBits (o : Otp) (f : OwnerSlot → Bool) : Nat := maskOf (o.slots.filterMap (fun e => if f e.2 then some e.1 else none))

/-- The classes that the built-in Charter of an index grants (R87). -/
def builtinGrant (i : Nat) : Nat := if i < 16 then 1 else if i = 16 then 7 else 0

/-- The classes that the Charter of an index grants (R84): those of its installed record, or of the built-in Charter. -/
def State.charterGrant (s : State) (i : Nat) : Nat :=
  match SMap.find s.auth.charters i with
  | some r => leNat (r.take 1) % 8
  | none => builtinGrant i

/-- The bundles in progress: started, and not yet finished. A finished one whose record is held does not count (DESIGN CHOICE, log 119);
BUSY of its queue shows it (log 120). -/
def State.inProgress (s : State) : Nat :=
  (s.bureau.slots.filter (fun e =>
    e.2.phase.begun || e.2.phase == .verifying || e.2.phase == .held || e.2.phase == .pairHeld)).length

/-- Whether a bundle is parked (R49). -/
def Phase.parked : Phase → Bool
  | .waitEpoch _ | .waitEvent _ _ _ | .fence _ | .committing _ | .attesting => true
  | _ => false

/-- What instance `n` of a register reads as, without the effects of the read. BUSY of ORD_OQ_STAT lasts from the fetch of a bundle to
the writing of its record (DESIGN CHOICE, log 120). -/
def State.view (s : State) (r : RegSpec) (n : Nat) : Nat :=
  match r.base with
  | 0x120 => s.bureau.commits.foldl (fun m c => m ||| c.outstanding) 0  -- DEV_ISLAND_WAIT
  | 0x10028 =>  -- ORD_OQ_STAT
    let full := s.fld R.ORD_OQ_SIZE_SIZE n != 0 &&
      decide (s.fld R.ORD_OQ_SIZE_SIZE n ≤ (s.fld R.ORD_OQ_CPL_TAIL_CPL_TAIL n + 65536 - s.fld R.ORD_OQ_CPL_HEAD_CPL_HEAD n) % 65536)
    withBits (withBits (s.reg r n) 7 7 (ofFlag (SMap.find s.bureau.slots n).isSome)) 6 6 (ofFlag full)
  | 0x10800 =>  -- ORD_BUREAU_STAT
    withBits (withBits (s.reg r n) 11 8 s.inProgress) 7 4 (s.bureau.slots.filter (fun e => e.2.phase.parked)).length
  | 0x20008 => Config.serial.toNat  -- AUTH_SERIAL
  | 0x2001C =>  -- AUTH_OTP_STAT
    (s.otp.slotBits OwnerSlot.revoked) <<< 16 + (s.otp.slotBits OwnerSlot.enrolled) <<< 8 + ofFlag s.otp.freeze <<< 7 + s.otp.rollback
  | 0x20020 => ofFlag s.otp.freeze <<< 8 + s.otp.rollback  -- AUTH_OTP_CTL
  | 0x20200 => withBits (s.reg r n) 2 0 (s.charterGrant n)  -- AUTH_CHARTER
  | 0x40000 => (timeWords (s.tbFine n)).1  -- TIME_TB_NS
  | 0x40008 => (timeWords (s.tbFine n)).2  -- TIME_TB_SEC
  | 0x42010 => (timeWords (s.tin n).capture).1  -- TIME_TIN_CAP_NS
  | 0x42018 => (timeWords (s.tin n).capture).2  -- TIME_TIN_CAP_SEC
  | 0x6001C => withBits (s.reg r n) 19 5 (s.power.credit / (4 * 65536000000))  -- PWR_SPRINT_STAT
  | 0x60020 => s.power.fast / 65536000 % 2 ^ 48  -- PWR_SPRINT_TIME
  | 0x60034 =>  -- PWR_FREEZE_STAT
    ofFlag s.power.permitted <<< 31 + ofFlag s.otp.freeze <<< 30 + (if s.power.permitted then s.power.permit / (65536 * 10 ^ 9) else 0)
  | 0x600050 =>  -- STF_PATH_TRACE_CAP
    let lane := n / 2
    let t := s.fld R.STF_TRACE_SEL_TU lane
    let bs := ((s.tu (tuKey lane t)).traceAcc.getD []).drop (8 * (n % 2))
    leNat (bs.take 8)
  | 0xA00010 => withBits (s.reg r n) 28 16 (s.connCount n)  -- TSI_Q_STAT
  | 0xA10000 => withBits (s.reg r n) 30 30 (ofFlag (s.expressConn n (s.reg r n)))  -- TSI_LEAF_A
  | 0xA50000 => withBits (s.reg r n) 30 30 (ofFlag (s.expressConn n (s.reg r n)))  -- TSI_LEAF_B
  | 0xB00008 =>  -- PIPE_PARSE_STAT
    let standby := 2 * n + (1 - s.fld R.PIPE_PARSE_STAT_CUR_BANK n)
    withBits (withBits (s.reg r n) 30 30 (ofFlag (SMap.find s.bankClaims standby).isSome)) 29 29 (ofFlag (s.standbyLive n))
  | 0xB0000C => s.tcamFree n false <<< 16 + s.tcamFree n true  -- PIPE_TCAM_STAT
  | 0xB00014 => withBits (s.reg r n) 31 19 (s.patFree n)  -- PIPE_PAT_STAT
  | 0xB00024 => s.tcamMeta n  -- PIPE_TCAM_RD_META
  | 0xB00040 =>  -- PIPE_TCAM_RD
    match SMap.find s.tcam (s.tcamShown (n / 20)) with
    | some e => (e.words.getD (n % 20) 0).toNat
    | none => 0
  | 0xB01000 => (s.occupancy n).1 <<< 12 + (s.occupancy n).2  -- TBL_STAT
  | 0xC00008 => s.minFree <<< 32 + s.freeCells  -- CELL_FREE
  | 0xC00010 => withBits (s.reg r n) 51 32 s.sharedSize  -- CELL_POOL
  | 0xC00040 => runsLen (s.cupboard n).ring <<< 32 + runsLen (s.cupboard n).cache  -- CELL_CUP_Q
  | 0xC30000 => withBits (s.reg r n) 10 0 (s.members n).length  -- CELL_MCAST_CTL
  | 0xD00004 => withBits (s.reg r n) 30 16 s.flows.length  -- TM_ADM_STAT
  | 0xD00018 => (s.queue (s.fld R.TM_Q_SEL_QUEUE 0)).cfgWord  -- TM_Q_CFG
  | 0xD00020 => let q := s.queue (s.fld R.TM_Q_SEL_QUEUE 0); q.rate <<< 32 + q.burst  -- TM_Q_SHAPE
  | 0xD00028 => s.queueWord (s.fld R.TM_Q_SEL_QUEUE 0)  -- TM_Q_STAT
  | 0xD00030 => let q := s.queue (s.fld R.TM_Q_SEL_QUEUE 0); q.start <<< 32 + q.finish  -- TM_Q_TAGS
  | 0xD00040 =>  -- TM_Q_CTR
    let q := s.queue (s.fld R.TM_Q_SEL_QUEUE 0)
    [q.enqueued, q.sent, q.octets, q.dropped].getD n 0
  | 0xD00088 => let m := s.meter (s.fld R.TM_M_SEL_METER 0); ofFlag m.aware <<< 2 + m.alg  -- TM_M_MODE
  | 0xD00090 => (s.meter (s.fld R.TM_M_SEL_METER 0)).w0.toNat  -- TM_M_W0
  | 0xD00098 => (s.meter (s.fld R.TM_M_SEL_METER 0)).w1.toNat  -- TM_M_W1
  | 0xD000A0 => let m := s.meter (s.fld R.TM_M_SEL_METER 0); (m.tc / 65536) <<< 32 + m.te / 65536  -- TM_M_BUCKET
  | 0xD000C0 => (s.meter (s.fld R.TM_M_SEL_METER 0)).counts.getD n 0  -- TM_M_CTR
  | 0xD10008 => s.tierV (n / 2) (2 * (n % 2)) <<< 32 + s.tierV (n / 2) (2 * (n % 2) + 1)  -- TM_PORT_VT
  | 0xD40000 =>  -- TM_RSV
    match SMap.find s.flows (n / 4) with
    | some f => f.word (n % 4)
    | none => 0
  | _ => s.reg r n

/-! ### MSI-X (R432, R442, R443) -/

/-- A doubleword of the MSI-X table at reset: every vector is masked. -/
def msixReset (k : Nat) : Nat := if k % 4 = 3 then 1 else 0

/-- A doubleword of the MSI-X table. -/
def State.msixWord (s : State) (k : Nat) : Nat := SMap.get (msixReset k) s.host.msix k

/-- Whether vector `v` is masked. -/
def State.masked (s : State) (v : Nat) : Bool := (s.msixWord (4 * v + 3)).testBit 0

/-- A message that is due: sent, or left pending where its vector is masked; a message starts the holdoff. -/
def State.message (s : State) (v : Nat) : State :=
  if s.masked v then s.updHost (fun h => { h with msixPending := insertRising v h.msixPending })
  else
    let s := s.emit (.msi v (s.msixWord (4 * v) + s.msixWord (4 * v + 1) <<< 32) (s.msixWord (4 * v + 2)))
    if s.fld R.HDMA_CFG_HOLDOFF_US 0 = 0 then s else s.updHost (fun h => { h with holdoff := insertRising v h.holdoff })

/-- Work of a vector is to be announced. -/
def State.announce (s : State) (v : Nat) : State :=
  if s.host.d3hot || s.host.holdoff.contains v then s.updHost (fun h => { h with due := insertRising v h.due }) else s.message v

/-- HOLDOFF_EXPIRY: one message announces the work that fell due. -/
def State.holdoffEnd (s : State) (v : Nat) : State :=
  let s := s.updHost (fun h => { h with holdoff := h.holdoff.filter (fun x => x != v) })
  if s.host.due.contains v && !s.host.d3hot then
    (s.updHost (fun h => { h with due := h.due.filter (fun x => x != v) })).message v
  else s

/-- A write of a doubleword of the MSI-X table; an unmasked vector sends its pending message. -/
def State.msixWrite (s : State) (k value : Nat) : State :=
  let v := k / 4
  let s := s.updHost (fun h => { h with msix := SMap.set (msixReset k) h.msix k (if k % 4 = 3 then value % 2 else value % 2 ^ 32) })
  if s.host.msixPending.contains v && !s.masked v then
    (s.updHost (fun h => { h with msixPending := h.msixPending.filter (fun x => x != v) })).message v
  else s

/-- The MSI-X table and its pending bits as 64-bit words, by BAR0 offset of the word. -/
def State.msixView (s : State) (off : Nat) : Nat :=
  if off < 0x9000 then
    let k := (off - 0x8000) / 8 * 2
    s.msixWord k + s.msixWord (k + 1) <<< 32
  else maskOf ((s.host.msixPending.filter (fun v => v / 64 == (off - 0x9000) / 8)).map (fun v => v % 64))

/-- Whether an offset lies in the MSI-X table or in the pending-bit array. -/
def isMsix (off : Nat) : Bool := decide (0x8000 ≤ off) && decide (off < 0x9020)

/-! ### Bus errors (R436 to R438) -/

/-- The location at an offset: the offset and width of the register that covers it, and whether it has a writable field. -/
structure Location where
  start : Nat
  wide : Bool
  writable : Bool
  deriving DecidableEq, Repr

/-- The location of an offset; none is reserved. The table entries of MSI-X hold a 64-bit address and two doublewords. -/
def locationAt (off : Nat) : Option Location :=
  if isMsix off then
    if 0x9000 ≤ off then some ⟨off / 8 * 8, true, false⟩
    else if off % 16 < 8 then some ⟨off / 16 * 16, true, true⟩
    else some ⟨off / 4 * 4, false, true⟩
  else
    match locate off with
    | none => none
    | some (r, n) => some ⟨r.addr n, r.wide, r.fields.any (fun f => f.acc == .rw || f.acc == .wo || f.acc == .sq)⟩

/-- A block of snapshots and the number of its units (R460). -/
def snapUnits (block : Nat) : Nat :=
  match block with
  | 0x03 | 0x04 | 0x05 | 0xC0 => 1
  | 0x10 | 0x60 => 512
  | 0x20 => 1024
  | 0xB0 => 8
  | _ => 0

/-- Whether a block code and a unit stand in the table of R460. -/
def snapOk (block unit : Nat) : Bool :=
  if block = 0xD0 then unit == 0xFFF || decide (unit ≤ 3) || (decide (0x100 ≤ unit) && decide (unit ≤ 0x107))
  else decide (0 < snapUnits block) && (unit == 0xFFF || decide (unit < snapUnits block))

/-- The cause of a bus error, 0 for a legal access, in the order of R438. -/
def busCause (write : Bool) (a : Access) : Nat :=
  if !(a.len == 4 && a.be == 15 || a.len == 8 && a.be == 255) then 1
  else if a.off % a.len != 0 then 2
  else
    match locationAt a.off with
    | none => 4
    | some l =>
      if a.len = 8 && !(l.wide && l.start == a.off) then 3
      else if write && !l.writable then 5
      else if write && a.off == 0x18 && !snapOk (bits a.value.toNat 23 16) (bits a.value.toNat 11 0) then 6
      else 0

/-- A bus error is logged (R437, R438). -/
def State.busError (s : State) (write : Bool) (cause : Nat) (a : Access) : State :=
  let count := min 255 (s.fld R.DEV_BUSERR_INFO_COUNT 0 + 1)
  let s := s.setReg R.DEV_BUSERR_INFO 0
    ((a.requester % 65536) <<< 16 + count <<< 8 + ofFlag write <<< 7 + cause <<< 4 + a.be % 16)
  let s := s.setReg R.DEV_BUSERR_ADDR 0 (a.off % 2 ^ 25)
  s.raiseAt EV_BUSERR 0 0 [s.reg R.DEV_BUSERR_ADDR 0, s.reg R.DEV_BUSERR_INFO 0]

/-! ### Reads (R440, R441, R406) -/

/-- Loads the latch of a register. -/
def State.loadLatch (s : State) (off v : Nat) : State := s.updHost (fun h => { h with latch := SMap.set 0 h.latch off v })

/-- The latch of a register. -/
def State.latched (s : State) (off : Nat) : Nat := SMap.get 0 s.host.latch off

/-- A legal read of `len` bytes at an offset: the value, and the state after the effects of the read. -/
def State.readBar (s : State) (off len : Nat) : Nat × State :=
  if isMsix off then
    let w := s.msixView (off / 8 * 8)
    (if len = 8 then w else if off % 8 = 4 then w / 2 ^ 32 else w % 2 ^ 32, s)
  else
    match locate off with
    | none => (0, s)
    | some (r, n) =>
      let start := r.addr n
      let high := off == start + 4
      let cut := fun (w : Nat) => if len = 8 then w else if high then w / 2 ^ 32 else w % 2 ^ 32
      let isNs := r.base == 0x40000 || r.base == 0x42010
      if r.base = 0x40008 || r.base = 0x42018 then (cut (s.latched start), s)
      else if isNs || r.base == 0x50010 || r.base == 0xC00008 then
        if high then (s.latched start, s)
        else
          let w := s.view r n
          let s := s.loadLatch start (w / 2 ^ 32)
          let s := if r.base = 0x40000 then s.loadLatch (R.TIME_TB_SEC.addr n) (s.view R.TIME_TB_SEC n)
            else if r.base = 0x42010 then s.loadLatch (R.TIME_TIN_CAP_SEC.addr n) (s.view R.TIME_TIN_CAP_SEC n)
            else if r.base = 0xC00008 then { s with minFree := s.freeCells }
            else s
          (cut w, s)
      else (cut (s.view r n), s)

/-! ### Sequence-cleared status (R439) -/

/-- A write-back of an SQ register with the companions of its bits. -/
def State.writeBack (s : State) (r : RegSpec) (n value : Nat) : State :=
  let old := s.reg r n
  if bits value 31 24 != bits old 31 24 then s
  else
    let clear := r.fields.foldl (fun m f => if f.acc == .sq && f.hi < 24 then m ||| (bits value f.hi f.lo) <<< f.lo else m) 0
    let s := s.setReg r n (old &&& ((2 ^ 32 - 1) - clear))
    if r = R.DEV_EVT && clear.testBit 0 then s.setFld R.DEV_BUSERR_INFO_COUNT 0 0
    else if r = R.PORT_EVT && clear.testBit 7 then s.setFld R.PORT_CTR_HALF_HALF n 0
    else s

/-! ### Rings (R50 to R54, R312, R399, R444, R448) -/

/-- Whether a size is one that a ring takes: 0, or a power of two from `lo` to `hi`. -/
def ringSizeOk (lo hi v : Nat) : Bool := v == 0 || (decide (lo ≤ v) && decide (v ≤ hi) && v == 2 ^ (Nat.log2 v))

/-- The distance of two free-running 16-bit indices. -/
def idxDist (a b : Nat) : Nat := (a + 65536 - b) % 65536

/-- Whether an order queue is idle (R52). -/
def State.oqIdle (s : State) (n : Nat) : Bool :=
  s.fld R.ORD_OQ_TAIL_TAIL n == s.fld R.ORD_OQ_HEAD_HEAD n && (SMap.find s.bureau.slots n).isNone

/-- A doorbell of an order queue (R52, R53). -/
def State.oqTail (s : State) (n v : Nat) : State :=
  if s.fld R.ORD_OQ_SIZE_SIZE n < idxDist (v % 65536) (s.fld R.ORD_OQ_HEAD_HEAD n) then s.raiseOf EV_ORD_RING n
  else (s.setFld R.ORD_OQ_TAIL_TAIL n v).setFlag R.ORD_OQ_STAT_HALTED n false

/-- A write of BASE, SIZE or CPL_BASE of an order queue (R52). -/
def State.oqSetup (s : State) (n : Nat) (reg : RingReg) (v : Nat) : State :=
  if !s.oqIdle n then s.raiseOf EV_ORD_RING n
  else
    match reg with
    | .base => s.setFld R.ORD_OQ_BASE_BASE n (v / 16)
    | .cplBase => s.setFld R.ORD_OQ_CPL_BASE_BASE n (v / 32)
    | .size =>
      if ringSizeOk 16 4096 (v % 2 ^ 13) then s.setFld R.ORD_OQ_SIZE_SIZE n v else s.raiseOf EV_ORD_RING n

/-- A write of the completion head of an order queue. -/
def State.oqCplHead (s : State) (n v : Nat) : State := s.setFld R.ORD_OQ_CPL_HEAD_CPL_HEAD n v

/-- A doorbell of a packet ring. -/
def State.ringTail (s : State) (n v : Nat) : State :=
  if s.fld R.HDMA_RING_SIZE_SIZE n < idxDist (v % 65536) (s.fld R.HDMA_RING_HEAD_HEAD n) then s.raiseOf EV_HDMA_RING n
  else (s.setFld R.HDMA_RING_TAIL_TAIL n v).setFlag R.HDMA_RING_STAT_HALTED n false

/-- A write of BASE or SIZE of a packet ring. -/
def State.ringSetup (s : State) (n : Nat) (reg : RingReg) (v : Nat) : State :=
  if s.fld R.HDMA_RING_TAIL_TAIL n != s.fld R.HDMA_RING_HEAD_HEAD n then s.raiseOf EV_HDMA_RING n
  else
    match reg with
    | .base => s.setFld R.HDMA_RING_BASE_BASE n (v / 64)
    | .size => if ringSizeOk 16 4096 (v % 2 ^ 13) then s.setFld R.HDMA_RING_SIZE_SIZE n v else s.raiseOf EV_HDMA_RING n
    | .cplBase => s

/-- A doorbell of the shadow ring. -/
def State.shadowTail (s : State) (v : Nat) : State :=
  if s.fld R.TBL_SHADOW_SIZE_SIZE 0 < idxDist (v % 65536) (s.fld R.TBL_SHADOW_HEAD_HEAD 0) then s.raise EV_SHADOW_RING 0
  else s.setFld R.TBL_SHADOW_TAIL_TAIL 0 v

/-- A write of BASE or SIZE of the shadow ring. -/
def State.shadowSetup (s : State) (reg : RingReg) (v : Nat) : State :=
  if s.fld R.TBL_SHADOW_TAIL_TAIL 0 != s.fld R.TBL_SHADOW_HEAD_HEAD 0 then s.raise EV_SHADOW_RING 0
  else
    match reg with
    | .base => s.setFld R.TBL_SHADOW_BASE_BASE 0 (v / 16)
    | .size => if ringSizeOk 16 256 (v % 2 ^ 9) then s.setFld R.TBL_SHADOW_SIZE_SIZE 0 v else s.raise EV_SHADOW_RING 0
    | .cplBase => s

/-- A write of SIZE of the event ring (R444). -/
def State.evrSize (s : State) (v : Nat) : State :=
  let v := v % 2 ^ 15
  if v = 0 then ({ s with evq := [] }.setFld R.HDMA_EVR_SIZE_SIZE 0 0).updHost (fun h => { h with lost := 0 })
  else if !ringSizeOk 256 16384 v || s.fld R.HDMA_EVR_SIZE_SIZE 0 != 0 then s.raise EV_HDMA_EVR_RING 0x080
  else ((s.setFld R.HDMA_EVR_SIZE_SIZE 0 v).setFld R.HDMA_EVR_TAIL_TAIL 0 0).setFld R.HDMA_EVR_HEAD_HEAD 0 0

/-- A write of BASE of the event ring. -/
def State.evrBase (s : State) (v : Nat) : State :=
  if s.fld R.HDMA_EVR_SIZE_SIZE 0 != 0 then s.raise EV_HDMA_EVR_RING 0x080 else s.setFld R.HDMA_EVR_BASE_BASE 0 (v / 64)

/-- A write of HEAD of the event ring: it may not pass TAIL. -/
def State.evrHead (s : State) (v : Nat) : State :=
  let head := s.fld R.HDMA_EVR_HEAD_HEAD 0
  if idxDist (s.fld R.HDMA_EVR_TAIL_TAIL 0) head < idxDist (v % 65536) head then s.raise EV_HDMA_EVR_RING 0x080
  else s.setFld R.HDMA_EVR_HEAD_HEAD 0 v

/-- A write of RD of a timestamp FIFO (R399). -/
def State.tsfRead (s : State) (p v : Nat) : State :=
  let rd := s.fld R.PORT_TSF_RD_RD p
  if idxDist (s.fld R.PORT_TSF_WR_WR p) rd < idxDist (v % 65536) rd then s.raiseOf EV_TSF_RING p
  else s.setFld R.PORT_TSF_RD_RD p v

/-! ### Snapshots (R459 to R461) -/

/-- A snapshot request for the edge that comes, or for the one after its cutoff. -/
def State.snapAsk (s : State) (block unit : Nat) : State :=
  let q := if s.epoch.cutoffDone then s.epoch.snapNext else s.epoch.snapNow
  if q.contains (block, unit) then s
  else if 256 ≤ q.length then s.raise EV_SNAP_OVF 0
  else
    let q := q ++ [(block, unit)]
    { s with epoch := if s.epoch.cutoffDone then { s.epoch with snapNext := q } else { s.epoch with snapNow := q } }

/-- Copies instances of a counter register into its holding register. -/
def State.snapRegs (src dst : RegSpec) (first count : Nat) (s : State) : State :=
  (List.range count).foldl (fun s i => s.setReg dst (first + i) (s.view src (first + i))) s

/-- The counters of a range of queues held (R461). -/
def State.snapQueues (s : State) (u : Nat) : State :=
  let s := { s with regs := s.regs.filter (fun e => (R.HOLD_TM_Q.instanceAt e.1).isNone) }
  let s := (s.queues.filter (fun e => e.1 / 16384 == u)).foldl (fun s e =>
    ([e.2.enqueued, e.2.sent, e.2.octets, e.2.dropped].zipIdx).foldl (fun s c =>
      s.setReg R.HOLD_TM_Q (4 * (e.1 % 16384) + c.2) c.1) s) s
  s.setFld R.TM_HOLD_SEL_QUEUES 0 u

/-- The counters of a pipeline's meters held (R461). -/
def State.snapMeters (s : State) (pl : Nat) : State :=
  let s := { s with regs := s.regs.filter (fun e => (R.HOLD_TM_M.instanceAt e.1).isNone) }
  let s := (s.meters.filter (fun e => e.1 / 16384 == pl)).foldl (fun s e =>
    (e.2.counts.zipIdx).foldl (fun s c => s.setReg R.HOLD_TM_M (6 * (e.1 % 16384) + c.2) c.1) s) s
  s.setFld R.TM_HOLD_SEL_METERS 0 pl

/-- One unit of a block copies its counters. -/
def State.snapUnit (s : State) (block u : Nat) : State :=
  match block with
  | 0x03 => s.snapRegs R.HDMA_CTR R.HOLD_HDMA_CTR 0 8
  | 0x04 =>
    ((s.snapRegs R.TIME_TPO_MISSED R.HOLD_TIME_TPO_MISSED 0 16).snapRegs R.TIME_TIN_EDGES R.HOLD_TIME_TIN_EDGES 0 4).snapRegs
      R.TIME_TIN_REJECTED R.HOLD_TIME_TIN_REJECTED 0 4
  | 0x05 => s.snapRegs R.PAIR_CTR R.HOLD_PAIR_CTR 0 8
  | 0x10 =>
    ((s.snapRegs R.LANE_CHK_BITS R.HOLD_LANE_CHK_BITS u 1).snapRegs R.LANE_CHK_ERRS R.HOLD_LANE_CHK_ERRS u 1).snapRegs
      R.LANE_INJ_COUNT R.HOLD_LANE_INJ_COUNT u 1
  | 0x20 =>
    let s := (s.snapRegs R.PORT_CTR R.HOLD_PORT_CTR (64 * u) 64).snapRegs R.PORT_TSF_OVF R.HOLD_PORT_TSF_OVF u 1
    if isChannel u then
      (s.snapRegs R.PORT_CHAN_HDR_ERR R.HOLD_PORT_CHAN_HDR_ERR (u - 512) 1).snapRegs R.PORT_CHAN_SYNC_LOSS
        R.HOLD_PORT_CHAN_SYNC_LOSS (u - 512) 1
    else s
  | 0x60 =>
    let s := s.snapRegs R.STF_CTR R.HOLD_STF_CTR (32 * u) 32
    let s := (s.snapRegs R.STF_TU_BIP R.HOLD_STF_TU_BIP (78 * u) 78).snapRegs R.STF_TU_REI R.HOLD_STF_TU_REI (78 * u) 78
    let s := (s.snapRegs R.STF_TU_PJ_RX R.HOLD_STF_TU_PJ_RX (78 * u) 78).snapRegs R.STF_TU_PJ_TX R.HOLD_STF_TU_PJ_TX (78 * u) 78
    s.snapRegs R.STF_TU_PTR_CTR R.HOLD_STF_TU_PTR_CTR (78 * u) 78
  | 0xB0 => (s.snapRegs R.PIPE_CTR R.HOLD_PIPE_CTR (32 * u) 32).snapRegs R.TBL_CTR R.HOLD_TBL_CTR (16 * u) 16
  | 0xC0 => s.snapRegs R.CELL_CTR R.HOLD_CELL_CTR 0 32
  | 0xD0 =>
    let s := s.snapRegs R.TM_CTR R.HOLD_TM_CTR 0 16
    if u ≤ 3 then s.snapQueues u else if 0x100 ≤ u && decide (u ≤ 0x107) then s.snapMeters (u - 0x100) else s
  | _ => s

/-- A snapshot request is served at an edge. -/
def State.snapServe (s : State) (r : Nat × Nat) : State :=
  if r.2 = 0xFFF && r.1 != 0xD0 then (List.range (snapUnits r.1)).foldl (fun s u => s.snapUnit r.1 u) s
  else s.snapUnit r.1 r.2

/-- The snapshots of an edge. -/
def State.snapEdge (s : State) : State :=
  let q := s.epoch.snapNow
  let s := { s with epoch := { s.epoch with snapNow := s.epoch.snapNext, snapNext := [] } }
  if q.isEmpty then s
  else ((q.foldl State.snapServe s).setFld R.DEV_SNAP_EPOCH_EPOCH 0 s.epochNum).raiseAt EV_SNAP_DONE 0 0 [s.epochNum]

/-! ### Writes (R436, R437) -/

/-- The value of a register after a legal write of `len` bytes at an offset within it. -/
def merged (old start off len value : Nat) : Nat :=
  if len = 8 then value
  else if off = start + 4 then (value % 2 ^ 32) <<< 32 + old % 2 ^ 32
  else (old / 2 ^ 32) <<< 32 + value % 2 ^ 32

/-- A legal write of a register takes effect by its fields' classes. -/
def State.writeReg (s : State) (r : RegSpec) (n off len value : Nat) : State :=
  let v := merged (s.reg r n) (r.addr n) off len value
  match r.base with
  | 0x18 => s.snapAsk (bits value 23 16) (bits value 11 0)
  | 0x10000 => s.oqSetup n .base v
  | 0x10008 => s.oqSetup n .size v
  | 0x1000C => s.oqTail n v
  | 0x10018 => s.oqSetup n .cplBase v
  | 0x10020 => s.oqCplHead n v
  | 0xB01810 => s.shadowSetup .base v
  | 0xB01818 => s.shadowSetup .size v
  | 0xB0181C => s.shadowTail v
  | 0x200B18 => s.tsfRead n v
  | 0x30000 => s.evrBase v
  | 0x30008 => s.evrSize v
  | 0x30010 => s.evrHead v
  | 0x31000 => s.ringSetup n .base v
  | 0x31008 => s.ringSetup n .size v
  | 0x3100C => s.ringTail n v
  | _ => if r.wide then s else s.writeBack r n value

/-- A host write (R437): a bus error is logged and the write discarded. -/
def State.hostWrite (s : State) (a : Access) : State :=
  let cause := busCause true a
  if cause != 0 then s.busError true cause a
  else if isMsix a.off then
    let k := (a.off - 0x8000) / 4
    if a.len = 8 then (s.msixWrite k (a.value.toNat % 2 ^ 32)).msixWrite (k + 1) (a.value.toNat / 2 ^ 32)
    else s.msixWrite k a.value.toNat
  else
    match locate a.off with
    | none => s
    | some (r, n) => s.writeReg r n a.off a.len a.value.toNat

/-- A legal read over PCIe: before boot step 6 it returns the register's reset value and has no effect (R469). -/
def State.pcieRead (s : State) (off len : Nat) : Nat × State :=
  if s.fld R.PWR_STAT_BOOT_STEP 0 < 6 then ((State.reset.readBar off len).1, s) else s.readBar off len

/-- A host read: a bus error receives Unsupported Request and is logged. -/
def State.hostRead (s : State) (a : Access) : State :=
  let cause := busCause false a
  if cause != 0 then (s.busError false cause a).emit .unsupported
  else
    let r := s.pcieRead a.off a.len
    r.2.emit (.readData (BitVec.ofNat 64 r.1))

/-! ### Meanings -/

/-- ORD_OQ_TAIL. -/
def execOrdOqTail (n : Fin 16) (value : Word32) (s : State) : Host.Outcome State Fault Refusal :=
  .next (s.awake (fun s => s.oqTail n.val value.toNat))

/-- ORD_OQ_SIZE: a write of BASE, SIZE or CPL_BASE. -/
def execOrdOqSize (n : Fin 16) (reg : RingReg) (value : Word64) (s : State) : Host.Outcome State Fault Refusal :=
  .next (s.awake (fun s => s.oqSetup n.val reg value.toNat))

/-- ORD_OQ_CPL_HEAD. -/
def execOrdOqCplHead (n : Fin 16) (value : Word32) (s : State) : Host.Outcome State Fault Refusal :=
  .next (s.awake (fun s => s.oqCplHead n.val value.toNat))

/-- SEQUENCE_WRITE_BACK: a 4-byte write to an SQ register; an offset that holds none is left alone. -/
def execSequenceWriteBack (off : Nat) (value : Word32) (s : State) : Host.Outcome State Fault Refusal :=
  .next (s.awake (fun s =>
    match locate off with
    | some (r, n) => if r.addr n = off && !r.wide && r.fields.any (fun f => f.acc == .sq) then s.writeBack r n value.toNat else s
    | none => s))

/-- DEV_SNAP_TRIG: a value outside the table of R460 is a bus error. -/
def execDevSnapTrig (value : Word32) (requester : Nat) (s : State) : Host.Outcome State Fault Refusal :=
  .next (s.awake (fun s =>
    s.hostWrite { off := 0x18, len := 4, be := 15, value := BitVec.ofNat 64 value.toNat, requester := requester }))

/-- HDMA_EVR_SIZE. -/
def execHdmaEvrSize (value : Word32) (s : State) : Host.Outcome State Fault Refusal :=
  .next (s.awake (fun s => s.evrSize value.toNat))

/-- HDMA_EVR_BASE. -/
def execHdmaEvrBase (value : Word64) (s : State) : Host.Outcome State Fault Refusal :=
  .next (s.awake (fun s => s.evrBase value.toNat))

/-- HDMA_EVR_HEAD. -/
def execHdmaEvrHead (value : Word32) (s : State) : Host.Outcome State Fault Refusal :=
  .next (s.awake (fun s => s.evrHead value.toNat))

/-- HDMA_RING_TAIL; rings 0 to 63 transmit, 64 to 127 receive. -/
def execHdmaRingTail (ring : Fin 128) (value : Word32) (s : State) : Host.Outcome State Fault Refusal :=
  .next (s.awake (fun s => s.ringTail ring.val value.toNat))

/-- HDMA_RING_SIZE: a write of BASE or SIZE. -/
def execHdmaRingSize (ring : Fin 128) (reg : RingReg) (value : Word64) (s : State) : Host.Outcome State Fault Refusal :=
  .next (s.awake (fun s => s.ringSetup ring.val reg value.toNat))

/-- TBL_SHADOW_TAIL. -/
def execTblShadowTail (value : Word32) (s : State) : Host.Outcome State Fault Refusal :=
  .next (s.awake (fun s => s.shadowTail value.toNat))

/-- TBL_SHADOW_SIZE: a write of BASE or SIZE. -/
def execTblShadowSize (reg : RingReg) (value : Word64) (s : State) : Host.Outcome State Fault Refusal :=
  .next (s.awake (fun s => s.shadowSetup reg value.toNat))

/-- PORT_TSF_RD. -/
def execPortTsfRd (port : Fin 1024) (value : Word32) (s : State) : Host.Outcome State Fault Refusal :=
  .next (s.awake (fun s => s.tsfRead port.val value.toNat))

/-- MSIX_TABLE_WRITE. -/
def execMsixTableWrite (entry : Fin 256) (dword : Fin 4) (value : Word32) (s : State) : Host.Outcome State Fault Refusal :=
  .next (s.awake (fun s => s.msixWrite (4 * entry.val + dword.val) value.toNat))

/-- LH_LOW_WORD_READ: a read of the low word of an LH register, or of the whole register. -/
def execLhLowWordRead (off : Nat) (wide : Bool) (s : State) : Host.Outcome State Fault Refusal :=
  .next (s.awake (fun s =>
    match locate off with
    | some (r, n) =>
      if r.addr n = off && r.fields.any (fun f => f.acc == .lh) then
        let v := s.pcieRead off (if wide then 8 else 4)
        v.2.emit (.readData (BitVec.ofNat 64 v.1))
      else s
    | none => s))

/-- HOST_REGISTER_WRITE. -/
def execHostRegisterWrite (a : Access) (s : State) : Host.Outcome State Fault Refusal :=
  .next (s.awake (fun s => s.hostWrite a))

/-- UNSUPPORTED_REQUEST. -/
def execUnsupportedRequest (a : Access) (s : State) : Host.Outcome State Fault Refusal :=
  .next (s.awake (fun s => s.hostRead a))

/-- HOLDOFF_EXPIRY. -/
def execHoldoffExpiry (vector : Fin 256) (s : State) : Host.Outcome State Fault Refusal :=
  .next (s.awake (fun s => s.holdoffEnd vector.val))

end Sys2Proof.Machine
end

