-- ==== Sys2Proof/Machine/HostDma.lean ====
section
/-! DEFINITION. Packet DMA and the event ring (R178 to R180, R433, R434, R444 to R453): event records, transmit descriptors
with segmentation, receive buffers, and the power states and reset of the PCIe function. -/

namespace Sys2Proof.Machine

/-- Counter `i` of HDMA_CTR advances. -/
def State.dmaCount (s : State) (i k : Nat) : State := s.bump R.HDMA_CTR_COUNT i k

/-! ### Event records (R444, R445) -/

/-- The eight words of an event record. -/
def EventRec.words (r : EventRec) : List Word64 :=
  ([(r.seq % 256) <<< 56 + (r.code % 4096) <<< 44 + (r.unit % 4096) <<< 32 + r.rseq % 2 ^ 32, r.epoch % 2 ^ 48, r.data0] ++
    (List.range 5).map (fun i => r.data.getD i 0)).map (BitVec.ofNat 64)

/-- Whether the event ring has room for a record. -/
def State.evrRoom (s : State) : Bool :=
  idxDist (s.fld R.HDMA_EVR_TAIL_TAIL 0) (s.fld R.HDMA_EVR_HEAD_HEAD 0) != s.fld R.HDMA_EVR_SIZE_SIZE 0

/-- A record is written at TAIL and announced. -/
def State.putRecord (s : State) (r : EventRec) : State :=
  let tail := s.fld R.HDMA_EVR_TAIL_TAIL 0
  let addr := s.fld R.HDMA_EVR_BASE_BASE 0 * 64 + 64 * (tail % s.fld R.HDMA_EVR_SIZE_SIZE 0)
  (((s.emit (.hostWrite addr r.words)).setFld R.HDMA_EVR_TAIL_TAIL 0 (tail + 1)).dmaCount 6 1).announce 0

/-- The loss of records is reported: an EV_EVR_OVF record goes ahead of those that wait. -/
def State.reportLost (s : State) : State :=
  let lost := s.host.lost
  let s := (s.raiseAt EV_EVR_OVF 0 0x080 [lost]).updHost (fun h => { h with lost := 0 })
  match s.evq.getLast? with
  | none => s
  | some r => { s with evq := r :: s.evq.dropLast }

/-- The oldest event record is written, or counted lost where the ring is full. -/
def State.recordWrite (s : State) : State :=
  if s.host.d3hot then s
  else if s.fld R.HDMA_EVR_SIZE_SIZE 0 = 0 then { s with evq := [] }
  else
    let room := s.evrRoom
    let s := if room && s.host.lost != 0 then s.reportLost else s
    match s.evq with
    | [] => s
    | r :: rest =>
      let s := { s with evq := rest }
      if room then s.putRecord r else (s.dmaCount 7 1).updHost (fun h => { h with lost := h.lost + 1 })

/-- EVENT_RECORD_WRITE. -/
def execEventRecordWrite (s : State) : Host.Outcome State Fault Refusal :=
  .next (s.awake State.recordWrite)

/-! ### Segmentation (R178 to R180) -/

/-- A segmentation request as words 2 and 3 of a transmit descriptor give it. -/
structure SegReq where
  template : Nat
  l3Off : Nat
  ipv6 : Bool
  l4Off : Nat
  udp : Bool
  mss : Nat
  payload : Nat
  deriving DecidableEq, Repr

/-- The request of a descriptor. -/
def SegReq.of (w2 w3 : Nat) : SegReq :=
  { template := bits w2 13 0, l3Off := bits w3 63 56, ipv6 := bit w3 47, l4Off := bits w3 55 48, udp := bit w3 46,
    mss := bits w3 45 32, payload := bits w3 18 0 }

/-- Whether the fields of a request are in range (R178). -/
def SegReq.inRange (r : SegReq) : Bool :=
  decide (34 ≤ r.template) && decide (r.template ≤ 256) && decide (14 ≤ r.l3Off) && decide (r.l3Off + 20 ≤ r.template) &&
    decide (r.l3Off + 20 ≤ r.l4Off) && decide (r.l4Off + 8 ≤ r.template) && decide (1 ≤ r.mss) && decide (1 ≤ r.payload) &&
    decide (r.payload ≤ 262144)

/-- Whether the device accepts a request with its template (R179). DEDUCED: an IHL below 5, and a TCP header that the data
offset or its 20 fixed bytes carry beyond the template, are refused. -/
def SegReq.accepted (r : SegReq) (maxFrame : Nat) (template : List Byte) : Bool :=
  let first := byteAt template r.l3Off
  r.inRange && decide (r.template + r.mss + 4 ≤ maxFrame) &&
    (if r.ipv6 then first / 16 == 6 else first / 16 == 4 && decide (5 ≤ first % 16)) &&
    (r.udp || decide (r.l4Off + 4 * max 5 (byteAt template (r.l4Off + 12) / 16) ≤ r.template))

/-- The pseudo-header of a segment. -/
def SegReq.pseudo (r : SegReq) (bs : List Byte) : List Byte :=
  let len := bs.length - r.l4Off
  let proto : Nat := if r.udp then 17 else 6
  if r.ipv6 then (bs.drop (r.l3Off + 8)).take 32 ++ beBytes 4 len ++ beBytes 4 proto
  else (bs.drop (r.l3Off + 12)).take 8 ++ beBytes 2 proto ++ beBytes 2 len

/-- A segment with its network header fixed up; `i` is its number. -/
def SegReq.fixL3 (r : SegReq) (i : Nat) (bs : List Byte) : List Byte :=
  if r.ipv6 then put16 bs (r.l3Off + 4) (bs.length - (r.l3Off + 40))
  else
    let bs := put16 bs (r.l3Off + 2) (bs.length - r.l3Off)
    let bs := put16 bs (r.l3Off + 4) (be16At bs (r.l3Off + 4) + i)
    let bs := put16 bs (r.l3Off + 10) 0
    put16 bs (r.l3Off + 10) (65535 - onesSum ((bs.drop r.l3Off).take (byteAt bs r.l3Off % 16 * 4)))

/-- The TCP sequence number and flags of segment `i` of `n`. -/
def SegReq.fixTcp (r : SegReq) (i n : Nat) (bs : List Byte) : List Byte :=
  let seq := be16At bs (r.l4Off + 4) * 65536 + be16At bs (r.l4Off + 6) + i * r.mss
  let bs := put16 (put16 bs (r.l4Off + 4) (seq / 65536 % 65536)) (r.l4Off + 6) (seq % 65536)
  let f := be16At bs (r.l4Off + 12)
  let f := if i + 1 = n then f else withBits (withBits f 0 0 0) 3 3 0
  put16 bs (r.l4Off + 12) (if i = 0 then f else withBits f 7 7 0)

/-- A segment with its transport header fixed up. -/
def SegReq.fixL4 (r : SegReq) (i n : Nat) (bs : List Byte) : List Byte :=
  let at' := r.l4Off + (if r.udp then 6 else 16)
  let bs := if r.udp then put16 bs (r.l4Off + 4) (bs.length - r.l4Off) else r.fixTcp i n bs
  let bs := put16 bs at' 0
  let sum := 65535 - onesSum (r.pseudo bs ++ bs.drop r.l4Off)
  put16 bs at' (if r.udp && sum == 0 then 65535 else sum)

/-- The frames of an accepted request, without FCS. -/
def SegReq.frames (r : SegReq) (template payload : List Byte) : List (List Byte) :=
  let n := ceilDiv r.payload r.mss
  (List.range n).map (fun i =>
    r.fixL4 i n (r.fixL3 i (template.take r.template ++ (payload.drop (i * r.mss)).take (min r.mss (r.payload - i * r.mss)))))

/-! ### Transmit descriptors (R448 to R450) -/

/-- A transmit descriptor as fetched, its words 0 to 6. -/
structure TxDesc where
  w : Nat → Nat

/-- Fields of word 2. -/
def TxDesc.f (d : TxDesc) (hi lo : Nat) : Nat := bits (d.w 2) hi lo

/-- The egress port of a descriptor. -/
def TxDesc.port (d : TxDesc) : Nat := d.f 63 54

/-- Whether a descriptor asks for segmentation, for the management channel. -/
def TxDesc.seg (d : TxDesc) : Bool := d.f 46 46 == 1
@[inherit_doc TxDesc.seg] def TxDesc.mgmt (d : TxDesc) : Bool := d.f 43 43 == 1

/-- Whether a descriptor is bad (STATUS 0x02); the fields of a segmentation request are tested by R179. -/
def TxDesc.bad (d : TxDesc) (maxFrame : Nat) : Bool :=
  let len := d.f 13 0
  d.f 32 32 != 0 || d.f 15 14 != 0 || bits (d.w 3) 31 19 != 0 || d.w 5 != 0 || d.w 6 != 0 || (!d.seg && d.w 1 != 0) ||
    (d.mgmt && (d.seg || d.f 45 45 == 1 || d.f 44 44 == 1)) || (d.seg && d.f 44 44 == 1) ||
    (if d.mgmt then len == 0 || decide (2048 < len)
      else !d.seg && (decide (len < 14) || decide (maxFrame < len + 4)))

/-- What a frame from host software carries with it. -/
def State.hostInfo (s : State) (frame : List Byte) : FrameInfo :=
  { inPort := 1024, version := s.version, arrived := s.now
    stampFree := (List.range 8).map (fun b => (s.tbGet b).free), stampValue := (List.range 8).map (fun b => (s.tbGet b).value)
    vector := ParseVector.start frame, edits := [], ruleId := 0, meter := none }

/-- One frame of a descriptor is enqueued or refused: whether it was enqueued. -/
def State.hostFrame (s : State) (d : TxDesc) (data : List Byte) : Bool × State :=
  let bytes := data ++ leBytes 4 (crc32 data)
  let c := { Copy.fresh .host bytes.length 0 (s.hostInfo data) with
    stamp := if isChannel d.port || d.f 45 45 == 0 then none else some (d.f 31 16)
    oneStep := if isChannel d.port || d.f 44 44 == 0 then none else some (BitVec.ofNat 64 (d.w 4)) }
  let r := s.tryCopy { port := d.port, qidx := d.f 53 47, copy := c } (ceilDiv bytes.length 256)
  match r.1 with
  | none => (false, r.2)
  | some c =>
    let t := r.2.writeFrame (r.2.quadrantOf d.port) bytes none [(d.port, c)]
    (t.1.isSome, t.2)

/-- The frames of a descriptor in order; whether all were enqueued. -/
def State.hostFrames (d : TxDesc) : List (List Byte) → State → Bool × State
  | [], s => (true, s)
  | f :: fs, s =>
    let r := s.hostFrame d f
    let t := State.hostFrames d fs r.2
    (r.1 && t.1, t.2)

/-- Whether a descriptor's frames meet a port that flushes them (R157, R354). -/
def State.flushes (s : State) (d : TxDesc) : Bool :=
  match s.portLife d.port, s.pickQueue d.port (d.f 53 47) with
  | .off, _ | .stopping, _ | _, none => true
  | _, some q => !s.queueOpen q

/-- Frames of a descriptor that is not bad: its STATUS and what it does. -/
def State.txFrames (s : State) (d : TxDesc) (fs : List (List Byte)) : Nat × State :=
  let flushed := s.flushes d
  let r := State.hostFrames d fs s
  if flushed then (4, r.2) else if r.1 then (0, r.2) else (3, r.2.dmaCount 2 1)

/-- A descriptor with the bytes that it names: its STATUS and what it does. -/
def State.txRun (s : State) (ring : Nat) (d : TxDesc) (frame payload : List Byte) : Nat × State :=
  let p := d.port
  let len := d.f 13 0
  if d.bad (s.fld R.PORT_CFG_MAX_FRAME p) then
    (2, (s.dmaCount 1 1).raiseOnce EV_HDMA_TX_BAD ring ring ring [])
  else if d.mgmt then
    (0, s.updStf (d.f 41 33) (fun x => { x with mgmtQ := x.mgmtQ ++ [headerBytes len ++ frame.take len] }))
  else if d.seg then
    let r := SegReq.of (d.w 2) (d.w 3)
    if !r.accepted (s.fld R.PORT_CFG_MAX_FRAME p) frame then (1, (s.portCount p 56 1).raiseOf EV_PORT_SEG_BAD p)
    else
      let fs := r.frames frame payload
      ((s.portCount p 55 1).portCount p 54 fs.length).txFrames d fs
  else s.txFrames d [frame.take len]

/-- Whether a ring may fetch the descriptor at HEAD. -/
def State.ringReady (s : State) (ring : Nat) : Bool :=
  !s.host.d3hot && s.fld R.HDMA_RING_SIZE_SIZE ring != 0 && s.fld R.HDMA_RING_HEAD_HEAD ring != s.fld R.HDMA_RING_TAIL_TAIL ring &&
    !s.flag R.HDMA_RING_STAT_HALTED ring

/-- The host address of a field of the descriptor at HEAD. -/
def State.ringEntry (s : State) (ring size : Nat) : Nat :=
  s.fld R.HDMA_RING_BASE_BASE ring * 64 + size * (s.fld R.HDMA_RING_HEAD_HEAD ring % s.fld R.HDMA_RING_SIZE_SIZE ring)

/-- The transmit ring whose turn it is (R448): in round robin, the first after the one served last that has a descriptor. -/
def State.txTurn (s : State) : Option Nat := ((List.range 64).map (fun i => (s.host.txLast + 1 + i) % 64)).find? s.ringReady

/-- The transmit descriptor at HEAD of the ring whose turn it is is processed and completes. -/
def State.txDescriptor (s : State) (ring : Nat) (words : List Word64) (frame payload : List Byte) : State :=
  if s.txTurn ≠ some ring then s
  else
    let s := s.updHost (fun h => { h with txLast := ring })
    let d : TxDesc := { w := fun i => (words.getD i 0).toNat }
    let r := s.txRun ring d frame payload
    let s := r.2.dmaCount 0 1
    let s := s.emit (.hostWrite (s.ringEntry ring 64 + 56) [BitVec.ofNat 64 (1 <<< 63 + r.1)])
    let s := s.setFld R.HDMA_RING_HEAD_HEAD ring (s.fld R.HDMA_RING_HEAD_HEAD ring + 1)
    if d.f 42 42 = 1 then s.announce (96 + ring) else s

/-- TX_DESCRIPTOR: the descriptor as fetched, the bytes at ADDR, the payload at PAY_ADDR, and the reference time. -/
def execTxDescriptor (ring : Fin 64) (words : List Word64) (frame payload : List Byte) (time : Nat) (s : State) :
    Host.Outcome State Fault Refusal :=
  .next (s.clocked (fun s => (s.advance time).txDescriptor ring.val words frame payload))

/-- HDMA_FETCH_TIMEOUT. -/
def execHdmaFetchTimeout (ring : Fin 128) (s : State) : Host.Outcome State Fault Refusal :=
  .next (s.awake (fun s =>
    if !s.ringReady ring.val then s
    else
      let s := if ring.val < 64 then s.updHost (fun h => { h with txLast := ring.val }) else s
      (s.setFlag R.HDMA_RING_STAT_HALTED ring.val true).raiseOf EV_HDMA_FETCH ring.val))

/-! ### Receive rings (R451 to R453) -/

/-- The record ahead of a received frame (R452). -/
def HostFrame.record (f : HostFrame) : List Word64 :=
  let t := tbSplit f.stamp
  [f.kind <<< 60 + f.cause <<< 57 + f.source <<< 47 + f.endNode <<< 39 + f.ruleId,
    f.bytes.length <<< 50 + f.version <<< 42 + f.pipe <<< 39 + f.tb <<< 36,
    if f.kind = 2 then 0 else (t.1 % 65536) <<< 48 + t.2.1 <<< 16 + t.2.2, 0].map (BitVec.ofNat 64)

/-- A frame for a receive ring is discarded: 1 no buffer, 2 too big. -/
def State.rxDrop (s : State) (ring : Nat) (f : HostFrame) (reason : Nat) : State :=
  let s :=
    if f.kind = 2 then (s.bump R.STF_CTR_COUNT (32 * f.source + 12) 1).raiseOnce EV_STF_MGMT_DROP f.source f.source f.source []
    else s.dmaCount (3 + reason) 1
  s.raiseOnce EV_HDMA_RX_NOBUF (64 + ring) (64 + ring) (64 + ring) [reason]

/-- A frame is written to the buffer at HEAD. -/
def State.rxWrite (s : State) (ring addr : Nat) (f : HostFrame) : State :=
  let n := 32 + f.bytes.length
  let s := (s.emit (.hostWrite addr f.record)).emit (.hostBytes (addr + 32) f.bytes)
  let s := s.emit (.hostBytes (s.ringEntry (64 + ring) 16 + 12) (leBytes 4 (1 <<< 31 + n)))
  let s := s.setFld R.HDMA_RING_HEAD_HEAD (64 + ring) (s.fld R.HDMA_RING_HEAD_HEAD (64 + ring) + 1)
  let s := s.dmaCount 3 1
  (if f.kind = 2 then s.bump R.STF_CTR_COUNT (32 * f.source + 11) 1 else s).announce (32 + ring)

/-- The oldest frame of a receive ring is delivered or discarded; `addr` and `len` are those of the buffer at HEAD. -/
def State.rxDeliver (s : State) (ring addr len : Nat) : State :=
  match SMap.get [] s.hostRx ring with
  | [] => s
  | f :: rest =>
    if s.host.d3hot then s
    else
      let s := { s with hostRx := SMap.set [] s.hostRx ring rest }
      if !s.ringReady (64 + ring) then s.rxDrop ring f 1
      else if len < 32 + f.bytes.length then s.rxDrop ring f 2
      else s.rxWrite ring addr f

/-- HOST_RX_DELIVERY: `addr` and `bufLen` are ADDR and BUF_LEN of the buffer descriptor at HEAD, if one is posted. -/
def execHostRxDelivery (ring : Fin 64) (addr : Word64) (bufLen : BitVec 16) (s : State) : Host.Outcome State Fault Refusal :=
  .next (s.awake (fun s => s.rxDeliver ring.val addr.toNat bufLen.toNat))

/-! ### The function's power states and reset (R433, R434) -/

/-- D3HOT_ENTRY. -/
def execD3hotEntry (s : State) : Host.Outcome State Fault Refusal :=
  .next (s.awake (fun s => s.updHost (fun h => { h with d3hot := true })))

/-- D0_RETURN: what fell due is announced. -/
def execD0Return (s : State) : Host.Outcome State Fault Refusal :=
  .next (s.awake (fun s =>
    let s := s.updHost (fun h => { h with d3hot := false })
    let now := s.host.due.filter (fun v => !s.host.holdoff.contains v)
    now.foldl State.message (s.updHost (fun h => { h with due := h.due.filter (fun v => h.holdoff.contains v) }))))

/-- SIZE and the indices of the order, packet, event and shadow rings return to 0. -/
def State.clearRings (s : State) : State :=
  let s := (List.range 16).foldl (fun s n => ((((s.setFld R.ORD_OQ_SIZE_SIZE n 0).setFld R.ORD_OQ_TAIL_TAIL n 0).setFld
    R.ORD_OQ_HEAD_HEAD n 0).setFld R.ORD_OQ_CPL_TAIL_CPL_TAIL n 0).setFld R.ORD_OQ_CPL_HEAD_CPL_HEAD n 0) s
  let s := (List.range 128).foldl (fun s n => ((s.setFld R.HDMA_RING_SIZE_SIZE n 0).setFld R.HDMA_RING_TAIL_TAIL n 0).setFld
    R.HDMA_RING_HEAD_HEAD n 0) s
  let s := ((s.setFld R.HDMA_EVR_SIZE_SIZE 0 0).setFld R.HDMA_EVR_TAIL_TAIL 0 0).setFld R.HDMA_EVR_HEAD_HEAD 0 0
  ((s.setFld R.TBL_SHADOW_SIZE_SIZE 0 0).setFld R.TBL_SHADOW_TAIL_TAIL 0 0).setFld R.TBL_SHADOW_HEAD_HEAD 0 0

/-- What a function level reset leaves of a host bundle: one in progress runs on for nobody. -/
def Bundle.forsake (b : Bundle) : Bundle := { b with orphan := true }

/-- A function level reset (R434). A host bundle that waits for its start has not begun and goes with its ring. -/
def State.functionReset (s : State) : State :=
  let s := s.clearRings.setFlag R.TBL_SHADOW_STAT_RUNNING 0 false
  let slots := s.bureau.slots.filter (fun e => !(decide (e.1 < 16) && e.2.phase == .waiting))
  { s with
    evq := []
    shadow := none
    bureau := { s.bureau with slots := slots.map (fun (e : Nat × Bundle) => (e.1, if e.1 < 16 then e.2.forsake else e.2)) }
    host := { s.host with msix := [], msixPending := [], holdoff := [], due := [], d3hot := false, lost := 0 } }

/-- FUNCTION_LEVEL_RESET. -/
def execFunctionLevelReset (s : State) : Host.Outcome State Fault Refusal :=
  .next (s.awake State.functionReset)

end Sys2Proof.Machine
end

