-- ==== Sys2Proof/Machine/Power.lean ====
section
/-! DEFINITION. Limits, Sprint, trip, freeze and JTAG (R477 to R492), and the pins that a failing device gives up (R427). -/

namespace Sys2Proof.Machine

/-! ### Failure pins (R427) -/

/-- PAIR_FAIL is driven and TXSEL is deasserted. -/
def State.failPins (s : State) : State :=
  ((s.setFlag R.PAIR_STAT_FAIL_OUT 0 true).setFld R.PAIR_STAT_TXSEL 0 0).updPair (fun q => { q with txOn := false, txOff := false })

/-! ### Sprint (R477 to R481) -/

/-- The pipelines' frames of the epoch just ended. -/
def State.arrivalsOf (s : State) (pl : Nat) : Nat := SMap.get 0 s.power.arrivals pl

/-- The Normal capacity of an epoch, in frames of one pipeline. -/
def epochCapacity : Nat := 1450000

/-- CREDIT in microseconds. -/
def State.creditUs (s : State) : Nat := s.power.credit / (4 * 65536000)

/-- The core clock is to go to a step: STEPPING is 1 while it is not there. -/
def State.aimClock (s : State) (target : Nat) : State :=
  (s.updPower (fun q => { q with target := target })).setFlag R.PWR_SPRINT_STAT_STEPPING 0 (s.fld R.PWR_SPRINT_STAT_CLOCK 0 != target)

/-- Sprint reaches Off. -/
def State.sprintOff (s : State) : State := (s.lifeEnd R.PWR_SPRINT_STAT_LC 0 .off).raise EV_SPRINT_STATE 0

/-- Whether the clock is above, or on its way above, 1.45 GHz. -/
def State.sprinting (s : State) : Bool := s.fld R.PWR_SPRINT_STAT_CLOCK 0 != 0 || s.power.target != 0

/-- An exit begins for a reason (R479): the clock descends. An exit that has begun keeps its code. -/
def State.sprintExit (s : State) (code : Nat) : State :=
  if s.power.target = 0 then s
  else
    let s := (s.setFld R.PWR_SPRINT_STAT_LAST_END 0 code).aimClock 0
    let s := s.updPower (fun q => { q with crowded := 0, low := 0 })
    s.raiseAt EV_SPRINT_END 0 0 [code]

/-- A Stopping Sprint ends when the clock is at 1.45 GHz. -/
def State.settleSprint (s : State) : State :=
  if s.life R.PWR_SPRINT_STAT_LC 0 == .stopping && s.fld R.PWR_SPRINT_STAT_CLOCK 0 == 0 then s.sprintOff else s

/-- A request for Sprint (R477). -/
def State.askSprint (s : State) (enable : Bool) : State :=
  let s := s.lifeAsk R.PWR_SPRINT_STAT_LC 0 enable
  if s.life R.PWR_SPRINT_STAT_LC 0 == .stopping then (s.sprintExit 4).settleSprint else s

/-- Sprint at an epoch edge: Starting ends, and the counts of the epoch lead to engagement or to an exit (R478, R479). Engagement starts at an
edge that ends enough epochs over capacity and at which CREDIT and Tj allow it. -/
def State.sprintEdge (s : State) : State :=
  let counts := (List.range 8).map s.arrivalsOf
  let on := s.life R.PWR_SPRINT_STAT_LC 0 == .on
  let s := s.updPower (fun q => { q with arrivals := [] })
  let s := if s.life R.PWR_SPRINT_STAT_LC 0 == .starting then
      let s := (s.lifeEnd R.PWR_SPRINT_STAT_LC 0 .on).raise EV_SPRINT_STATE 0
      if s.life R.PWR_SPRINT_STAT_LC 0 == .stopping then s.settleSprint else s
    else s
  let clock := s.fld R.PWR_SPRINT_STAT_CLOCK 0
  let crowded := counts.any (fun n => decide (epochCapacity < n))
  let low := counts.all (fun n => decide (n * 100 ≤ epochCapacity * s.fld R.PWR_SPRINT_CFG_LOW_PCT 0))
  let slow := on && s.life R.PWR_SPRINT_STAT_LC 0 == .on && clock == 0 && s.power.target == 0
  let fit := slow && decide (s.fld R.PWR_SPRINT_CFG_RE_CREDIT_S 0 * 1000000 ≤ s.creditUs) && decide (s.sfld R.PWR_THERM_TJ 0 < 95 * 16)
  let s := s.updPower (fun q => { q with
    crowded := if crowded && slow then q.crowded + 1 else 0
    low := if low && clock == 2 then q.low + 1 else 0 })
  if s.power.credit = 0 && s.sprinting then s.sprintExit 1
  else if clock = 2 && decide (s.fld R.PWR_SPRINT_CFG_REL_EPOCHS 0 ≤ s.power.low) then s.sprintExit 5
  else if fit && decide (s.fld R.PWR_SPRINT_CFG_ENG_EPOCHS 0 ≤ s.power.crowded) then
    (s.aimClock 2).raise EV_SPRINT_START 0
  else s

/-- Whether the core clock may step now (R43, R480): 20 µs to 105 µs after an edge and not within 20 µs of the coming one, and
1 ms after the last step. -/
def State.mayStep (s : State) : Bool :=
  let since := (s.tbGet 0).free - s.epoch.lastAt
  decide (20000 * nsUnits ≤ since) && decide (since ≤ 105000 * nsUnits) &&
    decide (20000 * nsUnits ≤ s.epoch.target - (s.tbGet 0).value) &&
    (s.power.stepped == 0 || decide (s.power.stepped + 1000000 * 65536 ≤ s.now))

/-- The core clock moves one step towards its aim; a step that may not be made now waits. -/
def State.clockStep (s : State) : State :=
  let clock := s.fld R.PWR_SPRINT_STAT_CLOCK 0
  if clock = s.power.target || !s.mayStep then s
  else
    let next := if clock < s.power.target then clock + 1 else clock - 1
    let s := (s.setFld R.PWR_SPRINT_STAT_CLOCK 0 next).updPower (fun q => { q with stepped := s.now })
    (s.setFlag R.PWR_SPRINT_STAT_STEPPING 0 (next != s.power.target)).settleSprint

/-- SPRINT_CLOCK_STEP, at a reference time. -/
def execSprintClockStep (time : Nat) (s : State) : Host.Outcome State Fault Refusal :=
  .next (s.clocked (fun s => (s.advance time).clockStep))

/-- CREDIT_EXHAUSTED, at a reference time: Sprint exits where CREDIT is 0 by then. -/
def execCreditExhausted (time : Nat) (s : State) : Host.Outcome State Fault Refusal :=
  .next (s.clocked (fun s =>
    let s := s.advance time
    if s.power.credit = 0 then s.sprintExit 1 else s))

/-! ### Trip (R485) -/

/-- The frames in flight and in the buffer are lost. -/
def State.loseFrames (s : State) : State :=
  { s with
    queues := s.queues.map (fun (e : Nat × Queue) => (e.1, { e.2 with copies := [] }))
    ports := s.ports.map (fun (e : Nat × Port) =>
      (e.1, { e.2 with input := [], arriving := none, sending := none, control := [] }))
    scans := [] }

/-- Every lane that is not Off receives a device disable, and is Dark. -/
def State.darkLanes (s : State) : State :=
  (List.range 512).foldl (fun s n =>
    if s.life R.LANE_STAT_LC n == .off then s else (s.lifeForce R.LANE_STAT_LC n).laneOut n) s

/-- A trip for a cause. Sprint goes to Off. -/
def State.trip (s : State) (cause : Nat) : State :=
  if s.flag R.PWR_STAT_TRIPPED 0 then s
  else
    let s := s.failPins.loseFrames
    let s := s.livePorts.foldl State.forcePort s
    let s := s.darkLanes
    let s := (s.setFlag R.PWR_STAT_TRIPPED 0 true).setFld R.PWR_STAT_TRIP_CAUSE 0 cause
    let s := s.raiseAt EV_THERM_TRIP 0 0 [cause]
    let s := s.sprintExit 6
    if s.life R.PWR_SPRINT_STAT_LC 0 == .off then s
    else ((s.setFld R.PWR_SPRINT_STAT_LC 0 0).aimClock (s.fld R.PWR_SPRINT_STAT_CLOCK 0)).raise EV_SPRINT_STATE 0

/-! ### Temperature and current (R483, R484) -/

/-- A new Tj in 1/16 °C: the readings, the alert, and what high temperature leads to. -/
def State.temperature (s : State) (tj : Int) : State :=
  let s := s.setFld R.PWR_THERM_TJ 0 (unsigned 16 tj)
  let s := if s.sfld R.PWR_THERM_TJ_PEAK 0 < tj then s.setFld R.PWR_THERM_TJ_PEAK 0 (unsigned 16 tj) else s
  let limit : Int := (s.fld R.PWR_THERM_CFG_ALERT_C 0 : Nat)
  let alert := s.flag R.PWR_STAT_ALERT 0
  let s :=
    if !alert && decide (limit * 16 ≤ tj) then (s.setFlag R.PWR_STAT_ALERT 0 true).raise EV_THERM_ALERT 0
    else if alert && decide (tj ≤ (limit - 3) * 16) then s.setFlag R.PWR_STAT_ALERT 0 false
    else s
  let s := if decide (100 * 16 ≤ tj) && s.sprinting then s.sprintExit 2 else s
  let s := s.updPower (fun q => { q with hot := if decide (115 * 16 ≤ tj) then q.hot + 1 else 0 })
  if 2 ≤ s.power.hot then s.trip 1 else s

/-- A sample of the 24 sensors, in 1/16 °C; none is a sensor that fails its self-check. -/
def State.tjSample (s : State) (readings : List (Option Int)) : State :=
  let valid := (readings.take 24).filterMap id
  let s := s.setFld R.PWR_STAT_BAD_SENSORS 0 (24 - valid.length)
  let s := match valid with
    | [] => s
    | r :: rest => s.temperature (rest.foldl max r)
  if valid.length < 12 then s.trip 1 else s

/-- TJ_SAMPLE. -/
def execTjSample (readings : List (Option Int)) (s : State) : Host.Outcome State Fault Refusal :=
  .next (s.awake (fun s => s.tjSample readings))

/-- A sample of the core current in amperes, every microsecond. -/
def State.icoreSample (s : State) (amperes : Nat) : State :=
  let i := min 1023 amperes
  let s := s.setFld R.PWR_ICORE_I 0 i
  let s := if s.fld R.PWR_ICORE_I_PEAK 0 < i then s.setFld R.PWR_ICORE_I_PEAK 0 i else s
  let high := decide (560 ≤ i)
  let slow := s.fld R.PWR_SPRINT_STAT_CLOCK 0 == 0
  let s := if high && s.sprinting then s.sprintExit 3 else s
  let s := s.updPower (fun q => { q with surge := if high && slow then q.surge + 1 else 0 })
  if s.power.surge = 1000 && !s.flag R.PWR_STAT_TRIPPED 0 then (s.raise EV_ICORE_HIGH 0).trip 2 else s

/-- ICORE_SAMPLE. -/
def execIcoreSample (amperes : Nat) (s : State) : Host.Outcome State Fault Refusal :=
  .next (s.awake (fun s => s.icoreSample amperes))

/-- SUPPLY_FAULT: the trip's actions with cause 3, and the device holds itself in reset. -/
def execSupplyFault (s : State) : Host.Outcome State Fault Refusal :=
  .next (s.awake (fun s => (s.trip 3).updPower (fun q => { q with supplyFault := true })))

/-! ### Freeze (R486 to R491) -/

/-- The lengths of the 40 sections of a Dustsheet image in bytes: free multiples of 64 that leave the image within 64 MiB. -/
def sectionLens : List Nat :=
  let ls := (List.range 40).map (fun i => 64 * (Config.sectionBlocks i).toNat)
  if 64 + 640 + ls.sum + 8 ≤ 2 ^ 26 then ls else List.replicate 40 0

/-- TOTAL_LEN of a Dustsheet image. -/
def imageLen : Nat := 64 + 640 + sectionLens.sum + 8

/-- The words of a Dustsheet image before its CRC: header, directory, and sections whose words are free (R490, R491). -/
def Frozen.words (f : Frozen) : List Word64 :=
  let t := tbSplit f.tb0
  let header := [0x44535448 <<< 32 + 1 <<< 24 + f.cause <<< 16 + 40, Config.serial.toNat, f.epoch, t.1, t.2.1 <<< 16 + t.2.2,
    imageLen <<< 32, 0, 0].map (BitVec.ofNat 64)
  let directory := (sectionLens.zipIdx).flatMap (fun l =>
    [BitVec.ofNat 64 (l.2 <<< 56 + l.1), BitVec.ofNat 64 (Config.islandCycles f.key l.2).toNat])
  header ++ directory ++ (sectionLens.zipIdx).flatMap (fun l =>
    (List.range (l.1 / 8)).map (fun i => Config.sectionWord f.key l.2 i))

/-- A Dustsheet image: its words and 8 bytes with the CRC-32C of every byte before. -/
def Frozen.image (f : Frozen) : List Byte :=
  let body := wordsToBytes f.words
  body ++ leBytes 8 (crc32c body)

/-- The device freezes: pins, transmitters and read-out mode (R488). CAUSE has bit 2 where a trip is latched. -/
def State.freeze (s : State) (cause : Nat) : State :=
  let s := s.failPins
  let s := (List.range 512).foldl (fun s n => s.setFld R.LANE_STAT_TX_PWR n 1) s
  (s.updPower (fun q => { q with
    frozen := some { cause := cause, epoch := s.epochNum, tb0 := (s.tbGet 0).value, key := s.free }, imageWord := 0 })).drawn

/-- Whether a freeze request is honoured (R486). -/
def State.freezeAllowed (s : State) : Bool := s.otp.freeze && s.power.permitted

/-- FREEZE_N_ASSERTED; `trip` says that a trip coincides, and then takes only its pin actions. -/
def execFreezeNAsserted (trip : Bool) (s : State) : Host.Outcome State Fault Refusal :=
  .next (s.awake (fun s =>
    if s.freezeAllowed then s.freeze (if trip then 5 else 1)
    else (s.bump R.PWR_FREEZE_DENIED_COUNT 0 1).raise EV_FREEZE_DENIED 0))

/-- FREEZE_PERMIT_EXPIRY. -/
def execFreezePermitExpiry (s : State) : Host.Outcome State Fault Refusal :=
  .next (s.awake (fun s => s.updPower (fun q => { q with permitted := false, permit := 0 })))

/-! ### JTAG (R492) -/

/-- The low `n` bits of a number as a scan register shifts them out, bit 0 first. -/
def scanBits (n x : Nat) : List Bool := (List.range n).map (fun i => x.testBit i)

/-- A JTAG instruction is selected, and what its register captures. -/
def State.jtagSelect (s : State) (code : Nat) (capture : List Bool) : State :=
  (s.updPower (fun q => { q with jtag := code })).emit (.jtag capture)

/-- BYPASS: the one-bit register captures 0. -/
def execBypass (s : State) : Host.Outcome State Fault Refusal := .next (s.jtagSelect 0xFF [false])

/-- IDCODE. -/
def execIdcode (s : State) : Host.Outcome State Fault Refusal := .next (s.jtagSelect 0x01 (scanBits 32 Config.idcode.toNat))

/-- SAMPLE/PRELOAD: the levels of the balls are captured, and a new scan is preloaded. -/
def execSamplePreload (levels preload : List Bool) (s : State) : Host.Outcome State Fault Refusal :=
  .next ((s.jtagSelect 0x02 levels).updPower (fun q => { q with boundary := preload }))

/-- EXTEST: the balls are driven from the preloaded scan, and their levels are captured. -/
def execExtest (levels : List Bool) (s : State) : Host.Outcome State Fault Refusal :=
  .next ((s.jtagSelect 0x00 levels).emit (.balls s.power.boundary))

/-- DUSTSHEET: in freeze each capture loads the next image word, outside freeze zero. -/
def execDustsheet (s : State) : Host.Outcome State Fault Refusal :=
  .next (match s.power.frozen with
    | none => s.jtagSelect 0x3A (scanBits 64 0)
    | some f =>
      let w := (((bytesToWords (imageLen / 8) f.image)).getD s.power.imageWord 0).toNat
      (s.jtagSelect 0x3A (scanBits 64 w)).updPower (fun q => { q with imageWord := q.imageWord + 1 }))

end Sys2Proof.Machine
end

