-- ==== Sys2Proof/Machine/Console.lean ====
section
/-! DEFINITION. Bundles as they arrive, and the console (R455 to R458, R489): its operations, the object store and the
submission of bundles. -/

namespace Sys2Proof.Machine

/-! ### Bundles as they arrive (R47, R53) -/

/-- A bundle in Bureau RAM that nothing has checked. -/
def Bundle.fresh (words : List Word64) (descIndex charter : Nat) (lenFault : Option Word64) : Bundle :=
  { phase := .waiting, words := words, delivered := 8 * words.length, acted := [], descIndex := descIndex, charter := charter, lenFault := lenFault, grant := 0, reads := [], prog := [],
    next := 0, g := [], c := false, stage := none, executed := 0, seen := [], lastEpoch := none, late := none, ending := none,
    journalled := false, orphan := false, forward := none, report := none }

/-- A word of a bundle; a word that is missing reads as zero. -/
def Bundle.word (b : Bundle) (i : Nat) : Nat := (b.words.getD i 0).toNat

/-- TOTAL_LEN, TAG, CLASS and the other fields of a bundle's header (R56). -/
def Bundle.totalLen (b : Bundle) : Nat := bits (b.word 3) 63 32
@[inherit_doc Bundle.totalLen] def Bundle.tag (b : Bundle) : Nat := bits (b.word 1) 63 48
@[inherit_doc Bundle.totalLen] def Bundle.applyAfter (b : Bundle) : Nat := bits (b.word 1) 47 0
@[inherit_doc Bundle.totalLen] def Bundle.cls (b : Bundle) : Nat := bits (b.word 0) 23 16
@[inherit_doc Bundle.totalLen] def Bundle.instrWords (b : Bundle) : Nat := bits (b.word 0) 12 0
@[inherit_doc Bundle.totalLen] def Bundle.sigOffset (b : Bundle) : Nat := bits (b.word 2) 31 0
@[inherit_doc Bundle.totalLen] def Bundle.keySlot (b : Bundle) : Nat := bits (b.word 3) 7 0
@[inherit_doc Bundle.totalLen] def Bundle.orderSeq (b : Bundle) : Nat := b.word 4
@[inherit_doc Bundle.totalLen] def Bundle.deviceBind (b : Bundle) : Nat := b.word 5

/-- The bytes of a bundle. -/
def Bundle.bytes (b : Bundle) : List Byte := wordsToBytes b.words

/-- Changes the Bureau. -/
def State.updBureau (s : State) (f : Bureau → Bureau) : State := { s with bureau := f s.bureau }

/-! ### The object store (R457) -/

/-- The size of the object store. -/
def storeSize : Nat := 0x200000

/-- `n` bytes of the object store. -/
def State.storeRead (s : State) (off n : Nat) : List Byte := (List.range n).map (fun i => SMap.get 0 s.host.store (off + i))

/-- Bytes written to the object store. -/
def State.storeWrite (s : State) (off : Nat) (bs : List Byte) : State :=
  s.updHost (fun h => { h with store := (bs.zipIdx).foldl (fun m e => SMap.set 0 m (off + e.2) e.1) h.store })

/-! ### Requests and responses (R455, R456) -/

/-- The bytes of a request before its CRC. -/
def requestBytes (r : ConsoleRequest) : List Byte :=
  [r.sync, r.op, r.tag, r.zero].map (BitVec.ofNat 8) ++ beBytes 4 r.addr ++ beBytes 2 r.len ++ r.payload

/-- STATUS values of a response. -/
inductive Reply
  | ok (data : List Byte)
  | crc
  | badOp
  | range
  | busy
  | empty
  | busErr
  deriving DecidableEq, Repr

/-- The code of a STATUS, and its data. -/
def Reply.status : Reply → Nat
  | .ok _ => 0
  | .crc => 1
  | .badOp => 2
  | .range => 3
  | .busy => 4
  | .empty => 5
  | .busErr => 6
@[inherit_doc Reply.status] def Reply.data : Reply → List Byte
  | .ok d => d
  | _ => []

/-- A response with its start byte, STATUS, LEN, data and CRC (R455). -/
def responseBytes (status : Nat) (data : List Byte) : List Byte :=
  let body := [BitVec.ofNat 8 status] ++ beBytes 2 data.length ++ data
  [0x3C] ++ body ++ beBytes 4 (crc32c body)

/-- A request is answered. -/
def State.answer (s : State) (a : Reply) : State := s.emit (.console (responseBytes a.status a.data))

/-- One request whose operation is `op`: a wrong SYNC is ignored, as is everything while a supply fault holds the device; a wrong CRC, an operation in freeze, a reserved byte that is
not zero and a LEN or ADDR out of range are turned away before `f` runs. -/
def State.console (s : State) (op : Nat) (r : ConsoleRequest) (inRange : Bool) (f : State → Reply × State) : State :=
  if r.sync != 0xC3 || s.power.supplyFault then s
  else if crc32c (requestBytes r) != r.crc then s.answer .crc
  else if s.power.frozen.isSome || r.op != op || r.zero != 0 || !inRange then s.answer .badOp
  else
    let a := f s
    a.2.answer a.1

/-- The read-out of the Dustsheet image in freeze (R489). -/
def State.readOut (s : State) (f : Frozen) (r : ConsoleRequest) : State :=
  if r.sync != 0xC3 then s
  else if crc32c (requestBytes r) != r.crc then s.answer .crc
  else if r.op != 2 || r.zero != 0 || r.len == 0 || decide (4096 < r.len) then s.answer .badOp
  else if r.addr < 0x80000000 || decide (imageLen < r.addr - 0x80000000 + r.len) then s.answer .range
  else s.answer (.ok ((f.image.drop (r.addr - 0x80000000)).take r.len))

/-! ### Operations -/

/-- STORE_WRITE. -/
def execStoreWrite (r : ConsoleRequest) (s : State) : Host.Outcome State Fault Refusal :=
  .next (s.console 1 r (decide (1 ≤ r.len) && decide (r.len ≤ 4096) && r.payload.length == r.len) (fun s =>
    if storeSize < r.addr + r.len then (.range, s) else (.ok [], s.storeWrite r.addr r.payload)))

/-- STORE_READ; in freeze it reads the Dustsheet image. -/
def execStoreRead (r : ConsoleRequest) (s : State) : Host.Outcome State Fault Refusal :=
  .next (match s.power.frozen with
    | some f => s.readOut f r
    | none => s.console 2 r (decide (1 ≤ r.len) && decide (r.len ≤ 4096)) (fun s =>
        if storeSize < r.addr + r.len then (.range, s) else (.ok (s.storeRead r.addr r.len), s)))

/-- DUSTSHEET_READ_OUT: STORE_READ in freeze; outside freeze the image does not exist. -/
def execDustsheetReadOut (r : ConsoleRequest) (s : State) : Host.Outcome State Fault Refusal :=
  .next (match s.power.frozen with
    | some f => s.readOut f r
    | none => s.console 2 r (decide (1 ≤ r.len) && decide (r.len ≤ 4096)) (fun s =>
        if storeSize < r.addr + r.len then (.range, s) else (.ok (s.storeRead r.addr r.len), s)))

/-- The bundles that the console queue holds. -/
def State.consoleHeld (s : State) : Nat := s.bureau.consoleWaiting.length + (if (SMap.find s.bureau.slots 16).isSome then 1 else 0)

/-- SUBMIT (R457, R458): a bundle of `n` bytes at a store offset joins the console queue. -/
def State.submit (s : State) (tag off n : Nat) : Reply × State :=
  if off % 8 != 0 || decide (storeSize < off + n) then (.range, s)
  else if s.bureau.lastSubmit = some tag then (.ok [], s)
  else if s.fld R.PWR_STAT_BOOT_STEP 0 < 6 || decide (4 ≤ s.consoleHeld) then (.busy, s)
  else
    let b := Bundle.fresh (bytesToWords (n / 8) (s.storeRead off n)) 0 16 none
    let b := { b with lenFault := if b.totalLen = n then none else some (BitVec.ofNat 64 (b.word 3)) }
    (.ok [], s.updBureau (fun u => { u with consoleWaiting := u.consoleWaiting ++ [b], lastSubmit := some tag }))

/-- REG_READ: the register as a host would read it; a bus error is logged for requester 0xFFFF (R438). -/
def execRegRead (r : ConsoleRequest) (s : State) : Host.Outcome State Fault Refusal :=
  .next (s.console 5 r (r.len == 4 || r.len == 8) (fun s =>
    let a : Access := { off := r.addr, len := r.len, be := if r.len = 8 then 255 else 15, value := 0, requester := 0xFFFF }
    let cause := busCause false a
    if cause != 0 then (.busErr, s.busError false cause a)
    else
      let v := s.readBar r.addr r.len
      (.ok (leBytes r.len v.1), v.2)))

end Sys2Proof.Machine
end

