-- ==== Sys2Proof/Machine/OrderDecode.lean ====
section
/-! DEFINITION. Instruction words (R61 to R71): how a bundle's words decode, their ranges, the structure of stage blocks, and
the class and the source that each instruction needs. -/

namespace Sys2Proof.Machine

/-! ### Owner slots (R101, R102, R104) -/

/-- A slot that nothing has burned. -/
def OwnerSlot.blank : OwnerSlot := { enrolled := false, revoked := false, rsa := [], slh := [] }

/-- An owner slot. -/
def Otp.slot (o : Otp) (n : Nat) : OwnerSlot := SMap.get OwnerSlot.blank o.slots n

/-- Whether a slot is in the Enrolled state. -/
def OwnerSlot.inUse (k : OwnerSlot) : Bool := k.enrolled && !k.revoked

/-- Whether all eight slots are Empty. -/
def Otp.bare (o : Otp) : Bool := (List.range 8).all (fun n => !(o.slot n).enrolled)

/-- Burns the digests and the ENROLLED fuse of a slot. -/
def Otp.enrol (o : Otp) (n : Nat) (rsa slh : List Byte) : Otp :=
  { o with slots := SMap.set OwnerSlot.blank o.slots n { o.slot n with enrolled := true, rsa := rsa, slh := slh } }

/-- Burns the REVOKED fuse of a slot. -/
def Otp.revoke (o : Otp) (n : Nat) : Otp :=
  { o with slots := SMap.set OwnerSlot.blank o.slots n { o.slot n with revoked := true } }

/-- Whether a slot may be revoked: it is Enrolled, and another one is. -/
def Otp.mayRevoke (o : Otp) (n : Nat) : Bool :=
  (o.slot n).inUse && (List.range 8).any (fun k => k != n && (o.slot k).inUse)

/-! ### The opcode tables (R68) -/

/-- The bits of an instruction word that fields cover. -/
def coverOf (fs : List (Nat × Nat)) : Nat := fs.foldl (fun m f => m ||| (2 ^ (f.1 + 1 - f.2) - 1) <<< f.2) 0

/-- OPERAND fields and IFLAGS of an opcode; none is invalid. -/
def opFields (op : Nat) : Option (List (Nat × Nat)) :=
  match op with
  | 0x00 | 0x10 | 0x11 | 0x13 | 0x94 => some []
  | 0x01 => some [(25, 0), (48, 48)]
  | 0x02 => some [(29, 0)]
  | 0x03 => some [(47, 40)]
  | 0x04 => some [(47, 0), (48, 48)]
  | 0x05 => some [(47, 0)]
  | 0x06 => some [(48, 48)]
  | 0x12 => some [(47, 0)]
  | 0x20 | 0x21 | 0x22 => some [(47, 40), (49, 48)]
  | 0x23 => some [(47, 45), (43, 30), (49, 48)]
  | 0x24 => some [(47, 24)]
  | 0x25 => some [(47, 20)]
  | 0x30 => some [(47, 16), (48, 48)]
  | 0x31 => some [(47, 0)]
  | 0x32 => some [(47, 24)]
  | 0x33 => some [(47, 29), (48, 48)]
  | 0x40 => some [(47, 20)]
  | 0x41 => some [(47, 38)]
  | 0x42 => some [(47, 0)]
  | 0x43 => some [(47, 17)]
  | 0x44 => some [(47, 29), (48, 48)]
  | 0x45 => some [(47, 1), (48, 48)]
  | 0x50 => some [(42, 40), (48, 48)]
  | 0x51 => some [(42, 0)]
  | 0x52 => some [(42, 40)]
  | 0x53 => some [(47, 44), (42, 40), (49, 48)]
  | 0x60 => some [(47, 28)]
  | 0x70 => some [(0, 0)]
  | 0x71 => some [(47, 0)]
  | 0x80 => some [(48, 48)]
  | 0x81 => some [(31, 0)]
  | 0x90 => some [(47, 44)]
  | 0x91 | 0x92 => some [(2, 0)]
  | 0x93 => some [(47, 40)]
  | _ => none

/-- The number of extra words of an instruction. -/
def extraWords (op w : Nat) : Nat :=
  match op with
  | 0x01 | 0x03 | 0x33 | 0x43 | 0x44 | 0x45 | 0x50 | 0x90 | 0x93 => 2
  | 0x20 | 0x22 => if bit w 49 then 7 else 2
  | 0x21 => if bit w 49 then 5 else 1
  | 0x23 => if bit w 49 then 0 else 20
  | 0x24 => 4 * (bits w 31 24 + 1)
  | 0x25 => 9 * (bits w 27 20 + 1)
  | 0x53 => 3
  | 0x91 => 12
  | 0x94 => 6
  | _ => 0

/-- An instruction of a valid opcode, its word and its extra words. -/
def orderInstr (op w : Nat) (x : List Word64) : OrderInstr :=
  let x0 := x.getD 0 0
  let x1 := x.getD 1 0
  match op with
  | 0x01 => .set (bits w 24 0) (bit w 25) (bit w 48) x0 x1
  | 0x02 => .get (bits w 29 26) (bits w 24 0) (bit w 25)
  | 0x03 => .check (bits w 47 44) (bits w 43 40) x0 x1
  | 0x04 => .waitEpoch (bit w 48) (bits w 47 0)
  | 0x05 => .waitEvent (bits w 47 36) (bits w 35 24) (bits w 23 0)
  | 0x06 => .fence (bit w 48)
  | 0x10 => .stageBegin
  | 0x11 => .stageEnd
  | 0x12 => .commit (bits w 47 0)
  | 0x13 => .abort
  | 0x20 => .tblIns (bits w 47 40) (bit w 49) (bit w 48) x
  | 0x21 => .tblDel (bits w 47 40) (bit w 49) (bit w 48) x
  | 0x22 => .tblMod (bits w 47 40) (bit w 49) x
  | 0x23 => .tcamWr (bits w 47 45) (bits w 43 30) (bit w 48) (bit w 49) x
  | 0x24 => .parseLoad (bits w 47 40) (bits w 39 32) x
  | 0x25 => .patLoad (bits w 47 40) (bits w 39 28) x
  | 0x30 => .leafWr (bits w 47 39) (bits w 38 32) (bits w 31 23) (bits w 22 16) (bit w 48)
  | 0x31 => .leafSwap (bits w 47 0)
  | 0x32 => .tuMap (bits w 47 39) (bits w 38 32) (bits w 31 24)
  | 0x33 => .chanBind (bits w 47 38) (bits w 37 29) (bit w 48) x0 x1
  | 0x40 => .portUp (bits w 47 38) (bits w 37 29) (bits w 28 27) (bits w 26 24) (bits w 23 22) (bits w 21 20)
  | 0x41 => .portDown (bits w 47 38)
  | 0x42 => .laneCfg (bits w 47 39) (bits w 38 32) (bits w 31 0)
  | 0x43 => .qCfg (bits w 47 32) (bits w 31 22) (bits w 21 20) (bits w 19 17) x0 x1
  | 0x44 => .meterCfg (bits w 47 31) (bits w 30 29) (bit w 48) x0 x1
  | 0x45 => .rsvDecl (bits w 47 34) (bits w 33 17) (bits w 16 1) (bit w 48) x0 x1
  | 0x50 => .tbStep (bits w 42 40) (bit w 48) x0 x1
  | 0x51 => .tbRate (bits w 42 40) (bits w 39 0)
  | 0x52 => .tbRearm (bits w 42 40)
  | 0x53 => .pulseSet (bits w 47 44) (bits w 42 40) (bit w 48) (bit w 49) x0 x1 (x.getD 2 0)
  | 0x60 => .snap (bits w 47 40) (bits w 39 28)
  | 0x70 => .pairRole (bit w 0)
  | 0x71 => .pairSwap (bits w 47 0)
  | 0x80 => .sprintArm (bit w 48)
  | 0x81 => .freezePermit (bits w 31 0)
  | 0x90 => .fwLoad (bits w 47 44) x0 x1
  | 0x91 => .keyEnrol (bits w 2 0) x
  | 0x92 => .keyRevoke (bits w 2 0)
  | 0x93 => .charterSet (bits w 47 44) (bits w 43 40) x0 x1
  | 0x94 => .attest (x.take 4) (x.getD 4 0) (x.getD 5 0)
  | _ => .nop

/-! ### Registers that a SET or a GET names (R70) -/

/-- Whether an access of 4 or 8 bytes at an offset names a register or, of 4 bytes, either half of one. -/
def orderOffsetOk (off : Nat) (w64 : Bool) : Bool :=
  match locationAt off with
  | none => false
  | some l => if w64 then off % 8 == 0 && l.wide && l.start == off else off % 4 == 0

/-- Whether the mask of a SET covers only bits of OW fields that no instruction of its own writes, and reserved bits. -/
def setMaskOk (off : Nat) (w64 : Bool) (mask : Nat) : Bool :=
  match locate off with
  | none => mask == 0
  | some (r, n) => r.fields.all (fun f => f.acc == .ow || bits (setPlace (r.addr n) off w64 mask) f.hi f.lo == 0)

/-! ### Ranges (R61, R68) -/

/-- Whether a narrow key has a format of R285. -/
def narrowKeyOk (learned : Bool) (key : Word64) : Bool :=
  bits key.toNat 63 60 == 0 || (!learned && bits key.toNat 63 60 == 1)

/-- What a table write must keep to: the mask, the key and the results, with the word of the instruction that each test looks at. -/
def tblWriteTests (pipes : Nat) (wide learned result : Bool) (x : List Word64) : List (Nat × Bool) :=
  [(0, pipes != 0 && !(wide && learned)), (1, wide || narrowKeyOk learned (x.getD 0 0))] ++
    (if result then
      if wide then [(6, resultOk (x.getD 5 0).toNat), (7, wideResultOk pipes (x.getD 6 0).toNat)] else [(2, resultOk (x.getD 1 0).toNat)]
    else [])

/-- What a Q.CFG must keep to (R353). -/
def qCfgTests (port tier group : Nat) (w0 w1 : Nat) : List (Nat × Bool) :=
  let rate := bits w1 63 32
  let burst := bits w1 31 0
  let release := bits w0 47 32 == 0
  [(0, !release || (port == 0 && tier == 0 && group == 0)),
   (1, bits w0 63 48 == 0 && bits w0 31 8 == 0 && decide (bits w0 47 32 ≤ 1023) && (!release || w0 == 0)),
   (2, if release then w1 == 0 else decide (rate ≤ 1600000) && decide (burst ≤ 16777215) && (rate != 0 || burst == 0))]

/-- What a METER.CFG must keep to (R348). -/
def meterCfgTests (alg : Nat) (aware : Bool) (w0 w1 : Nat) : List (Nat × Bool) :=
  let hi := bits w0 63 32
  let lo := bits w0 31 0
  let size := fun (least v : Nat) => decide (least ≤ v) && decide (v ≤ 16777215)
  match alg with
  | 0 => [(0, !aware), (1, w0 == 0), (2, w1 == 0)]
  | 1 => [(1, decide (hi ≤ lo) && decide (1 ≤ lo) && decide (lo ≤ 1600000000)), (2, size 64 (bits w1 63 32) && size 64 (bits w1 31 0))]
  | 2 => [(1, decide (1 ≤ hi) && decide (hi ≤ 1600000000) && lo == 0), (2, size 64 (bits w1 63 32) && size 0 (bits w1 31 0))]
  | _ => [(0, false)]

/-- What a RSV.DECL must keep to (R362). -/
def rsvDeclTests (meter queue : Nat) (withdraw : Bool) (w0 w1 : Nat) : List (Nat × Bool) :=
  if withdraw then [(0, meter == 0 && queue == 0), (1, w0 == 0), (2, w1 == 0)]
  else [(1, bits w0 31 0 != 0), (2, decide (64 ≤ bits w1 63 32) && decide (bits w1 63 32 ≤ 16383))]

/-- What a PULSE.SET must keep to (R400). -/
def pulseSetTests (train : Bool) (ns period : Nat) : List (Nat × Bool) :=
  [(2, decide (bits ns 47 16 < 1000000000)),
   (3, if train then decide (655360 ≤ period) && decide (period ≤ 65536000000000000) else period == 0)]

/-- Groups of `n` words of a list. -/
def groupsOf (n : Nat) : Nat → List Word64 → List (List Word64)
  | 0, _ => []
  | k + 1, ws => ws.take n :: groupsOf n k (ws.drop n)

/-- The extra words of an instruction that have undefined bits, numbered from 1, with whether those bits are 0 (R61). A withdrawal's
words must be zero as a whole (R362). -/
def extraTests (i : OrderInstr) : List (Nat × Bool) :=
  match i with
  | .set _ _ true value _ => [(1, bits value.toNat 63 4 == 0)]
  | .chanBind _ _ _ _ hi => [(2, bits hi.toNat 63 14 == 0)]
  | .rsvDecl _ _ _ withdraw w0 _ => [(1, withdraw || bits w0.toNat 43 32 == 0)]
  | .tbStep _ abs w0 w1 => if abs then [(1, bits w0.toNat 63 48 == 0), (2, bits w1.toNat 63 48 == 0)] else [(2, w1 == 0)]
  | .pulseSet _ _ _ _ sec ns _ => [(1, bits sec.toNat 63 48 == 0), (2, bits ns.toNat 63 48 == 0)]
  | _ => []

/-- The size of a Charter record, and of an attestation report (R85, R113). -/
def charterLen : Nat := 17120
@[inherit_doc charterLen] def reportLen : Nat := 36696

/-- Whether an extent that an instruction names lies in the console's object store, where it arrives on the console. -/
def extentOk (q : OrderQueue) (addr len : Nat) : Bool := q != .console || decide (addr + len ≤ storeSize)

/-- What a CHAN.BIND must keep to (R243): a packet channel, a binding that is not empty, and no other one while the channel is up. -/
def State.chanBindTests (s : State) (port lane : Nat) (lo hi : Word64) : List (Nat × Bool) :=
  [(0, decide (512 ≤ port) && (s.portLife port == Life.off || s.chanLane port == lane)),
   (1, (lo != 0 || hi != 0) &&
      (s.portLife port == Life.off || s.chanTus port == onesOf 64 lo.toNat ++ (onesOf 14 hi.toNat).map (fun t => 64 + t)))]

/-- What decoding carries from word to word: the stage block, the slots as earlier instructions of the bundle will leave them,
the records that CHARTER.SET instructions read, the DMA reads that are left, and the steps so far, the latest first. -/
structure Decoding where
  opened : Bool
  held : Bool
  otp : Otp
  reads : List (Option (List Byte))
  records : List (Option (List Byte))
  steps : List ProgStep
  deriving DecidableEq, Repr

/-- The tests of a record that lies behind `k` words of an instruction. -/
def behind (k : Nat) (tests : List (Nat × Bool)) : List (Nat × Bool) := tests.map (fun t => (t.1 + k, t.2))

/-- The tests of records of `n` words each that lie behind an instruction's own word. -/
def recordTests (n : Nat) (tests : List Word64 → List (Nat × Bool)) (x : List Word64) : List (Nat × Bool) :=
  (groupsOf n (x.length / n) x).zipIdx.flatMap (fun g => behind (n * g.2 + 1) (tests g.1))

/-- What an instruction's operands must keep to, as far as it does not depend on what came before in the bundle: the word of the
instruction that each test looks at, 0 for its own, with the test's answer. -/
def State.operandTests (s : State) (q : OrderQueue) (i : OrderInstr) : List (Nat × Bool) :=
  match i with
  | .set off w64 _ _ _ => [(0, orderOffsetOk off w64)]
  | .get _ off w64 => [(0, orderOffsetOk off w64)]
  | .check _ test _ _ => [(0, decide (test ≤ 5))]
  | .waitEvent code _ timeout => [(0, validEventCode code && decide (1 ≤ timeout))]
  | .tblIns pipes wide learned x => tblWriteTests pipes wide learned true x
  | .tblDel pipes wide learned x => tblWriteTests pipes wide learned false x
  | .tblMod pipes wide x => tblWriteTests pipes wide false true x
  | .tcamWr pipe index egress invalidate x =>
    (0, !egress || decide (index ≤ 4095)) ::
      (if invalidate then []
       else behind 17 (if egress then egressActionTests (x.drop 16) else ingressActionTests pipe (x.drop 16)))
  | .parseLoad pipes first x => (0, pipes != 0 && decide (first + x.length / 4 ≤ 256)) :: recordTests 4 nodeTests x
  | .patLoad pipes first x => (0, pipes != 0 && decide (first + x.length / 9 ≤ 4096)) :: recordTests 9 patternTests x
  | .leafWr _ outTu inLane inTu unequipped =>
    [(0, decide (outTu ≤ 77) && decide (inTu ≤ 77) && (!unequipped || (inLane == 0 && inTu == 0)))]
  | .tuMap _ tu label => [(0, decide (tu ≤ 77) && [0x00, 0x01, 0x02, 0xFF].contains label)]
  | .chanBind port lane _ lo hi => s.chanBindTests port lane lo hi
  | .portUp port lane lanes speed fec mode => [(0, decide (port ≤ 511) && formListed mode speed lanes fec && lane % 2 ^ lanes == 0)]
  | .laneCfg lane param value => [(0, laneParamOk (decide (2 ≤ s.fld R.LANE_STAT_CLASS lane)) lane param value)]
  | .qCfg _ port tier group w0 w1 => qCfgTests port tier group w0.toNat w1.toNat
  | .meterCfg _ alg aware w0 w1 => meterCfgTests alg aware w0.toNat w1.toNat
  | .rsvDecl _ meter queue withdraw w0 w1 => rsvDeclTests meter queue withdraw w0.toNat w1.toNat
  | .tbStep _ abs _ w1 => [(2, !abs || decide (bits w1.toNat 47 16 < 1000000000))]
  | .pulseSet _ _ _ train _ ns period => pulseSetTests train ns.toNat period.toNat
  | .snap block unit => [(0, snapOk block unit)]
  | .freezePermit duration => [(0, decide (duration ≤ 86400))]
  | .fwLoad _ addr len => [(1, extentOk q addr.toNat len.toNat)]
  | .charterSet source number addr len =>
    [(0, decide (source ≤ 3) && (source == 0 || source == 2 || number == 0)), (1, extentOk q addr.toNat charterLen),
     (2, len.toNat == charterLen)]
  | .attest _ addr limit => [(5, extentOk q addr.toNat reportLen), (6, decide (reportLen ≤ limit.toNat))]
  | _ => []

/-- What the instructions of a bundle so far make of the slots, and the record that a CHARTER.SET reads; none where the
instruction is out of range (R88, R102). -/
def State.carryOn (s : State) (q : OrderQueue) (d : Decoding) (i : OrderInstr) : Option Decoding :=
  match i with
  | .keyEnrol n _ => if (d.otp.slot n).enrolled then none else some { d with otp := d.otp.enrol n [] [] }
  | .keyRevoke n => if d.otp.mayRevoke n then some { d with otp := d.otp.revoke n } else none
  | .charterSet source number addr _ =>
    let read := if q = .console then some (s.storeRead addr.toNat charterLen) else d.reads.headD none
    match read with
    | none => none
    | some r =>
      let w0 := leNat (r.take 8)
      if r.length = charterLen ∧ bits w0 23 20 = source ∧ bits w0 19 16 = number then
        some { d with reads := d.reads.drop 1, records := d.records ++ [some r] }
      else none
  | _ => some d

/-- Whether an instruction has kind S, or kind I (R64). -/
def kindS (i : OrderInstr) : Bool :=
  match i with
  | .tcamWr .. | .parseLoad .. | .patLoad .. => true
  | _ => false
@[inherit_doc kindS] def kindI (i : OrderInstr) : Bool :=
  match i with
  | .nop | .get .. | .check .. | .waitEpoch .. | .waitEvent .. | .fence .. | .leafSwap .. | .tbStep .. | .tbRate .. | .tbRearm ..
  | .snap .. | .pairRole .. | .pairSwap .. | .sprintArm .. | .freezePermit .. | .fwLoad .. | .keyEnrol .. | .keyRevoke ..
  | .charterSet .. | .attest .. => true
  | _ => false

/-- The fault of the stage structure or of the kind (R64, R71, R295), every earlier instruction taken as executed; 0 for
none. -/
def structureFault (opened held : Bool) (i : OrderInstr) : Nat :=
  match i with
  | .stageBegin => if held then 7 else 0
  | .stageEnd => if opened then 0 else 7
  | .commit _ | .abort => if held then 0 else 7
  | .leafSwap epoch => if opened && epoch != 0 then 6 else 0
  | .tblIns _ _ learned _ | .tblDel _ _ learned _ => if opened && learned then 8 else 0
  | i => if (opened && kindI i) || (!opened && kindS i) then 8 else 0

/-- The stage block after an instruction. -/
def structureNext (i : OrderInstr) (d : Decoding) : Decoding :=
  match i with
  | .stageBegin => { d with opened := true, held := true }
  | .stageEnd => { d with opened := false }
  | .commit _ | .abort => { d with opened := false, held := false }
  | _ => d

/-- How decoding ends: the steps with the records read, or the reason, the index of the instruction, and the index of its first
failing word with that word. -/
inductive Decoded
  | good (d : Decoding)
  | bad (reason start index : Nat) (word : Word64)
  deriving DecidableEq, Repr

/-- The word that the first failing test of a list looks at. -/
def failing (tests : List (Nat × Bool)) : Option Nat := (tests.find? (fun t => !t.2)).map Prod.fst

/-- The fault of an instruction whose words are at hand, in the order that the model takes them (DEDUCED), and the word of the
instruction where it lies, 0 for its own; none where there is no fault. -/
def State.instrFault (s : State) (q : OrderQueue) (d : Decoding) (i : OrderInstr) : Option (Nat × Nat) :=
  match failing (extraTests i), failing (s.operandTests q i) with
  | some w, _ => some (5, w)
  | none, some w => some (6, w)
  | none, none =>
    if structureFault d.opened d.held i ≠ 0 then some (structureFault d.opened d.held i, 0)
    else if (s.carryOn q d i).isNone then some (6, 0)
    else
      match i with
      | .set off w64 _ _ mask => if setMaskOk off w64 mask.toNat then none else some (9, 2)
      | _ => none

/-- Decodes the words from index `k` on, at most `n` instructions. -/
def State.decodeFrom (s : State) (q : OrderQueue) : Nat → Nat → List Word64 → Decoding → Decoded
  | 0, _, _, d => .good d
  | _, _, [], d => .good d
  | n + 1, k, w :: ws, d =>
    let v := w.toNat
    let op := bits v 63 56
    match opFields op with
    | none => .bad 4 k k w
    | some fs =>
      if bits v 55 54 = 3 ∨ (bit v 53 ∧ op ≠ 0x03 ∧ op ≠ 0x05) ∨ bits v 52 0 &&& coverOf fs ≠ bits v 52 0 then .bad 5 k k w
      else if ws.length < extraWords op v then .bad 10 k k w
      else if op = 0x22 ∧ bit v 48 then .bad 6 k k w
      else
        let i := orderInstr op v (ws.take (extraWords op v))
        match s.instrFault q d i, s.carryOn q d i with
        | none, some d' =>
          let d' := structureNext i d'
          let p : ProgStep := { index := k, cond := bits v 55 54, halt := bit v 53, instr := i }
          s.decodeFrom q n (k + 1 + extraWords op v) (ws.drop (extraWords op v)) { d' with steps := p :: d'.steps }
        | f, _ =>
          let at' := f.getD (6, 0)
          .bad at'.1 k (k + at'.2) ((w :: ws).getD at'.2 0)

/-- The instruction words of a bundle. -/
def Bundle.program (b : Bundle) : List Word64 := (b.words.drop 8).take b.instrWords

/-- Check 6 of a bundle (R59). -/
def State.decodeBundle (s : State) (q : OrderQueue) (reads : List (Option (List Byte))) (b : Bundle) : Decoded :=
  s.decodeFrom q b.instrWords 0 b.program
    { opened := false, held := false, otp := s.otp, reads := reads, records := [], steps := [] }

/-! ### Class and source of an instruction (R68, R69, R90) -/

/-- The class of an instruction: 0 Routine, 1 Policy, 2 Sovereign. -/
def classOf (i : OrderInstr) : Nat :=
  match i with
  | .nop | .get .. | .check .. | .waitEpoch .. | .waitEvent .. | .fence .. | .stageBegin | .stageEnd | .commit .. | .abort
  | .snap .. | .attest .. => 0
  | .tblIns _ _ learned _ | .tblDel _ _ learned _ => if learned then 0 else 1
  | .set off _ _ _ _ => if off / 0x10000 = 2 then 2 else 1
  | .tbRearm .. | .freezePermit .. | .fwLoad .. | .keyEnrol .. | .keyRevoke .. | .charterSet .. => 2
  | _ => 1

/-- Whether an instruction is permitted on a source (R90). -/
def permittedOn (i : OrderInstr) (q : OrderQueue) : Bool :=
  match i, q with
  | .keyEnrol .., q => q == .console
  | .attest .., .inband | .attest .., .pair | .pairRole .., .pair => false
  | _, _ => true

end Sys2Proof.Machine
end

