-- ==== Sys2Proof/Machine/Authority.lean ====
section
/-! DEFINITION. Authority (chapter 03): signature blocks, Charters, freshness and its journal, owner keys, firmware extensions
and attestation reports. -/

namespace Sys2Proof.Machine

/-! ### Signature blocks (R92 to R96) -/

/-- The length of a signature block, and the bytes of it that a signature covers. -/
def blockLen : Nat := 17056
@[inherit_doc blockLen] def blockSigned : Nat := 448

/-- The 64-bit word at a byte offset. -/
def wordAt (bs : List Byte) (i : Nat) : Nat := leNat ((bs.drop i).take 8)

/-- KEY_SLOT of a signature block whose header and exponent are right. -/
def blockSlot (block : List Byte) : Option Nat :=
  if bits (wordAt block 0) 63 32 = 0x5349474E ∧ bits (wordAt block 0) 31 24 = 1 ∧ bits (wordAt block 0) 23 8 = 0 ∧
      wordAt block 8 = 65537 * 2 ^ 32 then
    some (bits (wordAt block 0) 7 0)
  else none

/-- The key digests of a block (R96). -/
def blockRsaDigest (block : List Byte) : List Byte := rsaDigest ((block.drop 16).take 384)
@[inherit_doc blockRsaDigest] def blockSlhDigest (block : List Byte) : List Byte := slhDigest ((block.drop 400).take 48)

/-- The algorithms that fail on a signed object, bit 0 RSA and bit 1 SLH-DSA: `body` is what stands before the block. -/
def sigFailures (rsa slh body block : List Byte) : Nat :=
  let m := body ++ block.take blockSigned
  let r := blockRsaDigest block == rsa && rsaVerify ((block.drop 16).take 384) m ((block.drop 448).take 384)
  let h := blockSlhDigest block == slh && slhVerify ((block.drop 400).take 48) m ((block.drop 832).take 16224)
  ofFlag (!r) + 2 * ofFlag (!h)

/-! ### Charters (R84 to R89) -/

/-- The Charter index of a source and a number (R84). -/
def charterIndex (source number : Nat) : Nat :=
  match source with
  | 0 => number
  | 1 => 16
  | 2 => 17 + number
  | _ => 33

/-- SOURCE and NUMBER of a Charter index. -/
def charterName (i : Nat) : Nat × Nat :=
  if i < 16 then (0, i) else if i = 16 then (1, 0) else if i < 33 then (2, i - 17) else (3, 0)

/-- CHARTER_SEQ of the installed Charter of an index. -/
def State.charterSeq (s : State) (i : Nat) : Nat :=
  match SMap.find s.auth.charters i with
  | some r => wordAt r 8
  | none => 0

/-- Whether the body of a record is that of a valid Charter for an index, above a CHARTER_SEQ (R86). -/
def charterBodyOk (i least : Nat) (r : List Byte) : Bool :=
  let w := wordAt r 0
  r.length == charterLen && bits w 63 32 == 0x43485254 && bits w 31 24 == 1 && bits w 15 3 == 0 &&
    (List.range 5).all (fun k => wordAt r (24 + 8 * k) == 0) && (bits w 23 20, bits w 19 16) == charterName i &&
    (i != 16 || bit w 2) && (i ≤ 16 || !bit w 2) && decide (least < wordAt r 8) &&
    (wordAt r 16 == 0 || wordAt r 16 == Config.serial.toNat)

/-- What is wrong with the signature block of a record: 0 nothing, else the failed algorithms; 3 for a wrong header or
exponent, or a slot that is not Enrolled. -/
def State.charterSigFault (s : State) (r : List Byte) : Nat :=
  match blockSlot (r.drop 64) with
  | none => 3
  | some n =>
    if n < 8 ∧ (s.otp.slot n).inUse then sigFailures (s.otp.slot n).rsa (s.otp.slot n).slh (r.take 64) (r.drop 64) else 3

/-- Changes what the Bureau holds of authority. -/
def State.updAuth (s : State) (f : Auth → Auth) : State := { s with auth := f s.auth }

/-- A Charter is installed, from a copy of the boot flash. -/
def State.installCharter (s : State) (i copy origin : Nat) (r : List Byte) : State :=
  let s := s.updAuth (fun a => { a with charters := SMap.put a.charters i r, charterCopy := SMap.put a.charterCopy i copy })
  s.setFld R.AUTH_CHARTER_ORIGIN i origin

/-- The outcome of an instruction of the security table: done, or a failure with its STATUS, DETAIL0 and DETAIL1. -/
inductive Judged
  | ok (s : State)
  | fail (status detail0 : Nat) (detail1 : Nat) (s : State)
  deriving DecidableEq, Repr

/-- CHARTER.SET at execution (R88): the record that check 6 read is tested, written to the copy that does not hold the installed
record (R473), and installed. -/
def State.charterSet (s : State) (source number : Nat) (r : List Byte) (word : Nat) : Judged :=
  let i := charterIndex source number
  if !charterBodyOk i (s.charterSeq i) r then .fail 5 6 word s
  else if s.charterSigFault r ≠ 0 then .fail 4 (s.charterSigFault r) 0 s
  else
    let copy := match SMap.find s.auth.charterCopy i with
      | some c => 1 - c
      | none => 0
    let t : State := { s with flash := { s.flash with charters := SMap.put s.flash.charters (2 * i + copy) r } }
    .ok ((t.installCharter i copy 2 r).raiseAt EV_AUTH_CHARTER 0 i [])

/-! ### Freshness and the journal (R98, R99, R474) -/

/-- HIGH_SEQ of a slot. -/
def State.highSeq (s : State) (n : Nat) : Nat := s.fld R.AUTH_SEQ_HIGH_HIGH_SEQ n

/-- The records that one half of the journal holds. -/
def journalSize : Nat := 32768

/-- The record of an accepted bundle (R474): its slot, its ORDER_SEQ, and a CRC-32C of the words before the last. -/
def journalRecord (n seq : Nat) : List Word64 :=
  let ws := [BitVec.ofNat 64 (n % 256), BitVec.ofNat 64 seq, 0]
  ws ++ [BitVec.ofNat 64 (crc32c (wordsToBytes ws))]

/-- The slot and ORDER_SEQ of a record whose CRC fits. -/
def journalEntry (r : List Word64) : Option (Nat × Nat) :=
  if bits (r.getD 3 0).toNat 31 0 = crc32c (wordsToBytes (r.take 3)) then some (bits (r.getD 0 0).toNat 7 0, (r.getD 1 0).toNat) else none

/-- The highest ORDER_SEQ of each slot in a journal. -/
def journalHighs (j : List (List Word64)) : List (Nat × Nat) :=
  (List.range 8).filterMap (fun n =>
    match ((j.filterMap journalEntry).filter (fun e => e.1 == n)).map (fun e => e.2) with
    | [] => none
    | q :: qs => some (n, qs.foldl max q))

/-- A record is appended to the journal; a full half is first replaced by the other one, with the highest record of each slot. -/
def Flash.append (f : Flash) (n seq : Nat) : Flash :=
  if f.journal.length < journalSize then { f with journal := f.journal ++ [journalRecord n seq] }
  else { f with
    half := 1 - f.half, journal := (journalHighs f.journal).map (fun e => journalRecord e.1 e.2) ++ [journalRecord n seq] }

/-! ### Owner keys (R101 to R104) -/

/-- KEY.ENROL at execution: words 0 to 5 are the RSA digest, 6 to 11 the SLH-DSA digest (R96). -/
def State.keyEnrol (s : State) (n : Nat) (words : List Word64) (word : Nat) : Judged :=
  let digest := fun (ws : List Word64) => ws.flatMap (fun w => beBytes 8 w.toNat)
  if (s.otp.slot n).enrolled then .fail 5 6 word s
  else
    let t : State := { s with otp := s.otp.enrol n (digest (words.take 6)) (digest (words.drop 6)) }
    .ok (t.raise EV_AUTH_KEY n)

/-- KEY.REVOKE at execution. -/
def State.keyRevoke (s : State) (n word : Nat) : Judged :=
  if s.otp.mayRevoke n then
    let t : State := { s with otp := s.otp.revoke n }
    .ok (t.raise EV_AUTH_KEY n)
  else .fail 5 6 word s

/-! ### Firmware extensions (R105 to R109) -/

/-- Fields of an image: SVN and CODE_LEN. -/
def imageSvn (im : List Byte) : Nat := bits (wordAt im 0) 6 0
@[inherit_doc imageSvn] def imageCode (im : List Byte) : Nat := bits (wordAt im 8) 63 32

/-- The bytes of Bureau RAM that extensions may fill. -/
def extensionRam : Nat := 1572864

/-- The extensions that are loaded beside slot `n`: running, or placed for the next edge. -/
def State.loadedBeside (s : State) (n : Nat) : Nat :=
  (List.range 16).foldl (fun t k =>
    if k = n then t
    else
      match SMap.find s.auth.entering k, SMap.find s.auth.images k with
      | some im, _ => t + imageCode im
      | none, some im => t + imageCode im
      | none, none => t) 0

/-- Whether the header of an image for slot `n` is right, and its length that of its parts. -/
def imageShapeOk (n : Nat) (im : List Byte) : Bool :=
  let w := wordAt im 0
  let code := imageCode im
  bits w 63 32 == 0x4558544E && bits w 31 24 == 1 && bits w 23 20 == n && bits w 19 7 == 0 && decide (imageSvn im ≤ 64) &&
    code % 8 == 0 && decide (8 ≤ code) && decide (code ≤ extensionRam) && decide (bits (wordAt im 8) 31 0 < code) &&
    (List.range 7).all (fun k => wordAt im (72 + 8 * k) == 0) && im.length == 128 + code + blockLen

/-- The first fault of an image for slot `n`, as STATUS and DETAIL0 (R107). The shape, then the signatures, then SVN and
interface, then the rest (DEDUCED). -/
def State.imageFault (s : State) (n : Nat) (im : List Byte) : Option (Nat × Nat) :=
  let body := im.take (128 + imageCode im)
  let block := im.drop (128 + imageCode im)
  if !imageShapeOk n im then some (5, 6)
  else if blockSlot block ≠ some 0xFD then some (4, 3)
  else
    let failed := sigFailures (rsaDigest vendorKey.rsaKey) (slhDigest vendorKey.slhKey) body block
    if failed ≠ 0 then some (4, failed)
    else if imageSvn im < s.otp.rollback || bits (wordAt im 16) 63 32 != s.fld R.DEV_IF_VER_MAJOR 0 ||
        decide (s.fld R.DEV_IF_VER_MINOR 0 < bits (wordAt im 16) 31 0) then some (5, 3)
    else if sha384 ((im.drop 128).take (imageCode im)) ≠ (im.drop 24).take 48 ||
        decide (extensionRam < s.loadedBeside n + imageCode im) then some (5, 6)
    else none

/-- The copy of a slot's flash area that does not hold the running image. -/
def State.spareImage (s : State) (n : Nat) : Nat :=
  match SMap.find s.auth.imageCopy n with
  | some c => 1 - c
  | none => 0

/-- FW.LOAD at execution: none is an image that cannot be read. -/
def State.fwLoad (s : State) (n : Nat) (image : Option (List Byte)) (word : Nat) : Judged :=
  let bad := fun (st d : Nat) => Judged.fail st d (if st = 5 then word else 0) (s.raise EV_FW_BAD n)
  match image with
  | none => bad 5 6
  | some im =>
    match s.imageFault n im with
    | some (st, d) => bad st d
    | none =>
      let t : State := { s with flash := { s.flash with images := SMap.put s.flash.images (2 * n + s.spareImage n) im } }
      .ok ((t.updAuth (fun a => { a with entering := SMap.put a.entering n im })).raise EV_FW_LOADED n)

/-- An extension is entered (R107): it replaces the one that ran in its slot. -/
def State.enterImage (s : State) (e : Nat × List Byte) : State :=
  let copy := s.spareImage e.1
  let s := s.updAuth (fun a => { a with images := SMap.put a.images e.1 e.2, imageCopy := SMap.put a.imageCopy e.1 copy })
  (s.setFld R.AUTH_FW_SLOT_SVN e.1 (imageSvn e.2)).setFld R.AUTH_FW_SLOT_STATE e.1 1

/-- The extensions that an edge enters. -/
def State.enterImages (s : State) : State :=
  (s.auth.entering.foldl State.enterImage s).updAuth (fun a => { a with entering := [] })

/-- Whether a value may be written to ROLLBACK_TO (R109). -/
def State.rollbackOk (s : State) (v : Nat) : Bool :=
  decide (s.otp.rollback ≤ v) && decide (v ≤ 64) && s.flash.images.all (fun e => decide (v ≤ imageSvn e.2))

/-! ### Attestation (R110 to R114) -/

/-- The Charter record of an index, or the 64-byte body of its built-in default (R113), whose DEVICE_BIND is 0 (DESIGN CHOICE, log
126). -/
def State.charterBytes (s : State) (i : Nat) : List Byte :=
  match SMap.find s.auth.charters i with
  | some r => r
  | none =>
    let n := charterName i
    leBytes 8 (0x43485254 * 2 ^ 32 + 1 * 2 ^ 24 + n.1 * 2 ^ 20 + n.2 * 2 ^ 16 + builtinGrant i) ++ List.replicate 56 0

/-- The body of an attestation report, as it stands now (R113). The bytes of a digest stand in their plain order (DESIGN CHOICE, log
123). -/
def State.reportBody (s : State) (nonce : List Word64) : List Byte :=
  let state := s.fld R.DEV_IF_VER_MAJOR 0 * 2 ^ 48 + s.fld R.DEV_IF_VER_MINOR 0 * 2 ^ 32 + s.otp.rollback * 2 ^ 24 +
    s.otp.slotBits OwnerSlot.enrolled * 2 ^ 16 + s.otp.slotBits OwnerSlot.revoked * 2 ^ 8
  leBytes 8 (0x41545354 * 2 ^ 32 + 2 ^ 24) ++ leBytes 8 Config.serial.toNat ++ leBytes 8 s.epochNum ++ leBytes 8 state ++
    wordsToBytes nonce ++ romDigest ++
    (List.range 16).flatMap (fun n =>
      match SMap.find s.auth.images n with
      | some im => (im.drop 24).take 48
      | none => List.replicate 48 0) ++
    (List.range 34).flatMap (fun i => sha384 (s.charterBytes i)) ++ s.auth.digest

/-- The signature block that the IS37 engine makes for a report body, with the salt and the randomness of its signatures (R92, R113). -/
def reportBlock (k : KeyPair) (salt random body : List Byte) : List Byte :=
  let head := leBytes 8 (0x5349474E * 2 ^ 32 + 2 ^ 24 + 0xFE) ++ leBytes 8 (65537 * 2 ^ 32) ++ k.rsaKey ++ k.slhKey
  head ++ k.rsaSign (body ++ head) salt ++ k.slhSign (body ++ head) random

/-- `n` free words as bytes, and the state that has drawn them. -/
def State.freeBytes (s : State) (n : Nat) : List Byte × State :=
  ((List.range n).flatMap (fun i => leBytes 8 (Config.freeWord (s.free + i)).toNat), { s with free := s.free + n })

/-- A whole report, signed with fresh randomness. -/
def State.signReport (s : State) (body : List Byte) : List Byte × State :=
  let r := s.freeBytes 9
  (body ++ reportBlock s.otp.identity (r.1.take 48) (r.1.drop 48) body ++ s.flash.identity, r.2)

/-- The committed-version digest after a bundle's completion record (R114). -/
def extendDigest (d bundle record : List Byte) : List Byte := sha384 (d ++ sha384 bundle ++ record)

/-! ### Acceptance checks 1 to 5 (R57, R59, R97, R103) -/

/-- The offending header word of check 1; none where the header is right. -/
def Bundle.headerFault (b : Bundle) : Option Nat :=
  let w0 := b.word 0
  let body := 64 + 8 * b.instrWords
  let signed := b.cls != 0 && b.sigOffset == body
  if bits w0 63 32 ≠ 0x4F524452 ∨ bits w0 31 24 ≠ 1 ∨ 2 < b.cls ∨ bits w0 15 13 ≠ 0 ∨ b.instrWords = 0 ∨ 4096 < b.instrWords then
    some 0
  else if !signed && b.sigOffset != 0 then some 2
  else if bits (b.word 3) 31 8 ≠ 0 ∨ b.totalLen ≠ (if signed then body + blockLen else body) ∨ b.totalLen ≠ b.delivered ∨
      (if signed then 7 < b.keySlot else b.keySlot ≠ 0xFF) then some 3
  else if b.word 6 ≠ 0 then some 6
  else if b.word 7 ≠ 0 then some 7
  else none

/-- The signature block of a bundle. -/
def Bundle.block (b : Bundle) : List Byte := (b.bytes.drop b.sigOffset).take blockLen

/-- The digests that the only KEY.ENROL of a bootstrap bundle carries: the program holds it, naming `slot`, and NOPs. -/
def bootstrapKeys (slot : Nat) : Nat → List Word64 → Option (List Word64) → Option (List Word64)
  | 0, _, found => found
  | _, [], found => found
  | n + 1, w :: ws, found =>
    match bits w.toNat 63 56, found with
    | 0x00, f => bootstrapKeys slot n ws f
    | 0x91, none =>
      if bits w.toNat 2 0 = slot ∧ 12 ≤ ws.length then bootstrapKeys slot n (ws.drop 12) (some (ws.take 12)) else none
    | _, _ => none

/-- The keys that a bootstrap bundle enrols (R103); none where it is not one. -/
def State.bootstrap (s : State) (q : OrderQueue) (b : Bundle) : Option (List Byte × List Byte) :=
  if q = .console ∧ b.cls = 2 ∧ s.otp.bare = true then
    (bootstrapKeys b.keySlot b.instrWords b.program none).map (fun ws =>
      ((ws.take 6).flatMap (fun w => beBytes 8 w.toNat), (ws.drop 6).flatMap (fun w => beBytes 8 w.toNat)))
  else none

/-- Check 3: REFUSED_AUTH's reason and DETAIL1. -/
def State.authCheck (s : State) (q : OrderQueue) (b : Bundle) : Option (Nat × Nat) :=
  if b.cls = 0 then none
  else if b.sigOffset = 0 ∨ blockSlot b.block ≠ some b.keySlot then some (1, 0)
  else if !(s.otp.slot b.keySlot).enrolled && (s.bootstrap q b).isNone then some (2, 0)
  else if (s.otp.slot b.keySlot).revoked then some (3, 0)
  else if b.orderSeq ≤ s.highSeq b.keySlot then some (4, s.highSeq b.keySlot)
  else if b.deviceBind ≠ 0 ∧ b.deviceBind ≠ Config.serial.toNat then some (5, 0)
  else none

/-- Check 4, with the tests at its end (R100, R103): STATUS and DETAIL0 of a failure. -/
def State.sigCheck (s : State) (q : OrderQueue) (b : Bundle) : Option (Nat × Nat) :=
  if b.cls = 0 then none
  else
    let k := s.otp.slot b.keySlot
    let keys := if k.enrolled then some (k.rsa, k.slh) else s.bootstrap q b
    match keys with
    | none => some (2, 2)
    | some (rsa, slh) =>
      let failed := sigFailures rsa slh (b.bytes.take b.sigOffset) b.block
      if failed ≠ 0 then some (4, failed) else if k.revoked then some (2, 3) else none

/-- Check 5: whether the firmware interface is the one that the bundle was assembled for. -/
def State.targetOk (s : State) (b : Bundle) : Bool :=
  bits (b.word 2) 63 48 == s.fld R.DEV_IF_VER_MAJOR 0 && decide (bits (b.word 2) 47 32 ≤ s.fld R.DEV_IF_VER_MINOR 0)

/-- Check 7: the first instruction that its class or its source refuses, as STATUS, DETAIL0 and word index. One that both refuse is
refused for its class (DESIGN CHOICE, log 124). -/
def classCheck (q : OrderQueue) (cls grant : Nat) : List ProgStep → Option (Nat × Nat × Nat)
  | [] => none
  | p :: ps =>
    if cls < classOf p.instr then some (3, classOf p.instr * 256 + grant, p.index)
    else if !permittedOn p.instr q then some (2, 6, p.index)
    else classCheck q cls grant ps

end Sys2Proof.Machine
end

