-- ==== Sys2Proof/Machine/Apply.lean ====
section
/-! DEFINITION. What a staged write does when its commit applies (R25, R31, R70), where staged writes go (R514), and the
locations that they write (R25). Follows spec/01 and the chapters of the registers that a SET names. -/

namespace Sys2Proof.Machine

/-! ### SET (R70) -/

/-- The lane of an STF register instance. -/
def stfLaneOf (r : RegSpec) (n : Nat) : Nat := n / r.n2

/-- What follows the write of an OW register at its edge: `old` is the word before, and `mask` the bits written. -/
def State.afterSet (s : State) (r : RegSpec) (n old mask : Nat) : State :=
  if r = R.PORT_PFC then
    let gained := s.pfcAsserted n &&& (255 - bits old 15 8)
    if gained != 0 && s.flag R.PORT_STAT_LINK_UP n then s.updPort n (fun q => { q with pfcDue := true }) else s
  else if r = R.CELL_PORT_PFC then (List.range 8).foldl (fun s k => s.xoffCheck n k) s
  else if r = R.STF_CFG ∨ r = R.STF_ID ∨ r = R.STF_SEC_TRACE_EXP then
    let lane := stfLaneOf r n
    (s.evalLane lane).evalTus lane
  else if r = R.STF_PATH_TRACE_EXP then
    let lane := n / 156
    if s.stfLane lane then (s.channelsOn lane).foldl State.refreshChannel (s.evalTu lane (n % 156 / 2)) else s
  else if r = R.TSI_CFG then
    (onesOf 4 mask).foldl (fun s q => s.lifeAsk R.TSI_Q_STAT_LC q (bit (s.reg R.TSI_CFG 0) q)) s
  else if r = R.TSI_XP then
    let a := bits old 8 0
    let b := bits old 24 16
    let s := [a, b, s.fld R.TSI_XP_LANE_A n, s.fld R.TSI_XP_LANE_B n].foldl State.refreshPairs (s.refreshPair n)
    if s.flag R.TSI_XP_EN n then (s.wantLane (s.fld R.TSI_XP_LANE_A n)).wantLane (s.fld R.TSI_XP_LANE_B n) else s
  else if r = R.PIPE_PAT_CFG then if bit mask 0 then s.askEngine n (s.flag R.PIPE_PAT_CFG_PAT_EN n) else s
  else if r = R.PIPE_SLOW_CFG then if s.reg r n = old then s else s.slowReset (n / 7) (n % 7 + 1)
  else if r = R.CELL_QUAR_RET then if mask = 0 then s else { s with scrub := s.scrub ++ [s.fld R.CELL_QUAR_RET_INDEX 0] }
  else if r = R.CELL_MIRROR then if s.reg r n = old then s else { s with mirrorCount := SMap.set 0 s.mirrorCount n 0 }
  else if r = R.TM_PORT_SHAPE then s.reshape n 8 (bits old 63 32, bits old 31 0)
  else if r = R.TM_GROUP_SHAPE then s.reshape (n / 8) (n % 8) (bits old 63 32, bits old 31 0)
  else if r = R.TIME_TB_CFG then s.tbCfgChanged n old
  else if r = R.TIME_TIN_CFG then s.tinCfgChanged n old
  else s

/-- The word that a SET merges with: AUTH_OTP_CTL reads the fuses. -/
def State.oldWord (s : State) (r : RegSpec) (n : Nat) : Nat :=
  if r = R.AUTH_OTP_CTL then ofFlag s.otp.freeze <<< 8 + s.otp.rollback else s.reg r n

/-- A SET of AUTH_OTP_CTL at its edge (R109, R487): the fuses are burned, and nothing is stored. -/
def State.burnOtp (s : State) (value mask : Nat) : State :=
  let s := if bit mask 8 && bit value 8 then { s with otp := { s.otp with freeze := true } } else s
  let v := bits (setMerge R.AUTH_OTP_CTL (s.oldWord R.AUTH_OTP_CTL 0) value mask) 6 0
  if s.otp.rollback < v then
    { s with otp := { s.otp with rollback := v } }.raise EV_AUTH_ROLLBACK 0
  else s

/-- A SET at its edge. -/
def State.applySet (s : State) (off : Nat) (w64 : Bool) (value mask : Nat) : State :=
  match setTarget off w64 value mask with
  | none => s
  | some (r, n, v, m) =>
    if r = R.AUTH_OTP_CTL then s.burnOtp v m
    else if r = R.PWR_FREEZE_CTL then if bit m 0 && bit v 0 && s.freezeAllowed then s.freeze 2 else s
    else
      let old := s.reg r n
      (s.setReg r n (setMerge r old v m)).afterSet r n old m

/-! ### The ranges that a SET's value is held to (R70) -/

/-- The word that a register will hold after the SETs of a set so far. -/
def State.regAfter (s : State) (items : List OrderInstr) (r : RegSpec) (n : Nat) : Nat :=
  items.foldl (fun w i =>
    match i with
    | .set off w64 _ value mask =>
      match setTarget off w64 value.toNat mask.toNat with
      | some (r', n', v, m) => if r' = r ∧ n' = n then setMerge r w v m else w
      | none => w
    | _ => w) (s.oldWord r n)

/-- Whether a half of a trace can belong to one of R192: `hi` says that it is the half of bytes 8 to 15. -/
def traceHalfOk (hi : Bool) (w : Nat) : Bool :=
  (List.range 8).all (fun k => bit w (8 * k + 7) == (k == 0 && !hi))

/-- Whether a half of a trace may become `w` (R217), `o` being the other half as it stands or as the set leaves it: beside a half that is
not zero the whole trace is tested; beside a zero half, which is half a trace on its way, the byte marks are (DESIGN CHOICE). -/
def traceSetOk (hi : Bool) (w o : Nat) : Bool :=
  if w = 0 then true else if o = 0 then traceHalfOk hi w
  else traceOk ((if hi then [o, w] else [w, o]).flatMap (leBytes 8))

/-- Whether the new word of a register keeps to what its chapter says of several fields together. -/
def State.wordOk (s : State) (items : List OrderInstr) (r : RegSpec) (n new : Nat) : Bool :=
  if r = R.TIME_TPO_WIDTH then new == 0 || (decide (4 ≤ new) && decide (new ≤ 1000000000))
  else if r = R.CELL_PROFILE then
    bits new 39 20 == 0 || (decide (bits new 19 0 ≤ bits new 39 20) && decide (bits new 39 20 ≤ 655360))
  else if r = R.CELL_PORT_PFC then decide (bits new 15 0 < bits new 31 16)
  else if r = R.TM_PORT_SHAPE ∨ r = R.TM_GROUP_SHAPE then bits new 63 32 != 0 || bits new 31 0 == 0
  else if r = R.CELL_QUAR_RET then decide (new < cellTotal) || new == 0xFFFFF
  else if r = R.TSI_XP then
    !bit new 31 || (decide (bits new 8 0 < bits new 24 16) && bits new 8 0 / 128 == bits new 24 16 / 128)
  else if r = R.TIME_TB_CFG then if n = 0 then bits new 2 0 != 7 else bits new 2 0 != 6
  else if r = R.TBL_HASH_SEED then s.table.isEmpty || new == s.hashSeed
  else if r = R.PIPE_TCAM_RD_SEL then !bit new 15 || decide (bits new 13 0 ≤ 4095)
  else if r = R.PORT_TS_CFG then !isChannel n || !bit new 31
  else if r = R.AUTH_OTP_CTL then true
  else if r = R.STF_SEC_TRACE_TX ∨ r = R.STF_SEC_TRACE_EXP ∨ r = R.STF_PATH_TRACE_TX ∨ r = R.STF_PATH_TRACE_EXP then
    traceSetOk (n % 2 == 1) new (s.regAfter items r (if n % 2 = 0 then n + 1 else n - 1))
  else true

/-- Whether a SET behind the items of its set writes values in range (R70). -/
def State.setRangeOk (s : State) (items : List OrderInstr) (off : Nat) (w64 : Bool) (value mask : Nat) : Bool :=
  match setTarget off w64 value mask with
  | none => true
  | some (r, n, v, m) =>
    let old := s.regAfter items r n
    let new := setMerge r old v m
    m == 0 ||
      (r.fields.all (fun f => f.acc != .ow || bits m f.hi f.lo == 0 || (decide (f.least ≤ bits new f.hi f.lo) && decide (bits new f.hi f.lo ≤ f.most))) &&
        (r != R.AUTH_OTP_CTL || bits m 6 0 == 0 || s.rollbackOk (bits new 6 0)) && s.wordOk items r n new)

/-! ### One staged write at its edge -/

/-- The places of a TCAM or pattern instruction get an entry from version `v`, or are closed at it. -/
def writeEntry (v k : Nat) (close : Bool) (words : List Word64) (m : SMap Entry) : SMap Entry :=
  if close then
    match SMap.find m k with
    | some e => SMap.put m k { e with until' := v, staged := .applied }
    | none => m
  else SMap.put m k { words := words, since := v, until' := v, staged := .applied }

/-- The write of an entry, or of its closing, is staged for the version behind `c` (R27). -/
def stageEntry (c k : Nat) (close : Bool) (words : List Word64) (m : SMap Entry) : SMap Entry :=
  let v := (c + 1) % 256
  if close then
    match SMap.find m k with
    | some e => SMap.put m k { e with until' := v, staged := .leaving }
    | none => m
  else SMap.put m k { words := words, since := v, until' := v, staged := .entering }

/-- Staged writes keep to C + 1 as the version advances to `c` (R22). -/
def restageEntries (c : Nat) (m : SMap Entry) : SMap Entry :=
  let v := (c + 1) % 256
  m.map (fun e =>
    match e.2.staged with
    | .applied => e
    | .entering => (e.1, { e.2 with since := v, until' := v })
    | .leaving => (e.1, { e.2 with until' := v }))

/-- What is staged at the places of a list is withdrawn. -/
def unstageEntries (ks : List Nat) (m : SMap Entry) : SMap Entry :=
  (m.filter (fun e => !(e.2.staged == .entering && ks.contains e.1))).map (fun e =>
    if e.2.staged = .leaving ∧ ks.contains e.1 = true then (e.1, { e.2 with until' := e.2.since, staged := .applied }) else e)

/-- The places that a set has claimed. -/
def claimedBy (id : Nat) (claims : SMap Nat) : List Nat := (claims.filter (fun e => e.2 == id)).map Prod.fst

/-- The pattern slots that a PAT.LOAD names, with the words and whether it closes them. -/
def patSlots (pipes first : Nat) (words : List Word64) : List (Nat × List Word64 × Bool) :=
  (onesOf 8 pipes).flatMap (fun pl =>
    (groupsOf 9 (words.length / 9) words).mapIdx (fun i ws =>
      (4096 * pl + first + i, ws, bits (ws.getD 0 0).toNat 63 62 == 1)))

/-- A signal label set at its edge (R195). -/
def State.applyTuMap (s : State) (lane tu label : Nat) : State :=
  let k := tuKey lane tu
  let s := (s.setFld R.STF_TU_LABEL_TX_LABEL k label).setFld R.STF_TU_LABEL_EXP_LABEL k label
  if s.stfLane lane then (s.channelsOn lane).foldl State.refreshChannel (s.evalTu lane tu) else s

/-- The number of a pipeline's standby parse bank. -/
def State.standbyKey (s : State) (pl : Nat) : Nat := 2 * pl + (1 - s.fld R.PIPE_PARSE_STAT_CUR_BANK pl)

/-- The reserved flow that a RSV.DECL declares (R362). -/
def flowOf (meter queue : Nat) (w0 w1 : Word64) : Flow :=
  { meter := meter, queue := queue, inPort := (rsvPorts w0).1, outPort := (rsvPorts w0).2, deadline := bits w0.toNat 31 0
    maxFrame := bits w1.toNat 63 32, burst := bits w1.toNat 31 0, inspect := false, bound := 0, epoch := 0 }

/-- One staged write takes effect under version `v`. -/
def State.applyItem (v : Nat) (s : State) (i : OrderInstr) : State :=
  match i with
  | .set off w64 _ value mask => s.applySet off w64 value.toNat mask.toNat
  | .tcamWr pipe index egress invalidate words =>
    { s with tcam := writeEntry v (tcamKey pipe egress index) invalidate words s.tcam }
  | .parseLoad pipes _ _ =>
    (onesOf 8 pipes).foldl (fun s pl =>
      let k := s.standbyKey pl
      if (SMap.find s.bankClaims k).isSome then
        let s := s.swapBank pl v
        { s with bankClaims := SMap.del s.bankClaims k }
      else s) s
  | .patLoad pipes first words =>
    { s with patterns := (patSlots pipes first words).foldl (fun m e => writeEntry v e.1 e.2.2 e.2.1 m) s.patterns }
  | .tuMap lane tu label => s.applyTuMap lane tu label
  | .chanBind port lane unbind lo hi =>
    let s := s.applyChanBind port lane unbind lo hi
    if unbind then s else s.wantLane lane
  | .portUp port lane lanes speed fec mode => s.applyPortUp port lane lanes speed fec mode
  | .portDown port => s.applyPortDown port
  | .laneCfg lane param value =>
    let s := s.applyLaneCfg lane param value
    let s := if param = 0x06 then s.recalLane lane else s
    match s.portOfLane lane with
    | none => s
    | some p =>
      match param with
      | 0x00 | 0x01 | 0x24 => s.repark p
      | 0x26 => if s.firstLane p = lane then s.showPartner p else s
      | 0x27 => s.thinWake p
      | _ => s
  | .qCfg queue port tier group w0 w1 => s.applyQueue queue port tier group w0 w1
  | .meterCfg meter alg aware w0 w1 => s.applyMeter meter alg aware w0 w1
  | .rsvDecl flow meter queue withdraw w0 w1 =>
    if withdraw then { s with flows := SMap.del s.flows flow }
    else { s with flows := SMap.put s.flows flow (flowOf meter queue w0 w1) }
  | .pulseSet tpo tb enable train sec ns period => s.applyPulse tpo tb enable train sec ns period
  | _ => s

/-- Whether a staged write is versioned (R67). -/
def versioned (i : OrderInstr) : Bool :=
  match i with
  | .tblIns .. | .tblDel .. | .tblMod .. | .tcamWr .. | .parseLoad .. | .patLoad .. => true
  | _ => false

/-- The entries that set `id` has staged in TCAMs and pattern stores are withdrawn; its claims stay (R29). -/
def State.unstage (s : State) (id : Nat) : State :=
  { s with tcam := unstageEntries (claimedBy id s.tcamClaims) s.tcam, patterns := unstageEntries (claimedBy id s.patClaims) s.patterns }

/-- The claims that a set holds are released (R265, R274, R293, R254, R233), with what is staged under them; the standby Leaf keeps
its words. -/
def State.dropClaims (s : State) (id : Nat) : State :=
  let s := s.unstage id
  { s with table := releaseClaims id s.table, tcamClaims := s.tcamClaims.filter (fun e => e.2 != id)
           patClaims := s.patClaims.filter (fun e => e.2 != id), bankClaims := s.bankClaims.filter (fun e => e.2 != id)
           leafPrev := s.leafPrev.filter (fun e => e.2.1 != id) }

/-- The writes of set `id` take effect under version `v`, in order; `bounds` are the bounds of the flows that its admission
evaluated, with whether T_scan applied (R370). -/
def State.applyWrites (s : State) (id v : Nat) (items : List OrderInstr) (bounds : List (Nat × Nat × Bool)) : State :=
  let s := items.foldl (State.applyItem v) { s with table := applyClaims id v s.table }
  let s := s.dropClaims id
  { s with flows := bounds.foldl (fun m e =>
      match SMap.find m e.1 with
      | some f => SMap.put m e.1 { f with bound := e.2.1, inspect := e.2.2, epoch := s.epochNum }
      | none => m) s.flows }

/-! ### Islands (R514) -/

/-- The islands of a port at a lane: front end, ingress and egress pipeline, traffic manager quadrant. -/
def portIslands (lane : Nat) : List Nat := [28 + lane / 128, lane / 64, 8 + lane / 64, 20 + lane / 128]

/-- The traffic manager island of a queue that is assigned to a port or to none. -/
def State.queueIsland (s : State) (q : Nat) (port : Option Nat) : Nat :=
  match port with
  | some p => 20 + s.place p / 128
  | none => 20 + q / 16384

/-- The islands that a register's staged write goes to. -/
def State.setIslands (s : State) (off : Nat) : List Nat :=
  let d := off - 0xB00000
  if off = 0x114 then [20, 21, 22, 23, 32]
  else if off < 0x30000 then [37]
  else if off < 0x40000 then [35]
  else if off < 0x50000 then if off = 0x43000 then [34, 8, 9, 10, 11, 12, 13, 14, 15] else [34]
  else if off < 0x60000 then [36, 39]
  else if off < 0x100000 then [39]
  else if off < 0x600000 then portIslands (s.place ((off - 0x200000) / 0x1000))
  else if off < 0xA00000 then [28 + (off - 0x600000) / 0x2000 / 128, 24 + (off - 0x600000) / 0x2000 / 128]
  else if off < 0xA00400 then [24, 25, 26, 27]
  else if off < 0xB00000 then []
  else if off < 0xC00000 then
    if d < 0x20000 ∧ 0x1800 ≤ d ∧ d < 0x2000 then [0, 1, 2, 3, 4, 5, 6, 7, 33]
    else if 0x4000 ≤ d % 0x20000 ∧ d % 0x20000 < 0x8000 then [d / 0x20000, 8 + d / 0x20000, 33]
    else [d / 0x20000, 8 + d / 0x20000]
  else if off < 0xD00000 then
    if 0xC02000 ≤ off ∧ off < 0xC02080 then List.range 24
    else [16, 17, 18, 19, 20, 21, 22, 23]
  else if 0xD10000 ≤ off ∧ off < 0xD30000 then [20 + s.place ((off - 0xD10000) / 0x80) / 128]
  else [20, 21, 22, 23]

/-- The islands of the lanes of an express pair, for the words of its register before and after a write that enable it. -/
def pairIslands (words : List Nat) : List Nat :=
  words.flatMap (fun w => [28 + bits w 8 0 / 128, 24 + bits w 8 0 / 128, 28 + bits w 24 16 / 128, 24 + bits w 24 16 / 128])

/-- The islands that a staged write goes to. -/
def State.itemIslands (s : State) (i : OrderInstr) : List Nat :=
  match i with
  | .set off w64 _ value mask =>
    match setTarget off w64 value.toNat mask.toNat with
    | none => []
    | some (r, n, v, m) =>
      if m = 0 then []
      else if r = R.TSI_XP then pairIslands ([s.reg r n, setMerge r (s.reg r n) v m].filter (fun w => bit w 31))
      else s.setIslands off
  | .tblIns pipes .. => onesOf 8 pipes
  | .tblDel pipes .. => onesOf 8 pipes
  | .tblMod pipes .. => onesOf 8 pipes
  | .tcamWr pipe _ egress .. => [if egress then 8 + pipe else pipe]
  | .parseLoad pipes .. => onesOf 8 pipes
  | .patLoad pipes .. => onesOf 8 pipes
  | .leafWr outLane .. => [24 + outLane / 128]
  | .tuMap lane .. => [28 + lane / 128, 24 + lane / 128]
  | .chanBind port lane unbind _ _ =>
    if unbind then portIslands (s.place port) else portIslands (s.place port) ++ portIslands lane ++ [24 + lane / 128]
  | .portUp port lane .. => portIslands (s.place port) ++ portIslands lane
  | .portDown port => portIslands (s.place port)
  | .laneCfg lane .. => [28 + lane / 128]
  | .qCfg queue port _ _ w0 _ =>
    [s.queueIsland queue (s.queue queue).port, s.queueIsland queue (if bits w0.toNat 47 32 = 0 then none else some port)]
  | .meterCfg meter .. => [meter / 16384]
  | .rsvDecl flow _ queue withdraw _ _ =>
    (match SMap.find s.flows flow with
      | some f => [s.queueIsland f.queue (s.queue f.queue).port]
      | none => []) ++ (if withdraw then [] else [s.queueIsland queue (s.queue queue).port])
  | .pulseSet .. => [34]
  | _ => []

/-- The islands of a set as a bit map; a set that carries LEAF_SWAP goes to every TSI quadrant. A write to a unit that the set
itself moves reaches no further island, since the move goes to the old and the new ones. -/
def State.setIslandMap (s : State) (items : List OrderInstr) (leafSwap : Bool) : Nat :=
  maskOf ((items.flatMap s.itemIslands ++ (if leafSwap then [24, 25, 26, 27] else [])).eraseDups)

/-! ### Locations (R25) -/

/-- The locations that a staged write writes, as a kind and a number; entries under a claim have none. -/
def itemKeys (i : OrderInstr) : List (Nat × Nat) :=
  match i with
  | .set off w64 _ value mask =>
    match setTarget off w64 value.toNat mask.toNat with
    | some (r, n, _, m) => if m = 0 then [] else [(0, r.addr n)]
    | none => []
  | .leafWr outLane outTu .. => [(1, tuKey outLane outTu)]
  | .tuMap lane tu _ => [(2, tuKey lane tu)]
  | .chanBind port .. => [(3, port)]
  | .portUp port .. => [(3, port)]
  | .portDown port => [(3, port)]
  | .laneCfg lane param _ => [(4, 256 * lane + (if param = 0x03 then 0x02 else param))]
  | .qCfg queue .. => [(5, queue)]
  | .meterCfg meter .. => [(6, meter)]
  | .rsvDecl flow .. => [(7, flow)]
  | .pulseSet tpo .. => [(8, tpo)]
  | _ => []

/-- Whether two sets write one location. -/
def keysMeet (a b : List OrderInstr) : Bool :=
  let ks := b.flatMap itemKeys
  (a.flatMap itemKeys).any (fun k => ks.contains k)

end Sys2Proof.Machine
end

