-- ==== Sys2Proof/Machine/Admission.lean ====
section
/-! DEFINITION. What COMMIT tests of the state that will hold after the commit applies: its structure (R337, R342, R354, R363),
TSI admission (R237), scan admission (R280) and deadline admission (R364 to R370). Follows spec/07, spec/08, spec/10 and
spec/11. -/

namespace Sys2Proof.Machine

/-! ### The state that will hold -/

/-- A write of a set on the state that will hold; Leaf words go to the standby page, and entries are open from the next
version. -/
def State.projectItem (s : State) (i : OrderInstr) : State :=
  match i with
  | .leafWr outLane outTu inLane inTu unequipped =>
    let k := tuKey outLane outTu
    s.setReg (leafReg (1 - s.activeLeaf (leafQuadrant k))) k (leafWord inLane inTu unequipped)
  | i => State.applyItem ((s.version + 1) % 256) s i

/-- The writes of a set, and its Leaf swap with the copy behind it, on the state that will hold. -/
def State.projectSet (s : State) (items : List OrderInstr) (swap : Bool) : State :=
  let s := items.foldl State.projectItem s
  if swap then (List.range 4).foldl State.leafCopied s.leafSwap else s

/-- The commits that take effect no later than one that names `named` now (0: at the first edge). -/
def State.earlierCommits (s : State) (named : Nat) : List Commit :=
  let last := if named = 0 then s.epochNum + 1 else named
  s.bureau.commits.filter (fun c => c.named == 0 || decide (c.named ≤ last))

/-- The state on which a set of a commit that names `named` will apply. -/
def State.projectBase (s : State) (named : Nat) : State :=
  (s.earlierCommits named).foldl (fun s c => s.projectSet (c.items.filter (fun i =>
    match i with
    | .leafWr .. => false
    | _ => true)) c.leafSwap) ((List.range 4).foldl State.leafCopied s)

/-- The first withdrawal of a flow that is not declared, in a set behind a state's flows (R363). -/
def absentFlow : List OrderInstr → SMap Flow → Option Nat
  | [], _ => none
  | .rsvDecl f _ _ true _ _ :: rest, m =>
    if (SMap.find m f).isNone then some f else absentFlow rest (SMap.del m f)
  | .rsvDecl f meter queue false w0 w1 :: rest, m => absentFlow rest (SMap.put m f (flowOf meter queue w0 w1))
  | _ :: rest, m => absentFlow rest m

/-! ### Ports of a path (R363, R365) -/

/-- Whether a port will be up: On, or on its way there. -/
def State.willBeUp (s : State) (p : Nat) : Bool :=
  match s.portLife p, pendingOf (s.fld R.PORT_STAT_LC p) with
  | .on, _ => true
  | .starting, r => r != some false
  | .stopping, r => r == some true
  | .off, _ => false

/-- The members of a packet channel. -/
def State.chanMembers (s : State) (p : Nat) : Nat := s.fld R.PORT_CHAN_BIND_MEMBERS (p - 512)

/-- Whether a port is an Ethernet port or a packet channel. -/
def State.pathPort (s : State) (p : Nat) : Bool :=
  if isChannel p then decide (0 < s.chanMembers p) else (s.port p).place.isSome && s.portMode p == 0

/-- R_P in units of 1/8000 Mbit/s. -/
def State.admitRate (s : State) (p : Nat) : Nat :=
  if !s.willBeUp p then 0
  else
    let r := if isChannel p then s.chanMembers p * 10481664 else speedGbps (s.fld R.PORT_STAT_SPEED p) * 8000000
    let shape := (s.shape p 8).1
    if shape = 0 then r else min r (shape * 8000)

/-- OH_P and OH_rx in bytes, and k_P in eighths. -/
def txOverheadBytes (p : Nat) : Nat := if isChannel p then 8 else 24
@[inherit_doc txOverheadBytes] def rxOverheadBytes (p : Nat) : Nat := if isChannel p then 4 else 20
@[inherit_doc txOverheadBytes] def kEighths (p : Nat) : Nat := if isChannel p then 9 else 11

/-- T_in and T_out of a port in ns (R369). -/
def State.termIn (s : State) (p : Nat) : Nat :=
  if isChannel p then (if s.chanMembers p = 1 then 700 else 33000) else if s.fld R.PORT_STAT_FEC p = 0 then 60 else 420
@[inherit_doc State.termIn] def State.termOut (s : State) (p : Nat) : Nat :=
  if isChannel p then 200 else if s.fld R.PORT_STAT_FEC p = 0 then 60 else 320

/-- r_f of a flow in kbit/s, and b_f in bytes (R365). -/
def State.flowRate (s : State) (f : Flow) : Nat := (s.meter f.meter).rate
@[inherit_doc State.flowRate] def State.flowBurst (s : State) (f : Flow) : Nat := max f.burst (s.meter f.meter).burst

/-- The flows on a queue, the flows that leave at a port and those that enter at one. -/
def State.flowsOn (s : State) (q : Nat) : List Flow := (s.flows.map Prod.snd).filter (fun f => f.queue == q)
@[inherit_doc State.flowsOn] def State.flowsOut (s : State) (p : Nat) : List Flow :=
  (s.flows.map Prod.snd).filter (fun f => f.outPort == p)
@[inherit_doc State.flowsOn] def State.flowsIn (s : State) (p : Nat) : List Flow :=
  (s.flows.map Prod.snd).filter (fun f => f.inPort == p)

/-- The sum of the rates, and of the bursts, of some flows. -/
def State.rateSum (s : State) (fs : List Flow) : Nat := fs.foldl (fun n f => n + s.flowRate f) 0
@[inherit_doc State.rateSum] def State.burstSum (s : State) (fs : List Flow) : Nat := fs.foldl (fun n f => n + s.flowBurst f) 0

/-! ### Limits and guaranteed rates (R366, R367) -/

/-- The sum of two limits; none is unlimited. -/
def addLimit (a b : Option (Nat × Nat)) : Option (Nat × Nat) :=
  match a, b with
  | some x, some y => some (x.1 + y.1, x.2 + y.2)
  | _, _ => none

/-- The burst of a shaper with one frame of port `p`, in eighths of a byte. -/
def State.shapedBurst (s : State) (p burst : Nat) : Nat :=
  (burst + s.fld R.PORT_CFG_MAX_FRAME p + txOverheadBytes p) * 8

/-- (ρ_j, σ_j) of a queue of port `p`: units of 1/8000 Mbit/s and eighths of a byte. -/
def State.queueLimit (s : State) (p j : Nat) : Option (Nat × Nat) :=
  let fs := s.flowsOn j
  let u := s.queue j
  if !fs.isEmpty then some (kEighths p * s.rateSum fs, kEighths p * s.burstSum fs)
  else if u.rate ≠ 0 then some (u.rate * 8000, s.shapedBurst p u.burst)
  else none

/-- (ρ_G, σ_G) of a group's members in the tiers above `k`. -/
def State.groupLimit (s : State) (p k g : Nat) : Option (Nat × Nat) :=
  let qs := (s.queuesOf p).filter (fun q => (s.queue q).group == g && decide ((s.queue q).tier < k))
  let sum := qs.foldl (fun a q => addLimit a (s.queueLimit p q)) (some (0, 0))
  let sh := s.shape p g
  match sum with
  | some a => if sh.1 ≠ 0 ∧ sh.1 * 8000 < a.1 then some (sh.1 * 8000, s.shapedBurst p sh.2) else some a
  | none => if sh.1 ≠ 0 then some (sh.1 * 8000, s.shapedBurst p sh.2) else none

/-- I_k and σ_k of a tier. -/
def State.tierLimit (s : State) (p k : Nat) : Option (Nat × Nat) :=
  (List.range 8).foldl (fun a g => addLimit a (s.groupLimit p k g)) (some (0, 0))

/-- A_k in units of 1/8000 Mbit/s. -/
def State.tierRate (s : State) (p k : Nat) : Nat :=
  match s.tierLimit p k with
  | some a => s.admitRate p - a.1
  | none => 0

/-- The lesser of two fractions. -/
def lesser (a b : Nat × Nat) : Nat × Nat := if b.1 * a.2 < a.1 * b.2 then b else a

/-- g_q as a fraction of units of 1/8000 Mbit/s (R367). -/
def State.guaranteed (s : State) (p q : Nat) : Nat × Nat :=
  let u := s.queue q
  let sum := fun (qs : List Nat) => qs.foldl (fun n j => n + (s.queue j).weight) 0
  let a := (s.tierRate p u.tier * u.weight, sum ((s.queuesOf p).filter (fun j => (s.queue j).tier == u.tier)))
  let a := if u.rate = 0 then a else lesser a (u.rate * 8000, 1)
  let sh := (s.shape p u.group).1
  if sh = 0 then a
  else lesser a (sh * 8000 * u.weight, sum ((s.queuesOf p).filter (fun j => (s.queue j).group == u.group)))

/-! ### Scan (R280) -/

/-- The meter that an ingress action with INSPECT names. -/
def inspectMeter (a : List Word64) : Option Nat :=
  if actionBits a 0 59 59 = 1 ∧ actionBits a 0 11 11 = 1 then some (actionBits a 0 28 12) else none

/-- The meters that INSPECT entries of a pipeline name, valid for the new version: entries that are not closed. -/
def State.inspectMeters (s : State) (pl : Nat) : List Nat :=
  s.tcam.filterMap (fun e =>
    if e.1 / 16384 = 2 * pl ∧ e.2.since = e.2.until' ∧ e.2.staged ≠ .entering then inspectMeter (e.2.words.drop 16) else none)

/-- Whether T_scan applies to a flow. -/
def State.scanned (s : State) (f : Flow) : Bool := (s.inspectMeters (s.pipeOf f.inPort)).contains f.meter

/-- D_p in kbit/s. -/
def State.scanDemand (s : State) (pl : Nat) : Nat :=
  let ms := s.inspectMeters pl
  2 * s.rateSum ((s.flows.map Prod.snd).filter (fun f => s.pipeOf f.inPort == pl && ms.contains f.meter))

/-- C_p in kbit/s: the engine is On or Starting in the state that will hold. -/
def State.scanCapacity (s : State) (pl : Nat) : Nat :=
  match s.life R.PIPE_PAT_STAT_LC pl with
  | .on | .starting => 742400000
  | .stopping | .off => 0

/-! ### Refusals -/

/-- DETAIL0 and DETAIL1 of a REFUSED_DEADLINE. -/
def deadlineDetail (reason object demand capacity : Nat) : Nat × Nat :=
  (reason <<< 48 + (object % 2 ^ 16) <<< 32, min demand (2 ^ 32 - 1) <<< 32 + min capacity (2 ^ 32 - 1))

/-- The first refusal among some units. -/
def firstSome {α β : Type} (f : α → Option β) : List α → Option β
  | [] => none
  | a :: rest =>
    match f a with
    | some b => some b
    | none => firstSome f rest

/-- Numbers sorted and without repeats. -/
def rising (l : List Nat) : List Nat := l.foldl (fun acc n => if acc.contains n then acc else insertRising n acc) []

/-- TSI admission on the state that will hold. -/
def State.tsiAdmission (s : State) : Option (Nat × Nat) :=
  let lanes := s.enabledPairs.flatMap (fun i => [s.fld R.TSI_XP_LANE_A i, s.fld R.TSI_XP_LANE_B i])
  let chans := s.boundChannels
  let bound := chans.flatMap (fun p => (s.chanTus p).map (fun t => tuKey (s.chanLane p) t))
  let twice := fun (l : List Nat) => l.filter (fun n => decide (1 < l.count n))
  match rising (twice lanes), rising (twice bound) with
  | n :: _, _ => some (deadlineDetail 6 n 0 0)
  | [], k :: _ => some (deadlineDetail 6 (k / 78) 2621 1310)
  | [], [] =>
    match (rising bound).find? (fun k => (leafInput (s.leafActive k)).isSome) with
    | some k => some (deadlineDetail 6 (k / 78) 2621 1310)
    | none =>
      firstSome (fun q =>
        let n := s.connCount q
        if 5120 < n then some (deadlineDetail 6 (128 * q) (n * 131072 / 100) 6710886) else none) (List.range 4)

/-- Scan admission on the state that will hold. -/
def State.scanAdmission (s : State) : Option (Nat × Nat) :=
  firstSome (fun pl =>
    let d := s.scanDemand pl
    let c := s.scanCapacity pl
    if c < d then some (deadlineDetail 5 pl (d / 1000) (c / 1000)) else none) (List.range 8)

/-- The port, tier and queue checks for the units of some flows (R368). -/
def State.rateChecks (s : State) (fs : List Flow) : Option (Nat × Nat) :=
  let outs := rising (fs.map Flow.outPort)
  let ins := fs.map Flow.inPort
  let portCheck := fun (p : Nat) =>
    let d := kEighths p * s.rateSum (s.flowsOut p)
    let r := s.admitRate p
    if outs.contains p ∧ r < d then some (deadlineDetail 4 p (ceilDiv d 8000) (r / 8000))
    else if ins.contains p ∧ r = 0 then some (deadlineDetail 4 p (ceilDiv (s.rateSum (s.flowsIn p)) 1000) 0)
    else none
  let tierCheck := fun (e : Nat × Nat) =>
    let d := kEighths e.1 * s.rateSum ((s.flowsOut e.1).filter (fun f => (s.queue f.queue).tier == e.2))
    let a := s.tierRate e.1 e.2
    if a < d then some (deadlineDetail 3 e.1 (ceilDiv d 8000) (a / 8000)) else none
  let queueCheck := fun (q : Nat) =>
    match (s.queue q).port with
    | none => none
    | some p =>
      let d := kEighths p * s.rateSum (s.flowsOn q)
      let g := s.guaranteed p q
      if g.1 < d * g.2 then some (deadlineDetail 2 q (ceilDiv d 8000) (g.1 / (g.2 * 8000))) else none
  (firstSome portCheck (rising (outs ++ ins))).or
    ((firstSome tierCheck (outs.flatMap (fun p => (List.range 4).map (fun k => (p, k))))).or
      (firstSome queueCheck (rising (fs.map Flow.queue))))

/-- The time of some bits at a rate given as a fraction of units of 1/8000 Mbit/s, in 2^-16 ns, rounded up. -/
def bitTime (n : Nat) (rate : Nat × Nat) : Nat := ceilDiv (n * 8000 * 1000 * 65536 * rate.2) rate.1

/-- The bound of a flow in ns (R369, R370). -/
def State.boundOf (s : State) (f : Flow) : Nat :=
  let p := f.outPort
  let onq := s.flowsOn f.queue
  let k := (s.queue f.queue).tier
  let longest := onq.foldl (fun n g => max n g.maxFrame) 0
  let fixed := s.termIn f.inPort + 300 + (if s.scanned f then 800 else 0) + s.termOut p
  let sigma := match s.tierLimit p k with
    | some a => a.2
    | none => 0
  ceilDiv (fixed * 65536 + bitTime (8 * (f.maxFrame + rxOverheadBytes f.inPort)) (s.admitRate f.inPort, 1) +
    bitTime (kEighths p * s.burstSum onq + 8 * (longest + txOverheadBytes p)) (s.guaranteed p f.queue) +
    bitTime (8 * (s.fld R.PORT_CFG_MAX_FRAME p + txOverheadBytes p)) (s.admitRate p, 1) +
    (if sigma = 0 then 0 else bitTime sigma (s.tierRate p k, 1))) 65536

/-- The bound checks of some flows, in ascending number. -/
def State.boundChecks (s : State) (fs : List (Nat × Flow)) : Option (Nat × Nat) :=
  firstSome (fun (e : Nat × Flow) =>
    let limit := min e.2.deadline (s.fld R.DEV_LIFETIME_LIMIT_MS 0 * 1000000)
    let b := s.boundOf e.2
    if limit < b then some (deadlineDetail 1 e.1 b limit) else none) fs

/-! ### Structure (R337, R342, R354, R363) -/

/-- DETAIL1 of a result code with its object (R266). -/
def objectCode (object code : Nat) : Nat := (object % 2 ^ 16) <<< 32 + code

/-- The multicast groups whose maps a set writes. -/
def groupsWritten (items : List OrderInstr) : List Nat :=
  rising (items.filterMap (fun i =>
    match i with
    | .set off w64 _ v m =>
      match setTarget off w64 v.toNat m.toNat with
      | some (r, n, _, _) => if r = R.CELL_MCAST_MAP then some (n / 16) else none
      | none => none
    | _ => none))

/-- The ports to which queues are assigned, and those that are not Off. -/
def State.queuePorts (s : State) : List Nat := rising (s.livePorts ++ s.queues.filterMap (fun e => e.2.port))

/-- The first breach of structure of the state that will hold, as DETAIL1; 0 for none. The order among the codes is that of
their values (DEDUCED). -/
def State.structureCode (s : State) (items : List OrderInstr) (absent : Option Nat) : Nat :=
  let big := (groupsWritten items).find? (fun g => decide (1008 < (s.members g).length))
  let path := s.flows.find? (fun e =>
    (s.queue e.2.queue).port != some e.2.outPort || (s.meter e.2.meter).alg == 0 ||
      e.2.meter / 16384 != s.pipeOf e.2.inPort || !s.pathPort e.2.inPort || !s.pathPort e.2.outPort)
  let frame := s.flows.find? (fun e =>
    decide (s.fld R.PORT_CFG_MAX_FRAME e.2.inPort < e.2.maxFrame) || decide (s.fld R.PORT_CFG_MAX_FRAME e.2.outPort < e.2.maxFrame))
  let count := s.queuePorts.find? (fun p =>
    let n := (s.queuesOf p).length
    decide (128 < n) || (n == 0 && s.portLife p != .off))
  let tier := (rising (s.flows.map (fun e => e.2.queue))).find? (fun q =>
    match (s.queue q).port with
    | none => false
    | some p =>
      (s.shape p (s.queue q).group).1 != 0 &&
        (s.queuesOf p).any (fun j => (s.queue j).group == (s.queue q).group && (s.queue j).tier != (s.queue q).tier))
  let shared := s.flows.find? (fun e => s.flows.any (fun d => decide (d.1 < e.1) && d.2.meter == e.2.meter))
  if cellTotal < s.sumMinimum + s.sumHeadroom + 65536 then objectCode 0 0x0201
  else match big, path, frame, count, tier, absent, shared with
    | some g, _, _, _, _, _, _ => objectCode g 0x0202
    | none, some e, _, _, _, _, _ => objectCode e.1 0x0301
    | none, none, some e, _, _, _, _ => objectCode e.1 0x0302
    | none, none, none, some p, _, _, _ => objectCode p 0x0303
    | none, none, none, none, some q, _, _ => objectCode q 0x0304
    | none, none, none, none, none, some f, _ => objectCode f 0x0305
    | none, none, none, none, none, none, some e => objectCode e.1 0x0306
    | none, none, none, none, none, none, none => 0

/-! ### What a set touches (R72, R237, R280, R364) -/

/-- Whether a set's writes call for TSI admission. -/
def tsiTouched (i : OrderInstr) : Bool :=
  match i with
  | .leafWr .. | .chanBind .. => true
  | .set off .. => decide (0xA00400 ≤ off) && decide (off < 0xA00800)
  | _ => false

/-- The ports that a set names, or whose queues, groups or shaper it alters (R364). -/
def State.portsNamed (s : State) (i : OrderInstr) : List Nat :=
  match i with
  | .portUp port .. => [port]
  | .portDown port => [port]
  | .chanBind port .. => [port]
  | .qCfg queue port _ _ w0 _ => (s.queue queue).port.toList ++ (if bits w0.toNat 47 32 = 0 then [] else [port])
  | .rsvDecl _ _ _ withdraw w0 _ => if withdraw then [] else [(rsvPorts w0).1, (rsvPorts w0).2]
  | .set off w64 _ v m =>
    match setTarget off w64 v.toNat m.toNat with
    | some (r, n, _, _) =>
      if r = R.PORT_CFG ∨ r = R.TM_PORT_SHAPE then [n] else if r = R.TM_GROUP_SHAPE then [n / 8] else []
    | none => []
  | _ => []

/-- The queues that a set names. -/
def queuesNamed (i : OrderInstr) : List Nat :=
  match i with
  | .qCfg queue .. => [queue]
  | .rsvDecl _ _ queue false _ _ => [queue]
  | _ => []

/-- The meters that a set names; an INSPECT entry names its meter. -/
def State.metersNamed (s : State) (i : OrderInstr) : List Nat :=
  match i with
  | .meterCfg meter .. => [meter]
  | .rsvDecl _ meter _ false _ _ => [meter]
  | .tcamWr pipe index false true _ =>
    match SMap.find s.tcam (tcamKey pipe false index) with
    | some e => (inspectMeter (e.words.drop 16)).toList
    | none => []
  | .tcamWr _ _ false false words => (inspectMeter (words.drop 16)).toList
  | _ => []

/-- Whether a set's writes call for scan admission. -/
def State.scanTouched (s : State) (i : OrderInstr) : Bool :=
  match i with
  | .rsvDecl .. => true
  | .tcamWr pipe index false true _ =>
    (SMap.find s.tcam (tcamKey pipe false index)).any (fun e => actionBits (e.words.drop 16) 0 59 59 == 1)
  | .tcamWr _ _ false false words => actionBits (words.drop 16) 0 59 59 == 1
  | .meterCfg meter .. => s.flows.any (fun e => e.2.meter == meter && s.scanned e.2)
  | .set off w64 _ v m =>
    match setTarget off w64 v.toNat m.toNat with
    | some (r, _, _, b) => r == R.PIPE_PAT_CFG && bit b 0
    | none => false
  | _ => false

/-- How COMMIT judges a set: admitted, with the bounds of the flows evaluated; a breach of structure with its DETAIL1; or a
refusal with DETAIL0 and DETAIL1. -/
inductive Verdict
  | admitted (bounds : List (Nat × Nat × Bool))
  | breach (detail1 : Nat)
  | refused (detail0 detail1 : Nat)
  deriving DecidableEq, Repr

/-- How a set was judged: the verdict, whether an admission ran, the number of flows evaluated, and D_p and C_p of the pipelines, in
Mbit/s, where a scan admission ran. -/
structure Judgement where
  verdict : Verdict
  ran : Bool
  flows : Nat
  scans : List (Nat × Nat)
  deriving DecidableEq, Repr

/-- The judgement on a set. -/
def State.judgeSet (s : State) (named : Nat) (items : List OrderInstr) (swap : Bool) : Judgement :=
  let base := s.projectBase named
  let t := base.projectSet items swap
  let code := t.structureCode items (absentFlow items base.flows)
  if code ≠ 0 then ⟨.breach code, false, 0, []⟩
  else
    let ports := items.flatMap base.portsNamed
    let queues := items.flatMap queuesNamed
    let meters := items.flatMap base.metersNamed
    let fs := t.flows.filter (fun e =>
      ports.contains e.2.inPort || ports.contains e.2.outPort || queues.contains e.2.queue || meters.contains e.2.meter)
    let tsi := swap || items.any tsiTouched
    let scan := items.any base.scanTouched
    let flows := !fs.isEmpty || items.any (fun i =>
      match i with
      | .rsvDecl .. => true
      | _ => false)
    let refusal := (if tsi then t.tsiAdmission else none).or ((if scan then t.scanAdmission else none).or
      ((t.rateChecks (fs.map Prod.snd)).or (t.boundChecks fs)))
    let verdict := match refusal with
      | some d => .refused d.1 d.2
      | none => .admitted (fs.map (fun e => (e.1, t.boundOf e.2, t.scanned e.2)))
    ⟨verdict, tsi || scan || flows, fs.length,
      if scan then (List.range 8).map (fun pl => (t.scanDemand pl / 1000, t.scanCapacity pl / 1000)) else []⟩

/-- PIPE_PAT_BUDGET shows the figures of the last accepted scan admission (R280). -/
def State.scanBudget (s : State) (scans : List (Nat × Nat)) : State :=
  scans.zipIdx.foldl (fun s e => (s.setFld R.PIPE_PAT_BUDGET_DEMAND e.2 e.1.1).setFld R.PIPE_PAT_BUDGET_CAPACITY e.2 e.1.2) s

/-- Admission at COMMIT: its result is published (R373, R374). The duration is a free value within the limit of R73. -/
def State.admission (s : State) (named : Nat) (items : List OrderInstr) (swap : Bool) : Verdict × State :=
  let r := s.judgeSet named items swap
  if !r.ran then (r.verdict, s)
  else
    let us := s.freeWord.toNat % (21 + ceilDiv r.flows 4)
    let s := ((s.drawn.tmCount 12 1).setFld R.TM_ADM_STAT_LAST_US 0 us).setFld R.TM_ADM_LAST_EPOCH 0 s.epochNum
    match r.verdict with
    | .refused d0 d1 =>
      let s := (s.setFld R.TM_ADM_LAST_RESULT 0 (bits d0 63 48)).setFld R.TM_ADM_LAST_OBJECT 0 (bits d0 47 32)
      (r.verdict, (s.tmCount 13 1).raiseAt EV_TM_REFUSED 0 0 [d0, d1])
    | v => (v, ((s.setFld R.TM_ADM_LAST_RESULT 0 0).setFld R.TM_ADM_LAST_OBJECT 0 0).scanBudget r.scans)

end Sys2Proof.Machine
end

