-- ==== Sys2Proof/Machine/Bureau.lean ====
section
/-! DEFINITION. The life of a bundle beside its instructions: how it starts, the acceptance checks, its end and its completion
record, the sequence journal, and bundles that arrive in-band (R47 to R60, R79, R80, R97 to R100, R114, R115, R416, R419).
Follows spec/02, spec/03 and spec/13. -/

namespace Sys2Proof.Machine

/-! ### Queues and their slots (R47, R447) -/

/-- The unit number of a queue. -/
def queueUnit (q : OrderQueue) : Nat :=
  match q with
  | .host n => n.val
  | .console => 16
  | .inband => 17
  | .pair => 18

/-- The queue of a unit number. -/
def unitQueue (u : Nat) : OrderQueue :=
  if h : u < 16 then .host ⟨u, h⟩ else if u = 16 then .console else if u = 17 then .inband else .pair

/-- SOURCE of a queue, and the number of a host queue. -/
def sourceCode (q : OrderQueue) : Nat :=
  match q with
  | .host _ => 0
  | .console => 1
  | .inband => 2
  | .pair => 3
@[inherit_doc sourceCode] def hostNumber (q : OrderQueue) : Nat :=
  match q with
  | .host n => n.val
  | _ => 0

/-- The bundle of a queue. -/
def State.slot (s : State) (q : OrderQueue) : Option Bundle := SMap.find s.bureau.slots (queueUnit q)

/-- Stores the bundle of a queue. -/
def State.setSlot (s : State) (q : OrderQueue) (b : Bundle) : State :=
  s.updBureau (fun u => { u with slots := SMap.put u.slots (queueUnit q) b })

/-- A queue has no bundle. -/
def State.freeSlot (s : State) (q : OrderQueue) : State :=
  s.updBureau (fun u => { u with slots := SMap.del u.slots (queueUnit q) })

/-- An order event of a queue: only host queues have a status register (R82). -/
def State.orderEvent (s : State) (e : EvSpec) (q : OrderQueue) (data : List Nat) : State :=
  match q with
  | .host n => s.raiseAt e n.val n.val data
  | _ => s.raiseAt { e with bit := none } 0 (queueUnit q) data

/-! ### The end of a bundle (R75, R80, R115) -/

/-- A bundle ends: a held stage set is discarded, and the refusals of R82 are reported. -/
def State.endBundle (s : State) (q : OrderQueue) (e : Ending) : State :=
  match s.slot q with
  | none => s
  | some b =>
    let s := match b.stage with
      | some st => s.dropClaims st.id
      | none => s
    let s := s.setSlot q { b with phase := .finished, ending := some e, stage := none }
    if 2 ≤ e.status ∧ e.status ≤ 4 then s.orderEvent EV_ORD_REFUSED q [] else s

/-- A bundle is refused by the acceptance checks. -/
def State.refuse (s : State) (q : OrderQueue) (status index detail0 detail1 : Nat) : State :=
  let number := match s.slot q, q with
    | some b, .inband => b.charter - 17
    | _, q => hostNumber q
  let s := s.endBundle q ⟨status, index, detail0, detail1⟩
  if 2 ≤ status ∧ status ≤ 4 then
    let why := if status = 3 then bits detail0 15 8 else detail0 % 256
    (s.setReg R.AUTH_REFUSE_LAST 0 (status <<< 56 + sourceCode q <<< 52 + number <<< 48 + why <<< 40 + s.epochNum % 2 ^ 40)).bump
      R.AUTH_REFUSE_COUNT_COUNT 0 1
  else s

/-! ### Forwarding to the standby (R91, R416, R417, R428) -/

/-- Whether the Psius link is up, and the role that the peer's heartbeats show. -/
def State.linkUp (s : State) : Bool := s.flag R.PAIR_STAT_LINK_UP 0
@[inherit_doc State.linkUp] def State.peerRole (s : State) : Nat := s.fld R.PAIR_STAT_PEER_ROLE 0

/-- Whether a bundle is one that R416 forwards: its instructions, class and source. -/
def forwardable (q : OrderQueue) (b : Bundle) : Bool :=
  q != .pair && decide (b.cls ≤ 1) && b.deviceBind == 0 && b.prog.all (fun p =>
    match p.instr with
    | .pairRole .. | .pairSwap .. | .attest .. => false
    | _ => true)

/-- Whether the active device holds the bundles that it would forward. -/
def State.holdsForwards (s : State) : Bool :=
  s.peerRole == 2 || s.pair.swap.any (fun e => decide (e ≤ s.epochNum))

/-- A bundle is forwarded: it gets a number and an apply epoch, and both devices report when its checks have passed. -/
def State.forward (s : State) (q : OrderQueue) (b : Bundle) : State :=
  let id := s.pair.forwards
  let x := max b.applyAfter (s.epochNum + s.fld R.PAIR_CFG_LEAD 0)
  let s := (s.updPair (fun r => { r with forwards := id + 1 })).bump R.PAIR_CTR_COUNT 3 1
  let s := s.setSlot q { b with
    phase := .pairHeld
    forward := some { id := id, apply := x, remote := false, ownReady := true, peerReady := false, early := false } }
  (s.emit (.linkBundle id b.words x)).emit (.linkReady id false)

/-- A bundle whose checks have passed starts, is held (R58), or waits for the peer. -/
def State.launch (s : State) (q : OrderQueue) (b : Bundle) : State :=
  let alone := s.setSlot q { b with phase := if s.epochNum < b.applyAfter then .held else .running }
  match b.forward with
  | some f => (s.setSlot q { b with phase := .pairHeld, forward := some { f with ownReady := true } }).emit (.linkReady f.id false)
  | none =>
    if s.role == 1 && s.linkUp && (s.peerRole == 2 || s.peerRole == 3) && forwardable q b then
      if s.holdsForwards then s.setSlot q { b with phase := .pairHeld } else s.forward q b
    else alone

/-! ### Acceptance checks (R59, R97 to R100) -/

/-- Check 7 passes: the second freshness test and the recording of HIGH_SEQ (R98), and the journal append (R99). -/
def State.accept (s : State) (q : OrderQueue) (b : Bundle) : State :=
  if b.cls = 0 then s.launch q b
  else if b.orderSeq ≤ s.highSeq b.keySlot then s.refuse q 2 0x1FFF 4 (s.highSeq b.keySlot)
  else
    let s := s.setFld R.AUTH_SEQ_HIGH_HIGH_SEQ b.keySlot b.orderSeq
    let s := s.updAuth (fun a => { a with appends := a.appends ++ [(b.keySlot, b.orderSeq, queueUnit q)] })
    s.launch q { b with journalled := true }

/-- Checks 4 to 7 of a bundle, with what its DMA reads at check 6 delivered. -/
def State.verify (s : State) (q : OrderQueue) (reads : List (Option (List Byte))) (b : Bundle) : State :=
  match s.sigCheck q b with
  | some f => s.refuse q f.1 0x1FFF f.2 0
  | none =>
    if !s.targetOk b then s.refuse q 5 0x1FFF 3 (b.word 2)
    else
      match s.decodeBundle q reads b with
      | .bad reason _ index word => s.refuse q 5 index reason word.toNat
      | .good d =>
        let prog := d.steps.reverse
        match classCheck q b.cls b.grant prog with
        | some f => s.refuse q f.1 f.2.2 f.2.1 0
        | none => s.accept q { b with prog := prog, reads := d.records }

/-- Whether a bundle waits for a DMA read at check 6: its decoding without reads stops at a CHARTER.SET. -/
def State.awaitsRead (s : State) (q : OrderQueue) (b : Bundle) : Bool :=
  match s.decodeBundle q [] b with
  | .bad 6 start index word => start == index && bits word.toNat 63 56 == 0x93
  | _ => false

/-- A bundle starts: checks 1 to 3, and for a Routine bundle the others, which need no signature work. A STANDBY device refuses
Policy bundles of its own sources (R417). -/
def State.startBundle (s : State) (q : OrderQueue) (b : Bundle) : State :=
  let s := s.setSlot q { b with phase := .verifying }
  match b.lenFault, b.headerFault with
  | some w, _ => s.refuse q 5 0x1FFF 2 w.toNat
  | none, some i => s.refuse q 5 0x1FFF 1 (b.word i)
  | none, none =>
    let grant := s.charterGrant b.charter
    if !bit grant b.cls then s.refuse q 3 0x1FFF (b.cls <<< 8 + grant) 0
    else
      match s.authCheck q b with
      | some f => s.refuse q 2 0x1FFF f.1 f.2
      | none =>
        if s.role == 3 && b.cls == 1 && q != .pair then s.refuse q 2 0x1FFF 6 0
        else
          let b := { b with phase := .verifying, grant := grant }
          let s := s.setSlot q b
          if b.cls = 0 && !s.awaitsRead q b then s.verify q [] b else s

/-! ### The order in which bundles start (R48, R49) -/

/-- The host queue whose waiting bundle comes next in round robin. -/
def State.nextHost (s : State) : Option (Fin 16) :=
  (List.finRange 16).map (fun k => (⟨(s.bureau.turn + k.val) % 16, Nat.mod_lt _ (by decide)⟩ : Fin 16)) |>.find? (fun n =>
    (s.slot (.host n)).any (fun b => b.phase == .waiting))

/-- The console bundle that can start: while the FIFO of records is full there is none (R458). -/
def State.consoleReady (s : State) : List Bundle := if s.bureau.consoleDone.length < 16 then s.bureau.consoleWaiting else []

/-- The next bundle that can start, with its queue, and the Bureau without it in a waiting list. -/
def State.nextReady (s : State) : Option (OrderQueue × Bundle × State) :=
  match s.consoleReady, s.slot .console with
  | b :: rest, none => some (.console, b, s.updBureau (fun u => { u with consoleWaiting := rest }))
  | _, _ =>
    match s.bureau.pairWaiting, s.slot .pair with
    | b :: rest, none => some (.pair, b, s.updBureau (fun u => { u with pairWaiting := rest }))
    | _, _ =>
      match s.bureau.inbandWaiting, s.slot .inband with
      | b :: rest, none => some (.inband, b, s.updBureau (fun u => { u with inbandWaiting := rest }))
      | _, _ =>
        match s.nextHost with
        | none => none
        | some n => (s.slot (.host n)).map (fun b => (.host n, b, s.updBureau (fun u => { u with turn := (n.val + 1) % 16 })))

/-- Starts bundles while one is ready and fewer than eight are in progress. -/
def State.startReady : Nat → State → State
  | 0, s => s
  | n + 1, s =>
    if 8 ≤ s.inProgress then s
    else
      match s.nextReady with
      | none => s
      | some (q, b, t) => State.startReady n (t.startBundle q b)

/-- What a change of the Bureau leads to: bundles start. -/
def State.bureauAct (s : State) (f : State → State) : State := s.awake (fun s => State.startReady 24 (f s))

/-! ### Descriptor and bundle fetch (R53) -/

/-- Whether a host queue fetches the descriptor at HEAD. -/
def State.fetches (s : State) (n : Fin 16) : Bool :=
  let size := s.fld R.ORD_OQ_SIZE_SIZE n.val
  s.fld R.PWR_STAT_BOOT_STEP 0 == 6 && !s.host.d3hot && size != 0 && s.fld R.ORD_OQ_TAIL_TAIL n.val != s.fld R.ORD_OQ_HEAD_HEAD n.val &&
    (s.slot (.host n)).isNone && !s.flag R.ORD_OQ_STAT_HALTED n.val &&
    decide (idxDist (s.fld R.ORD_OQ_CPL_TAIL_CPL_TAIL n.val) (s.fld R.ORD_OQ_CPL_HEAD_CPL_HEAD n.val) < size)

/-- A fetch fails or takes too long: the queue halts. -/
def State.fetchFailed (s : State) (n : Fin 16) : State :=
  if s.fetches n then (s.setFlag R.ORD_OQ_STAT_HALTED n.val true).raiseOf EV_ORD_FETCH n.val else s

/-- A descriptor and its bundle are in Bureau RAM; none is a DMA error. -/
def State.bundleFetched (s : State) (n : Fin 16) (addr : Word64) (len rsv : Nat) (words : Option (List Word64)) : State :=
  if !s.fetches n then s
  else
    let index := s.fld R.ORD_OQ_HEAD_HEAD n.val % s.fld R.ORD_OQ_SIZE_SIZE n.val
    let put := fun (ws : List Word64) (fault : Option Word64) => s.setSlot (.host n) (Bundle.fresh ws index n.val fault)
    if addr.toNat % 8 ≠ 0 then put [] (some addr)
    else if rsv ≠ 0 then put [] (some (BitVec.ofNat 64 (rsv <<< 32 + len)))
    else
      match words with
      | none => s.fetchFailed n
      | some ws =>
        let ws := (List.range (ceilDiv len 8)).map (fun i => ws.getD i 0)
        put ws (if (Bundle.fresh ws index n.val none).totalLen = len then none else some (ws.getD 3 0))

/-- BUNDLE_FETCH. -/
def execBundleFetch (n : Fin 16) (addr : Word64) (len rsv : Word32) (words : Option (List Word64)) (s : State) :
    Host.Outcome State Fault Refusal :=
  .next (s.bureauAct (fun s => s.bundleFetched n addr len.toNat rsv.toNat words))

/-- ORD_FETCH_TIMEOUT. -/
def execOrdFetchTimeout (n : Fin 16) (s : State) : Host.Outcome State Fault Refusal :=
  .next (s.bureauAct (fun s => s.fetchFailed n))

/-- SIGNATURE_VERIFIED: check 4 ends, and the checks after it run. -/
def execSignatureVerified (q : OrderQueue) (reads : List (Option (List Byte))) (s : State) : Host.Outcome State Fault Refusal :=
  .next (s.bureauAct (fun s =>
    match s.slot q with
    | some b => if b.phase = .verifying then s.verify q reads b else s
    | none => s))

/-- APPLY_AFTER_RELEASE (R58). -/
def execApplyAfterRelease (q : OrderQueue) (s : State) : Host.Outcome State Fault Refusal :=
  .next (s.bureauAct (fun s =>
    match s.slot q with
    | some b => if b.phase = .held ∧ b.applyAfter ≤ s.epochNum then s.setSlot q { b with phase := .running } else s
    | none => s))

/-! ### The sequence journal (R99) -/

/-- An append of the journal ends: durable, or failed and due to be tried again. -/
def State.journalEnd (s : State) (ok : Bool) : State :=
  match s.auth.appends with
  | [] => s
  | (n, seq, u) :: rest =>
    if ok then
      let s : State := { s with flash := s.flash.append n seq }
      let s := s.updAuth (fun a => { a with appends := rest, failed := false })
      s.updBureau (fun r => { r with slots := r.slots.map (fun e =>
        if e.1 = u ∧ e.2.orderSeq = seq then (e.1, { e.2 with journalled := false }) else e) })
    else (s.updAuth (fun a => { a with failed := true })).raise EV_AUTH_JOURNAL n

/-- JOURNAL_APPEND. -/
def execJournalAppend (ok : Bool) (s : State) : Host.Outcome State Fault Refusal :=
  .next (s.bureauAct (fun s => if s.auth.failed then s else s.journalEnd ok))

/-- JOURNAL_RETRY. -/
def execJournalRetry (ok : Bool) (s : State) : Host.Outcome State Fault Refusal :=
  .next (s.bureauAct (fun s => if s.auth.failed then s.journalEnd ok else s))

/-! ### Completion records (R54, R79, R114, R419) -/

/-- The four words of a bundle's completion record. -/
def State.recordOf (s : State) (q : OrderQueue) (b : Bundle) (e : Ending) : List Word64 :=
  let tag := if e.status = 5 ∧ e.index = 0x1FFF ∧ e.detail0 ≤ 2 then 0 else b.tag
  [e.status <<< 56 + sourceCode q <<< 52 + hostNumber q <<< 48 + b.descIndex <<< 36 + s.version <<< 16 + tag,
    e.index <<< 48 + b.lastEpoch.getD s.epochNum, e.detail0, e.detail1].map (BitVec.ofNat 64)

/-- A record as the standby returns it: its epochs in the active device's numbering. -/
def State.returned (s : State) (ws : List Word64) : List Word64 :=
  let w := fun i => (ws.getD i 0).toNat
  let shift := fun (e : Nat) => ((e : Int) + s.pair.shift).toNat % 2 ^ 48
  let d1 := if bits (w 0) 63 56 = 8 ∧ w 2 = 1 then shift (w 3) else w 3
  [w 0, withBits (w 1) 47 0 (shift (bits (w 1) 47 0)), w 2, d1].map (BitVec.ofNat 64)

/-- STATUS of a record. -/
def recordStatus (ws : List Word64) : Nat := bits (ws.getD 0 0).toNat 63 56

/-- The words of a record that the devices of a pair compare. -/
def recordCompared (ws : List Word64) : Nat × Nat × Nat × Nat :=
  (recordStatus ws, bits (ws.getD 1 0).toNat 60 0, (ws.getD 2 0).toNat, (ws.getD 3 0).toNat)

/-- The two records of a forwarded bundle, on the active device; none is a record that did not arrive. -/
def State.compareRecords (s : State) (own : List Word64) (peer : Option (List Word64)) : State :=
  if peer.any (fun p => recordCompared p == recordCompared own) then s
  else
    let succeeded := fun (st : Nat) => st == 0 || st == 7
    let st := recordStatus own
    let peerSt := (peer.map recordStatus).getD 0xFF
    let takeover := !succeeded st && succeeded peerSt
    let w := (own.getD 0 0).toNat
    let s := s.setReg R.PAIR_DIVERGE_LAST 0 (st <<< 56 + peerSt <<< 48 + bits w 15 0 <<< 32 + ofFlag takeover <<< 30 +
      bits w 55 52 <<< 26 + bits w 51 48 <<< 22)
    ((s.bump R.PAIR_CTR_COUNT 4 1).raiseAt EV_PAIR_DIVERGE 0 0 [st, peerSt]).emit (.linkWord (if takeover then 1 else 2))

/-- The active device's own record of a forwarded bundle is compared with the peer's, now or when that arrives. -/
def State.ownRecord (s : State) (b : Bundle) (ws : List Word64) : State :=
  match b.forward with
  | some f =>
    if f.remote || !s.linkUp || s.role != 1 then s
    else
      match SMap.find s.pair.peerRecords f.id with
      | some p => (s.updPair (fun r => { r with peerRecords := SMap.del r.peerRecords f.id })).compareRecords ws (some p)
      | none => s.updPair (fun r => { r with ownRecords := SMap.put r.ownRecords f.id ws })
  | none => s

/-- Whether a record can be written: a host ring has room (R54) and the function is in D0 (R433), and the console keeps at most 16 records. -/
def State.recordRoom (s : State) (q : OrderQueue) : Bool :=
  match q with
  | .host n =>
    !s.host.d3hot &&
      decide (idxDist (s.fld R.ORD_OQ_CPL_TAIL_CPL_TAIL n.val) (s.fld R.ORD_OQ_CPL_HEAD_CPL_HEAD n.val) < s.fld R.ORD_OQ_SIZE_SIZE n.val)
  | .console => decide (s.bureau.consoleDone.length < 16)
  | _ => true

/-- A record goes where R47 sends it. One that goes back over the link raises no event here (DESIGN CHOICE, log 122). -/
def State.sendRecord (s : State) (q : OrderQueue) (b : Bundle) (ws : List Word64) : State :=
  match q with
  | .host n =>
    let i := n.val
    let tail := s.fld R.ORD_OQ_CPL_TAIL_CPL_TAIL i
    let s := s.emit (.hostWrite (s.reg R.ORD_OQ_CPL_BASE i + 32 * (tail % s.fld R.ORD_OQ_SIZE_SIZE i)) ws)
    let s := (s.bump R.ORD_OQ_CPL_TAIL_CPL_TAIL i 1).bump R.ORD_OQ_HEAD_HEAD i 1
    ((s.setFld R.ORD_OQ_STAT_LAST_STATUS i (recordStatus ws)).raiseOf EV_ORD_DONE i).announce (16 + i)
  | .console => (s.updBureau (fun u => { u with consoleDone := u.consoleDone ++ [ws] })).orderEvent EV_ORD_DONE q []
  | .inband => s.raiseAt { EV_ORD_DONE with bit := some R.ORD_BUREAU_STAT_INBAND_DONE } 0 17 (ws.map BitVec.toNat)
  | .pair =>
    if s.role == 1 then s.orderEvent EV_ORD_DONE q (ws.map BitVec.toNat)
    else
      match b.forward with
      | some f => s.emit (.linkRecord f.id (s.returned ws))
      | none => s

/-- The completion record of a finished bundle. -/
def State.complete (s : State) (q : OrderQueue) (b : Bundle) (e : Ending) : State :=
  if b.orphan then s.freeSlot q
  else if b.journalled || !s.recordRoom q then s
  else
    let ws := s.recordOf q b e
    let s := if b.cls ≠ 0 ∧ b.executed ≠ 0 then
        s.updAuth (fun a => { a with digest := extendDigest a.digest (b.bytes.take (b.sigOffset + 448)) (wordsToBytes ws) })
      else s
    ((s.ownRecord b ws).sendRecord q b ws).freeSlot q

/-- COMPLETION_RECORD_WRITE. -/
def execCompletionRecordWrite (q : OrderQueue) (s : State) : Host.Outcome State Fault Refusal :=
  .next (s.bureauAct (fun s =>
    match s.slot q with
    | some b =>
      match b.phase, b.ending with
      | .finished, some e => s.complete q b e
      | _, _ => s
    | none => s))

/-! ### In-band bundles (R55) -/

/-- A reassembly is dropped. -/
def State.dropReasm (s : State) (charter id : Nat) : State :=
  (s.updBureau (fun u => { u with reasm := u.reasm.filter (fun r => !(r.charter == charter && r.id == id)) })).raise EV_ORD_INBAND 17

/-- A complete reassembly becomes a bundle; a STANDBY device discards it (R417). Check 1 holds the header's TOTAL_LEN to it. -/
def State.inbandBundle (s : State) (charter : Nat) (bytes : List Byte) : State :=
  if s.role == 3 then s.bump R.PAIR_CTR_COUNT 7 1
  else
    let b := { Bundle.fresh (bytesToWords (ceilDiv bytes.length 8) bytes) 0 (17 + charter) none with delivered := bytes.length }
    s.updBureau (fun u => { u with inbandWaiting := u.inbandWaiting ++ [b] })

/-- A reassembly with one more segment. -/
def State.reassemble (s : State) (r : Reassembly) : State :=
  let others := s.bureau.reasm.filter (fun o => !(o.charter == r.charter && o.id == r.id))
  if r.segs.length < r.count then s.updBureau (fun u => { u with reasm := others ++ [r] })
  else
    let bytes := r.segs.flatMap (fun e => e.2)
    if bytes.length = r.total then (s.updBureau (fun u => { u with reasm := others })).inbandBundle r.charter bytes
    else s.dropReasm r.charter r.id

/-- A segment with its 8-byte header, read little-endian like every bundle word (DEDUCED, log 22). A bundle of one segment needs a
reassembly like any other (DESIGN CHOICE, log 121). -/
def State.segment (s : State) (charter : Nat) (payload : List Byte) : State :=
  let w := leNat (payload.take 8)
  let id := bits w 63 48
  let index := bits w 47 40
  let count := bits w 39 32
  let total := bits w 31 0
  match s.bureau.reasm.find? (fun r => r.charter == charter && r.id == id) with
  | some r =>
    if count = 0 ∨ 8 < count ∨ count ≤ index ∨ r.count ≠ count ∨ r.total ≠ total then s.dropReasm charter id
    else if (SMap.find r.segs index).isSome then s
    else s.reassemble { r with segs := SMap.put r.segs index (payload.drop 8) }
  | none =>
    if count = 0 ∨ 8 < count ∨ count ≤ index ∨ 4 ≤ s.bureau.reasm.length then s.dropReasm charter id
    else s.reassemble { charter := charter, id := id, count := count, total := total, segs := [(index, payload.drop 8)] }

/-- INBAND_SEGMENT: the oldest frame of the Carry-to-Bureau rule is taken. -/
def execInbandSegment (s : State) : Host.Outcome State Fault Refusal :=
  .next (s.bureauAct (fun s =>
    match s.bureau.carried with
    | [] => s
    | (charter, _, payload) :: rest => (s.updBureau (fun u => { u with carried := rest })).segment charter payload))

/-- INBAND_REASSEMBLY_TIMEOUT. -/
def execInbandReassemblyTimeout (charter id : Nat) (s : State) : Host.Outcome State Fault Refusal :=
  .next (s.bureauAct (fun s =>
    if s.bureau.reasm.any (fun r => r.charter == charter && r.id == id) then s.dropReasm charter id else s))

/-! ### Console operations that let a bundle start (R49, R457, R458) -/

/-- SUBMIT: the payload holds the bundle length. -/
def execSubmit (r : ConsoleRequest) (s : State) : Host.Outcome State Fault Refusal :=
  .next (s.console 3 r (r.len == 4 && r.payload.length == 4) (fun s =>
    let a := s.submit r.tag r.addr (beNat r.payload)
    (a.1, State.startReady 24 a.2)))

/-- CPL_READ: the oldest console completion record is removed and returned. -/
def execCplRead (r : ConsoleRequest) (s : State) : Host.Outcome State Fault Refusal :=
  .next (s.console 4 r (r.len == 0 && r.addr == 0) (fun s =>
    match s.bureau.consoleDone with
    | [] => (.empty, s)
    | c :: rest => (.ok (wordsToBytes c), State.startReady 24 (s.updBureau (fun u => { u with consoleDone := rest })))))

end Sys2Proof.Machine
end

