-- ==== Sys2Proof/Machine/OrderExec.lean ====
section
/-! DEFINITION. The instructions of Orders that stage and commit, and those of control, tables, circuits, ports, lanes, queues,
meters and registers (R62 to R75, R254, R265, R274, R293). A row of the instruction table acts when the bundle of its queue
runs and this instruction comes next; else it changes nothing. Follows spec/02. -/

namespace Sys2Proof.Machine

/-! ### Running a bundle (R62, R63, R71, R75) -/

/-- The word of an instruction of a bundle. -/
def Bundle.instrWord (b : Bundle) (p : ProgStep) : Nat := (b.program.getD p.index 0).toNat

/-- An instruction fails: its bundle ends (R75). -/
def State.failStep (s : State) (q : OrderQueue) (p : ProgStep) (status detail0 detail1 : Nat) : State :=
  s.endBundle q ⟨status, p.index, detail0, detail1⟩

/-- A bundle whose last instruction has run ends (R71, R80). -/
def State.settle (s : State) (q : OrderQueue) : State :=
  match s.slot q with
  | none => s
  | some b =>
    if b.next < b.prog.length then s
    else if b.stage.isSome then s.endBundle q ⟨9, 0x1FFF, 3, 0⟩
    else
      match b.late with
      | some l => s.endBundle q ⟨7, l.1, l.2, 0⟩
      | none => s.endBundle q ⟨0, 0x1FFF, b.executed, 0⟩

/-- A bundle goes on behind its current instruction. -/
def State.proceed (s : State) (q : OrderQueue) : State :=
  match s.slot q with
  | none => s
  | some b => (s.setSlot q { b with next := b.next + 1, phase := .running }).settle q

/-- The instruction of a row runs where it comes next in the running bundle of its queue. After a trip a Policy or Sovereign
bundle fails at its first instruction (R485). The stage structure is tested again as the bundle runs, since skipped
instructions can change it (DEDUCED). -/
def State.order (s : State) (q : OrderQueue) (i : OrderInstr) (run : Bundle → ProgStep → State → State) : State :=
  s.bureauAct (fun s =>
    match s.slot q with
    | none => s
    | some b =>
      match b.phase, b.prog[b.next]? with
      | .running, some p =>
        if p.instr ≠ i then s
        else if (p.cond = 1 ∧ b.c = false) ∨ (p.cond = 2 ∧ b.c = true) then s.proceed q
        else
          let b := { b with executed := b.executed + 1, acted := b.acted ++ [b.next] }
          let s := s.setSlot q b
          let fault := structureFault (b.stage.any (fun t => t.opened)) b.stage.isSome i
          if b.cls ≠ 0 ∧ b.executed = 1 ∧ s.flag R.PWR_STAT_TRIPPED 0 = true then s.failStep q p 6 3 0
          else if fault ≠ 0 then s.failStep q p 5 fault (b.instrWord p)
          else run b p s
      | _, _ => s)

/-- An epoch that an instruction names, in this device's numbering (R416). -/
def State.ownEpoch (s : State) (b : Bundle) (e : Nat) : Nat :=
  match b.forward with
  | some f => if f.remote then ((e : Int) - s.pair.shift).toNat else e
  | none => e

/-! ### Commits (R25, R27, R72 to R74) -/

/-- Staged state reaches its units: versioned entries are written for the version to come (R27), Leaf words go to the standby page
(R233), and ports that must be at full width start to widen (R145, R152). -/
def State.sendItem (id unit : Nat) (s : State) (i : OrderInstr) : State :=
  match i with
  | .leafWr outLane outTu inLane inTu unequipped =>
    let s := s.leafStage id unit (tuKey outLane outTu) (leafWord inLane inTu unequipped)
    (s.itemLanes i).foldl State.wantLane s
  | .tcamWr pipe index egress invalidate words =>
    { s with tcam := stageEntry s.version (tcamKey pipe egress index) invalidate words s.tcam }
  | .patLoad pipes first words =>
    { s with patterns := (patSlots pipes first words).foldl (fun m e => stageEntry s.version e.1 e.2.2 e.2.1 m) s.patterns }
  | .rsvDecl _ _ _ false w0 _ => (s.startWiden (rsvPorts w0).1).startWiden (rsvPorts w0).2
  | i => (s.itemLanes i).foldl State.wantLane s

/-- The staged state of a commit goes out to its islands (R27). -/
def State.sendCommit (s : State) (c : Commit) : State :=
  let s := c.items.foldl (State.sendItem c.id c.queue) { s with table := restageTable s.version s.table }
  match c.paired with
  | some n => if c.outstanding = 0 then s.emit (.linkReady n true) else s
  | none => s

/-- Whether a set meets a commit that names the same epoch (R25, R234). Commits that name epoch 0 name no epoch and meet none (DESIGN
CHOICE, log 118). -/
def State.meetsCommit (s : State) (items : List OrderInstr) (swap : Bool) (named : Nat) : Bool :=
  named != 0 && s.bureau.commits.any (fun c => c.named == named && (keysMeet c.items items || (c.leafSwap && swap)))

/-- The number of a forwarded bundle whose commits wait for the peer: the peer is not lost, and has not ended the bundle. -/
def State.pairOf (s : State) (b : Bundle) : Option Nat :=
  match b.forward with
  | some f => if s.peerRole = 7 ∨ (SMap.find s.pair.peerRecords f.id).isSome then none else some f.id
  | none => none

/-- A commit of set `id` begins, for the instruction `p` of a bundle. -/
def State.beginCommit (s : State) (q : OrderQueue) (b : Bundle) (p : ProgStep) (id : Nat) (items : List OrderInstr) (swap : Bool)
    (named : Nat) : State :=
  let s := s.setSlot q { b with stage := none }
  let no := fun (s : State) (status d0 d1 : Nat) => (s.dropClaims id).failStep q p status d0 d1
  if named ≠ 0 ∧ named ≤ s.epochNum then no s 8 1 s.epochNum
  else
    match s.admission named items swap with
    | (.breach d1, s) => no s 6 4 d1
    | (.refused d0 d1, s) => no s 1 d0 d1
    | (.admitted bounds, s) =>
      if s.meetsCommit items swap named then no s 6 1 0
      else
        let islands := s.setIslandMap items swap
        let c : Commit := { id := id, queue := queueUnit q, items := items, leafSwap := swap, named := named
                            outstanding := islands, lastAcks := 0, attempt := 1, resend := false, expired := none, edge := none
                            paired := s.pairOf b, peerReady := b.forward.any (fun f => f.early), bounds := bounds }
        let b := { b with stage := none, phase := .committing id, forward := b.forward.map (fun f => { f with early := false }) }
        let s := s.setSlot q b
        (s.updBureau (fun u => { u with commits := u.commits ++ [c] })).sendCommit c

/-- A new stage set's number. -/
def State.newSet (s : State) : Nat × State := (s.bureau.nextSet, s.updBureau (fun u => { u with nextSet := u.nextSet + 1 }))

/-! ### What other sets hold (R35, R132, R135, R155, R233) -/

/-- The writes of every other set that is staged: held by a bundle, but for the open set of queue `q`, or of a commit in
progress. -/
def State.otherSets (s : State) (q : OrderQueue) : List OrderInstr :=
  s.bureau.commits.flatMap (fun c => c.items) ++
    s.bureau.slots.flatMap (fun e =>
      match e.2.stage with
      | some t => if e.1 = queueUnit q ∧ t.opened = true then [] else t.items
      | none => [])

/-- Whether a request meets the device's own pending disable of the function (R35). -/
def State.meetsForced (s : State) (i : OrderInstr) : Bool :=
  match i with
  | .portUp port .. => s.forcedOff R.PORT_STAT_LC port
  | .portDown port => s.forcedOff R.PORT_STAT_LC port
  | .chanBind port .. => s.forcedOff R.PORT_STAT_LC port
  | .laneCfg lane 0x07 _ => s.forcedOff R.LANE_STAT_LC lane
  | .pulseSet tpo .. => s.forcedOff R.TIME_TPO_STAT_LC tpo
  | .set off w64 _ v m =>
    match setTarget off w64 v.toNat m.toNat with
    | some (r, n, _, mask) =>
      if r = R.PIPE_PAT_CFG then bit mask 0 && s.forcedOff R.PIPE_PAT_STAT_LC n
      else r == R.TSI_CFG && (onesOf 4 mask).any (fun k => s.forcedOff R.TSI_Q_STAT_LC k)
    | none => false
  | _ => false

/-- The form that a PORT.UP records. -/
def formOf (i : OrderInstr) : Option (Nat × List Nat × List Nat) :=
  match i with
  | .portUp port lane lanes speed fec mode => some (port, [lane, lanes, speed, fec, mode], (List.range (2 ^ lanes)).map (fun k => lane + k))
  | _ => none

/-- The recorded form of a port. -/
def State.recordedForm (s : State) (p : Nat) : List Nat :=
  [s.firstLane p, s.fullWidth p, s.fld R.PORT_STAT_SPEED p, s.fld R.PORT_STAT_FEC p, s.portMode p]

/-- Whether a PORT.UP meets another form or other ports' lanes (R155); `staged` are the writes of every set. -/
def State.formClash (s : State) (staged : List OrderInstr) (i : OrderInstr) : Bool :=
  match formOf i with
  | none => false
  | some (port, form, lanes) =>
    (s.portLife port != .off && s.recordedForm port != form) ||
      lanes.any (fun n => (s.portOfLane n).any (fun p => p != port)) ||
      (staged.filterMap formOf).any (fun f =>
        if f.1 = port then f.2.1 != form else lanes.any (fun n => f.2.2.contains n))

/-- The taps of a lane as the writes of a set so far leave them. -/
def State.tapsAfter (s : State) (items : List OrderInstr) (lane : Nat) : Nat :=
  items.foldl (fun w i =>
    match i with
    | .laneCfg n param v => if n = lane then mergeTaps w param v else w
    | _ => w) (s.programmed lane)

/-- A thinning parameter of a lane as the writes of a set so far leave it. -/
def paramAfter (items : List OrderInstr) (lane param stored : Nat) : Nat :=
  items.foldl (fun w i =>
    match i with
    | .laneCfg n k v => if n = lane ∧ k = param then v else w
    | _ => w) stored

/-- Why an unversioned write behind the items of its set fails at execution, as STATUS, DETAIL0 and DETAIL1. THIN_LOW and THIN_HIGH are
judged against their own set and what is stored (DESIGN CHOICE, log 127). -/
def State.writeFault (s : State) (q : OrderQueue) (items : List OrderInstr) (word : Nat) (i : OrderInstr) : Option (Nat × Nat × Nat) :=
  let others := s.otherSets q
  if s.meetsForced i then some (6, 3, 0)
  else
    match i with
    | .set off w64 _ v m => if s.setRangeOk items off w64 v.toNat m.toNat then none else some (5, 6, v.toNat)
    | .portUp .. => if s.formClash (others ++ items) i then some (5, 6, word) else none
    | .leafWr outLane outTu .. =>
      if (others.flatMap itemKeys).contains (1, tuKey outLane outTu) then some (6, 1, 0) else none
    | .laneCfg lane param value =>
      if param = 0x02 ∨ param = 0x03 then
        if (others.flatMap itemKeys).contains (4, 256 * lane + 0x02) then some (6, 1, 0)
        else if tapSumOk (tapsOf (mergeTaps (s.tapsAfter items lane) param value)) then none
        else some (5, 6, word)
      else if param = 0x21 then
        if value < paramAfter items lane 0x22 (s.fld R.LANE_THIN_HIGH lane) then none else some (5, 6, word)
      else if param = 0x22 then
        if paramAfter items lane 0x21 (s.fld R.LANE_THIN_LOW lane) < value then none else some (5, 6, word)
      else none
    | _ => none

/-! ### Staged and unstaged writes (R64, R66) -/

/-- A write joins the open set of its bundle. -/
def State.stageItem (s : State) (q : OrderQueue) (b : Bundle) (st : StageSet) (i : OrderInstr) : State :=
  (s.setSlot q { b with stage := some { st with items := st.items ++ [i] } }).proceed q

/-- An unversioned write: into the open set, or as a commit of its own that names epoch 0. -/
def State.runWrite (i : OrderInstr) (q : OrderQueue) (b : Bundle) (p : ProgStep) (s : State) : State :=
  let st := b.stage.filter (fun t => t.opened)
  match s.writeFault q ((st.map StageSet.items).getD []) (b.instrWord p) i with
  | some f => s.failStep q p f.1 f.2.1 f.2.2
  | none =>
    match st with
    | some t => s.stageItem q b t i
    | none =>
      let held := b.stage
      let r := s.newSet
      let s := r.2.beginCommit q b p r.1 [i] false 0
      match held, s.slot q with
      | some t, some b' => if b'.phase = .finished then s.dropClaims t.id else s.setSlot q { b' with stage := some t }
      | _, _ => s

/-- What a claim of an entry of the TCAM or of the pattern store meets (R265, R274): whether the place is free, or open. -/
def placeFree (m : SMap Entry) (claims : SMap Nat) (k : Nat) : Bool := (SMap.find m k).isNone && (SMap.find claims k).isNone
@[inherit_doc placeFree] def placeOpen (m : SMap Entry) (claims : SMap Nat) (k : Nat) : Bool :=
  (SMap.find m k).any (fun e => e.since == e.until') && (SMap.find claims k).isNone

/-- DETAIL1 of a result code that names a pipeline and an object (R266). -/
def pipeCode (pl object code : Nat) : Nat := pl <<< 48 + object <<< 32 + code

/-- A claim for set `id`: the state, or the DETAIL1 of the code. -/
def State.claimPlaces (s : State) (id : Nat) (i : OrderInstr) : Nat ⊕ State :=
  match i with
  | .tcamWr pipe index egress invalidate _ =>
    let k := tcamKey pipe egress index
    if invalidate then
      if placeOpen s.tcam s.tcamClaims k then .inr { s with tcamClaims := SMap.put s.tcamClaims k id } else .inl (pipeCode pipe index 0x0102)
    else if placeFree s.tcam s.tcamClaims k then .inr { s with tcamClaims := SMap.put s.tcamClaims k id }
    else .inl (pipeCode pipe index 0x0101)
  | .patLoad pipes first words =>
    let slots := patSlots pipes first words
    match slots.find? (fun e => !(if e.2.2 then placeOpen s.patterns s.patClaims e.1 else placeFree s.patterns s.patClaims e.1)) with
    | some e => .inl (pipeCode (e.1 / 4096) (e.1 % 4096) (if e.2.2 then 0x0104 else 0x0103))
    | none => .inr { s with patClaims := slots.foldl (fun m e => SMap.put m e.1 id) s.patClaims }
  | .parseLoad pipes first words =>
    let own := fun (s : State) (pl : Nat) => SMap.find s.bankClaims (s.standbyKey pl) == some id
    let free := fun (pl : Nat) => (SMap.find s.bankClaims (s.standbyKey pl)).isNone && !s.standbyLive pl
    match (onesOf 8 pipes).find? (fun pl => !own s pl && !free pl) with
    | some pl => .inl (pipeCode pl 0 0x0105)
    | none => .inr ((onesOf 8 pipes).foldl (fun s pl =>
        let s := if own s pl then s
          else
            let t := s.copyBank pl
            { t with bankClaims := SMap.put t.bankClaims (t.standbyKey pl) id }
        State.writeNodes pl first words s) s)
  | _ => .inr s

/-- A staged versioned write (kind S). -/
def State.runVersioned (i : OrderInstr) (q : OrderQueue) (b : Bundle) (p : ProgStep) (s : State) : State :=
  match b.stage with
  | none => s.failStep q p 5 8 (b.instrWord p)
  | some st =>
    match s.claimPlaces st.id i with
    | .inl d1 => s.failStep q p 6 4 d1
    | .inr s => s.stageItem q b st i

/-- The answer of a table write: `i` joins the open set, if there is one. The bundle has noted the events that the write raised. -/
def State.tableAnswer (s : State) (r : TblResult) (i : OrderInstr) (q : OrderQueue) (b : Bundle) (p : ProgStep) : State :=
  match r with
  | .error f => s.failStep q p 6 4 (pipeCode f.2.1 f.2.2 f.1)
  | .ok s =>
    match b.stage.filter (fun t => t.opened) with
    | some st => s.stageItem q ((s.slot q).getD b) st i
    | none => s.proceed q

/-- Keys and results of a table write. -/
def tblKey (wide : Bool) (words : List Word64) : List Word64 := words.take (if wide then 5 else 1)
@[inherit_doc tblKey] def tblResult (wide : Bool) (words : List Word64) : Nat × Nat :=
  if wide then ((words.getD 5 0).toNat, (words.getD 6 0).toNat) else ((words.getD 1 0).toNat, 0)

/-- TBL.INS, TBL.DEL and TBL.MOD (R293, R295). -/
def State.runTable (s : State) (i : OrderInstr) (q : OrderQueue) (b : Bundle) (p : ProgStep) : State :=
  let st := b.stage.filter (fun t => t.opened)
  let answer := fun (r : TblResult) => s.tableAnswer r i q b p
  match i with
  | .tblIns pipes wide learned words =>
    let key := tblKey wide words
    let r := tblResult wide words
    if learned then answer (s.learnedInsert (words.getD 0 0) (s.learnedPipes (words.getD 0 0) pipes) r.1)
    else
      match st with
      | some t => answer (s.insertStaged t.id pipes key r.1 r.2)
      | none => answer (s.insertDirect pipes key r.1 r.2)
  | .tblDel pipes wide learned words =>
    let key := tblKey wide words
    if learned then answer (s.learnedDelete (words.getD 0 0) (s.learnedPipes (words.getD 0 0) pipes))
    else
      match st with
      | some t => answer (s.deleteStaged t.id pipes key)
      | none => answer (s.deleteDirect pipes key)
  | .tblMod pipes wide words =>
    let key := tblKey wide words
    let r := tblResult wide words
    match st with
    | some t => answer (s.modifyStaged t.id pipes key r.1 r.2)
    | none => answer (s.modifyDirect pipes key r.1 r.2)
  | _ => s

/-- LEAF.WR (R233): staged, or at once. -/
def State.runLeaf (i : OrderInstr) (q : OrderQueue) (b : Bundle) (p : ProgStep) (s : State) : State :=
  match i, b.stage.filter (fun t => t.opened) with
  | .leafWr outLane outTu inLane inTu unequipped, none =>
    let k := tuKey outLane outTu
    if ((s.otherSets q).flatMap itemKeys).contains (1, k) || s.bureau.commits.any (fun c => c.leafSwap) then
      s.failStep q p 6 1 0
    else
      let s := s.leafPut (queueUnit q) k (leafWord inLane inTu unequipped)
      let s := if unequipped then s else (s.wantLane outLane).wantLane inLane
      s.proceed q
  | i, _ => s.runWrite i q b p

/-! ### Control, staging and commit (R66 to R72) -/

/-- The value of a register as a GET loads it. -/
def State.peek (s : State) (off : Nat) (w64 : Bool) : Nat :=
  let cut := fun (w start : Nat) => if w64 then w else if off = start + 4 then w / 2 ^ 32 else w % 2 ^ 32
  if isMsix off then cut (s.msixView (off / 8 * 8)) (off / 8 * 8)
  else
    match locate off with
    | some (r, n) => cut (s.view r n) (r.addr n)
    | none => 0

/-- The result of a test of CHECK. -/
def checkTest (test v value : Nat) : Bool :=
  match test with
  | 0 => v == value
  | 1 => v != value
  | 2 => decide (v < value)
  | 3 => decide (value ≤ v)
  | 4 => v != 0
  | _ => v == 0

/-- A G register of a bundle. -/
def Bundle.reg (b : Bundle) (g : Nat) : Word64 := SMap.get 0 b.g g

/-- NOP. -/
def execNop (q : OrderQueue) (s : State) : Host.Outcome State Fault Refusal := .next (s.order q .nop (fun _ _ s => s.proceed q))

/-- SET; a value from G is read at execution. -/
def execSet (q : OrderQueue) (off : Nat) (w64 fromG : Bool) (value mask : Word64) (s : State) : Host.Outcome State Fault Refusal :=
  .next (s.order q (.set off w64 fromG value mask) (fun b p s =>
    let v := if fromG then b.reg (value.toNat % 16) else value
    s.runWrite (.set off w64 false v mask) q b p))

/-- GET. -/
def execGet (q : OrderQueue) (g off : Nat) (w64 : Bool) (s : State) : Host.Outcome State Fault Refusal :=
  .next (s.order q (.get g off w64) (fun b _ s =>
    (s.setSlot q { b with g := SMap.set 0 b.g g (BitVec.ofNat 64 (s.peek off w64)) }).proceed q))

/-- CHECK. -/
def execCheck (q : OrderQueue) (g test : Nat) (mask value : Word64) (s : State) : Host.Outcome State Fault Refusal :=
  .next (s.order q (.check g test mask value) (fun b p s =>
    let ok := checkTest test ((b.reg g) &&& mask).toNat value.toNat
    let s := s.setSlot q { b with c := ok }
    if p.halt && !ok then s.failStep q p 9 1 (b.reg g).toNat else s.proceed q))

/-- STAGE.BEGIN. -/
def execStageBegin (q : OrderQueue) (s : State) : Host.Outcome State Fault Refusal :=
  .next (s.order q .stageBegin (fun b _ s =>
    let r := s.newSet
    (r.2.setSlot q { b with stage := some { id := r.1, opened := true, items := [], leafSwap := false } }).proceed q))

/-- STAGE.END. -/
def execStageEnd (q : OrderQueue) (s : State) : Host.Outcome State Fault Refusal :=
  .next (s.order q .stageEnd (fun b _ s => (s.setSlot q { b with stage := b.stage.map (fun t => { t with opened := false }) }).proceed q))

/-- COMMIT (R72 to R74). -/
def execCommit (q : OrderQueue) (epoch : Nat) (s : State) : Host.Outcome State Fault Refusal :=
  .next (s.order q (.commit epoch) (fun b p s =>
    match b.stage with
    | some t => s.beginCommit q b p t.id t.items t.leafSwap (if epoch = 0 then 0 else s.ownEpoch b epoch)
    | none => s))

/-- ABORT. -/
def execAbort (q : OrderQueue) (s : State) : Host.Outcome State Fault Refusal :=
  .next (s.order q .abort (fun b _ s =>
    match b.stage with
    | some t => ((s.dropClaims t.id).setSlot q { b with stage := none }).proceed q
    | none => s))

/-! ### Tables and classification -/

/-- TBL.INS; `errors` are what the reads of the table write path find (R310). -/
def execTblIns (q : OrderQueue) (pipes : Nat) (wide learned : Bool) (words : List Word64) (errors : List (Fin 8 × Nat × Bool)) (s : State) :
    Host.Outcome State Fault Refusal :=
  .next (s.order q (.tblIns pipes wide learned words) (fun b p s => (s.readErrors errors).runTable (.tblIns pipes wide learned words) q b p))

/-- TBL.DEL; `errors` are what the reads of the table write path find (R310). -/
def execTblDel (q : OrderQueue) (pipes : Nat) (wide learned : Bool) (words : List Word64) (errors : List (Fin 8 × Nat × Bool)) (s : State) :
    Host.Outcome State Fault Refusal :=
  .next (s.order q (.tblDel pipes wide learned words) (fun b p s => (s.readErrors errors).runTable (.tblDel pipes wide learned words) q b p))

/-- TBL.MOD; `errors` are what the reads of the table write path find (R310). -/
def execTblMod (q : OrderQueue) (pipes : Nat) (wide : Bool) (words : List Word64) (errors : List (Fin 8 × Nat × Bool)) (s : State) :
    Host.Outcome State Fault Refusal :=
  .next (s.order q (.tblMod pipes wide words) (fun b p s => (s.readErrors errors).runTable (.tblMod pipes wide words) q b p))

/-- TCAM.WR. -/
def execTcamWr (q : OrderQueue) (pipe index : Nat) (egress invalidate : Bool) (words : List Word64) (s : State) :
    Host.Outcome State Fault Refusal :=
  .next (s.order q (.tcamWr pipe index egress invalidate words) (State.runVersioned (.tcamWr pipe index egress invalidate words) q))

/-- PARSE.LOAD. -/
def execParseLoad (q : OrderQueue) (pipes first : Nat) (words : List Word64) (s : State) : Host.Outcome State Fault Refusal :=
  .next (s.order q (.parseLoad pipes first words) (State.runVersioned (.parseLoad pipes first words) q))

/-- PAT.LOAD. -/
def execPatLoad (q : OrderQueue) (pipes first : Nat) (words : List Word64) (s : State) : Host.Outcome State Fault Refusal :=
  .next (s.order q (.patLoad pipes first words) (State.runVersioned (.patLoad pipes first words) q))

/-! ### Circuits -/

/-- LEAF.WR. -/
def execLeafWr (q : OrderQueue) (outLane outTu inLane inTu : Nat) (unequipped : Bool) (s : State) :
    Host.Outcome State Fault Refusal :=
  .next (s.order q (.leafWr outLane outTu inLane inTu unequipped) (State.runLeaf (.leafWr outLane outTu inLane inTu unequipped) q))

/-- LEAF.SWAP: a commit of its own, or a mark of the open set. -/
def execLeafSwap (q : OrderQueue) (epoch : Nat) (s : State) : Host.Outcome State Fault Refusal :=
  .next (s.order q (.leafSwap epoch) (fun b p s =>
    match b.stage with
    | some t =>
      if t.opened then (s.setSlot q { b with stage := some { t with leafSwap := true } }).proceed q
      else
        let r := s.newSet
        let s := r.2.beginCommit q b p r.1 [] true (if epoch = 0 then 0 else s.ownEpoch b epoch)
        match s.slot q with
        | some b' => if b'.phase = .finished then s.dropClaims t.id else s.setSlot q { b' with stage := some t }
        | none => s
    | none =>
      let r := s.newSet
      r.2.beginCommit q b p r.1 [] true (if epoch = 0 then 0 else s.ownEpoch b epoch)))

/-- TU.MAP. -/
def execTuMap (q : OrderQueue) (lane tu label : Nat) (s : State) : Host.Outcome State Fault Refusal :=
  .next (s.order q (.tuMap lane tu label) (State.runWrite (.tuMap lane tu label) q))

/-- CHAN.BIND. -/
def execChanBind (q : OrderQueue) (port lane : Nat) (unbind : Bool) (lo hi : Word64) (s : State) : Host.Outcome State Fault Refusal :=
  .next (s.order q (.chanBind port lane unbind lo hi) (State.runWrite (.chanBind port lane unbind lo hi) q))

/-- SET of LEAF_EN (R236). -/
def execLeafEn (q : OrderQueue) (value mask : Word64) (s : State) : Host.Outcome State Fault Refusal :=
  .next (s.order q (.set 0xA00000 false false value mask) (State.runWrite (.set 0xA00000 false false value mask) q))

/-- SET of a TSI_XP register (R238). -/
def execTsiXp (q : OrderQueue) (pair : Nat) (value mask : Word64) (s : State) : Host.Outcome State Fault Refusal :=
  let i : OrderInstr := .set (0xA00400 + 4 * pair) false false value mask
  .next (s.order q i (State.runWrite i q))

/-! ### Ports, lanes, queues, meters and reservations -/

/-- PORT.UP. -/
def execPortUp (q : OrderQueue) (port lane lanes speed fec mode : Nat) (s : State) : Host.Outcome State Fault Refusal :=
  .next (s.order q (.portUp port lane lanes speed fec mode) (State.runWrite (.portUp port lane lanes speed fec mode) q))

/-- PORT.DOWN. -/
def execPortDown (q : OrderQueue) (port : Nat) (s : State) : Host.Outcome State Fault Refusal :=
  .next (s.order q (.portDown port) (State.runWrite (.portDown port) q))

/-- LANE.CFG. -/
def execLaneCfg (q : OrderQueue) (lane param value : Nat) (s : State) : Host.Outcome State Fault Refusal :=
  .next (s.order q (.laneCfg lane param value) (State.runWrite (.laneCfg lane param value) q))

/-- RECAL (R131). -/
def execRecal (q : OrderQueue) (lane : Nat) (s : State) : Host.Outcome State Fault Refusal :=
  .next (s.order q (.laneCfg lane 0x06 0) (State.runWrite (.laneCfg lane 0x06 0) q))

/-- TEST_EN (R129). -/
def execTestEn (q : OrderQueue) (lane value : Nat) (s : State) : Host.Outcome State Fault Refusal :=
  .next (s.order q (.laneCfg lane 0x07 value) (State.runWrite (.laneCfg lane 0x07 value) q))

/-- GEN (R137). -/
def execGen (q : OrderQueue) (lane value : Nat) (s : State) : Host.Outcome State Fault Refusal :=
  .next (s.order q (.laneCfg lane 0x11 value) (State.runWrite (.laneCfg lane 0x11 value) q))

/-- INJ_FIRE (R139). -/
def execInjFire (q : OrderQueue) (lane : Nat) (s : State) : Host.Outcome State Fault Refusal :=
  .next (s.order q (.laneCfg lane 0x17 0) (State.runWrite (.laneCfg lane 0x17 0) q))

/-- CHK_CLEAR (R138). -/
def execChkClear (q : OrderQueue) (lane : Nat) (s : State) : Host.Outcome State Fault Refusal :=
  .next (s.order q (.laneCfg lane 0x18 0) (State.runWrite (.laneCfg lane 0x18 0) q))

/-- Q.CFG. -/
def execQCfg (q : OrderQueue) (queue port tier group : Nat) (w0 w1 : Word64) (s : State) : Host.Outcome State Fault Refusal :=
  .next (s.order q (.qCfg queue port tier group w0 w1) (State.runWrite (.qCfg queue port tier group w0 w1) q))

/-- METER.CFG. -/
def execMeterCfg (q : OrderQueue) (meter alg : Nat) (colourAware : Bool) (w0 w1 : Word64) (s : State) :
    Host.Outcome State Fault Refusal :=
  .next (s.order q (.meterCfg meter alg colourAware w0 w1) (State.runWrite (.meterCfg meter alg colourAware w0 w1) q))

/-- RSV.DECL. -/
def execRsvDecl (q : OrderQueue) (flow meter queue : Nat) (withdraw : Bool) (w0 w1 : Word64) (s : State) :
    Host.Outcome State Fault Refusal :=
  .next (s.order q (.rsvDecl flow meter queue withdraw w0 w1) (State.runWrite (.rsvDecl flow meter queue withdraw w0 w1) q))

/-- PULSE.SET. -/
def execPulseSet (q : OrderQueue) (tpo tb : Nat) (enable train : Bool) (startSec startNs period : Word64) (s : State) :
    Host.Outcome State Fault Refusal :=
  let i : OrderInstr := .pulseSet tpo tb enable train startSec startNs period
  .next (s.order q i (State.runWrite i q))

/-! ### Rows that are a SET of one field -/

/-- SET of FREEZE in PWR_FREEZE_CTL (R486). -/
def execFreezeOrder (q : OrderQueue) (value mask : Word64) (s : State) : Host.Outcome State Fault Refusal :=
  .next (s.order q (.set 0x60030 false false value mask) (State.runWrite (.set 0x60030 false false value mask) q))

/-- SET of FREEZE_BURN in AUTH_OTP_CTL (R487). -/
def execFreezeBurn (q : OrderQueue) (value mask : Word64) (s : State) : Host.Outcome State Fault Refusal :=
  .next (s.order q (.set 0x20020 false false value mask) (State.runWrite (.set 0x20020 false false value mask) q))

/-- SET of ROLLBACK_TO in AUTH_OTP_CTL (R109). -/
def execRollbackTo (q : OrderQueue) (value mask : Word64) (s : State) : Host.Outcome State Fault Refusal :=
  .next (s.order q (.set 0x20020 false false value mask) (State.runWrite (.set 0x20020 false false value mask) q))

/-- SET of CELL_QUAR_RET (R335). -/
def execScrub (q : OrderQueue) (value mask : Word64) (s : State) : Host.Outcome State Fault Refusal :=
  .next (s.order q (.set 0xC0001C false false value mask) (State.runWrite (.set 0xC0001C false false value mask) q))

/-- SET of PAT_EN (R279). -/
def execPatEn (q : OrderQueue) (pipe : Nat) (value mask : Word64) (s : State) : Host.Outcome State Fault Refusal :=
  let i : OrderInstr := .set (0xB00010 + 0x20000 * pipe) false false value mask
  .next (s.order q i (State.runWrite i q))

/-- SET of SOURCE in TIME_TB_CFG (R379). -/
def execSource (q : OrderQueue) (tb : Nat) (value mask : Word64) (s : State) : Host.Outcome State Fault Refusal :=
  let i : OrderInstr := .set (0x40018 + 0x80 * tb) false false value mask
  .next (s.order q i (State.runWrite i q))

/-- SET of LOCK_DECL in TIME_TB_CFG (R379). -/
def execLockDecl (q : OrderQueue) (tb : Nat) (value mask : Word64) (s : State) : Host.Outcome State Fault Refusal :=
  let i : OrderInstr := .set (0x40018 + 0x80 * tb) false false value mask
  .next (s.order q i (State.runWrite i q))

end Sys2Proof.Machine
end

