-- ==== Sys2Proof/Machine/OrderMore.lean ====
section
/-! DEFINITION. The other instructions of Orders: those that park a bundle and how it resumes, time bases, snapshots, Sprint, the
freeze permission, firmware, keys, Charters and attestation (R62, R76 to R78, R88, R102, R104, R107, R112, R381, R384, R386,
R459, R477, R487). Follows spec/02, spec/03, spec/12 and spec/15. -/

namespace Sys2Proof.Machine

/-! ### Instructions that park a bundle (R76 to R78) -/

/-- A bundle parks in its current instruction. -/
def State.park (s : State) (q : OrderQueue) (b : Bundle) (ph : Phase) : State := s.setSlot q { b with phase := ph }

/-- A parked bundle resumes where `ready` holds of its phase. -/
def State.resume (s : State) (q : OrderQueue) (ready : Bundle → Bool) : State :=
  match s.slot q with
  | some b => if ready b then s.proceed q else s
  | none => s

/-- Whether an event that a WAIT.EVENT waits for has been raised (R77); unit 0xFFF is any unit. -/
def Bundle.saw (b : Bundle) (code unit : Nat) : Bool :=
  b.seen.any (fun e => e.1 == code && (unit == 0xFFF || e.2 == unit))

/-- Whether an instruction that a bundle of a queue has executed has had its full effect (R78): its Leaf write is not held by a copy,
its step of a time base has been taken, and its scrub has ended. -/
def State.effectDone (s : State) (q : Nat) (i : OrderInstr) : Bool :=
  match i with
  | .leafWr outLane outTu .. => !s.leafHeld.any (fun e => e.1 == tuKey outLane outTu && e.2.2 == q)
  | .tbStep tb .. => (s.servo tb).armed.isNone
  | .set off w64 _ v m =>
    match setTarget off w64 v.toNat m.toNat with
    | some (r, n, value, mask) => r != R.CELL_QUAR_RET || !s.scrub.contains (bits (setMerge r (s.reg r n) value mask) 19 0)
    | none => true
  | _ => true

/-- Whether the earlier instructions of the bundle of a queue, skipped ones left out, have had their full effect. -/
def State.settledBefore (s : State) (q : Nat) (b : Bundle) : Bool :=
  (b.acted.filterMap (fun k => if k < b.next then b.prog[k]? else none)).all (fun p => s.effectDone q p.instr)

/-- WAIT.EPOCH. -/
def execWaitEpoch (q : OrderQueue) (rel : Bool) (epoch : Nat) (s : State) : Host.Outcome State Fault Refusal :=
  .next (s.order q (.waitEpoch rel epoch) (fun b _ s =>
    let target := if rel then s.epochNum + epoch else s.ownEpoch b epoch
    if target ≤ s.epochNum then s.proceed q else s.park q b (.waitEpoch target)))

/-- WAIT.EVENT; an event raised since the first instruction began counts. -/
def execWaitEvent (q : OrderQueue) (code unit timeout : Nat) (s : State) : Host.Outcome State Fault Refusal :=
  .next (s.order q (.waitEvent code unit timeout) (fun b p s =>
    if b.saw code unit then (s.setSlot q { b with c := true }).proceed q else s.park q b (.waitEvent code unit p.halt)))

/-- FENCE. -/
def execFence (q : OrderQueue) (edge : Bool) (s : State) : Host.Outcome State Fault Refusal :=
  .next (s.order q (.fence edge) (fun b _ s =>
    if !edge && s.settledBefore (queueUnit q) b then s.proceed q else s.park q b (.fence edge)))

/-- WAIT_EPOCH_RESUME. -/
def execWaitEpochResume (q : OrderQueue) (s : State) : Host.Outcome State Fault Refusal :=
  .next (s.bureauAct (fun s => s.resume q (fun b =>
    match b.phase with
    | .waitEpoch target => decide (target ≤ s.epochNum)
    | _ => false)))

/-- A matching event resumes a bundle parked in WAIT.EVENT. -/
def State.eventArrived (s : State) (q : OrderQueue) (b : Bundle) (code unit : Nat) : State :=
  if b.saw code unit then (s.setSlot q { b with c := true }).proceed q else s

/-- WAIT_EVENT_ARRIVAL. -/
def execWaitEventArrival (q : OrderQueue) (s : State) : Host.Outcome State Fault Refusal :=
  .next (s.bureauAct (fun s =>
    match s.slot q with
    | some b =>
      match b.phase with
      | .waitEvent code unit _ => s.eventArrived q b code unit
      | _ => s
    | none => s))

/-- WAIT_EVENT_TIMEOUT: an event that has been raised by then counts as arrived. -/
def execWaitEventTimeout (q : OrderQueue) (s : State) : Host.Outcome State Fault Refusal :=
  .next (s.bureauAct (fun s =>
    match s.slot q with
    | some b =>
      match b.phase, b.prog[b.next]? with
      | .waitEvent code unit halt, some p =>
        if b.saw code unit then s.eventArrived q b code unit
        else
          let s := s.setSlot q { b with c := false }
          if halt then s.failStep q p 8 2 0 else s.proceed q
      | _, _ => s
    | none => s))

/-- An edge passes for the bundles whose FENCE waits for one, where their earlier effects were complete before it. -/
def State.fencesPass (s : State) : State :=
  s.updBureau (fun u => { u with slots := u.slots.map (fun e =>
    if e.2.phase = .fence true ∧ s.settledBefore e.1 e.2 = true then (e.1, { e.2 with phase := .fence false }) else e) })

/-- FENCE_RELEASE. -/
def execFenceRelease (q : OrderQueue) (s : State) : Host.Outcome State Fault Refusal :=
  .next (s.bureauAct (fun s => s.resume q (fun b => b.phase == .fence false && s.settledBefore (queueUnit q) b)))

/-! ### Time bases and snapshots -/

/-- TB.STEP (R384): a refused step is a CONFLICT. -/
def execTbStep (q : OrderQueue) (tb : Nat) (abs : Bool) (w0 w1 : Word64) (s : State) : Host.Outcome State Fault Refusal :=
  .next (s.order q (.tbStep tb abs w0 w1) (fun _ p s =>
    let r := s.tbStep tb abs w0 w1
    if r.1 then r.2.proceed q else r.2.failStep q p 6 5 0))

/-- TB.RATE (R381). -/
def execTbRate (q : OrderQueue) (tb rate : Nat) (s : State) : Host.Outcome State Fault Refusal :=
  .next (s.order q (.tbRate tb rate) (fun _ _ s => (s.tbRateSet tb rate).proceed q))

/-- TB.REARM (R386). -/
def execTbRearm (q : OrderQueue) (tb : Nat) (s : State) : Host.Outcome State Fault Refusal :=
  .next (s.order q (.tbRearm tb) (fun _ _ s => (s.tbRearm tb).proceed q))

/-- SNAP (R459). -/
def execSnap (q : OrderQueue) (block unit : Nat) (s : State) : Host.Outcome State Fault Refusal :=
  .next (s.order q (.snap block unit) (fun _ _ s => (s.snapAsk block unit).proceed q))

/-! ### Power -/

/-- SPRINT.ARM (R477). -/
def execSprintArm (q : OrderQueue) (arm : Bool) (s : State) : Host.Outcome State Fault Refusal :=
  .next (s.order q (.sprintArm arm) (fun _ p s =>
    if s.forcedOff R.PWR_SPRINT_STAT_LC 0 then s.failStep q p 6 3 0 else (s.askSprint arm).proceed q))

/-- FREEZE.PERMIT (R487), in seconds. -/
def execFreezePermit (q : OrderQueue) (duration : Nat) (s : State) : Host.Outcome State Fault Refusal :=
  .next (s.order q (.freezePermit duration) (fun _ p s =>
    if duration ≠ 0 ∧ s.otp.freeze = false then s.failStep q p 6 4 0x0502
    else (s.updPower (fun w => { w with permitted := duration != 0, permit := duration * 1000000000 * 65536 })).proceed q))

/-! ### Security -/

/-- The outcome of a security instruction in its bundle. -/
def State.conclude (q : OrderQueue) (p : ProgStep) (j : Judged) : State :=
  match j with
  | .ok s => s.proceed q
  | .fail status d0 d1 s => s.failStep q p status d0 d1

/-- FW.LOAD (R107): `image` is what a DMA read of host memory brought, none where it failed; a console bundle's image lies in the
object store. -/
def execFwLoad (q : OrderQueue) (slot : Nat) (addr len : Word64) (image : Option (List Byte)) (s : State) :
    Host.Outcome State Fault Refusal :=
  .next (s.order q (.fwLoad slot addr len) (fun b p s =>
    let read :=
      if q = .console then
        if addr.toNat + len.toNat ≤ storeSize then some (s.storeRead addr.toNat len.toNat) else none
      else image.filter (fun im => im.length == len.toNat)
    State.conclude q p (s.fwLoad slot read (b.instrWord p))))

/-- KEY.ENROL (R102). -/
def execKeyEnrol (q : OrderQueue) (slot : Nat) (words : List Word64) (s : State) : Host.Outcome State Fault Refusal :=
  .next (s.order q (.keyEnrol slot words) (fun b p s => State.conclude q p (s.keyEnrol slot words (b.instrWord p))))

/-- KEY.REVOKE (R104). -/
def execKeyRevoke (q : OrderQueue) (slot : Nat) (s : State) : Host.Outcome State Fault Refusal :=
  .next (s.order q (.keyRevoke slot) (fun b p s => State.conclude q p (s.keyRevoke slot (b.instrWord p))))

/-- The record that check 6 read for the CHARTER.SET at hand. -/
def Bundle.recordHere (b : Bundle) : List Byte :=
  let before := ((b.prog.take b.next).filter (fun p =>
    match p.instr with
    | .charterSet .. => true
    | _ => false)).length
  ((b.reads.getD before none).getD [])

/-- CHARTER.SET (R88). -/
def execCharterSet (q : OrderQueue) (source number : Nat) (addr len : Word64) (s : State) : Host.Outcome State Fault Refusal :=
  .next (s.order q (.charterSet source number addr len) (fun b p s =>
    State.conclude q p (s.charterSet source number b.recordHere (b.instrWord p))))

/-- ATTEST (R111, R112): the report body is taken, and signed now or after the reports before it. -/
def execAttest (q : OrderQueue) (nonce : List Word64) (addr limit : Word64) (s : State) : Host.Outcome State Fault Refusal :=
  .next (s.order q (.attest nonce addr limit) (fun b p s =>
    if !s.auth.identity then s.failStep q p 4 3 0
    else
      let s := s.park q { b with report := some (s.reportBody nonce, addr.toNat) } .attesting
      if s.auth.signing.isNone then s.updAuth (fun a => { a with signing := some (queueUnit q) }) else s))

/-- The next report that waits to be signed, by the unit of its queue. -/
def State.nextReport (s : State) : Option Nat :=
  (s.bureau.slots.find? (fun e => decide (e.2.phase = .attesting))).map (fun e => e.1)

/-- The engine is free for the next report, where it signed that of queue `q`. -/
def State.signNext (s : State) (q : OrderQueue) : State :=
  if s.auth.signing = some (queueUnit q) then s.updAuth (fun a => { a with signing := s.nextReport }) else s

/-- ATTEST_SIGNED: the report goes to its address, in host memory or in the console's object store. A bundle that has ended
meanwhile gets no report. -/
def execAttestSigned (q : OrderQueue) (s : State) : Host.Outcome State Fault Refusal :=
  .next (s.bureauAct (fun s =>
    match s.slot q with
    | some b =>
      match b.phase, b.report with
      | .attesting, some r =>
        if s.auth.signing ≠ some (queueUnit q) then s
        else
          let (bytes, s) := s.signReport r.1
          let s := if q = .console then s.storeWrite r.2 bytes else s.emit (.hostBytes r.2 bytes)
          let s := ((s.setSlot q { b with report := none }).raise EV_ATTEST_DONE 0).resume q (fun _ => true)
          s.updAuth (fun a => { a with signing := s.nextReport })
      | _, _ => s.signNext q
    | none => s.signNext q))

end Sys2Proof.Machine
end

