-- ==== Sys2Proof/Machine/Sideboard.lean ====
section
/-! DEFINITION. The Sideboard: what both devices of a pair capture at a paired edge, and how the standby applies the active
device's capture (R421 to R424). Follows spec/13. -/

namespace Sys2Proof.Machine

/-! ### Counters (R423) -/

/-- The counter registers of the PORT, PIPE, TBL, CELL and TM blocks. -/
def pairCounters : List RegSpec := [R.PORT_CTR, R.PIPE_CTR, R.TBL_CTR, R.CELL_CTR, R.TM_CTR]

/-- The numbers of the counters of queue `q` and of meter `m`: register counters have their offset as number. -/
def queueCounter (q i : Nat) : Nat := 2 ^ 24 + 4 * q + i
@[inherit_doc queueCounter] def meterCounter (m i : Nat) : Nat := 2 ^ 25 + 6 * m + i

/-- The slice in which a counter is sent (DESIGN CHOICE). -/
def sliceOf (id : Nat) : Nat := id / 8 % 64

/-- A map of some indices and values. -/
def mapOf {α : Type} (es : List (Nat × α)) : SMap α := es.foldl (fun m e => SMap.put m e.1 e.2) []

/-- Every counter that is not zero, by number. -/
def State.counterValues (s : State) : SMap Nat :=
  let regs := s.regs.filter (fun e => pairCounters.any (fun r => (r.instanceAt e.1).isSome)) |>.map (fun e => (e.1, e.2.toNat))
  let queues := s.queues.flatMap (fun e =>
    [(queueCounter e.1 0, e.2.enqueued), (queueCounter e.1 1, e.2.sent), (queueCounter e.1 2, e.2.octets),
      (queueCounter e.1 3, e.2.dropped)])
  let meters := s.meters.flatMap (fun e => e.2.counts.mapIdx (fun i v => (meterCounter e.1 i, v)))
  mapOf (regs ++ queues ++ meters)

/-- A 48-bit counter moved by a difference. -/
def moved (v : Nat) (d : Int) : Nat := ((v : Int) + d).toNat % 2 ^ 48

/-- One counter moves by the difference of the active device's value and the own value at the capture edge. A port counter that
so reaches its half-range says so (R182). -/
def State.moveCounter (s : State) (id active own : Nat) : State :=
  let d : Int := (active : Int) - own + 2 ^ 48
  if id < 2 ^ 24 then
    match pairCounters.find? (fun r => (r.instanceAt id).isSome) with
    | some r =>
      let n := (r.instanceAt id).getD 0
      let t := s.setReg r n (moved (s.reg r n) d)
      if r = R.PORT_CTR then t.halfReached (s.fld R.PORT_CTR_COUNT n) (n / 64) (n % 64) else t
    | none => s
  else if id < 2 ^ 25 then
    s.updQueue ((id - 2 ^ 24) / 4) (fun q =>
      match id % 4 with
      | 0 => { q with enqueued := moved q.enqueued d }
      | 1 => { q with sent := moved q.sent d }
      | 2 => { q with octets := moved q.octets d }
      | _ => { q with dropped := moved q.dropped d })
  else
    let m := (id - 2 ^ 25) / 6
    let i := (id - 2 ^ 25) % 6
    let v := s.meter m
    s.setMeter m { v with counts := v.counts.mapIdx (fun k c => if k = i then moved c d else c) }

/-- The indices of two maps. -/
def bothKeys {α : Type} (a b : SMap α) : List Nat :=
  a.map (fun e => e.1) ++ (b.filter (fun e => (SMap.find a e.1).isNone)).map (fun e => e.1)

/-- Every counter moves, from the values of both devices at the capture edge. -/
def State.moveCounters (s : State) (active own : SMap Nat) : State :=
  (bothKeys active own).foldl (fun s k => s.moveCounter k (SMap.get 0 active k) (SMap.get 0 own k)) s

/-! ### The capture (R421) -/

/-- The registers whose SEQ field the Sideboard carries, and the indices of the timestamp FIFOs, by offset. -/
def seqField (off : Nat) : Option Fld :=
  match locate off with
  | some (r, _) =>
    if r = R.PORT_TSF_WR then some R.PORT_TSF_WR_WR
    else if r = R.PORT_TSF_RD then some R.PORT_TSF_RD_RD
    else if r.fields.any (fun f => f.acc == .sq && f.hi == 31 && f.lo == 24) then some ⟨r, 31, 24⟩
    else none
  | none => none

/-- The sequence numbers that are not zero. -/
def State.seqValues (s : State) : SMap Nat :=
  s.regs.filterMap (fun e => (seqField e.1).map (fun f => (e.1, bits e.2.toNat f.hi f.lo)))

/-- The time servo state of a time base (R422): intervals within the limit, rates in LOCKED with the time since each was set,
integrator, then STATE, the rate in use and the frequency error. -/
def State.servoState (s : State) (b : Nat) : Nat × List (Int × Nat) × Option Int × List Nat :=
  ((s.servo b).good, (s.servo b).rates.map (fun r => (r.1, s.now - r.2)), (s.servo b).integral,
    [s.tbState b, s.fld R.TIME_TB_RATE_CUR_RATE b, s.fld R.TIME_TB_SERVO_FREQ_ERR b])

/-- The level of a bucket brought up to date. -/
def levelNow (b : Bucket) (rate burst now : Nat) : Int := if rate = 0 then 0 else (b.fill rate burst now).level

/-- What a device captures at an edge whose epoch in the active device's numbering is `e`. Buckets are filled up to the edge. -/
def State.capture (s : State) (e : Nat) : Sideboard :=
  let now := s.tbFreeNs 0
  { epoch := e
    meters := s.meters.map (fun m => (m.1, ((m.2.fill now).tc, (m.2.fill now).te)))
    tags := s.queues.map (fun q => (q.1, (q.2.start, q.2.finish)))
    virtual := s.virtual
    queueBuckets := s.queues.map (fun q => (q.1, levelNow q.2.bucket q.2.rate q.2.burst now))
    buckets := s.shapers.map (fun b =>
      let sh := s.shape (b.1 / 9) (b.1 % 9)
      (b.1, levelNow b.2 sh.1 sh.2 now))
    hits := s.table.map (fun t => (t.1, (bit t.2.result0 42, bit t.2.result0 31)))
    changes := []
    servos := (List.range 8).map s.servoState
    seqs := s.seqValues
    rseq := s.rseq
    slice := some (0, s.counterValues)
    learned := none }

/-- The learned entries of every replica, as pipeline, key and result words. -/
def State.learnedEntries (s : State) : List (Nat × List Word64 × Nat × Nat) :=
  s.table.filterMap (fun e =>
    if e.2.isOpen && bit e.2.result0 32 then some (e.1 / 2 ^ 20, e.2.key, e.2.result0, e.2.result1) else none)

/-! ### Application (R421 to R424) -/

/-- A number kept within limits. -/
def kept (lo hi v : Int) : Int := max lo (min hi v)

/-- One record of the table change list, as a direct write. -/
def State.applyChange (s : State) (c : TableChange) : State :=
  match c.key with
  | [key] =>
    match c.kind with
    | 0 =>
      match s.learnedInsert key c.pipes c.result with
      | .ok t => t
      | .error _ => s
    | 1 =>
      c.pipes.foldl (fun s pl =>
        match s.openEntry pl c.key with
        | some e => s.delEntry e.1
        | none => s) s
    | _ =>
      c.pipes.foldl (fun s pl =>
        match s.openEntry pl c.key with
        | some e => s.updEntry e.1 (fun f => { f with result0 := withBits f.result0 41 41 1 })
        | none => s) s
  | _ =>
    c.pipes.foldl (fun s pl =>
      match s.openEntry pl c.key with
      | some e => if c.kind = 1 then s.delEntry e.1 else s
      | none => s) s

/-- The learned entries of a bulk copy take the place of the own ones. -/
def State.applyLearned (s : State) (es : List (Nat × List Word64 × Nat × Nat)) : State :=
  let s := { s with table := s.table.filter (fun e => !(e.2.isOpen && bit e.2.result0 32)) }
  es.foldl (fun s e =>
    if (s.entriesOf e.1 e.2.1).isEmpty then State.insertAt e.2.1 (newEntry e.2.1 e.2.2.1 e.2.2.2 s.oldest) s e.1 else s) s

/-- The time servo state of a time base is adopted; its step state stays the own. -/
def State.adoptServo (s : State) (b : Nat) (v : Nat × List (Int × Nat) × Option Int × List Nat) : State :=
  let s := s.enterTb b (v.2.2.2.getD 0 0)
  let s := s.updServo b (fun u => { u with
    good := v.1, rates := v.2.1.map (fun r => (r.1, s.now - r.2)), integral := v.2.2.1 })
  let s := s.setFld R.TIME_TB_SERVO_FREQ_ERR b (v.2.2.2.getD 2 0)
  if rateSwInUse (s.source b) then s else s.setFld R.TIME_TB_RATE_CUR_RATE b (v.2.2.2.getD 1 0)

/-- Meter buckets, tags, virtual times and shaper buckets move by what the active device had more than this one at the
captured edge. -/
def State.applyLevels (s : State) (c own : Sideboard) : State :=
  let s := (bothKeys c.meters own.meters).foldl (fun s k =>
    let a := SMap.get (0, 0) c.meters k
    let o := SMap.get (0, 0) own.meters k
    let m := s.meter k
    s.setMeter k { m with
      tc := (kept 0 (m.cbs * 65536 : Nat) ((m.tc : Int) + a.1 - o.1)).toNat
      te := (kept 0 (m.pbs * 65536 : Nat) ((m.te : Int) + a.2 - o.2)).toNat }) s
  let tag := fun (t a o : Nat) => (t + a + (2 ^ 32 - o % 2 ^ 32)) % 2 ^ 32
  let s := (bothKeys c.tags own.tags).foldl (fun s k =>
    let a := SMap.get (0, 0) c.tags k
    let o := SMap.get (0, 0) own.tags k
    s.updQueue k (fun q => { q with start := tag q.start a.1 o.1, finish := tag q.finish a.2 o.2 })) s
  let s := (bothKeys c.virtual own.virtual).foldl (fun s k =>
    s.setVirtual (k / 4) (k % 4) (SMap.get 0 s.virtual k + SMap.get 0 c.virtual k + (2 ^ 48 - SMap.get 0 own.virtual k % 2 ^ 48))) s
  let s := (bothKeys c.queueBuckets own.queueBuckets).foldl (fun s k =>
    s.updQueue k (fun q => { q with bucket := { q.bucket with
      level := min (q.burst * 65536 : Nat) (q.bucket.level + SMap.get 0 c.queueBuckets k - SMap.get 0 own.queueBuckets k) } })) s
  (bothKeys c.buckets own.buckets).foldl (fun s k =>
    let b := s.shaper (k / 9) (k % 9)
    let top := (s.shape (k / 9) (k % 9)).2 * 65536
    s.setShaper (k / 9) (k % 9) { b with level := min (top : Nat) (b.level + SMap.get 0 c.buckets k - SMap.get 0 own.buckets k) }) s

/-- HIT and IDLE of the entries. -/
def State.applyHits (s : State) (c : Sideboard) : State :=
  { s with table := s.table.map (fun e =>
      match SMap.find c.hits e.1 with
      | some h => (e.1, { e.2 with
          result0 := withBits (withBits e.2.result0 42 42 (ofFlag (h.1 || bit e.2.result0 42))) 31 31 (ofFlag h.2) })
      | none => e) }

/-- Sequence numbers are replaced; those that the copy does not list are zero. -/
def State.applySeqs (s : State) (c : Sideboard) : State :=
  let s := (bothKeys c.seqs s.seqValues).foldl (fun s off =>
    match locate off, seqField off with
    | some (r, n), some f => s.setFld ⟨r, f.hi, f.lo⟩ n (SMap.get 0 c.seqs off)
    | _, _ => s) s
  { s with rseq := c.rseq }

/-- A counter slice is kept; the last one of a cycle brings every counter into line. -/
def State.takeSlice (s : State) (own : Sideboard) (sl : Nat × SMap Nat) : State :=
  let s := if sl.1 = 0 then
      s.updPair (fun p => { p with slices := (0, []), counters := own.slice.map (fun v => v.2) })
    else s
  match s.pair.counters with
  | none => s
  | some at0 =>
    if sl.1 ≠ s.pair.slices.1 then s.updPair (fun p => { p with slices := (0, []), counters := none })
    else
      let all := sl.2.foldl (fun m e => SMap.put m e.1 e.2) s.pair.slices.2
      if sl.1 = 63 then
        (s.moveCounters all at0).updPair (fun p => { p with slices := (0, []), counters := none, cycled := true })
      else s.updPair (fun p => { p with slices := (sl.1 + 1, all) })

/-- A copy is applied with the own capture of its edge. -/
def State.applyCopy (s : State) (c own : Sideboard) : State :=
  let s := match c.learned with
    | some es => (s.applyLearned es).updPair (fun p => { p with bulk := true, cycled := false })
    | none => s
  let s := c.changes.foldl State.applyChange s
  let s := (s.applyLevels c own).applyHits c
  let s := (c.servos.zipIdx).foldl (fun s v => s.adoptServo v.2 v.1) s
  let s := match c.slice with
    | some sl => s.takeSlice own sl
    | none => s
  let s := s.applySeqs c
  let s := (s.setFld R.PAIR_SB_STAT_EPOCH 0 c.epoch).setFld R.PAIR_SB_STAT_DURATION_US 0 s.freeWord.toNat
  let s : State := (s.drawn.bump R.PAIR_CTR_COUNT 1 1).updPair (fun p => { p with run := p.run + 1 })
  if 8 ≤ s.pair.run then s.setFlag R.PAIR_STAT_READY 0 true else s

/-- A copy is missing at its cutoff, or came late (R423): the standby keeps its own state, and the counter cycle starts again. -/
def State.copyLate (s : State) : State :=
  let was := s.flag R.PAIR_STAT_READY 0
  let s := (s.bump R.PAIR_CTR_COUNT 2 1).updPair (fun p => { p with run := 0, copy := none, slices := (0, []), counters := none })
  let s := s.setFlag R.PAIR_STAT_READY 0 false
  if was then s.raise EV_PAIR_SB_LATE 0 else s

/-! ### Sending (R421, R423, R424) -/

/-- The counters that an edge captures or has captured, with the next slice: a new cycle starts behind the last slice and with
a bulk copy. The second part says that this edge carries CTR_DELTA. -/
def State.counterCycle (s : State) : (Nat × SMap Nat) × Bool :=
  match s.pair.cycle, s.pair.bulkDue with
  | some c, false => if c.1 < 64 then (c, false) else ((0, s.counterValues), true)
  | _, _ => ((0, s.counterValues), true)

/-- The active device sends the copy of its edge: whether the edge carries CTR_DELTA. -/
def State.sendCopy (s : State) : Bool × State :=
  let r := s.counterCycle
  let n := r.1.1
  let c := { s.capture s.epochNum with
    changes := s.pair.changes.take 8192
    slice := some (n, r.1.2.filter (fun e => sliceOf e.1 == n))
    learned := if s.pair.bulkDue then some s.learnedEntries else none }
  let s := s.updPair (fun p => { p with changes := p.changes.drop 8192, bulkDue := false, cycle := some (n + 1, r.1.2) })
  let s := (s.setFld R.PAIR_SB_STAT_EPOCH 0 c.epoch).setFld R.PAIR_SB_STAT_DURATION_US 0 s.freeWord.toNat
  (r.2, (s.drawn.bump R.PAIR_CTR_COUNT 0 1).emit (.linkCopy c))

end Sys2Proof.Machine
end

