-- ==== Sys2Proof/Machine/Pair.lean ====
section
/-! DEFINITION. Active and standby pair: roles, the Psius link, forwarded bundles, takeover, fencing and the planned swap
(R408 to R428). Follows spec/13. -/

namespace Sys2Proof.Machine

/-! ### Withdrawal of a commit (R26, R29, R420) -/

/-- A commit ends without effect: its staged state is withdrawn for good, and its claims are released. -/
def State.dropCommit (s : State) (c : Commit) : State :=
  let s := (s.leafRestore c.id).dropClaims c.id
  s.updBureau (fun u => { u with commits := u.commits.filter (fun d => d.id != c.id) })

/-- Whether an instruction begins a commit, or is a write of kind U, which a COMMIT behind it or a commit of its own applies (R64, R66). -/
def beginsCommit (i : OrderInstr) : Bool :=
  match i with
  | .commit _ | .leafSwap _ => true
  | .stageBegin | .stageEnd | .abort => false
  | i => !kindI i && !versioned i

/-- A bundle in progress that a change of role aborts (R420): its last commit has not applied, so that a commit of it is in
progress or still to come, or none has applied. -/
def Bundle.unapplied (b : Bundle) : Bool :=
  let ahead := (b.prog.drop b.next).any (fun p => beginsCommit p.instr)
  let committing := match b.phase with
    | .committing _ => true
    | _ => false
  b.lastEpoch.isNone || committing || ahead

/-- Whether a bundle is in progress: it has started and has not ended. -/
def Phase.inProgress (p : Phase) : Bool := p != .waiting && p != .finished

/-- A bundle ends ABORTED with reason 4. -/
def State.abortForRole (s : State) (u : Nat) : State :=
  let s := (s.bureau.commits.filter (fun c => c.queue == u)).foldl State.dropCommit s
  s.endBundle (unitQueue u) ⟨9, 0x1FFF, 4, 0⟩

/-- The bundles in progress that `which` picks end ABORTED with reason 4. -/
def State.abortBundles (s : State) (which : Bundle → Bool) : State :=
  s.bureau.slots.foldl (fun s e =>
    if e.2.phase.inProgress && which e.2 then s.abortForRole e.1 else s) s

/-! ### Roles (R411) -/

/-- Whether the peer takes part in what the active device forwards. -/
def State.partnered (s : State) : Bool := s.peerRole == 2 || s.peerRole == 3

/-- ROLE changes; a device that becomes ACTIVE starts its Sideboard afresh. -/
def State.setRole (s : State) (r : Nat) : State :=
  if s.role = r then s
  else
    let s := (s.setFld R.PAIR_STAT_ROLE 0 r).raise EV_PAIR_ROLE 0
    if r = 1 then s.updPair (fun p => { p with changes := [], cycle := none, bulkDue := s.peerRole == 2 }) else s

/-- The bundles that were held for the peer and not forwarded start, are forwarded, or stay held (R417). -/
def State.releaseHeld (s : State) : State :=
  s.bureau.slots.foldl (fun s e =>
    if e.2.phase = .pairHeld ∧ e.2.forward = none then s.launch (unitQueue e.1) e.2 else s) s

/-- What follows a change of a role: an active device without a partner commits alone (R418), and held bundles are released. -/
def State.settlePair (s : State) : State :=
  let s := if s.role = 1 ∧ s.partnered = false then
      s.updBureau (fun u => { u with commits := u.commits.map (fun c => { c with paired := none }) })
    else s
  s.releaseHeld

/-- The device is fenced (R419, R420, R426): an active one deasserts TXSEL at its next edge. -/
def State.fenced (s : State) : State :=
  let active := s.role == 1
  let s := (s.setRole 4).raise EV_PAIR_FENCED 0
  let s := s.updPair (fun p => { p with txOff := p.txOff || active, txOn := false, swap := none, copy := none })
  (s.abortBundles Bundle.unapplied).settlePair

/-- A STANDBY device takes over (R425). -/
def State.takeOver (s : State) : State :=
  if s.role ≠ 3 then s
  else
    let s := ((s.setRole 1).setFlag R.PAIR_STAT_FENCE_OUT 0 true).raise EV_PAIR_TAKEOVER 0
    ((s.bump R.PAIR_CTR_COUNT 5 1).updPair (fun p => { p with txOn := true, txOff := false, swap := none, copy := none })).settlePair

/-! ### PAIR.ROLE and PAIR.SWAP (R412, R428) -/

/-- PAIR_ROLE. -/
def execPairRole (q : OrderQueue) (active : Bool) (s : State) : Host.Outcome State Fault Refusal :=
  .next (s.order q (.pairRole active) (fun _ p s =>
    if active = true ∧ s.peerRole = 1 then s.failStep q p 6 4 0x0403
    else if s.role ≠ 0 ∧ s.role ≠ 4 then s.failStep q p 6 4 0x0402
    else if active then
      ((s.setRole 1).updPair (fun r => { r with txOn := true, txOff := false })).settlePair.proceed q
    else
      let s := (s.setRole 2).updPair (fun r => { r with
        bulk := false, cycled := false, run := 0, copy := none, own := none, slices := (0, []), counters := none })
      (s.setFlag R.PAIR_STAT_READY 0 false).proceed q))

/-- PAIR_SWAP. -/
def execPairSwap (q : OrderQueue) (epoch : Nat) (s : State) : Host.Outcome State Fault Refusal :=
  .next (s.order q (.pairSwap epoch) (fun _ p s =>
    if s.role ≠ 1 then s.failStep q p 6 4 0x0402
    else if s.linkUp = false ∨ s.peerRole ≠ 3 ∨ s.pair.peerReady = false then s.failStep q p 6 4 0x0401
    else (s.updPair (fun r => { r with swap := some epoch })).proceed q))

/-! ### The link (R413 to R415, R417) -/

/-- LINK_UP changes. -/
def State.setPairLink (s : State) (up : Bool) : State :=
  if s.linkUp = up then s else (s.setFlag R.PAIR_STAT_LINK_UP 0 up).raise EV_PAIR_LINK 0

/-- The link has come up with both devices ACTIVE: the one whose PIN_ROLE is 0, or at equal pins the one with the lower serial
number, is fenced (R417). -/
def State.fenceChoice (s : State) : State :=
  if s.role ≠ 1 ∨ s.peerRole ≠ 1 then s
  else
    let pin := s.flag R.PAIR_STAT_PIN_ROLE 0
    let loses := if pin = s.pair.peerPin then decide (Config.serial.toNat < s.pair.peerSerial.toNat) else !pin
    if loses then s.fenced else s

/-- Half an epoch, in units of 2^-16 ns. -/
def halfEpochRef : Nat := 62500 * 65536

/-- The last own edge is paired with the peer's edge `e` at reference time `m` (R415). -/
def State.pairEdge (s : State) (e m : Nat) : State :=
  let ns := Int.tdiv ((m : Int) - s.epoch.edgeAt) 65536
  let s := s.updPair (fun p => { p with shift := (e : Int) - s.epochNum, marker := none })
  let s := (s.setFld R.PAIR_LINK_EPOCH_PEER_EPOCH 0 e).setFld R.PAIR_EDGE_OFFSET_OFFSET 0 (unsigned 32 ns)
  s.setFlag R.PAIR_STAT_ALIGNED 0 (decide (((m : Int) - s.epoch.edgeAt).natAbs ≤ 1000 * 65536))

/-- An edge marker arrives: it belongs to the last own edge, or to the one that comes. -/
def State.edgeMarker (s : State) (e m : Nat) : State :=
  if ((m : Int) - s.epoch.edgeAt).natAbs ≤ halfEpochRef then s.pairEdge e m
  else s.updPair (fun p => { p with marker := some (e, m) })

/-- The pairing at a new own edge: with the marker that came before it, else as far from the peer's count as before. -/
def State.pairAtEdge (s : State) : State :=
  match s.pair.marker with
  | some (e, m) =>
    if ((m : Int) - s.epoch.edgeAt).natAbs ≤ halfEpochRef then s.pairEdge e m
    else s.updPair (fun p => { p with marker := none })
  | none =>
    if s.linkUp then s.setFld R.PAIR_LINK_EPOCH_PEER_EPOCH 0 ((s.epochNum : Int) + s.pair.shift).toNat else s

/-- The standby becomes ACTIVE by a planned swap (R428). -/
def State.swapIn (s : State) : State :=
  ((s.setRole 1).setFld R.PAIR_STAT_TXSEL 0 0xFF).updPair (fun p => { p with swap := none, copy := none, txOn := false, txOff := false })

/-- What the word of a heartbeat tells this device: 1 to take over, 2 that it is fenced (R419), 3 that the peer has swapped at
its edge `e` (R428). -/
def State.peerWord (s : State) (word e : Nat) : State :=
  match word with
  | 1 => s.takeOver
  | 2 => if s.role = 2 ∨ s.role = 3 then s.fenced else s
  | 3 =>
    if s.role ≠ 3 then s
    else
      let own := ((e : Int) - s.pair.shift).toNat
      if own ≤ s.epochNum then s.swapIn else s.updPair (fun p => { p with swap := some own })
  | _ => s

/-- HEARTBEAT_RECEIVE. -/
def State.heartbeat (s : State) (h : Heartbeat) : State :=
  let was := s.peerRole
  let came := !s.linkUp && decide (4 ≤ popCount 8 s.pair.lanes)
  let s := if came then s.setPairLink true else s
  let s := (s.setFld R.PAIR_STAT_PEER_ROLE 0 h.role).setFlag R.PAIR_STAT_PIN_CLASH 0 (h.pin == s.flag R.PAIR_STAT_PIN_ROLE 0)
  let s := s.updPair (fun p => { p with
    peerPin := h.pin, peerReady := h.ready, peerSerial := h.serial
    bulkDue := p.bulkDue || (s.role == 1 && h.role == 2 && was != 2) })
  let s := match h.marker with
    | some m => s.edgeMarker h.epoch m
    | none => s
  let s := if s.flag R.PAIR_STAT_FENCE_OUT 0 = true ∧ (h.role = 0 ∨ h.role = 2) then s.setFlag R.PAIR_STAT_FENCE_OUT 0 false else s
  let s := if came || was == 7 then s.fenceChoice else s
  (s.peerWord h.word h.epoch).settlePair

/-- HEARTBEAT_RECEIVE; the heartbeat may be on any lane. -/
def execHeartbeatReceive (hb : Heartbeat) (s : State) : Host.Outcome State Fault Refusal :=
  .next (s.bureauAct (fun s => s.heartbeat hb))

/-- No heartbeat for HB_US: the peer is lost (R414), and a STANDBY device takes over where it may (R425). -/
def State.peerLost (s : State) : State :=
  if s.peerRole = 7 ∧ s.linkUp = false then s
  else
    let s := (s.setPairLink false).bump R.PAIR_CTR_COUNT 6 1
    let s := (s.setFld R.PAIR_STAT_PEER_ROLE 0 7).setFlag R.PAIR_STAT_PIN_CLASH 0 false
    let s := s.updPair (fun p => { p with peerReady := false, marker := none, swap := none })
    let s := if s.flag R.PAIR_CFG_TAKEOVER_EN 0 then s.takeOver else s
    s.settlePair

/-- HEARTBEAT_TIMEOUT. -/
def execHeartbeatTimeout (s : State) : Host.Outcome State Fault Refusal := .next (s.bureauAct State.peerLost)

/-- A lane of the link gains or loses alignment (R413): the link runs on eight lanes, or on four. -/
def State.pairLane (s : State) (lane : Nat) (aligned : Bool) : State :=
  let map := withBits s.pair.lanes lane lane (ofFlag aligned)
  let n := popCount 8 map
  let were := popCount 8 s.pair.lanes
  let s := s.updPair (fun p => { p with lanes := map })
  let s := s.setFld R.PAIR_STAT_LANES 0 (if n = 8 then 8 else if 4 ≤ n then 4 else 0)
  if were < 4 ∧ 4 ≤ n then (s.setPairLink true).fenceChoice
  else if n < 4 then s.setPairLink false
  else s

/-- PSIUS_LANE_ALIGNMENT. -/
def execPsiusLaneAlignment (lane : Fin 8) (aligned : Bool) (s : State) : Host.Outcome State Fault Refusal :=
  .next (s.bureauAct (fun s => s.pairLane lane.val aligned))

/-! ### Forwarded bundles (R416, R418, R419) -/

/-- FORWARDED_BUNDLE: bundle `n` of the active device, with its apply epoch in that device's numbering. -/
def execForwardedBundle (n : Nat) (words : List Word64) (apply : Nat) (s : State) : Host.Outcome State Fault Refusal :=
  .next (s.bureauAct (fun s =>
    if s.role = 2 ∨ s.role = 3 then
      let b := { Bundle.fresh words 0 33 none with
        forward := some { id := n, apply := ((apply : Int) - s.pair.shift).toNat, remote := true, ownReady := false
                          peerReady := false, early := false } }
      s.updBureau (fun u => { u with pairWaiting := u.pairWaiting ++ [b] })
    else s))

/-- Changes what a bundle carries of the pair, if it is the forwarded bundle `n`. -/
def Bundle.updForward (b : Bundle) (n : Nat) (f : Forward → Forward) : Bundle :=
  { b with forward := b.forward.map (fun w => if w.id = n then f w else w) }

/-- Changes what the forwarded bundle `n` carries, wherever it stands. -/
def State.updForward (s : State) (n : Nat) (f : Forward → Forward) : State :=
  s.updBureau (fun u => { u with
    slots := u.slots.map (fun e => (e.1, e.2.updForward n f)), pairWaiting := u.pairWaiting.map (fun b => b.updForward n f) })

/-- PAIR_READINESS of bundle `n`: its checks have passed on the peer, or with `commit` its islands have acknowledged there. -/
def execPairReadiness (n : Nat) (commit : Bool) (s : State) : Host.Outcome State Fault Refusal :=
  .next (s.bureauAct (fun s =>
    if !commit then s.updForward n (fun w => { w with peerReady := true })
    else if s.bureau.commits.any (fun c => c.paired == some n && !c.peerReady) then
      s.updBureau (fun u => { u with commits := u.commits.map (fun c =>
        if c.paired = some n then { c with peerReady := true } else c) })
    else s.updForward n (fun w => { w with early := true })))

/-- The peer's completion record of bundle `n` (R419). The peer is through with a bundle that still runs here, so that this
device goes on without it. -/
def State.peerRecord (s : State) (n : Nat) (words : List Word64) : State :=
  match SMap.find s.pair.ownRecords n with
  | some own => (s.updPair (fun p => { p with ownRecords := SMap.del p.ownRecords n })).compareRecords own (some words)
  | none =>
    if s.bureau.slots.any (fun e => e.2.forward.any (fun w => w.id == n && !w.remote)) then
      let s := s.updPair (fun p => { p with peerRecords := SMap.put p.peerRecords n words })
      let s := s.updForward n (fun w => { w with peerReady := true })
      s.updBureau (fun u => { u with commits := u.commits.map (fun c => if c.paired = some n then { c with paired := none } else c) })
    else s

/-- PEER_COMPLETION_RECORD. -/
def execPeerCompletionRecord (n : Nat) (words : List Word64) (s : State) : Host.Outcome State Fault Refusal :=
  .next (s.bureauAct (fun s => if s.role = 1 then s.peerRecord n words else s))

/-- PEER_RECORD_TIMEOUT: 1 ms after the own record of bundle `n`. -/
def execPeerRecordTimeout (n : Nat) (s : State) : Host.Outcome State Fault Refusal :=
  .next (s.bureauAct (fun s =>
    match SMap.find s.pair.ownRecords n with
    | some own => (s.updPair (fun p => { p with ownRecords := SMap.del p.ownRecords n })).compareRecords own none
    | none => s))

/-! ### The shared lines (R410, R425 to R427) -/

/-- PEER_FAIL_ASSERTED; with `low` false the line is released again. A line that this device drives tells nothing of the peer (R410). -/
def execPeerFailAsserted (low : Bool) (s : State) : Host.Outcome State Fault Refusal :=
  .next (s.bureauAct (fun s =>
    let low := low && !s.flag R.PAIR_STAT_FAIL_OUT 0
    let s := s.setFlag R.PAIR_STAT_FAIL_IN 0 low
    if low then s.takeOver else s))

/-- PEER_FENCE_ASSERTED; with `low` false the line is released again, and a line that this device drives tells nothing (R410). -/
def execPeerFenceAsserted (low : Bool) (s : State) : Host.Outcome State Fault Refusal :=
  .next (s.bureauAct (fun s =>
    let low := low && !s.flag R.PAIR_STAT_FENCE_OUT 0
    let s := s.setFlag R.PAIR_STAT_FENCE_IN 0 low
    if low && s.role == 1 then s.fenced else s))

/-- TXSEL_DEADLINE_EXPIRY: 250 µs after the fence. -/
def execTxselDeadlineExpiry (s : State) : Host.Outcome State Fault Refusal :=
  .next (s.awake (fun s =>
    if s.pair.txOff then (s.setFld R.PAIR_STAT_TXSEL 0 0).updPair (fun p => { p with txOff := false }) else s))

/-- ISLAND_POLL: ten polls in a row that IS32 or IS36 leaves unanswered are a failure. -/
def execIslandPoll (answered32 answered36 : Bool) (s : State) : Host.Outcome State Fault Refusal :=
  .next (s.awake (fun s =>
    let next := fun (ok : Bool) (n : Nat) => if ok then 0 else n + 1
    let p := (next answered32 s.pair.polls.1, next answered36 s.pair.polls.2)
    let s := s.updPair (fun r => { r with polls := p })
    if 10 ≤ p.1 ∨ 10 ≤ p.2 then s.failPins else s))

/-- SIDEBOARD_COPY_RECEIVE: a copy of the last paired edge, wholly received before the cutoff, waits for the next edge. -/
def execSideboardCopyReceive (copy : Sideboard) (s : State) : Host.Outcome State Fault Refusal :=
  .next (s.awake (fun s =>
    if (s.role = 2 ∨ s.role = 3) ∧ s.epoch.cutoffDone = false ∧ (copy.epoch : Int) = s.epochNum + s.pair.shift then
      s.updPair (fun p => { p with copy := some copy })
    else s))

/-! ### The pair at an epoch edge -/

/-- The heartbeat that follows an epoch edge (R414), with the edge's reference time as its marker. The others, each microsecond,
differ only in that they carry no marker. -/
def State.heartbeatNow (s : State) : Heartbeat :=
  { role := s.role, pin := s.flag R.PAIR_STAT_PIN_ROLE 0, ready := s.flag R.PAIR_STAT_READY 0, serial := Config.serial
    epoch := s.epochNum, marker := some s.epoch.edgeAt, word := 0 }

/-- The heartbeat of an edge leaves where a lane of the link is aligned. -/
def State.sendHeartbeat (s : State) : State := if s.pair.lanes = 0 then s else s.emit (.heartbeat s.heartbeatNow)

/-- TXSEL at an edge (R425, R426). -/
def State.txselEdge (s : State) : State :=
  let s := if s.pair.txOff then s.setFld R.PAIR_STAT_TXSEL 0 0 else if s.pair.txOn then s.setFld R.PAIR_STAT_TXSEL 0 0xFF else s
  s.updPair (fun p => { p with txOff := false, txOn := false })

/-- Whether a forwarded bundle is in progress. -/
def State.forwardsRun (s : State) : Bool := s.bureau.slots.any (fun e => e.2.forward.isSome && e.2.phase.inProgress)

/-- A planned swap takes effect (R428): the bundles that were held, and that a STANDBY device does not run, end. -/
def State.swapEdge (s : State) : State :=
  match s.pair.swap with
  | none => s
  | some e =>
    if s.epochNum < e then s
    else if s.role = 3 then s.swapIn
    else if s.role = 1 ∧ s.peerRole = 3 ∧ s.linkUp = true ∧ s.forwardsRun = false then
      let s := (((s.setRole 3).setFld R.PAIR_STAT_TXSEL 0 0).updPair (fun p => { p with swap := none })).emit (.linkWord 3)
      (s.abortBundles (fun b => decide (b.phase = .pairHeld ∧ b.cls = 1))).releaseHeld
    else s

/-- Forwarded bundles start at the first edge from their apply epoch at which both devices are ready (R416); an active device
without a partner does not wait for it. -/
def State.startForwards (s : State) : State :=
  s.updBureau (fun u => { u with slots := u.slots.map (fun e =>
    match e.2.forward with
    | some f =>
      if e.2.phase = .pairHeld ∧ f.apply ≤ s.epochNum ∧ f.ownReady = true ∧
          (f.peerReady = true ∨ (s.role = 1 ∧ s.partnered = false)) then
        (e.1, { e.2 with phase := .running })
      else e
    | none => e) })

/-- The Sideboard at an edge: the standby applies the copy of the edge before and captures; the active device sends. The result
says whether the edge carries SIDEBOARD and CTR_DELTA. -/
def State.sideboardEdge (s : State) : Bool × Bool × State :=
  if s.role = 2 ∨ s.role = 3 then
    let s := match s.pair.copy, s.pair.own with
      | some c, some own => s.applyCopy c own
      | _, _ => s
    let own := s.capture ((s.epochNum : Int) + s.pair.shift).toNat
    let s := s.updPair (fun p => { p with copy := none, own := some own })
    (true, false, if s.role = 2 ∧ s.pair.bulk = true ∧ s.pair.cycled = true then s.setRole 3 else s)
  else if s.role = 1 ∧ s.linkUp = true ∧ s.partnered = true then
    let r := s.sendCopy
    (true, r.1, r.2)
  else (false, false, s.updPair (fun p => { p with changes := [], own := none, copy := none }))

end Sys2Proof.Machine
end

