-- ==== Sys2Proof/Machine/Edge.lean ====
section
/-! DEFINITION. Commits from their staging to their edge: acknowledgements, cutoff and windows, and the epoch edge with all that
islands do at it (R13 to R32). Follows spec/01. -/

namespace Sys2Proof.Machine

/-! ### Acknowledgements (R27, R145, R152) -/

/-- Whether a port that a reserved flow uses is at full width; one that is Off has no width. -/
def State.atFullWidth (s : State) (p : Nat) : Bool :=
  isChannel p || s.portLife p == .off || s.txWidth p == s.fullWidth p

/-- Whether an island withholds its acknowledgement: a traffic manager quadrant while a port of an added reserved flow is
narrowed, a TSI quadrant while a lane that the set uses is. -/
def State.withholds (s : State) (island : Nat) (items : List OrderInstr) : Bool :=
  if 20 ≤ island ∧ island < 24 then
    items.any (fun i =>
      match i with
      | .rsvDecl _ _ _ false w0 _ => !(s.atFullWidth (rsvPorts w0).1 && s.atFullWidth (rsvPorts w0).2)
      | _ => false)
  else if 24 ≤ island ∧ island < 28 then (items.flatMap s.itemLanes).any s.laneNarrow
  else false

/-- The commit in progress of a queue. -/
def State.commitOf (s : State) (q : OrderQueue) : Option Commit := s.bureau.commits.find? (fun c => c.queue == queueUnit q)

/-- Stores a commit in progress. -/
def State.setCommit (s : State) (c : Commit) : State :=
  s.updBureau (fun u => { u with commits := u.commits.map (fun d => if d.id = c.id then c else d) })

/-- ISLAND_ACK. -/
def execIslandAck (q : OrderQueue) (island : Fin 40) (s : State) : Host.Outcome State Fault Refusal :=
  .next (s.awake (fun s =>
    match s.commitOf q with
    | none => s
    | some c =>
      if c.resend || !bit c.outstanding island.val || s.withholds island.val c.items then s
      else
        let rest := withBits c.outstanding island.val island.val 0
        let s := s.setCommit { c with outstanding := rest, lastAcks := 2 ^ island.val }
        match c.paired with
        | some n => if rest = 0 then s.emit (.linkReady n true) else s
        | none => s))

/-! ### Refusal and expiry (R25, R26, R29) -/

/-- A commit in progress fails: it is withdrawn, and its bundle ends at the instruction that waits for it. -/
def State.failCommit (s : State) (c : Commit) (status detail0 detail1 : Nat) : State :=
  let q := unitQueue c.queue
  let s := s.dropCommit c
  match s.slot q with
  | some b =>
    match b.prog[b.next]? with
    | some p => s.failStep q p status detail0 detail1
    | none => s
  | none => s

/-- The island that an outcome names: the lowest of a map. Where the peer was late and no own island was, the manual names
none, and the value is free. -/
def State.namedIsland (s : State) (map : Nat) : Nat × State :=
  match onesOf 40 map with
  | i :: _ => (i, s)
  | [] => (s.freeWord.toNat % 40, s.drawn)

/-- Whether something of a commit is missing: an acknowledgement, or the readiness of the peer (R418). -/
def Commit.incomplete (c : Commit) : Bool := c.outstanding != 0 || (c.paired.isSome && !c.peerReady)

/-- An acknowledgement window expires (R29). -/
def State.windowExpired (s : State) (c : Commit) : State :=
  if c.resend || !c.incomplete then s
  else
    let r := s.namedIsland c.outstanding
    let s := r.2.setFld R.DEV_EPOCH_STAT_ISLAND 0 r.1
    if c.attempt = 1 then
      let s := ((s.raiseAt EV_COMMIT_INCOMPLETE 0 0 [r.1]).leafRestore c.id).unstage c.id
      s.setCommit { c with outstanding := 0, resend := true, expired := some r.1, edge := none, peerReady := false }
    else (s.raiseAt EV_COMMIT_ABORT 0 0 [r.1]).failCommit c 9 2 r.1

/-- ACK_WINDOW_EXPIRY. -/
def execAckWindowExpiry (q : OrderQueue) (s : State) : Host.Outcome State Fault Refusal :=
  .next (s.bureauAct (fun s =>
    match s.commitOf q with
    | some c => s.windowExpired c
    | none => s))

/-! ### The cutoff (R26, R28, R234, R423) -/

/-- Whether the coming edge may carry a commit: everything is in, and its named epoch has come. -/
def State.carries (s : State) (c : Commit) : Bool :=
  !c.resend && !c.incomplete && (c.named == 0 || decide (c.named ≤ s.epochNum + 1))

/-- The step-free count that TB0 will hold at the coming edge. -/
def State.edgeCount (s : State) : Nat := (s.tbGet 0).free + (s.epoch.target - (s.tbGet 0).value)

/-- Whether the oldest live version retires at an edge at a step-free count (R23). -/
def State.retires (s : State) (count : Nat) : Bool :=
  match s.epoch.retire with
  | r :: _ => decide (r.2 ≤ count)
  | [] => false

/-- A commit that would need a fifth live version (R26). -/
def State.refuseFull (s : State) (c : Commit) : State := (s.raise EV_VERSION_FULL 0).failCommit c 6 2 0

/-- The commits that change versioned state are refused where four versions would stay live beside the new one. -/
def State.refuseVersions (s : State) (count : Nat) (chosen : List Commit) : State :=
  if s.fld R.DEV_VERSION_LIVE 0 - ofFlag (s.retires count) < 4 then s
  else (chosen.filter (fun c => c.items.any versioned)).foldl State.refuseFull s

/-- The commits that the coming edge is to carry. -/
def State.chosen (s : State) : List Commit := s.bureau.commits.filter (fun c => c.edge == some (s.epochNum + 1))

/-- EDGE_CUTOFF: the commits that the edge carries are settled, of those with LEAF_SWAP one; a standby whose copy is missing
discards it. -/
def State.cutoff (s : State) : State :=
  let e := s.epochNum + 1
  let s := s.updBureau (fun u => { u with commits := u.commits.map (fun c =>
    if s.carries c then { c with edge := some e } else c) })
  let s := (((s.chosen.filter (fun c => c.leafSwap)).drop 1).foldl (fun s c => s.failCommit c 6 1 0) s)
  let s := s.refuseVersions s.edgeCount s.chosen
  let late := s.linkUp && (s.role == 3 || (s.role == 2 && s.pair.bulk)) && s.pair.copy.isNone && s.pair.own.isSome && !s.epoch.lateNoted
  let s := if late then s.copyLate else s
  { s with epoch := { s.epoch with cutoffDone := true, lateNoted := s.epoch.lateNoted || late } }

/-- EDGE_CUTOFF, 10 µs before the edge on TB0. -/
def execEdgeCutoff (s : State) : Host.Outcome State Fault Refusal :=
  .next (s.bureauAct (fun s =>
    if s.epoch.cutoffDone then s else (s.advanceUntil 0 (s.epoch.target - 10000 * nsUnits)).cutoff))

/-! ### Versions at an edge (R20 to R23, R45) -/

/-- The oldest live version is retired (R22). -/
def State.retireOldest (s : State) : State :=
  let o := s.oldest
  let s := { s with tcam := retireEntries o s.tcam, patterns := retireEntries o s.patterns, table := retireTable o s.table
                    epoch := { s.epoch with retire := s.epoch.retire.drop 1 } }
  let s := (List.range 8).foldl (State.retireBank o) s
  (s.setFld R.DEV_VERSION_OLDEST 0 (o + 1)).setFld R.DEV_VERSION_LIVE 0 (s.fld R.DEV_VERSION_LIVE 0 - 1)

/-- The version advances by one; what stays staged keeps to the version behind it (R22). -/
def State.advanceVersion (s : State) : State :=
  let s := (s.setFld R.DEV_VERSION_CURRENT 0 (s.version + 1)).setFld R.DEV_VERSION_LIVE 0 (s.fld R.DEV_VERSION_LIVE 0 + 1)
  { s with tcam := restageEntries s.version s.tcam, patterns := restageEntries s.version s.patterns
           table := restageTable s.version s.table }

/-- The retirement of the version that was superseded at this edge is scheduled, under the limit as it now stands. -/
def State.scheduleRetire (s : State) (superseded count : Nat) : State :=
  let due := count + (s.fld R.DEV_LIFETIME_LIMIT_MS 0 * 1000000 + 125000) * nsUnits
  { s with epoch := { s.epoch with retire := s.epoch.retire ++ [(superseded, due)] } }

/-! ### Commits at an edge (R25, R29 to R31, R486) -/

/-- Whether the edge that carries a commit makes unversioned values active (R14, R67): its set has one, or has no versioned write. -/
def Commit.unversioned (c : Commit) : Bool :=
  !c.items.any versioned || c.items.any (fun i =>
    match i with
    | .leafWr .. => false
    | i => !versioned i)

/-- Whether a staged write is a freeze order. -/
def freezeItem (i : OrderInstr) : Bool :=
  match i with
  | .set off w64 _ v m =>
    match setTarget off w64 v.toNat m.toNat with
    | some (r, _, value, mask) => r == R.PWR_FREEZE_CTL && bit mask 0 && bit value 0
    | none => false
  | _ => false

/-- A commit that applied late: INCOMPLETE, with the island. -/
def Commit.late (c : Commit) (e : Nat) : Bool := c.expired.isSome || (c.named != 0 && decide (c.named < e))

/-- The bundle of a commit that has applied goes on. -/
def State.commitDone (s : State) (c : Commit) : State :=
  let q := unitQueue c.queue
  match s.slot q with
  | some b =>
    if b.phase ≠ .committing c.id then s
    else
      let b := { b with lastEpoch := some s.epochNum }
      if c.late s.epochNum then
        let r := match c.expired with
          | some i => (i, s)
          | none => s.namedIsland c.lastAcks
        let s := r.2
        let s := if c.expired.isSome then s
          else (s.setFld R.DEV_EPOCH_STAT_ISLAND 0 r.1).raiseAt EV_COMMIT_INCOMPLETE 0 0 [r.1]
        let index := ((b.prog[b.next]?).map (fun p => p.index)).getD 0x1FFF
        (s.setSlot q { b with late := some (b.late.getD (index, r.1)) }).proceed q
      else (s.setSlot q b).proceed q
  | none => s

/-- One commit applies under version `v`; the bundle of a freeze order never goes on (R488). -/
def State.applyCommit (v : Nat) (s : State) (c : Commit) : State :=
  let s := (s.applyWrites c.id v c.items c.bounds).leafRelease c.id
  let s := s.updBureau (fun u => { u with commits := u.commits.filter (fun d => d.id != c.id) })
  if s.power.frozen.isSome then s else s.commitDone c

/-- The commits of an edge with a freeze order that is not permitted fail (R486). -/
def State.refuseFreeze (s : State) (chosen : List Commit) : State :=
  if s.freezeAllowed then s else (chosen.filter (fun c => c.items.any freezeItem)).foldl (fun s c => s.failCommit c 6 4 0x0501) s

/-- A commit of an edge with a request that meets the device's own pending disable of its function is refused (R35). -/
def State.refuseForced (s : State) (chosen : List Commit) : State :=
  chosen.foldl (fun s c => if c.items.any s.meetsForced then s.failCommit c 6 3 0 else s) s

/-- A commit that was withdrawn is sent again (R29). -/
def State.resendCommit (s : State) (c : Commit) : State :=
  let c := { c with outstanding := s.setIslandMap c.items c.leafSwap, lastAcks := 0, attempt := 2, resend := false }
  (s.setCommit c).sendCommit c

/-! ### The edge (R13 to R18) -/

/-- The lanes that are On. -/
def State.lanesOn (s : State) : List Nat := (List.range 512).filter s.laneOn

/-- Receive frequencies as measured over the epoch, in units of 2^-16 ppm (R122, R123). -/
def State.measureLanes (s : State) (freqs : List (Fin 512 × Int)) : State :=
  freqs.foldl (fun s f =>
    let n := f.1.val
    let s := s.setFld R.LANE_FREQ_OFFSET n (unsigned 32 f.2)
    let limit := if s.fld R.LANE_STAT_CLASS n = 3 then 10 else 200
    if limit * 65536 < f.2.natAbs then (s.raiseOf EV_LANE_FREQ n).holdLane n else s) s

/-- What lanes and ports do at every edge: receivers that adapt anew (R134), rate injection, STF frame starts and thinning. -/
def State.laneEdge (s : State) (irregular : Bool) : State :=
  let on := s.lanesOn
  let s := on.foldl (fun s n => if s.fld R.LANE_CFG_RX_ADAPT n = 0 then s.adapt n else s) s
  let s := on.foldl State.injectRate s
  let s := on.foldl (State.stfEdge irregular) s
  (s.livePorts.filter (fun p => !isChannel p)).foldl State.thinningEdge s

/-- The count of epochs moves on, and the next edge is set. -/
def State.countEdge (s : State) : State :=
  let s := s.bump R.DEV_EPOCH_NUM_EPOCH 0 1
  let s : State := { s with epoch := { s.epoch with
    target := s.epoch.target + epochUnits, lastAt := (s.tbGet 0).free, cutoffDone := false, lateNoted := false, gap := false, raised := []
    edgeAt := s.now } }
  s.pairAtEdge

/-- The commits of an edge apply: the state, and whether the version advanced, unversioned values became active, and the Leaves
swapped. -/
def State.applyEdge (s : State) (chosen : List Commit) (count : Nat) : State :=
  let adv := chosen.any (fun c => c.items.any versioned)
  let c := s.version
  let s := if adv then s.advanceVersion else s
  let s := chosen.foldl (State.applyCommit s.version) s
  let s := if adv then s.scheduleRetire c count else s
  if chosen.any (fun c => c.leafSwap) then s.leafSwap else s

/-- The action field of an edge (R14). -/
def actionField (adv unver swap snap sideboard delta retire : Bool) : Nat :=
  maskOf ([adv, unver, swap, snap, sideboard, delta, retire].zipIdx.filterMap (fun b => if b.1 then some b.2 else none))

/-- The device at its coming edge, once the commits that the edge carries are settled; an edge whose cutoff was not commanded
settles them now. -/
def State.settled (s : State) : State :=
  let s := s.advanceUntil 0 s.epoch.target
  let s := (if s.epoch.cutoffDone then s else s.cutoff)
  let s := s.refuseFreeze s.chosen
  let s := s.refuseForced s.chosen
  s.refuseVersions (s.tbGet 0).free s.chosen

/-- EPOCH_EDGE. -/
def State.edge (s : State) (freqs : List (Fin 512 × Int)) : State :=
  let s := s.settled
  let count := (s.tbGet 0).free
  let chosen := s.chosen
  let due := s.bureau.commits.filter (fun c => c.resend)
  let irregular := s.epoch.gap
  let retire := s.retires count
  let snap := !s.epoch.snapNow.isEmpty
  let s := s.fencesPass.countEdge
  let s := if irregular then s.raise EV_EPOCH_GAP 0 else s
  let s := if retire then s.retireOldest else s
  let s := (s.applyEdge chosen count).enterImages
  let s := ((s.measureLanes freqs).laneEdge irregular).snapEdge.sweepEdge
  let s := s.sprintEdge
  let board := s.sideboardEdge
  let s := (board.2.2.txselEdge.swapEdge).startForwards.sendHeartbeat
  let s := due.foldl State.resendCommit s
  s.setFld R.DEV_EPOCH_STAT_LAST_ACT 0 (actionField (chosen.any (fun c => c.items.any versioned))
    (chosen.any Commit.unversioned) (chosen.any (fun c => c.leafSwap)) snap board.1 board.2.1 retire)

/-- EPOCH_EDGE; `freqs` are the receive frequencies measured over the epoch. -/
def execEpochEdge (freqs : List (Fin 512 × Int)) (s : State) : Host.Outcome State Fault Refusal :=
  .next (s.bureauAct (fun s => s.edge freqs))

end Sys2Proof.Machine
end

