-- ==== Sys2Proof/Machine/Boot.lean ====
section
/-! DEFINITION. Reset and boot: RESET_N low, the boot steps 1 to 5 with the boot flash, and step 6 (R89, R99, R108, R111, R236,
R322, R467 to R476). Follows spec/15 and spec/03. -/

namespace Sys2Proof.Machine

/-! ### Reset (R467, R468) -/

/-- RESET: everything but OTP, the boot flash and what has left the device returns to its reset value. The commands that wait
and the count of free values are the model's own and stay. -/
def State.toReset (s : State) : State :=
  { State.reset with pending := s.pending, out := s.out, free := s.free, otp := s.otp, flash := s.flash }

/-- RESET. -/
def execReset (s : State) : Host.Outcome State Fault Refusal := .next s.toReset

/-! ### The boot flash at boot (R89, R99, R108, R473 to R476) -/

/-- The valid record of one copy of a Charter area; a record that fails raises EV_AUTH_CHARTER_BAD. -/
def State.bootCharterCopy (s : State) (i copy : Nat) : Option (List Byte) × State :=
  match SMap.find s.flash.charters (2 * i + copy) with
  | none => (none, s)
  | some r =>
    if charterBodyOk i 0 r && s.charterSigFault r == 0 then (some r, s) else (none, s.raiseAt EV_AUTH_CHARTER_BAD 0 i [])

/-- One Charter index: the valid copy with the higher CHARTER_SEQ is installed, A where they are equal. -/
def State.bootCharter (s : State) (i : Nat) : State :=
  let a := s.bootCharterCopy i 0
  let b := a.2.bootCharterCopy i 1
  let s := b.2
  match a.1, b.1 with
  | some x, some y => if wordAt x 8 < wordAt y 8 then s.installCharter i 1 1 y else s.installCharter i 0 1 x
  | some x, none => s.installCharter i 0 1 x
  | none, some y => s.installCharter i 1 1 y
  | none, none => s

/-- The valid image of one copy of an extension slot's area; one that fails shows FAILED and raises EV_FW_BAD. -/
def State.bootImageCopy (s : State) (n copy : Nat) : Option (List Byte) × State :=
  match SMap.find s.flash.images (2 * n + copy) with
  | none => (none, s)
  | some im =>
    match s.imageFault n im with
    | none => (some im, s)
    | some _ => (none, (s.setFld R.AUTH_FW_SLOT_STATE n 2).raise EV_FW_BAD n)

/-- An image from a copy of a slot's area is placed in Bureau RAM. The other copy is noted as the running one until step 6
enters the image. -/
def State.placeImage (s : State) (n copy : Nat) (im : List Byte) : State :=
  s.updAuth (fun a => { a with entering := SMap.put a.entering n im, imageCopy := SMap.put a.imageCopy n (1 - copy) })

/-- One extension slot: the valid copy with the higher SVN is placed, A where they are equal. A slot of which the other copy failed shows
FAILED until the extensions are entered (DESIGN CHOICE, log 125). -/
def State.bootImage (s : State) (n : Nat) : State :=
  let a := s.bootImageCopy n 0
  let b := a.2.bootImageCopy n 1
  let s := b.2
  match a.1, b.1 with
  | some x, some y => if imageSvn x < imageSvn y then s.placeImage n 1 y else s.placeImage n 0 x
  | some x, none => s.placeImage n 0 x
  | none, some y => s.placeImage n 1 y
  | none, none => s

/-- A boot flash that cannot be used: no signed bundle is accepted until a reset. -/
def State.bootBlind (s : State) : State :=
  let s := (List.range 8).foldl (fun s n => s.setFld R.AUTH_SEQ_HIGH_HIGH_SEQ n 0xFFFFFFFFFFFFFFFF) s
  (s.setFlag R.PWR_STAT_FLASH_FAIL 0 true).raise EV_BOOT_FLASH 0

/-- The word of a valid directory (R472), and that of a blank flash (R475). -/
def directoryWord : Word64 := 0x42464C5301000000
@[inherit_doc directoryWord] def blankWord : Word64 := 0xFFFFFFFFFFFFFFFF

/-- Step 3: the boot flash is opened. `readable` says that its parameter table can be read. -/
def State.bootFlash (s : State) (readable : Bool) : State :=
  if !readable || (s.flash.directory != directoryWord && s.flash.directory != blankWord) then s.bootBlind
  else
    let s : State := if s.flash.directory = blankWord then
        { s with flash := { Flash.blank with directory := directoryWord, identity := s.flash.identity } }
      else s
    let s := s.updAuth (fun a => { a with identity := decide (sha384 s.flash.identity = identityDigest s.otp.identity) })
    let s := (journalHighs s.flash.journal).foldl (fun s e => s.setFld R.AUTH_SEQ_HIGH_HIGH_SEQ e.1 e.2) s
    let s := (List.range 34).foldl State.bootCharter s
    (List.range 16).foldl State.bootImage s

/-! ### The cell memory (R322) -/

/-- Runs of cells without one cell. -/
def runsDrop (c : Nat) (runs : List (Nat × Nat)) : List (Nat × Nat) :=
  runs.flatMap (fun r =>
    if r.1 ≤ c ∧ c < r.1 + r.2 then
      [(r.1, c - r.1), (c + 1, r.1 + r.2 - c - 1)].filter (fun t => t.2 != 0)
    else [r])

/-- The section of a quadrant: its cells in index order but for those that do not read back clean. -/
def sectionRuns (q : Nat) (bad : List Nat) : List (Nat × Nat) :=
  bad.foldl (fun rs c => runsDrop c rs) [(q * quadrantCells, quadrantCells)]

/-- Step 4: every octet's PLL takes the reference that REF_SEL selects, and every lane is calibrated (R121, R130). -/
def State.bootLanes (s : State) : State :=
  let s := (List.range 64).foldl (fun s o => s.takeRef o (s.flag R.LANE_OCT_REF_SOURCE o)) s
  (List.range 512).foldl State.calibrate s

/-- Step 4: the Cupboard is filled, and the four TSI quadrants are started. -/
def State.bootCells (s : State) (bad : List Nat) : State :=
  let s := (List.range 4).foldl (fun s q => s.setCupboard q { cache := [], ring := sectionRuns q bad }) s
  let s := (bad.filter (fun c => c < cellTotal)).eraseDups.foldl State.quarantineCell s
  let s := { s with minFree := s.freeCells }
  (List.range 4).foldl (fun s q => s.lifeAsk R.TSI_Q_STAT_LC q true) s

/-! ### Boot (R469) -/

/-- BOOT: RESET_N rises. `pin` is the level of PAIR_ROLE, `bad` the cells that do not read back clean, and `flashMs` what step 3
took. -/
def execBoot (pin readable : Bool) (bad : List Nat) (flashMs : Nat) (s : State) : Host.Outcome State Fault Refusal :=
  .next (s.awake (fun s =>
    if s.fld R.PWR_STAT_BOOT_STEP 0 ≠ 1 then s
    else
      let s := s.setFlag R.PAIR_STAT_PIN_ROLE 0 pin
      let s := (s.bootFlash readable).setFld R.PWR_BOOT_TIME_FLASH_MS 0 flashMs
      (s.bootLanes.bootCells bad).setFld R.PWR_STAT_BOOT_STEP 0 5))

/-- BOOT_COMPLETE: step 6. -/
def execBootComplete (readyMs : Nat) (s : State) : Host.Outcome State Fault Refusal :=
  .next (s.awake (fun s =>
    if s.fld R.PWR_STAT_BOOT_STEP 0 ≠ 5 then s
    else (s.enterImages.setFld R.PWR_STAT_BOOT_STEP 0 6).setFld R.PWR_BOOT_TIME_READY_MS 0 readyMs))

end Sys2Proof.Machine
end

