-- ==== Sys2Proof/Machine/Streams.lean ====
section
/-! DEFINITION. The frames that the byte streams of STF lanes carry: delineation of packet channels (R248 to R250) and of management
channels (R213, R214). -/

namespace Sys2Proof.Machine

/-- A packet channel takes the next header of its stream (R249): a frame behind it goes to the receive MAC of the channel's port. -/
def State.channelHeader (s : State) (p : Nat) : State :=
  if s.portLife p == .off || s.flag R.PORT_CHAN_STAT_RX_FAIL (p - 512) then s
  else
    let r := (s.channel p).stream.take 64 (s.fld R.PORT_CFG_MAX_FRAME p)
    let s := s.updChannel p (fun c => c.setStream r.1)
    let s := if 2 ≤ r.2.1 then s.bump R.PORT_CHAN_HDR_ERR_COUNT (p - 512) 1 else s
    let s := if r.2.1 = 3 then s.bump R.PORT_CHAN_SYNC_LOSS_COUNT (p - 512) 1 else s
    let s := s.refreshChannel p
    if r.2.1 = 1 then s.receiveFrame p r.2.2 false false 0 else s

/-- CHANNEL_HEADER_RECEIVE. -/
def execChannelHeaderReceive (channel : Fin 512) (s : State) : Host.Outcome State Fault Refusal :=
  .next (s.awake (fun s => s.channelHeader (512 + channel.val)))

/-- A management frame of lane `n` on its way to the host (R214, R452). -/
def mgmtHostFrame (n : Nat) (bytes : List Byte) : HostFrame :=
  { bytes := bytes, kind := 2, cause := 0, source := n, endNode := 0, ruleId := 0, version := 0, pipe := 0, tb := 0, stamp := 0 }

/-- A management channel takes the next header of its stream: a frame behind it goes to the management ring. -/
def State.mgmtHeader (s : State) (n : Nat) : State :=
  if !s.stfLane n || s.fld R.STF_STAT_ALIGN n != 2 || !s.flag R.STF_CFG_MGMT_EN n || s.flag R.STF_STAT_AIS n then s
  else
    let r := (s.stfOf n).mgmtStream.take 1 2048
    let s := s.updStf n (fun x => x.setMgmt r.1)
    if r.2.1 = 1 then
      { s with hostRx := SMap.upd [] s.hostRx (s.fld R.HDMA_CFG_MGMT_RING 0) (fun q => q ++ [mgmtHostFrame n r.2.2]) }
    else s

/-- MGMT_FRAME_RECEIVE. -/
def execMgmtFrameReceive (lane : Fin 512) (s : State) : Host.Outcome State Fault Refusal :=
  .next (s.awake (fun s => s.mgmtHeader lane.val))

/-- The window of a candidate ends before two headers are confirmed (R249). -/
def State.presyncTimeout (s : State) (mgmt : Bool) (n : Nat) : State :=
  if mgmt then
    if (s.stfOf n).mgmt.st = 1 then s.updStf n (fun x => x.setMgmt x.mgmtStream.restart) else s
  else if (s.channel (512 + n)).delin.st = 1 then
    (s.updChannel (512 + n) (fun c => c.setStream c.stream.restart)).refreshChannel (512 + n)
  else s

/-- PRESYNC_TIMEOUT of a packet channel, or of the management channel of a lane. -/
def execPresyncTimeout (mgmt : Bool) (n : Fin 512) (s : State) : Host.Outcome State Fault Refusal :=
  .next (s.awake (fun s => s.presyncTimeout mgmt n.val))

end Sys2Proof.Machine
end

