-- ==== Sys2Proof/Machine/Dispatch.lean ====
section
/-! DEFINITION. The meaning of every command: one arm per constructor, each a direct call of the meaning. -/

namespace Sys2Proof.Machine

def exec (i : Instr) (s : State) : Host.Outcome State Fault Refusal :=
  match i with
  | .nop q => Sys2Proof.Machine.execNop q s
  | .set q off w64 fromG value mask => Sys2Proof.Machine.execSet q off w64 fromG value mask s
  | .get q g off w64 => Sys2Proof.Machine.execGet q g off w64 s
  | .check q g test mask value => Sys2Proof.Machine.execCheck q g test mask value s
  | .waitEpoch q rel epoch => Sys2Proof.Machine.execWaitEpoch q rel epoch s
  | .waitEvent q code unit timeout => Sys2Proof.Machine.execWaitEvent q code unit timeout s
  | .fence q edge => Sys2Proof.Machine.execFence q edge s
  | .stageBegin q => Sys2Proof.Machine.execStageBegin q s
  | .stageEnd q => Sys2Proof.Machine.execStageEnd q s
  | .commit q epoch => Sys2Proof.Machine.execCommit q epoch s
  | .abort q => Sys2Proof.Machine.execAbort q s
  | .tblIns q pipes wide learned words errors => Sys2Proof.Machine.execTblIns q pipes wide learned words errors s
  | .tblDel q pipes wide learned words errors => Sys2Proof.Machine.execTblDel q pipes wide learned words errors s
  | .tblMod q pipes wide words errors => Sys2Proof.Machine.execTblMod q pipes wide words errors s
  | .tcamWr q pipe index egress invalidate words => Sys2Proof.Machine.execTcamWr q pipe index egress invalidate words s
  | .parseLoad q pipes first words => Sys2Proof.Machine.execParseLoad q pipes first words s
  | .patLoad q pipes first words => Sys2Proof.Machine.execPatLoad q pipes first words s
  | .leafWr q outLane outTu inLane inTu unequipped => Sys2Proof.Machine.execLeafWr q outLane outTu inLane inTu unequipped s
  | .leafSwap q epoch => Sys2Proof.Machine.execLeafSwap q epoch s
  | .tuMap q lane tu label => Sys2Proof.Machine.execTuMap q lane tu label s
  | .chanBind q port lane unbind lo hi => Sys2Proof.Machine.execChanBind q port lane unbind lo hi s
  | .portUp q port lane lanes speed fec mode => Sys2Proof.Machine.execPortUp q port lane lanes speed fec mode s
  | .portDown q port => Sys2Proof.Machine.execPortDown q port s
  | .laneCfg q lane param value => Sys2Proof.Machine.execLaneCfg q lane param value s
  | .recal q lane => Sys2Proof.Machine.execRecal q lane s
  | .testEn q lane value => Sys2Proof.Machine.execTestEn q lane value s
  | .gen q lane value => Sys2Proof.Machine.execGen q lane value s
  | .injFire q lane => Sys2Proof.Machine.execInjFire q lane s
  | .chkClear q lane => Sys2Proof.Machine.execChkClear q lane s
  | .qCfg q queue port tier group w0 w1 => Sys2Proof.Machine.execQCfg q queue port tier group w0 w1 s
  | .meterCfg q meter alg colourAware w0 w1 => Sys2Proof.Machine.execMeterCfg q meter alg colourAware w0 w1 s
  | .rsvDecl q flow meter queue withdraw w0 w1 => Sys2Proof.Machine.execRsvDecl q flow meter queue withdraw w0 w1 s
  | .tbStep q tb abs w0 w1 => Sys2Proof.Machine.execTbStep q tb abs w0 w1 s
  | .tbRate q tb rate => Sys2Proof.Machine.execTbRate q tb rate s
  | .tbRearm q tb => Sys2Proof.Machine.execTbRearm q tb s
  | .pulseSet q tpo tb enable train startSec startNs period => Sys2Proof.Machine.execPulseSet q tpo tb enable train startSec startNs period s
  | .snap q block unit => Sys2Proof.Machine.execSnap q block unit s
  | .pairRole q active => Sys2Proof.Machine.execPairRole q active s
  | .pairSwap q epoch => Sys2Proof.Machine.execPairSwap q epoch s
  | .sprintArm q arm => Sys2Proof.Machine.execSprintArm q arm s
  | .freezePermit q duration => Sys2Proof.Machine.execFreezePermit q duration s
  | .fwLoad q slot addr len image => Sys2Proof.Machine.execFwLoad q slot addr len image s
  | .keyEnrol q slot words => Sys2Proof.Machine.execKeyEnrol q slot words s
  | .keyRevoke q slot => Sys2Proof.Machine.execKeyRevoke q slot s
  | .charterSet q source number addr len => Sys2Proof.Machine.execCharterSet q source number addr len s
  | .attest q nonce addr limit => Sys2Proof.Machine.execAttest q nonce addr limit s
  | .freezeOrder q value mask => Sys2Proof.Machine.execFreezeOrder q value mask s
  | .freezeBurn q value mask => Sys2Proof.Machine.execFreezeBurn q value mask s
  | .rollbackTo q value mask => Sys2Proof.Machine.execRollbackTo q value mask s
  | .scrub q value mask => Sys2Proof.Machine.execScrub q value mask s
  | .leafEn q value mask => Sys2Proof.Machine.execLeafEn q value mask s
  | .patEn q pipe value mask => Sys2Proof.Machine.execPatEn q pipe value mask s
  | .tsiXp q pair value mask => Sys2Proof.Machine.execTsiXp q pair value mask s
  | .source q tb value mask => Sys2Proof.Machine.execSource q tb value mask s
  | .lockDecl q tb value mask => Sys2Proof.Machine.execLockDecl q tb value mask s
  | .ordOqTail n value => Sys2Proof.Machine.execOrdOqTail n value s
  | .ordOqSize n reg value => Sys2Proof.Machine.execOrdOqSize n reg value s
  | .ordOqCplHead n value => Sys2Proof.Machine.execOrdOqCplHead n value s
  | .sequenceWriteBack off value => Sys2Proof.Machine.execSequenceWriteBack off value s
  | .devSnapTrig value requester => Sys2Proof.Machine.execDevSnapTrig value requester s
  | .hdmaEvrSize value => Sys2Proof.Machine.execHdmaEvrSize value s
  | .hdmaEvrBase value => Sys2Proof.Machine.execHdmaEvrBase value s
  | .hdmaEvrHead value => Sys2Proof.Machine.execHdmaEvrHead value s
  | .hdmaRingTail ring value => Sys2Proof.Machine.execHdmaRingTail ring value s
  | .hdmaRingSize ring reg value => Sys2Proof.Machine.execHdmaRingSize ring reg value s
  | .tblShadowTail value => Sys2Proof.Machine.execTblShadowTail value s
  | .tblShadowSize reg value => Sys2Proof.Machine.execTblShadowSize reg value s
  | .portTsfRd port value => Sys2Proof.Machine.execPortTsfRd port value s
  | .msixTableWrite entry dword value => Sys2Proof.Machine.execMsixTableWrite entry dword value s
  | .lhLowWordRead off wide => Sys2Proof.Machine.execLhLowWordRead off wide s
  | .hostRegisterWrite a => Sys2Proof.Machine.execHostRegisterWrite a s
  | .unsupportedRequest a => Sys2Proof.Machine.execUnsupportedRequest a s
  | .storeWrite r => Sys2Proof.Machine.execStoreWrite r s
  | .storeRead r => Sys2Proof.Machine.execStoreRead r s
  | .submit r => Sys2Proof.Machine.execSubmit r s
  | .cplRead r => Sys2Proof.Machine.execCplRead r s
  | .regRead r => Sys2Proof.Machine.execRegRead r s
  | .dustsheetReadOut r => Sys2Proof.Machine.execDustsheetReadOut r s
  | .bypass => Sys2Proof.Machine.execBypass s
  | .idcode => Sys2Proof.Machine.execIdcode s
  | .samplePreload levels preload => Sys2Proof.Machine.execSamplePreload levels preload s
  | .extest levels => Sys2Proof.Machine.execExtest levels s
  | .dustsheet => Sys2Proof.Machine.execDustsheet s
  | .bundleFetch n addr len rsv words => Sys2Proof.Machine.execBundleFetch n addr len rsv words s
  | .ordFetchTimeout n => Sys2Proof.Machine.execOrdFetchTimeout n s
  | .signatureVerified q reads => Sys2Proof.Machine.execSignatureVerified q reads s
  | .applyAfterRelease q => Sys2Proof.Machine.execApplyAfterRelease q s
  | .completionRecordWrite q => Sys2Proof.Machine.execCompletionRecordWrite q s
  | .journalAppend ok => Sys2Proof.Machine.execJournalAppend ok s
  | .journalRetry ok => Sys2Proof.Machine.execJournalRetry ok s
  | .inbandSegment => Sys2Proof.Machine.execInbandSegment s
  | .inbandReassemblyTimeout charter id => Sys2Proof.Machine.execInbandReassemblyTimeout charter id s
  | .waitEventArrival q => Sys2Proof.Machine.execWaitEventArrival q s
  | .waitEventTimeout q => Sys2Proof.Machine.execWaitEventTimeout q s
  | .waitEpochResume q => Sys2Proof.Machine.execWaitEpochResume q s
  | .fenceRelease q => Sys2Proof.Machine.execFenceRelease q s
  | .attestSigned q => Sys2Proof.Machine.execAttestSigned q s
  | .islandAck q island => Sys2Proof.Machine.execIslandAck q island s
  | .edgeCutoff => Sys2Proof.Machine.execEdgeCutoff s
  | .ackWindowExpiry q => Sys2Proof.Machine.execAckWindowExpiry q s
  | .epochEdge freqs => Sys2Proof.Machine.execEpochEdge freqs s
  | .frameReceive port bytes codeError truncated badBlocks time => Sys2Proof.Machine.execFrameReceive port bytes codeError truncated badBlocks time s
  | .frameIngress port early errors time => Sys2Proof.Machine.execFrameIngress port early errors time s
  | .patternScan pipe errors => Sys2Proof.Machine.execPatternScan pipe errors s
  | .frameDequeue port fault time point => Sys2Proof.Machine.execFrameDequeue port fault time point s
  | .cellRelease port cell gen fault => Sys2Proof.Machine.execCellRelease port cell gen fault s
  | .underrun port => Sys2Proof.Machine.execUnderrun port s
  | .timestampPoint port time => Sys2Proof.Machine.execTimestampPoint port time s
  | .pfcFrameReceive port => Sys2Proof.Machine.execPfcFrameReceive port s
  | .pauseFrameReceive port => Sys2Proof.Machine.execPauseFrameReceive port s
  | .pauseTimerExpiry port priority => Sys2Proof.Machine.execPauseTimerExpiry port priority s
  | .pfcFrameSend port => Sys2Proof.Machine.execPfcFrameSend port s
  | .pfcResend port => Sys2Proof.Machine.execPfcResend port s
  | .fecCodeword port symbols => Sys2Proof.Machine.execFecCodeword port symbols s
  | .cupboardRefill quadrant => Sys2Proof.Machine.execCupboardRefill quadrant s
  | .txDescriptor ring words frame payload time => Sys2Proof.Machine.execTxDescriptor ring words frame payload time s
  | .hdmaFetchTimeout ring => Sys2Proof.Machine.execHdmaFetchTimeout ring s
  | .hostRxDelivery ring addr bufLen => Sys2Proof.Machine.execHostRxDelivery ring addr bufLen s
  | .eventRecordWrite => Sys2Proof.Machine.execEventRecordWrite s
  | .holdoffExpiry vector => Sys2Proof.Machine.execHoldoffExpiry vector s
  | .laneStartingEnd lane ok => Sys2Proof.Machine.execLaneStartingEnd lane ok s
  | .laneStoppingEnd lane => Sys2Proof.Machine.execLaneStoppingEnd lane s
  | .refclkLoss octet => Sys2Proof.Machine.execRefclkLoss octet s
  | .backgroundRecal lane => Sys2Proof.Machine.execBackgroundRecal lane s
  | .recalDone lane => Sys2Proof.Machine.execRecalDone lane s
  | .checkerSample lane bits => Sys2Proof.Machine.execCheckerSample lane bits s
  | .sigDetLoss lane => Sys2Proof.Machine.execSigDetLoss lane s
  | .losClear lane => Sys2Proof.Machine.execLosClear lane s
  | .alignmentMarkerLock lane locked deskewed => Sys2Proof.Machine.execAlignmentMarkerLock lane locked deskewed s
  | .laneControlWordSlot port => Sys2Proof.Machine.execLaneControlWordSlot port s
  | .laneControlWordReceive port word => Sys2Proof.Machine.execLaneControlWordReceive port word s
  | .thinSwitch port received => Sys2Proof.Machine.execThinSwitch port received s
  | .holdWordTimeout port => Sys2Proof.Machine.execHoldWordTimeout port s
  | .stfBlockReceive lane header word time => Sys2Proof.Machine.execStfBlockReceive lane header word time s
  | .stfFrameReceive lane => Sys2Proof.Machine.execStfFrameReceive lane s
  | .stfFrameStart lane time => Sys2Proof.Machine.execStfFrameStart lane time s
  | .containerReceive lane tu => Sys2Proof.Machine.execContainerReceive lane tu s
  | .parkedMaskExpiry lane => Sys2Proof.Machine.execParkedMaskExpiry lane s
  | .mgmtFrameReceive lane => Sys2Proof.Machine.execMgmtFrameReceive lane s
  | .channelHeaderReceive channel => Sys2Proof.Machine.execChannelHeaderReceive channel s
  | .presyncTimeout mgmt n => Sys2Proof.Machine.execPresyncTimeout mgmt n s
  | .portStartingEnd port => Sys2Proof.Machine.execPortStartingEnd port s
  | .portDrainExpiry port => Sys2Proof.Machine.execPortDrainExpiry port s
  | .portStoppingEnd port => Sys2Proof.Machine.execPortStoppingEnd port s
  | .channelStartingEnd channel => Sys2Proof.Machine.execChannelStartingEnd channel s
  | .channelStoppingEnd channel => Sys2Proof.Machine.execChannelStoppingEnd channel s
  | .tsiQuadrantTransitionEnd quadrant => Sys2Proof.Machine.execTsiQuadrantTransitionEnd quadrant s
  | .leafCopyEnd quadrant => Sys2Proof.Machine.execLeafCopyEnd quadrant s
  | .patternEngineTransitionEnd pipe => Sys2Proof.Machine.execPatternEngineTransitionEnd pipe s
  | .tpoTransitionEnd tpo => Sys2Proof.Machine.execTpoTransitionEnd tpo s
  | .pulseEmit tpo => Sys2Proof.Machine.execPulseEmit tpo s
  | .servoUpdate tb => Sys2Proof.Machine.execServoUpdate tb s
  | .tbStepApply tb => Sys2Proof.Machine.execTbStepApply tb s
  | .tinEdge tin rising time => Sys2Proof.Machine.execTinEdge tin rising time s
  | .tinLossTimeout tin => Sys2Proof.Machine.execTinLossTimeout tin s
  | .learnNotice pipe errors => Sys2Proof.Machine.execLearnNotice pipe errors s
  | .learnAckTimeout pipe key => Sys2Proof.Machine.execLearnAckTimeout pipe key s
  | .ageSweepVisit pipe place late errors => Sys2Proof.Machine.execAgeSweepVisit pipe place late errors s
  | .shadowSegment addr count flags rsv words errors => Sys2Proof.Machine.execShadowSegment addr count flags rsv words errors s
  | .shadowFinalScan errors => Sys2Proof.Machine.execShadowFinalScan errors s
  | .shadowFetchTimeout => Sys2Proof.Machine.execShadowFetchTimeout s
  | .heartbeatReceive hb => Sys2Proof.Machine.execHeartbeatReceive hb s
  | .heartbeatTimeout => Sys2Proof.Machine.execHeartbeatTimeout s
  | .sideboardCopyReceive copy => Sys2Proof.Machine.execSideboardCopyReceive copy s
  | .forwardedBundle n words apply => Sys2Proof.Machine.execForwardedBundle n words apply s
  | .pairReadiness n commit => Sys2Proof.Machine.execPairReadiness n commit s
  | .peerCompletionRecord n words => Sys2Proof.Machine.execPeerCompletionRecord n words s
  | .peerRecordTimeout n => Sys2Proof.Machine.execPeerRecordTimeout n s
  | .peerFailAsserted low => Sys2Proof.Machine.execPeerFailAsserted low s
  | .peerFenceAsserted low => Sys2Proof.Machine.execPeerFenceAsserted low s
  | .txselDeadlineExpiry => Sys2Proof.Machine.execTxselDeadlineExpiry s
  | .islandPoll answered32 answered36 => Sys2Proof.Machine.execIslandPoll answered32 answered36 s
  | .reset => Sys2Proof.Machine.execReset s
  | .boot pin readable bad flashMs => Sys2Proof.Machine.execBoot pin readable bad flashMs s
  | .bootComplete readyMs => Sys2Proof.Machine.execBootComplete readyMs s
  | .supplyFault => Sys2Proof.Machine.execSupplyFault s
  | .tjSample readings => Sys2Proof.Machine.execTjSample readings s
  | .icoreSample amperes => Sys2Proof.Machine.execIcoreSample amperes s
  | .creditExhausted time => Sys2Proof.Machine.execCreditExhausted time s
  | .sprintClockStep time => Sys2Proof.Machine.execSprintClockStep time s
  | .freezeNAsserted trip => Sys2Proof.Machine.execFreezeNAsserted trip s
  | .freezePermitExpiry => Sys2Proof.Machine.execFreezePermitExpiry s
  | .functionLevelReset => Sys2Proof.Machine.execFunctionLevelReset s
  | .d3hotEntry => Sys2Proof.Machine.execD3hotEntry s
  | .d0Return => Sys2Proof.Machine.execD0Return s
  | .queueStoppingEnd queue => Sys2Proof.Machine.execQueueStoppingEnd queue s
  | .cellScrubEnd failed => Sys2Proof.Machine.execCellScrubEnd failed s
  | .emptyQueueVisit queue => Sys2Proof.Machine.execEmptyQueueVisit queue s
  | .psiusLaneAlignment lane aligned => Sys2Proof.Machine.execPsiusLaneAlignment lane aligned s
  | .linkFaultSignalling port localFault remoteFault => Sys2Proof.Machine.execLinkFaultSignalling port localFault remoteFault s
  | .clause73NextPage port capability => Sys2Proof.Machine.execClause73NextPage port capability s

end Sys2Proof.Machine
end

