-- ==== Sys2Proof/Machine/OrderEncode.lean ====
section
/-! DEFINITION. Instruction words written back (R61 to R68): the words of an instruction, from the same tables that decoding
reads. -/

namespace Sys2Proof.Machine

/-- OPCODE, bits [63:56], of an instruction (R68). -/
def opcodeOf (i : OrderInstr) : Nat :=
  match i with
  | .nop => 0x00
  | .set .. => 0x01
  | .get .. => 0x02
  | .check .. => 0x03
  | .waitEpoch .. => 0x04
  | .waitEvent .. => 0x05
  | .fence .. => 0x06
  | .stageBegin => 0x10
  | .stageEnd => 0x11
  | .commit .. => 0x12
  | .abort => 0x13
  | .tblIns .. => 0x20
  | .tblDel .. => 0x21
  | .tblMod .. => 0x22
  | .tcamWr .. => 0x23
  | .parseLoad .. => 0x24
  | .patLoad .. => 0x25
  | .leafWr .. => 0x30
  | .leafSwap .. => 0x31
  | .tuMap .. => 0x32
  | .chanBind .. => 0x33
  | .portUp .. => 0x40
  | .portDown .. => 0x41
  | .laneCfg .. => 0x42
  | .qCfg .. => 0x43
  | .meterCfg .. => 0x44
  | .rsvDecl .. => 0x45
  | .tbStep .. => 0x50
  | .tbRate .. => 0x51
  | .tbRearm .. => 0x52
  | .pulseSet .. => 0x53
  | .snap .. => 0x60
  | .pairRole .. => 0x70
  | .pairSwap .. => 0x71
  | .sprintArm .. => 0x80
  | .freezePermit .. => 0x81
  | .fwLoad .. => 0x90
  | .keyEnrol .. => 0x91
  | .keyRevoke .. => 0x92
  | .charterSet .. => 0x93
  | .attest .. => 0x94

/-- OPERAND and IFLAGS, bits [52:0], of an instruction. -/
def operandOf (i : OrderInstr) : Nat :=
  match i with
  | .set off w64 fromG _ _ => off + ofFlag w64 * 2 ^ 25 + ofFlag fromG * 2 ^ 48
  | .get g off w64 => off + ofFlag w64 * 2 ^ 25 + g * 2 ^ 26
  | .check g test _ _ => test * 2 ^ 40 + g * 2 ^ 44
  | .waitEpoch rel epoch => epoch + ofFlag rel * 2 ^ 48
  | .waitEvent code unit timeout => timeout + unit * 2 ^ 24 + code * 2 ^ 36
  | .fence edge => ofFlag edge * 2 ^ 48
  | .commit epoch => epoch
  | .tblIns pipes wide learned _ => pipes * 2 ^ 40 + ofFlag learned * 2 ^ 48 + ofFlag wide * 2 ^ 49
  | .tblDel pipes wide learned _ => pipes * 2 ^ 40 + ofFlag learned * 2 ^ 48 + ofFlag wide * 2 ^ 49
  | .tblMod pipes wide _ => pipes * 2 ^ 40 + ofFlag wide * 2 ^ 49
  | .tcamWr pipe index egress invalidate _ => index * 2 ^ 30 + pipe * 2 ^ 45 + ofFlag egress * 2 ^ 48 + ofFlag invalidate * 2 ^ 49
  | .parseLoad pipes first words => (words.length / 4 - 1) * 2 ^ 24 + first * 2 ^ 32 + pipes * 2 ^ 40
  | .patLoad pipes first words => (words.length / 9 - 1) * 2 ^ 20 + first * 2 ^ 28 + pipes * 2 ^ 40
  | .leafWr outLane outTu inLane inTu unequipped =>
    inTu * 2 ^ 16 + inLane * 2 ^ 23 + outTu * 2 ^ 32 + outLane * 2 ^ 39 + ofFlag unequipped * 2 ^ 48
  | .leafSwap epoch => epoch
  | .tuMap lane tu label => label * 2 ^ 24 + tu * 2 ^ 32 + lane * 2 ^ 39
  | .chanBind port lane unbind _ _ => lane * 2 ^ 29 + port * 2 ^ 38 + ofFlag unbind * 2 ^ 48
  | .portUp port lane lanes speed fec mode =>
    mode * 2 ^ 20 + fec * 2 ^ 22 + speed * 2 ^ 24 + lanes * 2 ^ 27 + lane * 2 ^ 29 + port * 2 ^ 38
  | .portDown port => port * 2 ^ 38
  | .laneCfg lane param value => value + param * 2 ^ 32 + lane * 2 ^ 39
  | .qCfg queue port tier group _ _ => group * 2 ^ 17 + tier * 2 ^ 20 + port * 2 ^ 22 + queue * 2 ^ 32
  | .meterCfg meter alg colourAware _ _ => alg * 2 ^ 29 + meter * 2 ^ 31 + ofFlag colourAware * 2 ^ 48
  | .rsvDecl flow meter queue withdraw _ _ => queue * 2 + meter * 2 ^ 17 + flow * 2 ^ 34 + ofFlag withdraw * 2 ^ 48
  | .tbStep tb abs _ _ => tb * 2 ^ 40 + ofFlag abs * 2 ^ 48
  | .tbRate tb rate => rate + tb * 2 ^ 40
  | .tbRearm tb => tb * 2 ^ 40
  | .pulseSet tpo tb enable train _ _ _ => tb * 2 ^ 40 + tpo * 2 ^ 44 + ofFlag enable * 2 ^ 48 + ofFlag train * 2 ^ 49
  | .snap block unit => unit * 2 ^ 28 + block * 2 ^ 40
  | .pairRole active => ofFlag active
  | .pairSwap epoch => epoch
  | .sprintArm arm => ofFlag arm * 2 ^ 48
  | .freezePermit duration => duration
  | .fwLoad slot _ _ => slot * 2 ^ 44
  | .keyEnrol slot _ => slot
  | .keyRevoke slot => slot
  | .charterSet source number _ _ => number * 2 ^ 40 + source * 2 ^ 44
  | .nop | .stageBegin | .stageEnd | .abort | .attest .. => 0

/-- The extra words of an instruction. -/
def extraOf (i : OrderInstr) : List Word64 :=
  match i with
  | .set _ _ _ value mask => [value, mask]
  | .check _ _ mask value => [mask, value]
  | .tblIns _ _ _ words => words
  | .tblDel _ _ _ words => words
  | .tblMod _ _ words => words
  | .tcamWr _ _ _ _ words => words
  | .parseLoad _ _ words => words
  | .patLoad _ _ words => words
  | .chanBind _ _ _ lo hi => [lo, hi]
  | .qCfg _ _ _ _ w0 w1 => [w0, w1]
  | .meterCfg _ _ _ w0 w1 => [w0, w1]
  | .rsvDecl _ _ _ _ w0 w1 => [w0, w1]
  | .tbStep _ _ w0 w1 => [w0, w1]
  | .pulseSet _ _ _ _ startSec startNs period => [startSec, startNs, period]
  | .fwLoad _ addr len => [addr, len]
  | .keyEnrol _ words => words
  | .charterSet _ _ addr len => [addr, len]
  | .attest nonce addr limit => nonce ++ [addr, limit]
  | _ => []

/-- The first word of an instruction with its COND and HALT (R61, R63). -/
def orderWord (i : OrderInstr) (cond : Nat) (halt : Bool) : Nat :=
  opcodeOf i * 2 ^ 56 + cond * 2 ^ 54 + ofFlag halt * 2 ^ 53 + operandOf i

/-- The words of an instruction. -/
def encodeOrder (i : OrderInstr) (cond : Nat) (halt : Bool) : List Word64 :=
  BitVec.ofNat 64 (orderWord i cond halt) :: extraOf i

end Sys2Proof.Machine
end

