-- ==== Sys2Proof/WellFormed.lean ====
section
/-! DEFINITION. Well-formed commands: every operand lies in the field that the manual gives it.  An order word that decodes is
well formed by its encoding; a command that is not well formed spells no instruction, access or event. -/

namespace Sys2Proof

/-- Whether a number fits a field of `w` bits. -/
def fits (w n : Nat) : Bool := decide (n < 2 ^ w)

/-- Whether the fields of an instruction fit its words, and its extra words are as many as R68 says. -/
def OrderInstr.wf (i : OrderInstr) : Bool :=
  match i with
  | .set off _ _ _ _ => fits 25 off
  | .get g off _ => fits 4 g && fits 25 off
  | .check g test _ _ => fits 4 g && fits 4 test
  | .waitEpoch _ epoch => fits 48 epoch
  | .waitEvent code unit timeout => fits 12 code && fits 12 unit && fits 24 timeout
  | .commit epoch => fits 48 epoch
  | .tblIns pipes wide _ words => fits 8 pipes && words.length == (if wide then 7 else 2)
  | .tblDel pipes wide _ words => fits 8 pipes && words.length == (if wide then 5 else 1)
  | .tblMod pipes wide words => fits 8 pipes && words.length == (if wide then 7 else 2)
  | .tcamWr pipe index _ invalidate words => fits 3 pipe && fits 14 index && words.length == (if invalidate then 0 else 20)
  | .parseLoad pipes first words =>
    fits 8 pipes && fits 8 first && words.length % 4 == 0 && decide (4 ≤ words.length) && decide (words.length ≤ 1024)
  | .patLoad pipes first words =>
    fits 8 pipes && fits 12 first && words.length % 9 == 0 && decide (9 ≤ words.length) && decide (words.length ≤ 2304)
  | .leafWr outLane outTu inLane inTu _ => fits 9 outLane && fits 7 outTu && fits 9 inLane && fits 7 inTu
  | .leafSwap epoch => fits 48 epoch
  | .tuMap lane tu label => fits 9 lane && fits 7 tu && fits 8 label
  | .chanBind port lane _ _ _ => fits 10 port && fits 9 lane
  | .portUp port lane lanes speed fec mode =>
    fits 10 port && fits 9 lane && fits 2 lanes && fits 3 speed && fits 2 fec && fits 2 mode
  | .portDown port => fits 10 port
  | .laneCfg lane param value => fits 9 lane && fits 7 param && fits 32 value
  | .qCfg queue port tier group _ _ => fits 16 queue && fits 10 port && fits 2 tier && fits 3 group
  | .meterCfg meter alg _ _ _ => fits 17 meter && fits 2 alg
  | .rsvDecl flow meter queue _ _ _ => fits 14 flow && fits 17 meter && fits 16 queue
  | .tbStep tb _ _ _ => fits 3 tb
  | .tbRate tb rate => fits 3 tb && fits 40 rate
  | .tbRearm tb => fits 3 tb
  | .pulseSet tpo tb _ _ _ _ _ => fits 4 tpo && fits 3 tb
  | .snap block unit => fits 8 block && fits 12 unit
  | .pairSwap epoch => fits 48 epoch
  | .freezePermit duration => fits 32 duration
  | .fwLoad slot _ _ => fits 4 slot
  | .keyEnrol slot words => fits 3 slot && words.length == 12
  | .keyRevoke slot => fits 3 slot
  | .charterSet source number _ _ => fits 4 source && fits 4 number
  | .attest nonce _ _ => nonce.length == 4
  | _ => true

/-- Whether an access lies in BAR0 and has the length of one (R436). -/
def Access.wf (a : Access) : Bool := fits 25 a.off && decide (1 ≤ a.len) && decide (a.len ≤ 8) && fits 8 a.be && fits 16 a.requester

/-- Whether the fields of a console request fit its bytes (R455). -/
def ConsoleRequest.wf (r : ConsoleRequest) : Bool :=
  fits 8 r.sync && fits 8 r.op && fits 8 r.tag && fits 8 r.zero && fits 32 r.addr && fits 16 r.len && fits 32 r.crc

/-- Whether a heartbeat has a role of R411 and a word of the model. -/
def Heartbeat.wf (h : Heartbeat) : Bool := decide (h.role ≤ 4) && fits 48 h.epoch && decide (h.word ≤ 3)

/-- Whether the places of read errors are places of a replica. -/
def placesFit (errors : List (Fin 8 × Nat × Bool)) : Bool := errors.all (fun e => fits 20 e.2.1)

/-- Whether the operands of a command fit. -/
def Instr.wf (c : Instr) : Bool :=
  match c with
  | .set _ off w64 fromG value mask => (OrderInstr.set off w64 fromG value mask).wf
  | .get _ g off w64 => (OrderInstr.get g off w64).wf
  | .check _ g test mask value => (OrderInstr.check g test mask value).wf
  | .waitEpoch _ rel epoch => (OrderInstr.waitEpoch rel epoch).wf
  | .waitEvent _ code unit timeout => (OrderInstr.waitEvent code unit timeout).wf
  | .commit _ epoch => (OrderInstr.commit epoch).wf
  | .tblIns _ pipes wide learned words errors => (OrderInstr.tblIns pipes wide learned words).wf && placesFit errors
  | .tblDel _ pipes wide learned words errors => (OrderInstr.tblDel pipes wide learned words).wf && placesFit errors
  | .tblMod _ pipes wide words errors => (OrderInstr.tblMod pipes wide words).wf && placesFit errors
  | .tcamWr _ pipe index egress invalidate words => (OrderInstr.tcamWr pipe index egress invalidate words).wf
  | .parseLoad _ pipes first words => (OrderInstr.parseLoad pipes first words).wf
  | .patLoad _ pipes first words => (OrderInstr.patLoad pipes first words).wf
  | .leafWr _ outLane outTu inLane inTu unequipped => (OrderInstr.leafWr outLane outTu inLane inTu unequipped).wf
  | .leafSwap _ epoch => (OrderInstr.leafSwap epoch).wf
  | .tuMap _ lane tu label => (OrderInstr.tuMap lane tu label).wf
  | .chanBind _ port lane unbind lo hi => (OrderInstr.chanBind port lane unbind lo hi).wf
  | .portUp _ port lane lanes speed fec mode => (OrderInstr.portUp port lane lanes speed fec mode).wf
  | .portDown _ port => (OrderInstr.portDown port).wf
  | .laneCfg _ lane param value => (OrderInstr.laneCfg lane param value).wf
  | .recal _ lane => fits 9 lane
  | .testEn _ lane value => (OrderInstr.laneCfg lane 0x07 value).wf
  | .gen _ lane value => (OrderInstr.laneCfg lane 0x11 value).wf
  | .injFire _ lane => fits 9 lane
  | .chkClear _ lane => fits 9 lane
  | .qCfg _ queue port tier group w0 w1 => (OrderInstr.qCfg queue port tier group w0 w1).wf
  | .meterCfg _ meter alg colourAware w0 w1 => (OrderInstr.meterCfg meter alg colourAware w0 w1).wf
  | .rsvDecl _ flow meter queue withdraw w0 w1 => (OrderInstr.rsvDecl flow meter queue withdraw w0 w1).wf
  | .tbStep _ tb abs w0 w1 => (OrderInstr.tbStep tb abs w0 w1).wf
  | .tbRate _ tb rate => (OrderInstr.tbRate tb rate).wf
  | .tbRearm _ tb => (OrderInstr.tbRearm tb).wf
  | .pulseSet _ tpo tb enable train startSec startNs period => (OrderInstr.pulseSet tpo tb enable train startSec startNs period).wf
  | .snap _ block unit => (OrderInstr.snap block unit).wf
  | .pairSwap _ epoch => (OrderInstr.pairSwap epoch).wf
  | .freezePermit _ duration => (OrderInstr.freezePermit duration).wf
  | .fwLoad _ slot addr len _ => (OrderInstr.fwLoad slot addr len).wf
  | .keyEnrol _ slot words => (OrderInstr.keyEnrol slot words).wf
  | .keyRevoke _ slot => (OrderInstr.keyRevoke slot).wf
  | .charterSet _ src number addr len => (OrderInstr.charterSet src number addr len).wf
  | .attest _ nonce addr limit => (OrderInstr.attest nonce addr limit).wf
  | .patEn _ pipe _ _ => fits 3 pipe
  | .tsiXp _ pair _ _ => fits 8 pair
  | .source _ tb _ _ => fits 3 tb
  | .lockDecl _ tb _ _ => fits 3 tb
  | .sequenceWriteBack off _ => fits 25 off
  | .lhLowWordRead off _ => fits 25 off
  | .devSnapTrig _ requester => fits 16 requester
  | .hostRegisterWrite a => a.wf
  | .unsupportedRequest a => a.wf
  | .storeWrite r => r.wf
  | .storeRead r => r.wf
  | .submit r => r.wf
  | .cplRead r => r.wf
  | .regRead r => r.wf
  | .dustsheetReadOut r => r.wf
  | .inbandReassemblyTimeout charter id => fits 4 charter && fits 16 id
  | .frameReceive _ bytes _ _ _ _ => decide (1 ≤ bytes.length)
  | .cellRelease _ cell turn _ => fits 20 cell && fits 4 turn
  | .fecCodeword _ symbols => decide (symbols ≤ 544)
  | .txDescriptor _ words _ _ _ => words.length == 8
  | .frameIngress _ _ errors _ => errors.all (fun e => fits 20 e.1)
  | .patternScan _ errors => errors.all (fun e => fits 20 e.1)
  | .learnNotice _ errors => placesFit errors
  | .shadowSegment _ _ _ _ _ errors => placesFit errors
  | .shadowFinalScan errors => placesFit errors
  | .ageSweepVisit _ place _ errors => fits 20 place && placesFit errors
  | .heartbeatReceive hb => hb.wf
  | .forwardedBundle _ _ apply => fits 48 apply
  | .tjSample readings => readings.length == 24
  | _ => true

end Sys2Proof
end

