-- ==== Sys2Proof/Safety.lean ====
section
/-! DEFINITION. What statements about the device say: when it acts, when an instruction of a bundle comes next, what a command
leaves alone, and the properties that every step keeps. -/

namespace Sys2Proof.Machine

/-! ### When commands act -/

/-- The device acts: it is neither frozen (R488) nor held by a supply fault (R466). -/
def State.Acts (s : State) : Prop := s.power.frozen = none ∧ s.power.supplyFault = false

/-- The device acts and its core clock runs: no trip has stopped it (R485). -/
def State.Runs (s : State) : Prop := s.Acts ∧ s.flag R.PWR_STAT_TRIPPED 0 = false

/-- The instruction `i` comes next in the running bundle `b` of a queue, as the step `p`, and it is executed: its COND holds, the
stage structure allows it and no trip stops its bundle (R62, R63, R71, R485). -/
def State.ComesNext (s : State) (q : OrderQueue) (b : Bundle) (p : ProgStep) (i : OrderInstr) : Prop :=
  s.Acts ∧ s.slot q = some b ∧ b.phase = .running ∧ b.prog[b.next]? = some p ∧ p.instr = i ∧
    (p.cond = 0 ∨ (p.cond = 1 ∧ b.c = true) ∨ (p.cond = 2 ∧ b.c = false)) ∧
    structureFault (b.stage.any (fun t => t.opened)) b.stage.isSome i = 0 ∧
    (b.cls = 0 ∨ 0 < b.executed ∨ s.flag R.PWR_STAT_TRIPPED 0 = false)

/-- A bundle with one more instruction executed, the one that comes next. -/
def Bundle.ran (b : Bundle) : Bundle := { b with executed := b.executed + 1, acted := b.acted ++ [b.next] }

/-- The state once an instruction of a queue's bundle has left the bundle `b` and the bundle goes on behind it; then bundles
that are ready start (R49). -/
def State.goesOn (s : State) (q : OrderQueue) (b : Bundle) : State := State.startReady 24 ((s.setSlot q b).proceed q)

/-- The queue and the instruction of a row that is an unversioned write (kind U of R67), its value not taken from a G register. -/
def unversionedRow : Instr → Option (OrderQueue × OrderInstr)
  | .set q off w64 false value mask => some (q, .set off w64 false value mask)
  | .tuMap q lane tu label => some (q, .tuMap lane tu label)
  | .chanBind q port lane unbind lo hi => some (q, .chanBind port lane unbind lo hi)
  | .portUp q port lane lanes speed fec mode => some (q, .portUp port lane lanes speed fec mode)
  | .portDown q port => some (q, .portDown port)
  | .laneCfg q lane param value => some (q, .laneCfg lane param value)
  | .recal q lane => some (q, .laneCfg lane 0x06 0)
  | .testEn q lane value => some (q, .laneCfg lane 0x07 value)
  | .gen q lane value => some (q, .laneCfg lane 0x11 value)
  | .injFire q lane => some (q, .laneCfg lane 0x17 0)
  | .chkClear q lane => some (q, .laneCfg lane 0x18 0)
  | .qCfg q queue port tier group w0 w1 => some (q, .qCfg queue port tier group w0 w1)
  | .meterCfg q meter alg aware w0 w1 => some (q, .meterCfg meter alg aware w0 w1)
  | .rsvDecl q flow meter queue withdraw w0 w1 => some (q, .rsvDecl flow meter queue withdraw w0 w1)
  | .pulseSet q tpo tb enable train sec ns period => some (q, .pulseSet tpo tb enable train sec ns period)
  | .freezeOrder q value mask => some (q, .set 0x60030 false false value mask)
  | .freezeBurn q value mask => some (q, .set 0x20020 false false value mask)
  | .rollbackTo q value mask => some (q, .set 0x20020 false false value mask)
  | .scrub q value mask => some (q, .set 0xC0001C false false value mask)
  | .leafEn q value mask => some (q, .set 0xA00000 false false value mask)
  | .patEn q pipe value mask => some (q, .set (0xB00010 + 0x20000 * pipe) false false value mask)
  | .tsiXp q pair value mask => some (q, .set (0xA00400 + 4 * pair) false false value mask)
  | .source q tb value mask => some (q, .set (0x40018 + 0x80 * tb) false false value mask)
  | .lockDecl q tb value mask => some (q, .set (0x40018 + 0x80 * tb) false false value mask)
  | _ => none

/-- The queue and the instruction of a row that writes classification entries under a claim (kind S of R67). -/
def versionedRow : Instr → Option (OrderQueue × OrderInstr)
  | .tcamWr q pipe index egress invalidate words => some (q, .tcamWr pipe index egress invalidate words)
  | .parseLoad q pipes first words => some (q, .parseLoad pipes first words)
  | .patLoad q pipes first words => some (q, .patLoad pipes first words)
  | _ => none

/-- A bundle with an instruction joined to its open stage set `st`. -/
def Bundle.joined (b : Bundle) (st : StageSet) (i : OrderInstr) : Bundle := { b with stage := some { st with items := st.items ++ [i] } }

/-- The state once an instruction of a queue's bundle has failed: the bundle, as `b`, ends with the STATUS, its INDEX and the
DETAIL words (R75); then bundles that are ready start. -/
def State.failsAt (s : State) (q : OrderQueue) (b : Bundle) (p : ProgStep) (status detail0 detail1 : Nat) : State :=
  State.startReady 24 ((s.setSlot q b).endBundle q ⟨status, p.index, detail0, detail1⟩)

/-! ### What a command leaves alone -/

/-- Only registers differ. -/
def OnlyRegisters (s t : State) : Prop := t = { s with regs := t.regs }

/-- Every register word but those at the offsets is the same. -/
def RegistersBut (offs : List Nat) (s t : State) : Prop := ∀ o, o ∉ offs → regAt t.regs o = regAt s.regs o

/-- The fuses, the boot flash and what the Bureau holds of authority are the same. -/
def SameAuthority (s t : State) : Prop := t.otp = s.otp ∧ t.flash = s.flash ∧ t.auth = s.auth

/-! ### Properties that every step keeps -/

/-- The register file lists rising offsets, and no value that its offset has at reset. -/
def State.RegistersCanonical (s : State) : Prop := SMap.canon resetAt s.regs = true

/-- Fuses of a slot only burn: an enrolled slot keeps its digests, and a revoked slot stays revoked (R101). -/
def OwnerSlot.BurnsTo (a b : OwnerSlot) : Prop :=
  (a.enrolled = true → b.enrolled = true ∧ b.rsa = a.rsa ∧ b.slh = a.slh) ∧ (a.revoked = true → b.revoked = true)

/-- Fuses only burn (R101, R109, R487). -/
def Otp.BurnsTo (o p : Otp) : Prop :=
  (∀ n, (o.slot n).BurnsTo (p.slot n)) ∧ o.rollback ≤ p.rollback ∧ (o.freeze = true → p.freeze = true)

/-- What holds between the state before a command and the state after it: the command queue is untouched, nothing that was put
out is taken back, free values are drawn in order, fuses only burn, and the register file stays canonical. -/
structure State.Follows (s t : State) : Prop where
  queue : t.pending = s.pending
  outputs : s.out <+: t.out
  draws : s.free ≤ t.free
  fuses : s.otp.BurnsTo t.otp
  registers : SMap.canon resetAt s.regs = true → SMap.canon resetAt t.regs = true

end Sys2Proof.Machine
end

