-- ==== Sys2Proof/Certificates/Slice0/Obligations.lean ====
section
/-! DEFINITION. The statements of this model. -/

open Sys2Proof Sys2Proof.Machine

/-! ### The machine as a whole -/

/-- A step runs the command at the front of the queue, with the queue's rest, and an empty queue idles (the block's step; what an empty
queue does is the model's choice, log 3). -/
def Obligations.StepRunsTheFrontCommand : Prop :=
  (∀ (c : Instr) (rest : List Instr) (s : State), s.pending = c :: rest → step s = exec c { s with pending := rest }) ∧
  (∀ s : State, s.pending = [] → step s = .next s)

/-- Every command completes: from every state and with every operand it answers a next state, and that one follows: the rest of the queue
is untouched, nothing that was put out is taken back, free values are drawn in order, fuses only burn, and the register file stays
canonical. (What each command does on its own conditions, the statements of its family say.) -/
def Obligations.EveryCommandCompletes : Prop :=
  ∀ (c : Instr) (s : State), ∃ t : State, exec c s = .next t ∧ s.Follows t

/-- What the spec states of the state after reset: nothing listed in the register file, so every register reads its reset value; C = O =
0, epoch 0, every function Off, role INIT, CREDIT full, and nothing waits (R37, R411, R468, R481). -/
def Obligations.ResetState : Prop :=
  (∀ (r : RegSpec) (n : Nat), State.reset.reg r n = (resetAt (r.addr n)).toNat) ∧
  State.reset.version = 0 ∧ State.reset.oldest = 0 ∧ State.reset.epochNum = 0 ∧
  (∀ p : Fin 1024, State.reset.portLife p.val = .off) ∧ (∀ n : Fin 512, State.reset.life R.LANE_STAT_LC n.val = .off) ∧
  State.reset.role = 0 ∧ State.reset.power.credit = 4 * 65536 * 30000000000 ∧ State.reset.pending = [] ∧
  State.reset.power.frozen = none ∧ State.reset.bureau.commits = []

/-- Every command, and every step, leaves the rest of the queue alone. -/
def Obligations.CommandsLeaveTheQueue : Prop :=
  (∀ (c : Instr) (s t : State), exec c s = .next t → t.pending = s.pending) ∧
  (∀ s t : State, step s = .next t → t.pending = s.pending.tail)

/-- Nothing that has left the device is taken back: what was put out before a step is the beginning of what was put out after it. -/
def Obligations.OutputsAreNeverTakenBack : Prop :=
  ∀ s t : State, step s = .next t → s.out <+: t.out

/-- Fuses only burn, through every step and through reset: an enrolled owner slot stays enrolled with its digests, a revoked slot stays
revoked, the anti-rollback counter never falls, and a burned freeze fuse stays burned. -/
def Obligations.FusesOnlyBurn : Prop :=
  ∀ s t : State, step s = .next t → s.otp.BurnsTo t.otp

/-- Every step keeps the register file canonical: rising offsets, and no stored word that its offset has at reset. -/
def Obligations.RegisterFileStaysCanonical : Prop :=
  ∀ s t : State, s.RegistersCanonical → step s = .next t → t.RegistersCanonical

/-- The register file is canonical at reset. -/
def Obligations.RegisterFileCanonicalAtReset : Prop :=
  State.reset.RegistersCanonical

/-- Decoding reads back every instruction that fits its words: the opcode is valid, its number of extra words is that of the encoding, the
fields cover every bit that the encoding sets, COND and HALT come back, and no operand is dropped. -/
def Obligations.OrderWordsRoundTrip : Prop :=
  ∀ (i : OrderInstr) (cond : Nat) (halt : Bool), i.wf = true → cond < 4 →
    let w := orderWord i cond halt
    w < 2 ^ 64 ∧ bits w 63 56 = opcodeOf i ∧ bits w 55 54 = cond ∧ bit w 53 = halt ∧ bit w 52 = false ∧
    (∃ fs, opFields (opcodeOf i) = some fs ∧ bits w 52 0 &&& coverOf fs = bits w 52 0) ∧
    extraWords (opcodeOf i) w = (extraOf i).length ∧ orderInstr (opcodeOf i) w (extraOf i) = i

/-- Words written out from the tables of R61 and R68 decode to the instructions that they stand for. -/
def Obligations.OrderWordsDecode : Prop :=
  orderInstr 0x40 0x4000040221C00000 [] = .portUp 16 17 0 1 3 0 ∧
  orderInstr 0x12 0x12000000003D0978 [] = .commit 4000120 ∧
  orderInstr 0x02 0x0200000014000100 [] = .get 5 256 false ∧
  orderInstr 0x30 0x3000818101820000 [] = .leafWr 259 1 3 2 false ∧
  orderInstr 0x05 0x05002000FF0003E8 [] = .waitEvent 0x200 0xFF 1000 ∧
  orderInstr 0x53 0x5302350000000000 [1, 2, 3] = .pulseSet 3 5 false true 1 2 3

/-! ### Freeze, supply fault and trip -/

/-- A frozen device, or one that a supply fault holds, does nothing on any command but RESET, the console's and the JTAG port's: the
command changes nothing. -/
def Obligations.AHeldDeviceIsStill : Prop :=
  ∀ (c : Instr) (s : State), (s.power.frozen ≠ none ∨ s.power.supplyFault = true) →
    (match c with
      | .reset | .storeWrite _ | .storeRead _ | .submit _ | .cplRead _ | .regRead _ | .dustsheetReadOut _ | .bypass | .idcode
      | .samplePreload .. | .extest _ | .dustsheet => False
      | _ => True) →
    exec c s = .next s

/-! ### Shared operations of the rules -/

/-- The validity test of R21, for versions of 8 bits. -/
def Obligations.EntryValidity : Prop :=
  ∀ v f u : Nat, v < 256 → f < 256 → u < 256 →
    (entryValid v f u = true ↔ (v + 256 - f) % 256 ≤ 3 ∧ (u = f ∨ (1 ≤ (u + 256 - v) % 256 ∧ (u + 256 - v) % 256 ≤ 4)))

/-- One pending request at a time (R34): in a transition a request is recorded and replaces an earlier one; when the transition ends the
pending request is applied to the resulting state by the table of R33, and one that asks for that state is discarded. A transition without
a request just ends. -/
def Obligations.PendingRequests : Prop :=
  (∀ (l : Life) (p : Option Bool) (e : Bool), l = .starting ∨ l = .stopping → lifeRequest (lifeBits l p) e = lifeBits l (some e)) ∧
  (∀ l : Life, l = .starting ∨ l = .stopping → ∀ r : Life, lifeArrive (lifeBits l none) r = lifeBits r none) ∧
  (∀ l : Life, l = .starting ∨ l = .stopping → ∀ (e : Bool) (r : Life),
    lifeArrive (lifeBits l (some e)) r = lifeRequest (lifeBits r none) e) ∧
  lifeRequest (lifeBits .on none) true = lifeBits .on none ∧ lifeRequest (lifeBits .off none) false = lifeBits .off none ∧
  lifeRequest (lifeBits .off none) true = lifeBits .starting none ∧ lifeRequest (lifeBits .on none) false = lifeBits .stopping none ∧
  (∀ e : Bool, lifeFail (lifeBits .starting (some e)) = lifeBits .stopping (some e)) ∧
  lifeFail (lifeBits .starting none) = lifeBits .stopping none

/-- Raising an event: its status bit becomes 1 and SEQ advances by one modulo 256 in the instance of its register, RSEQ advances by one,
and a record with SEQ, code, unit, RSEQ, epoch and the status register joins the event ring unless its SIZE is 0. No other register, and
nothing but the notes of waiting bundles, changes. -/
def Obligations.RaisingAnEvent : Prop :=
  ∀ (s : State) (e : EvSpec) (f : Fld) (n unit : Nat) (data : List Nat), e.bit = some f → f.hi < 24 → f.lo = f.hi →
    let t := s.raiseAt e n unit data
    t.fld f n = 1 ∧ bits (t.reg f.reg n) 31 24 = (bits (s.reg f.reg n) 31 24 + 1) % 256 ∧
    (∀ h l : Nat, h < 24 → (h < f.lo ∨ f.hi < l) → bits (t.reg f.reg n) h l = bits (s.reg f.reg n) h l) ∧
    RegistersBut [f.reg.addr n] s t ∧ t.rseq = (s.rseq + 1) % 2 ^ 32 ∧
    (f.reg.addr n ≠ R.HDMA_EVR_SIZE.addr 0 → f.reg.addr n ≠ R.DEV_EPOCH_NUM.addr 0 →
      t.evq = if s.fld R.HDMA_EVR_SIZE_SIZE 0 = 0 then s.evq else s.evq ++ [{
        seq := (bits (s.reg f.reg n) 31 24 + 1) % 256, code := e.code, unit := unit % 4096, rseq := s.rseq, epoch := s.epochNum,
        data0 := t.reg f.reg n, data := data }]) ∧
    (∃ slots, t = { s with regs := t.regs, rseq := t.rseq, evq := t.evq, bureau := { s.bureau with slots := slots } })

/-! ### The JTAG port (R492) -/

/-- Each JTAG instruction selects its register and captures it: BYPASS 0xFF one 0 bit (the model's choice, log 12), IDCODE 0x01,
SAMPLE/PRELOAD 0x02 the levels of the balls and a preload of the boundary scan, EXTEST 0x00 the levels while the balls are driven from the
boundary scan, and DUSTSHEET 0x3A 64 bits: zero outside freeze, and in freeze the next image word. Nothing else changes. -/
def Obligations.JtagInstructions : Prop :=
  ∀ (s : State) (levels preload : List Bool),
    exec .bypass s = .next { s with power := { s.power with jtag := 0xFF }, out := s.out ++ [.jtag [false]] } ∧
    exec .idcode s = .next { s with power := { s.power with jtag := 0x01 }, out := s.out ++ [.jtag (scanBits 32 Config.idcode.toNat)] } ∧
    exec (.samplePreload levels preload) s =
      .next { s with power := { s.power with jtag := 0x02, boundary := preload }, out := s.out ++ [.jtag levels] } ∧
    exec (.extest levels) s =
      .next { s with power := { s.power with jtag := 0x00 }, out := s.out ++ [.jtag levels, .balls s.power.boundary] } ∧
    (s.power.frozen = none →
      exec .dustsheet s = .next { s with power := { s.power with jtag := 0x3A }, out := s.out ++ [.jtag (List.replicate 64 false)] }) ∧
    (∀ f, s.power.frozen = some f → 8 * s.power.imageWord + 8 ≤ f.image.length →
      exec .dustsheet s = .next { s with
        power := { s.power with jtag := 0x3A, imageWord := s.power.imageWord + 1 }
        out := s.out ++ [.jtag (scanBits 64 (leNat ((f.image.drop (8 * s.power.imageWord)).take 8)))] })

/-! ### The console (R455 to R458, R489) -/

/-- STORE_WRITE and STORE_READ of a request that is in order, outside freeze: the bytes from ADDR on become the payload and every other
byte of the object store stays, or the bytes from ADDR on come back; the response has status 0. A range beyond 2 MiB is answered RANGE and
changes nothing. SUBMIT, CPL_READ and REG_READ of a request that is in order, outside freeze. SUBMIT copies LEN bytes from an aligned
place of the store onto the console queue, notes the TAG and lets bundles that are ready start; with the TAG of the last one answered OK
it is answered OK and takes no bundle; before BOOT_STEP 6, or with four bundles held, it is answered BUSY. CPL_READ removes and returns
the oldest record, and is answered EMPTY without one. REG_READ returns the little-endian bytes of a legal read of BAR0, and logs any other
as a bus error of requester 0xFFFF, answered BUSERR. -/
def Obligations.ConsoleCommands : Prop :=
  (∀ (r : ConsoleRequest) (s : State), s.Acts → r.sync = 0xC3 → r.zero = 0 → 1 ≤ r.len → r.len ≤ 4096 →
    crc32c (requestBytes r) = r.crc →
    (r.op = 1 → r.payload.length = r.len → r.addr + r.len ≤ 0x200000 →
      ∃ store, exec (.storeWrite r) s =
          .next { s with host := { s.host with store := store }, out := s.out ++ [.console (responseBytes 0 [])] } ∧
        (∀ k, k < r.len → SMap.get 0 store (r.addr + k) = r.payload.getD k 0) ∧
        (∀ a, a < r.addr ∨ r.addr + r.len ≤ a → SMap.get 0 store a = SMap.get 0 s.host.store a)) ∧
    (r.op = 2 → r.addr + r.len ≤ 0x200000 →
      exec (.storeRead r) s =
        .next { s with out := s.out ++ [.console (responseBytes 0 ((List.range r.len).map (fun k => SMap.get 0 s.host.store (r.addr + k))))] }) ∧
    (r.op = 1 → r.payload.length = r.len → 0x200000 < r.addr + r.len →
      exec (.storeWrite r) s = .next { s with out := s.out ++ [.console (responseBytes 3 [])] }) ∧
    (r.op = 2 → 0x200000 < r.addr + r.len → exec (.storeRead r) s = .next { s with out := s.out ++ [.console (responseBytes 3 [])] })) ∧
  (∀ (r : ConsoleRequest) (s : State), s.Acts → r.sync = 0xC3 → r.zero = 0 → crc32c (requestBytes r) = r.crc →
    (r.op = 3 → r.len = 4 → r.payload.length = 4 → r.addr % 8 = 0 → r.addr + beNat r.payload ≤ 0x200000 →
      (s.bureau.lastSubmit ≠ some r.tag → s.fld R.PWR_STAT_BOOT_STEP 0 = 6 → s.consoleHeld < 4 →
        ∃ b, exec (.submit r) s = .next ((State.startReady 24 { s with
            bureau := { s.bureau with consoleWaiting := s.bureau.consoleWaiting ++ [b], lastSubmit := some r.tag } }).emit
              (.console (responseBytes 0 []))) ∧
          b.words = bytesToWords (beNat r.payload / 8) ((List.range (beNat r.payload)).map (fun k => SMap.get 0 s.host.store (r.addr + k))) ∧
          b.phase = .waiting ∧ b.charter = 16) ∧
      (s.bureau.lastSubmit = some r.tag → exec (.submit r) s = .next ((State.startReady 24 s).emit (.console (responseBytes 0 [])))) ∧
      (s.bureau.lastSubmit ≠ some r.tag → (s.fld R.PWR_STAT_BOOT_STEP 0 < 6 ∨ 4 ≤ s.consoleHeld) →
        exec (.submit r) s = .next ((State.startReady 24 s).emit (.console (responseBytes 4 []))))) ∧
    (r.op = 4 → r.len = 0 → r.addr = 0 →
      (∀ c rest, s.bureau.consoleDone = c :: rest →
        exec (.cplRead r) s =
          .next ((State.startReady 24 { s with bureau := { s.bureau with consoleDone := rest } }).emit
            (.console (responseBytes 0 (wordsToBytes c))))) ∧
      (s.bureau.consoleDone = [] → exec (.cplRead r) s = .next { s with out := s.out ++ [.console (responseBytes 5 [])] })) ∧
    (r.op = 5 → (r.len = 4 ∨ r.len = 8) →
      let a : Access := { off := r.addr, len := r.len, be := if r.len = 8 then 255 else 15, value := 0, requester := 0xFFFF }
      (busCause false a = 0 → ∃ v t, s.readBar r.addr r.len = (v, t) ∧
        exec (.regRead r) s = .next { t with out := t.out ++ [.console (responseBytes 0 (leBytes r.len v))] }) ∧
      (busCause false a ≠ 0 →
        exec (.regRead r) s = .next ((s.busError false (busCause false a) a).emit (.console (responseBytes 6 []))))))

/-- In freeze the console answers only STORE_READ from 0x8000_0000 upwards, with bytes of the Dustsheet image; a read beyond TOTAL_LEN is
answered RANGE, and every other operation BAD_OP. -/
def Obligations.ConsoleInFreeze : Prop :=
  ∀ (r : ConsoleRequest) (s : State) (f : Frozen), s.power.frozen = some f → s.power.supplyFault = false → r.sync = 0xC3 →
    r.zero = 0 → crc32c (requestBytes r) = r.crc →
    (r.op = 2 → 0x80000000 ≤ r.addr → 1 ≤ r.len → r.len ≤ 4096 →
      (r.addr - 0x80000000 + r.len ≤ imageLen →
        exec (.dustsheetReadOut r) s =
          .next { s with out := s.out ++ [.console (responseBytes 0 ((f.image.drop (r.addr - 0x80000000)).take r.len))] } ∧
        exec (.storeRead r) s = exec (.dustsheetReadOut r) s) ∧
      (imageLen < r.addr - 0x80000000 + r.len →
        exec (.dustsheetReadOut r) s = .next { s with out := s.out ++ [.console (responseBytes 3 [])] })) ∧
    exec (.storeWrite r) s = .next { s with out := s.out ++ [.console (responseBytes 2 [])] } ∧
    exec (.submit r) s = .next { s with out := s.out ++ [.console (responseBytes 2 [])] } ∧
    exec (.cplRead r) s = .next { s with out := s.out ++ [.console (responseBytes 2 [])] } ∧
    exec (.regRead r) s = .next { s with out := s.out ++ [.console (responseBytes 2 [])] }

/-! ### Rings and their registers (R52 to R54, R312, R399, R444, R448) -/

/-- The registers of an order queue (R52). TAIL is a doorbell: a value that would take (TAIL - HEAD) mod 65,536 past SIZE is discarded and
raises EV_ORD_RING; any other is taken. BASE, SIZE and CPL_BASE take effect only while the queue is idle (TAIL equals HEAD, no bundle in
progress), and at any other time the write is discarded with EV_ORD_RING. With SIZE 0 the queue fetches nothing. -/
def Obligations.OrderQueueRegisters : Prop :=
  (∀ (s : State) (n : Fin 16) (v : Word32), s.Acts →
    let full := s.fld R.ORD_OQ_SIZE_SIZE n.val < (v.toNat % 65536 + 65536 - s.fld R.ORD_OQ_HEAD_HEAD n.val) % 65536
    (¬ full → ∃ t, exec (.ordOqTail n v) s = .next t ∧ t.fld R.ORD_OQ_TAIL_TAIL n.val = v.toNat % 65536 ∧
      t.fld R.ORD_OQ_STAT_HALTED n.val = 0 ∧ OnlyRegisters s t ∧
      RegistersBut [R.ORD_OQ_TAIL.addr n.val, R.ORD_OQ_STAT.addr n.val] s t) ∧
    (full → exec (.ordOqTail n v) s = .next (s.raiseOf EV_ORD_RING n.val))) ∧
  (∀ (s : State) (n : Fin 16) (v : Word64), s.Acts →
    let idle := s.fld R.ORD_OQ_TAIL_TAIL n.val = s.fld R.ORD_OQ_HEAD_HEAD n.val ∧ s.slot (.host n) = none
    (idle → (∃ t, exec (.ordOqSize n .base v) s = .next t ∧ t.fld R.ORD_OQ_BASE_BASE n.val = v.toNat / 16 ∧ OnlyRegisters s t ∧
        RegistersBut [R.ORD_OQ_BASE.addr n.val] s t) ∧
      (∃ t, exec (.ordOqSize n .cplBase v) s = .next t ∧ t.fld R.ORD_OQ_CPL_BASE_BASE n.val = v.toNat / 32 ∧ OnlyRegisters s t ∧
        RegistersBut [R.ORD_OQ_CPL_BASE.addr n.val] s t) ∧
      (∀ k : Nat, (v.toNat % 8192 = 0 ∨ (4 ≤ k ∧ k ≤ 12 ∧ v.toNat % 8192 = 2 ^ k)) →
        ∃ t, exec (.ordOqSize n .size v) s = .next t ∧ t.fld R.ORD_OQ_SIZE_SIZE n.val = v.toNat % 8192 ∧ OnlyRegisters s t ∧
          RegistersBut [R.ORD_OQ_SIZE.addr n.val] s t)) ∧
    (¬ idle → ∀ reg : RingReg, exec (.ordOqSize n reg v) s = .next (s.raiseOf EV_ORD_RING n.val))) ∧
  (∀ (s : State) (n : Fin 16), s.fld R.ORD_OQ_SIZE_SIZE n.val = 0 → s.fetches n = false)

/-- The registers of the packet rings and of the shadow ring: a doorbell that does not overfill the ring is taken, and clears HALTED of a
packet ring; BASE and SIZE are taken while TAIL equals HEAD; what is not taken is discarded with the ring's event. RD of a timestamp FIFO
takes a value between RD and WR, and discards any other with EV_TSF_RING. CPL_HEAD of an order queue takes every write (R54), and nothing
else changes. -/
def Obligations.RingRegisters : Prop :=
  ((∀ (s : State) (n : Fin 128) (v : Word32), s.Acts →
    let full := s.fld R.HDMA_RING_SIZE_SIZE n.val < (v.toNat % 65536 + 65536 - s.fld R.HDMA_RING_HEAD_HEAD n.val) % 65536
    (¬ full → ∃ t, exec (.hdmaRingTail n v) s = .next t ∧ t.fld R.HDMA_RING_TAIL_TAIL n.val = v.toNat % 65536 ∧
      t.fld R.HDMA_RING_STAT_HALTED n.val = 0 ∧ OnlyRegisters s t ∧
      RegistersBut [R.HDMA_RING_TAIL.addr n.val, R.HDMA_RING_STAT.addr n.val] s t) ∧
    (full → exec (.hdmaRingTail n v) s = .next (s.raiseOf EV_HDMA_RING n.val))) ∧
  (∀ (s : State) (n : Fin 128) (v : Word64), s.Acts →
    (s.fld R.HDMA_RING_TAIL_TAIL n.val = s.fld R.HDMA_RING_HEAD_HEAD n.val →
      (∃ t, exec (.hdmaRingSize n .base v) s = .next t ∧ t.fld R.HDMA_RING_BASE_BASE n.val = v.toNat / 64 ∧ OnlyRegisters s t ∧
        RegistersBut [R.HDMA_RING_BASE.addr n.val] s t) ∧
      (∀ k : Nat, 4 ≤ k → k ≤ 12 → v.toNat % 8192 = 2 ^ k →
        ∃ t, exec (.hdmaRingSize n .size v) s = .next t ∧ t.fld R.HDMA_RING_SIZE_SIZE n.val = 2 ^ k ∧ OnlyRegisters s t ∧
          RegistersBut [R.HDMA_RING_SIZE.addr n.val] s t)) ∧
    (s.fld R.HDMA_RING_TAIL_TAIL n.val ≠ s.fld R.HDMA_RING_HEAD_HEAD n.val → ∀ reg : RingReg,
      exec (.hdmaRingSize n reg v) s = .next (s.raiseOf EV_HDMA_RING n.val))) ∧
  (∀ (s : State) (v : Word32), s.Acts →
    let full := s.fld R.TBL_SHADOW_SIZE_SIZE 0 < (v.toNat % 65536 + 65536 - s.fld R.TBL_SHADOW_HEAD_HEAD 0) % 65536
    (¬ full → ∃ t, exec (.tblShadowTail v) s = .next t ∧ t.fld R.TBL_SHADOW_TAIL_TAIL 0 = v.toNat % 65536 ∧ OnlyRegisters s t ∧
      RegistersBut [R.TBL_SHADOW_TAIL.addr 0] s t) ∧
    (full → exec (.tblShadowTail v) s = .next (s.raise EV_SHADOW_RING 0))) ∧
  (∀ (s : State) (v : Word64), s.Acts →
    (s.fld R.TBL_SHADOW_TAIL_TAIL 0 = s.fld R.TBL_SHADOW_HEAD_HEAD 0 →
      (∃ t, exec (.tblShadowSize .base v) s = .next t ∧ t.fld R.TBL_SHADOW_BASE_BASE 0 = v.toNat / 16 ∧ OnlyRegisters s t ∧
        RegistersBut [R.TBL_SHADOW_BASE.addr 0] s t) ∧
      (∀ k : Nat, 4 ≤ k → k ≤ 8 → v.toNat % 512 = 2 ^ k →
        ∃ t, exec (.tblShadowSize .size v) s = .next t ∧ t.fld R.TBL_SHADOW_SIZE_SIZE 0 = 2 ^ k ∧ OnlyRegisters s t ∧
          RegistersBut [R.TBL_SHADOW_SIZE.addr 0] s t)) ∧
    (s.fld R.TBL_SHADOW_TAIL_TAIL 0 ≠ s.fld R.TBL_SHADOW_HEAD_HEAD 0 → ∀ reg : RingReg,
      exec (.tblShadowSize reg v) s = .next (s.raise EV_SHADOW_RING 0))) ∧
  (∀ (s : State) (p : Fin 1024) (v : Word32), s.Acts →
    let past := (s.fld R.PORT_TSF_WR_WR p.val + 65536 - s.fld R.PORT_TSF_RD_RD p.val) % 65536 <
      (v.toNat % 65536 + 65536 - s.fld R.PORT_TSF_RD_RD p.val) % 65536
    (¬ past → ∃ t, exec (.portTsfRd p v) s = .next t ∧ t.fld R.PORT_TSF_RD_RD p.val = v.toNat % 65536 ∧ OnlyRegisters s t ∧
      RegistersBut [R.PORT_TSF_RD.addr p.val] s t) ∧
    (past → exec (.portTsfRd p v) s = .next (s.raiseOf EV_TSF_RING p.val)))) ∧
  (∀ (s : State) (n : Fin 16) (v : Word32), s.Acts →
    ∃ t, exec (.ordOqCplHead n v) s = .next t ∧ t.fld R.ORD_OQ_CPL_HEAD_CPL_HEAD n.val = v.toNat % 65536 ∧ OnlyRegisters s t ∧
      RegistersBut [R.ORD_OQ_CPL_HEAD.addr n.val] s t)

/-- The registers of the event ring (R444). SIZE 0 is always taken, and disables the ring at once. BASE and a non-zero SIZE, a power of
two from 256 to 16,384, take a write only while SIZE is 0, and a non-zero SIZE sets both indices to 0. HEAD may not pass TAIL. Every other
write is discarded with EV_HDMA_EVR_RING. While SIZE is 0, records are neither written nor counted. -/
def Obligations.EventRingRegisters : Prop :=
  ∀ s : State, s.Acts →
    (∀ v : Word32, v.toNat % 32768 = 0 →
      ∃ t, exec (.hdmaEvrSize v) s = .next t ∧ t.fld R.HDMA_EVR_SIZE_SIZE 0 = 0 ∧ t.evq = [] ∧ t.host.lost = 0 ∧
        RegistersBut [R.HDMA_EVR_SIZE.addr 0] s t) ∧
    (∀ (v : Word32) (k : Nat), 8 ≤ k → k ≤ 14 → v.toNat % 32768 = 2 ^ k → s.fld R.HDMA_EVR_SIZE_SIZE 0 = 0 →
      ∃ t, exec (.hdmaEvrSize v) s = .next t ∧ t.fld R.HDMA_EVR_SIZE_SIZE 0 = 2 ^ k ∧ t.fld R.HDMA_EVR_TAIL_TAIL 0 = 0 ∧
        t.fld R.HDMA_EVR_HEAD_HEAD 0 = 0 ∧ OnlyRegisters s t ∧
        RegistersBut [R.HDMA_EVR_SIZE.addr 0, R.HDMA_EVR_TAIL.addr 0, R.HDMA_EVR_HEAD.addr 0] s t) ∧
    (∀ v : Word32, v.toNat % 32768 ≠ 0 → ((∀ k : Nat, 8 ≤ k → k ≤ 14 → v.toNat % 32768 ≠ 2 ^ k) ∨ s.fld R.HDMA_EVR_SIZE_SIZE 0 ≠ 0) →
      exec (.hdmaEvrSize v) s = .next (s.raise EV_HDMA_EVR_RING 0x080)) ∧
    (∀ v : Word64, s.fld R.HDMA_EVR_SIZE_SIZE 0 = 0 →
      ∃ t, exec (.hdmaEvrBase v) s = .next t ∧ t.fld R.HDMA_EVR_BASE_BASE 0 = v.toNat / 64 ∧ OnlyRegisters s t ∧
        RegistersBut [R.HDMA_EVR_BASE.addr 0] s t) ∧
    (∀ v : Word64, s.fld R.HDMA_EVR_SIZE_SIZE 0 ≠ 0 → exec (.hdmaEvrBase v) s = .next (s.raise EV_HDMA_EVR_RING 0x080)) ∧
    (∀ v : Word32, (v.toNat % 65536 + 65536 - s.fld R.HDMA_EVR_HEAD_HEAD 0) % 65536 ≤
        (s.fld R.HDMA_EVR_TAIL_TAIL 0 + 65536 - s.fld R.HDMA_EVR_HEAD_HEAD 0) % 65536 →
      ∃ t, exec (.hdmaEvrHead v) s = .next t ∧ t.fld R.HDMA_EVR_HEAD_HEAD 0 = v.toNat % 65536 ∧ OnlyRegisters s t ∧
        RegistersBut [R.HDMA_EVR_HEAD.addr 0] s t) ∧
    (∀ v : Word32, (s.fld R.HDMA_EVR_TAIL_TAIL 0 + 65536 - s.fld R.HDMA_EVR_HEAD_HEAD 0) % 65536 <
        (v.toNat % 65536 + 65536 - s.fld R.HDMA_EVR_HEAD_HEAD 0) % 65536 →
      exec (.hdmaEvrHead v) s = .next (s.raise EV_HDMA_EVR_RING 0x080)) ∧
    (∀ (e : EvSpec) (f : Fld) (n unit : Nat) (data : List Nat), e.bit = some f → f.reg.addr n ≠ R.HDMA_EVR_SIZE.addr 0 →
      s.fld R.HDMA_EVR_SIZE_SIZE 0 = 0 → (s.raiseAt e n unit data).evq = s.evq)

/-! ### Host accesses (R433 to R443) -/

/-- A write-back to an SQ register (R439): with SEQ in [31:24] each status bit written as 1 is cleared and the others stay; with any other
SEQ nothing changes; SEQ itself never changes. -/
def Obligations.SequenceWriteBack : Prop :=
  ∀ (s : State) (off : Nat) (v : Word32) (r : RegSpec) (n : Nat), s.Acts → locate off = some (r, n) → r.addr n = off →
    r.wide = false → r.fields.any (fun f => f.acc == .sq) = true →
    (bits v.toNat 31 24 ≠ bits (s.reg r n) 31 24 → exec (.sequenceWriteBack off v) s = .next s) ∧
    (bits v.toNat 31 24 = bits (s.reg r n) 31 24 → r ≠ R.DEV_EVT → r ≠ R.PORT_EVT →
      ∃ t, exec (.sequenceWriteBack off v) s = .next t ∧ OnlyRegisters s t ∧ RegistersBut [off] s t ∧
        bits (t.reg r n) 31 24 = bits (s.reg r n) 31 24 ∧
        (∀ f ∈ r.fields, f.acc = .sq → f.hi < 24 → f.lo = f.hi →
          bits (t.reg r n) f.hi f.lo = if bits v.toNat f.hi f.lo = 1 then 0 else bits (s.reg r n) f.hi f.lo))

/-- An access that is a bus error is logged: ADDR holds the offset, INFO the requester, a count that stops at 255, the direction, the
cause and the byte enables, and EV_BUSERR is raised with both. A write is discarded and a read is answered Unsupported Request. A snapshot
request outside the table of R460 is one of them (R437, R438). A legal host write to a register that has a row of its own has the effect
of that row: doorbells, ring setups, the event ring, the timestamp FIFO, sequence write-backs, the MSI-X table and snapshot requests. A
snapshot request joins the requests of the coming edge, or of the one after once its cutoff has passed; one that is there already changes
nothing, and one too many raises EV_SNAP_OVF. A legal read returns the register, and before BOOT_STEP 6 its reset value without any effect
(R469). A read of an LH register's low word returns it and latches the high word (R440). -/
def Obligations.HostAccesses : Prop :=
  ((∀ (a : Access) (s : State), s.Acts → a.off < 2 ^ 25 →
    (busCause true a ≠ 0 → exec (.hostRegisterWrite a) s = .next (s.busError true (busCause true a) a)) ∧
    (busCause false a ≠ 0 →
      exec (.unsupportedRequest a) s = .next ((s.busError false (busCause false a) a).emit .unsupported)) ∧
    (busCause false a = 0 →
      (s.fld R.PWR_STAT_BOOT_STEP 0 < 6 → exec (.unsupportedRequest a) s =
        .next (s.emit (.readData (BitVec.ofNat 64 (State.reset.readBar a.off a.len).1)))) ∧
      (6 ≤ s.fld R.PWR_STAT_BOOT_STEP 0 → exec (.unsupportedRequest a) s =
        .next ((s.readBar a.off a.len).2.emit (.readData (BitVec.ofNat 64 (s.readBar a.off a.len).1)))))) ∧
  (∀ (s : State) (v : Word32) (q : Nat), s.Acts → snapOk (bits v.toNat 23 16) (bits v.toNat 11 0) = false →
    ∃ a : Access, a.off = 0x18 ∧ a.requester = q ∧ exec (.devSnapTrig v q) s = .next (s.busError true 6 a)) ∧
  (∀ (s : State) (write : Bool) (cause : Nat) (a : Access), a.off < 2 ^ 25 → cause < 8 →
    let t := s.busError write cause a
    t.reg R.DEV_BUSERR_ADDR 0 = a.off ∧ bits (t.reg R.DEV_BUSERR_INFO 0) 31 16 = a.requester % 65536 ∧
    bits (t.reg R.DEV_BUSERR_INFO 0) 15 8 = min 255 (s.fld R.DEV_BUSERR_INFO_COUNT 0 + 1) ∧
    bits (t.reg R.DEV_BUSERR_INFO 0) 7 7 = ofFlag write ∧ bits (t.reg R.DEV_BUSERR_INFO 0) 6 4 = cause ∧
    bits (t.reg R.DEV_BUSERR_INFO 0) 3 0 = a.be % 16)) ∧
  ((∀ (s : State) (v : Word64) (q : Nat), s.Acts →
    let w := fun (off : Nat) => exec (.hostRegisterWrite { off := off, len := 4, be := 15, value := v, requester := q }) s
    let w8 := fun (off : Nat) => exec (.hostRegisterWrite { off := off, len := 8, be := 255, value := v, requester := q }) s
    (∀ n : Fin 16, w (R.ORD_OQ_TAIL.addr n.val) = exec (.ordOqTail n (v.setWidth 32)) s ∧
      w (R.ORD_OQ_CPL_HEAD.addr n.val) = exec (.ordOqCplHead n (v.setWidth 32)) s ∧
      w (R.ORD_OQ_SIZE.addr n.val) = exec (.ordOqSize n .size v) s ∧
      w8 (R.ORD_OQ_BASE.addr n.val) = exec (.ordOqSize n .base v) s ∧
      w8 (R.ORD_OQ_CPL_BASE.addr n.val) = exec (.ordOqSize n .cplBase v) s) ∧
    (∀ n : Fin 128, w (R.HDMA_RING_TAIL.addr n.val) = exec (.hdmaRingTail n (v.setWidth 32)) s ∧
      w (R.HDMA_RING_SIZE.addr n.val) = exec (.hdmaRingSize n .size v) s ∧
      w8 (R.HDMA_RING_BASE.addr n.val) = exec (.hdmaRingSize n .base v) s) ∧
    (w (R.TBL_SHADOW_TAIL.addr 0) = exec (.tblShadowTail (v.setWidth 32)) s ∧
      w (R.TBL_SHADOW_SIZE.addr 0) = exec (.tblShadowSize .size v) s ∧
      w8 (R.TBL_SHADOW_BASE.addr 0) = exec (.tblShadowSize .base v) s) ∧
    (w (R.HDMA_EVR_SIZE.addr 0) = exec (.hdmaEvrSize (v.setWidth 32)) s ∧
      w (R.HDMA_EVR_HEAD.addr 0) = exec (.hdmaEvrHead (v.setWidth 32)) s ∧
      w8 (R.HDMA_EVR_BASE.addr 0) = exec (.hdmaEvrBase v) s) ∧
    (∀ p : Fin 1024, w (R.PORT_TSF_RD.addr p.val) = exec (.portTsfRd p (v.setWidth 32)) s) ∧
    (∀ (e : Fin 256) (d : Fin 4), w (0x8000 + 16 * e.val + 4 * d.val) = exec (.msixTableWrite e d (v.setWidth 32)) s) ∧
    w 0x18 = exec (.devSnapTrig (v.setWidth 32) q) s ∧
    (w (R.DEV_EVT.addr 0) = exec (.sequenceWriteBack (R.DEV_EVT.addr 0) (v.setWidth 32)) s) ∧
    (∀ p : Fin 1024, w (R.PORT_EVT.addr p.val) = exec (.sequenceWriteBack (R.PORT_EVT.addr p.val) (v.setWidth 32)) s)) ∧
  (∀ (a : Access) (s : State), s.Acts → busCause true a = 0 → isMsix a.off = false → ∀ r n, locate a.off = some (r, n) →
    exec (.hostRegisterWrite a) s = .next (s.writeReg r n a.off a.len a.value.toNat)) ∧
  (∀ (s : State) (v : Word32) (q : Nat), s.Acts → snapOk (bits v.toNat 23 16) (bits v.toNat 11 0) = true →
    let ask := (bits v.toNat 23 16, bits v.toNat 11 0)
    let asked := if s.epoch.cutoffDone then s.epoch.snapNext else s.epoch.snapNow
    (s.epoch.cutoffDone = false → asked.contains ask = false → asked.length < 256 →
      exec (.devSnapTrig v q) s = .next { s with epoch := { s.epoch with snapNow := s.epoch.snapNow ++ [ask] } }) ∧
    (s.epoch.cutoffDone = true → asked.contains ask = false → asked.length < 256 →
      exec (.devSnapTrig v q) s = .next { s with epoch := { s.epoch with snapNext := s.epoch.snapNext ++ [ask] } }) ∧
    (asked.contains ask = true → exec (.devSnapTrig v q) s = .next s) ∧
    (asked.contains ask = false → 256 ≤ asked.length → exec (.devSnapTrig v q) s = .next (s.raise EV_SNAP_OVF 0))) ∧
  (∀ (s : State) (off n : Nat) (r : RegSpec) (wide : Bool), s.Acts → locate off = some (r, n) → r.addr n = off →
    r.fields.any (fun f => f.acc == .lh) = true →
    (6 ≤ s.fld R.PWR_STAT_BOOT_STEP 0 →
      let v := s.readBar off (if wide then 8 else 4)
      exec (.lhLowWordRead off wide) s = .next (v.2.emit (.readData (BitVec.ofNat 64 v.1)))) ∧
    (s.fld R.PWR_STAT_BOOT_STEP 0 < 6 →
      exec (.lhLowWordRead off wide) s =
        .next (s.emit (.readData (BitVec.ofNat 64 (State.reset.readBar off (if wide then 8 else 4)).1))))) ∧
  (∀ s : State, s.Acts → 6 ≤ s.fld R.PWR_STAT_BOOT_STEP 0 →
    (∃ t, exec (.lhLowWordRead (R.CELL_FREE.addr 0) false) s = .next t ∧
      t.out = s.out ++ [.readData (BitVec.ofNat 64 (s.view R.CELL_FREE 0 % 2 ^ 32))] ∧
      SMap.get 0 t.host.latch (R.CELL_FREE.addr 0) = s.view R.CELL_FREE 0 / 2 ^ 32 ∧ t.minFree = s.freeCells ∧
      t.regs = s.regs ∧ t.bureau = s.bureau ∧ SameAuthority s t) ∧
    (∀ b : Fin 8, ∃ t, exec (.lhLowWordRead (R.TIME_TB_NS.addr b.val) false) s = .next t ∧
      t.out = s.out ++ [.readData (BitVec.ofNat 64 (s.view R.TIME_TB_NS b.val % 2 ^ 32))] ∧
      SMap.get 0 t.host.latch (R.TIME_TB_NS.addr b.val) = s.view R.TIME_TB_NS b.val / 2 ^ 32 ∧
      SMap.get 0 t.host.latch (R.TIME_TB_SEC.addr b.val) = s.view R.TIME_TB_SEC b.val ∧ t = { s with out := t.out, host := t.host })) ∧
  (∀ (s : State) (p : Fin 1024), s.Acts → 6 ≤ s.fld R.PWR_STAT_BOOT_STEP 0 →
    exec (.unsupportedRequest { off := R.PORT_CFG.addr p.val, len := 4, be := 15, value := 0, requester := 0 }) s =
      .next (s.emit (.readData (BitVec.ofNat 64 (s.reg R.PORT_CFG p.val % 2 ^ 32))))))

/-- A write of a doubleword of the MSI-X table stores it, and no other doubleword changes; of the vector control only the mask bit is
kept. A write that leaves a pending vector unmasked sends its message, with the address and the data of the table; any other sends none. The
end of a holdoff sends one message for the work that fell due, or marks the vector pending where it is masked. D3hot stops the host side
and nothing else; the return to D0 ends it, with every register as it was. -/
def Obligations.InterruptsAndPowerStates : Prop :=
  ((∀ (s : State) (v : Fin 256) (d : Fin 4) (w : Word32), s.Acts →
    let stored := if d.val = 3 then w.toNat % 2 else w.toNat
    let masked := if d.val = 3 then decide (w.toNat % 2 = 1) else s.masked v.val
    ∃ t, exec (.msixTableWrite v d w) s = .next t ∧
      (∀ k, t.msixWord k = if k = 4 * v.val + d.val then stored else s.msixWord k) ∧
      (masked = true ∨ s.host.msixPending.contains v.val = false → t.host.msixPending = s.host.msixPending ∧ t = { s with host := t.host }) ∧
      (masked = false → s.host.msixPending.contains v.val = true →
        t.out = s.out ++ [.msi v.val (t.msixWord (4 * v.val) + t.msixWord (4 * v.val + 1) <<< 32) (t.msixWord (4 * v.val + 2))] ∧
        t.host.msixPending.contains v.val = false ∧ t = { s with out := t.out, host := t.host })) ∧
  (∀ (s : State) (v : Fin 256), s.Acts →
    (s.host.due.contains v.val = false ∨ s.host.d3hot = true →
      ∃ t, exec (.holdoffExpiry v) s = .next t ∧ t.host.holdoff.contains v.val = false ∧ t.host.due = s.host.due ∧ t = { s with host := t.host }) ∧
    (s.host.due.contains v.val = true → s.host.d3hot = false → s.masked v.val = true →
      ∃ t, exec (.holdoffExpiry v) s = .next t ∧ t.host.msixPending.contains v.val = true ∧ t.host.due.contains v.val = false ∧
        t = { s with host := t.host }) ∧
    (s.host.due.contains v.val = true → s.host.d3hot = false → s.masked v.val = false →
      ∃ t, exec (.holdoffExpiry v) s = .next t ∧
        t.out = s.out ++ [.msi v.val (s.msixWord (4 * v.val) + s.msixWord (4 * v.val + 1) <<< 32) (s.msixWord (4 * v.val + 2))] ∧
        t.host.due.contains v.val = false ∧ t = { s with out := t.out, host := t.host }))) ∧
  (∀ s : State, s.Acts →
    exec .d3hotEntry s = .next { s with host := { s.host with d3hot := true } } ∧
    ∃ t, exec .d0Return s = .next t ∧ t.host.d3hot = false ∧ (∀ v ∈ t.host.due, t.host.holdoff.contains v = true) ∧
      s.out <+: t.out ∧ t = { s with out := t.out, host := t.host })

/-- Records of the event ring, a halted transmit ring, and receive buffers. With room and none lost, the oldest record goes to the ring
entry at TAIL and TAIL advances; without room it is counted lost (R444). A fetch that fails halts its ring with EV_HDMA_FETCH (R448). A
frame for a ring without a posted buffer, or too long for it, is discarded, and one that fits is written behind its record, DONE and the
length with it, and HEAD advances (R451, R452). The transmit ring whose turn it is in round robin has its descriptor processed, and it
completes: word 7 is written back with DONE and a STATUS of R450, and HEAD advances (R448). A bad one has STATUS 2, is counted in TX_BAD
with its event, and nothing of it reaches a queue or a lane; a good one for the management channel has STATUS 0, and its frame waits behind
those of the lane (R214). A ring without a descriptor to fetch changes nothing. -/
def Obligations.PacketRings : Prop :=
  ((∀ (s : State) (e : EventRec) (rest : List EventRec), s.Acts → s.host.d3hot = false → s.fld R.HDMA_EVR_SIZE_SIZE 0 ≠ 0 →
    s.evq = e :: rest →
    let used := (s.fld R.HDMA_EVR_TAIL_TAIL 0 + 65536 - s.fld R.HDMA_EVR_HEAD_HEAD 0) % 65536
    (used ≠ s.fld R.HDMA_EVR_SIZE_SIZE 0 → s.host.lost = 0 →
      ∃ t, exec .eventRecordWrite s = .next t ∧ t.evq = rest ∧
        s.out ++ [.hostWrite (s.fld R.HDMA_EVR_BASE_BASE 0 * 64 +
          64 * (s.fld R.HDMA_EVR_TAIL_TAIL 0 % s.fld R.HDMA_EVR_SIZE_SIZE 0)) e.words] <+: t.out ∧
        t.fld R.HDMA_EVR_TAIL_TAIL 0 = (s.fld R.HDMA_EVR_TAIL_TAIL 0 + 1) % 65536 ∧
        RegistersBut [R.HDMA_EVR_TAIL.addr 0, R.HDMA_CTR.addr 6] s t ∧
        t = { s with regs := t.regs, evq := t.evq, out := t.out, host := t.host }) ∧
    (used = s.fld R.HDMA_EVR_SIZE_SIZE 0 →
      ∃ t, exec .eventRecordWrite s = .next t ∧ t.evq = rest ∧ t.host.lost = s.host.lost + 1 ∧ t.out = s.out ∧
        RegistersBut [R.HDMA_CTR.addr 7] s t ∧ t = { s with regs := t.regs, evq := t.evq, host := t.host })) ∧
  (∀ (s : State) (n : Fin 128), s.Acts →
    (s.ringReady n.val = false → exec (.hdmaFetchTimeout n) s = .next s) ∧
    (s.ringReady n.val = true →
      let turned : State := if n.val < 64 then { s with host := { s.host with txLast := n.val } } else s
      exec (.hdmaFetchTimeout n) s = .next ((turned.setFlag R.HDMA_RING_STAT_HALTED n.val true).raiseOf EV_HDMA_FETCH n.val))) ∧
  (∀ (s : State) (n : Fin 64) (addr : Word64) (len : BitVec 16) (f : HostFrame) (rest : List HostFrame), s.Acts →
    s.host.d3hot = false → SMap.get [] s.hostRx n.val = f :: rest →
    (s.ringReady (64 + n.val) = true → 32 + f.bytes.length ≤ len.toNat →
      ∃ t, exec (.hostRxDelivery n addr len) s = .next t ∧ SMap.get [] t.hostRx n.val = rest ∧
        s.out ++ [.hostWrite addr.toNat f.record, .hostBytes (addr.toNat + 32) f.bytes,
          .hostBytes (s.ringEntry (64 + n.val) 16 + 12) (leBytes 4 (2 ^ 31 + (32 + f.bytes.length)))] <+: t.out ∧
        t.fld R.HDMA_RING_HEAD_HEAD (64 + n.val) = (s.fld R.HDMA_RING_HEAD_HEAD (64 + n.val) + 1) % 65536 ∧
        RegistersBut [R.HDMA_RING_HEAD.addr (64 + n.val), R.HDMA_CTR.addr 3, R.STF_CTR.addr (32 * f.source + 11)] s t ∧
        t = { s with regs := t.regs, hostRx := t.hostRx, out := t.out, host := t.host }) ∧
    (s.ringReady (64 + n.val) = false ∨ len.toNat < 32 + f.bytes.length →
      ∃ t, exec (.hostRxDelivery n addr len) s = .next t ∧ SMap.get [] t.hostRx n.val = rest ∧ t.out = s.out))) ∧
  (∀ (s : State) (n : Fin 64) (words : List Word64) (frame payload : List Byte) (time : Nat), s.Runs →
    let s' := s.advance time
    let w2 := (words.getD 2 0).toNat
    let seg := bits w2 46 46 = 1
    let mgmt := bits w2 43 43 = 1
    let len := bits w2 13 0
    let record := fun status : Nat => Out.hostWrite (s'.ringEntry n.val 64 + 56) [BitVec.ofNat 64 (2 ^ 63 + status)]
    let reserved := bits w2 32 32 ≠ 0 ∨ bits w2 15 14 ≠ 0 ∨ bits (words.getD 3 0).toNat 31 19 ≠ 0 ∨ words.getD 5 0 ≠ 0 ∨
      words.getD 6 0 ≠ 0 ∨ (¬ seg ∧ words.getD 1 0 ≠ 0)
    let clash := (mgmt ∧ (seg ∨ bits w2 45 45 = 1 ∨ bits w2 44 44 = 1)) ∨ (seg ∧ bits w2 44 44 = 1)
    let length := (mgmt ∧ (len = 0 ∨ 2048 < len)) ∨
      (¬ mgmt ∧ ¬ seg ∧ (len < 14 ∨ s'.fld R.PORT_CFG_MAX_FRAME (bits w2 63 54) < len + 4))
    (s'.txTurn ≠ some n.val → exec (.txDescriptor n words frame payload time) s = .next s') ∧
    (s'.txTurn = some n.val →
      (∃ (t : State) (status : Nat) (o : List Out), exec (.txDescriptor n words frame payload time) s = .next t ∧ status ≤ 4 ∧
        (t.out = o ++ [record status] ∨ ∃ v addr data, t.out = o ++ [record status, .msi v addr data])) ∧
      (bits w2 42 42 = 0 → reserved ∨ clash ∨ length →
        ∃ t, exec (.txDescriptor n words frame payload time) s = .next t ∧ t.out = s'.out ++ [record 2] ∧
          t.fld R.HDMA_RING_HEAD_HEAD n.val = (s'.fld R.HDMA_RING_HEAD_HEAD n.val + 1) % 65536 ∧
          t.fld R.HDMA_CTR_COUNT 1 = (s'.fld R.HDMA_CTR_COUNT 1 + 1) % 2 ^ 48 ∧
          t.epoch.raised.contains (EV_HDMA_TX_BAD.code, n.val) = true ∧ t.stf = s'.stf ∧ t.queues = s'.queues ∧ t.cells = s'.cells ∧
          RegistersBut [R.HDMA_RING_HEAD.addr n.val, R.HDMA_RING_STAT.addr n.val, R.HDMA_CTR.addr 0, R.HDMA_CTR.addr 1] s' t) ∧
      (bits w2 42 42 = 0 → mgmt → ¬ reserved → ¬ clash → ¬ length →
        ∃ t, exec (.txDescriptor n words frame payload time) s = .next t ∧ t.out = s'.out ++ [record 0] ∧
          t.fld R.HDMA_RING_HEAD_HEAD n.val = (s'.fld R.HDMA_RING_HEAD_HEAD n.val + 1) % 65536 ∧
          (t.stfOf (bits w2 41 33)).mgmtQ = (s'.stfOf (bits w2 41 33)).mgmtQ ++ [headerBytes len ++ frame.take len] ∧
          (∀ k, k ≠ bits w2 41 33 → t.stfOf k = s'.stfOf k) ∧ t.queues = s'.queues ∧ t.cells = s'.cells ∧
          RegistersBut [R.HDMA_RING_HEAD.addr n.val, R.HDMA_CTR.addr 0] s' t)))

/-- A function level reset (R434) affects the host side only: SIZE and the indices of the order, packet, event and shadow rings become 0,
the MSI-X table is reset, host bundles run on for nobody, and cells, queues, tables, ports, lanes, TUs, time, authority and every register
outside the rings stay as they were. -/
def Obligations.FunctionLevelReset : Prop :=
  ∀ s : State, s.Acts → ∃ t, exec .functionLevelReset s = .next t ∧
    (∀ n : Fin 16, t.fld R.ORD_OQ_SIZE_SIZE n.val = 0 ∧ t.fld R.ORD_OQ_TAIL_TAIL n.val = 0 ∧ t.fld R.ORD_OQ_HEAD_HEAD n.val = 0) ∧
    (∀ n : Fin 128, t.fld R.HDMA_RING_SIZE_SIZE n.val = 0 ∧ t.fld R.HDMA_RING_TAIL_TAIL n.val = 0) ∧
    t.fld R.HDMA_EVR_SIZE_SIZE 0 = 0 ∧ t.fld R.TBL_SHADOW_SIZE_SIZE 0 = 0 ∧ t.host.msix = [] ∧ t.host.msixPending = [] ∧
    (∀ e ∈ t.bureau.slots, e.1 < 16 → e.2.orphan = true) ∧
    (∀ o, ¬ (0x10000 ≤ o ∧ o < 0x10800) → ¬ (0x30000 ≤ o ∧ o < 0x40000) → ¬ (0xB01810 ≤ o ∧ o < 0xB01824) →
      regAt t.regs o = regAt s.regs o) ∧
    t = { s with regs := t.regs, evq := [], shadow := none, bureau := t.bureau, host := t.host }

/-! ### Bundles: fetch, acceptance, records, in-band (R53 to R60, R99) -/

/-- A descriptor whose ADDR is misaligned, or whose reserved field is not 0, leaves its queue a bundle without words that is bound to end
BAD_ENC reason 2, and so does one whose bundle has another TOTAL_LEN than LEN; one whose words arrive with the length that LEN and the
header name leaves that bundle, waiting; then bundles that are ready start. A fetch that fails or takes too long halts the queue: HALTED is
set and EV_ORD_FETCH raised, and HEAD stays (R53). A queue that fetches nothing takes nothing. -/
def Obligations.BundleFetch : Prop :=
  ∀ (s : State) (n : Fin 16), s.Acts →
    (s.fetches n = false →
      (∀ addr len rsv words, exec (.bundleFetch n addr len rsv words) s = .next (State.startReady 24 s)) ∧
      exec (.ordFetchTimeout n) s = .next (State.startReady 24 s)) ∧
    (s.fetches n = true →
      let index := s.fld R.ORD_OQ_HEAD_HEAD n.val % s.fld R.ORD_OQ_SIZE_SIZE n.val
      let halted := (s.setFlag R.ORD_OQ_STAT_HALTED n.val true).raiseOf EV_ORD_FETCH n.val
      (∀ (addr : Word64) (len rsv : Word32) (words : Option (List Word64)), addr.toNat % 8 ≠ 0 →
        exec (.bundleFetch n addr len rsv words) s =
          .next (State.startReady 24 (s.setSlot (.host n) (Bundle.fresh [] index n.val (some addr))))) ∧
      (∀ (addr : Word64) (len rsv : Word32) (words : Option (List Word64)), addr.toNat % 8 = 0 → rsv ≠ 0 →
        exec (.bundleFetch n addr len rsv words) s = .next (State.startReady 24
          (s.setSlot (.host n) (Bundle.fresh [] index n.val (some (BitVec.ofNat 64 (rsv.toNat * 2 ^ 32 + len.toNat))))))) ∧
      (∀ (addr : Word64) (len : Word32) (ws : List Word64), addr.toNat % 8 = 0 → ws.length = ceilDiv len.toNat 8 →
        ((Bundle.fresh ws index n.val none).totalLen = len.toNat →
          exec (.bundleFetch n addr len 0 (some ws)) s =
            .next (State.startReady 24 (s.setSlot (.host n) (Bundle.fresh ws index n.val none)))) ∧
        ((Bundle.fresh ws index n.val none).totalLen ≠ len.toNat →
          exec (.bundleFetch n addr len 0 (some ws)) s =
            .next (State.startReady 24 (s.setSlot (.host n) (Bundle.fresh ws index n.val (some (ws.getD 3 0))))))) ∧
      (∀ (addr : Word64) (len : Word32), addr.toNat % 8 = 0 →
        exec (.bundleFetch n addr len 0 none) s = .next (State.startReady 24 halted)) ∧
      exec (.ordFetchTimeout n) s = .next (State.startReady 24 halted) ∧
      halted.fld R.ORD_OQ_STAT_HALTED n.val = 1 ∧
      halted.fld R.ORD_OQ_HEAD_HEAD n.val = s.fld R.ORD_OQ_HEAD_HEAD n.val)

/-- The acceptance checks after check 3, on a device that is not ACTIVE and so forwards nothing: a signature that fails refuses the bundle
BAD_SIG with INDEX 0x1FFF; a bundle whose checks all pass runs at once, or is held while its APPLY_AFTER epoch has not come, and nothing
else changes but the sequence number of a signed one: HIGH_SEQ takes it, and its append to the journal is queued. A held bundle whose
epoch has come runs (R58, R59, R98, R99). -/
def Obligations.Acceptance : Prop :=
  (∀ (s : State) (q : OrderQueue) (b : Bundle) (reads : List (Option (List Byte))), s.Acts → s.slot q = some b →
    b.phase = .verifying →
    (∀ f, s.sigCheck q b = some f →
      exec (.signatureVerified q reads) s = .next (State.startReady 24 (s.refuse q f.1 0x1FFF f.2 0))) ∧
    (∀ d : Decoding, s.sigCheck q b = none → s.targetOk b = true → s.decodeBundle q reads b = .good d →
      classCheck q b.cls b.grant d.steps.reverse = none → b.forward = none → s.role ≠ 1 →
      let ready : Bundle :=
        { b with prog := d.steps.reverse, reads := d.records, phase := if s.epochNum < b.applyAfter then .held else .running }
      (b.cls = 0 → exec (.signatureVerified q reads) s = .next (State.startReady 24 (s.setSlot q ready))) ∧
      (b.cls ≠ 0 → s.highSeq b.keySlot < b.orderSeq →
        let noted := s.setFld R.AUTH_SEQ_HIGH_HIGH_SEQ b.keySlot b.orderSeq
        exec (.signatureVerified q reads) s = .next (State.startReady 24
          (State.setSlot { noted with auth := { s.auth with appends := s.auth.appends ++ [(b.keySlot, b.orderSeq, queueUnit q)] } } q
            { ready with journalled := true }))) ∧
      (b.cls ≠ 0 → b.orderSeq ≤ s.highSeq b.keySlot →
        exec (.signatureVerified q reads) s = .next (State.startReady 24 (s.refuse q 2 0x1FFF 4 (s.highSeq b.keySlot)))))) ∧
  (∀ (s : State) (q : OrderQueue) (b : Bundle), s.Acts → s.slot q = some b → b.phase = .held →
    (b.applyAfter ≤ s.epochNum →
      exec (.applyAfterRelease q) s = .next (State.startReady 24 (s.setSlot q { b with phase := .running }))) ∧
    (s.epochNum < b.applyAfter → exec (.applyAfterRelease q) s = .next (State.startReady 24 s)))

/-- The completion record of a finished bundle is written when its ring has room and its journal append is durable: for a host queue it
goes to the entry at CPL_TAIL, CPL_TAIL and HEAD advance and the queue is free, and for the console it joins the FIFO of records; until
then nothing changes, and a bundle that a function level reset has orphaned just goes (R54, R79, R99, R434). A journal
append that succeeds is durable and lets the record of its bundle be written; one that fails changes nothing but the mark of its failure
and raises EV_AUTH_JOURNAL; while it has failed only the retry counts (R99). -/
def Obligations.RecordsAndJournal : Prop :=
  (∀ (s : State) (n : Fin 16) (b : Bundle) (e : Ending), s.Acts → s.slot (.host n) = some b → b.phase = .finished →
    b.ending = some e → b.orphan = false →
    (b.journalled = true ∨ s.recordRoom (.host n) = false →
      exec (.completionRecordWrite (.host n)) s = .next (State.startReady 24 s)) ∧
    (b.journalled = false → s.recordRoom (.host n) = true → b.forward = none →
      ∃ t, exec (.completionRecordWrite (.host n)) s = .next (State.startReady 24 t) ∧ t.slot (.host n) = none ∧
        s.out ++ [.hostWrite (s.reg R.ORD_OQ_CPL_BASE n.val +
          32 * (s.fld R.ORD_OQ_CPL_TAIL_CPL_TAIL n.val % s.fld R.ORD_OQ_SIZE_SIZE n.val)) (s.recordOf (.host n) b e)] <+: t.out ∧
        t.fld R.ORD_OQ_CPL_TAIL_CPL_TAIL n.val = (s.fld R.ORD_OQ_CPL_TAIL_CPL_TAIL n.val + 1) % 65536 ∧
        t.fld R.ORD_OQ_HEAD_HEAD n.val = (s.fld R.ORD_OQ_HEAD_HEAD n.val + 1) % 65536 ∧
        (∀ m : Fin 16, m ≠ n → t.fld R.ORD_OQ_HEAD_HEAD m.val = s.fld R.ORD_OQ_HEAD_HEAD m.val))) ∧
  (∀ (s : State) (q : OrderQueue) (b : Bundle) (e : Ending), s.Acts → s.slot q = some b → b.phase = .finished → b.ending = some e →
    (b.orphan = true → exec (.completionRecordWrite q) s = .next (State.startReady 24 (s.freeSlot q))) ∧
    (b.orphan = false → b.journalled = false → s.recordRoom q = true → b.forward = none →
      let ws := s.recordOf q b e
      let digested : State := if b.cls ≠ 0 ∧ b.executed ≠ 0 then
          { s with auth := { s.auth with digest := extendDigest s.auth.digest (b.bytes.take (b.sigOffset + 448)) (wordsToBytes ws) } }
        else s
      exec (.completionRecordWrite q) s = .next (State.startReady 24 ((digested.sendRecord q b ws).freeSlot q)) ∧
      (q = .console → (digested.sendRecord q b ws).bureau.consoleDone = s.bureau.consoleDone ++ [ws]))) ∧
  (∀ (s : State) (n seq u : Nat) (rest : List (Nat × Nat × Nat)), s.Acts → s.auth.appends = (n, seq, u) :: rest →
    let done : State := { s with
      flash := s.flash.append n seq
      auth := { s.auth with appends := rest, failed := false }
      bureau := { s.bureau with slots := s.bureau.slots.map (fun e =>
        if e.1 = u ∧ e.2.orderSeq = seq then (e.1, { e.2 with journalled := false }) else e) } }
    let lost : State := { s with auth := { s.auth with failed := true } }
    (s.auth.failed = false →
      exec (.journalAppend true) s = .next (State.startReady 24 done) ∧
      exec (.journalAppend false) s = .next (State.startReady 24 (lost.raise EV_AUTH_JOURNAL n)) ∧
      (∀ ok, exec (.journalRetry ok) s = .next (State.startReady 24 s))) ∧
    (s.auth.failed = true →
      exec (.journalRetry true) s = .next (State.startReady 24 done) ∧
      (∀ ok, exec (.journalAppend ok) s = .next (State.startReady 24 s))))

/-- An in-band segment (R55): the first of a new reassembly is held under its Charter and REASM_ID, a duplicate INDEX is ignored, and a
COUNT of 0 or above 8, an INDEX not below COUNT, a COUNT or TOTAL_LEN that disagrees with the first, or a fifth reassembly drops it with
EV_ORD_INBAND. The segment that completes a reassembly hands its bytes, in the order of their INDEX, on as a bundle of its Charter. The
end of the 100 ms drops a reassembly too. -/
def Obligations.InbandReassembly : Prop :=
  (∀ (s : State) (charter rule : Nat) (payload : List Byte) (rest : List (Nat × Nat × List Byte)), s.Acts →
    s.bureau.carried = (charter, rule, payload) :: rest →
    let w := leNat (payload.take 8)
    let id := bits w 63 48
    let index := bits w 47 40
    let count := bits w 39 32
    let total := bits w 31 0
    let s' : State := { s with bureau := { s.bureau with carried := rest } }
    let found := s.bureau.reasm.find? (fun r => r.charter == charter && r.id == id)
    (found = none → 2 ≤ count → count ≤ 8 → index < count → s.bureau.reasm.length < 4 →
      exec .inbandSegment s = .next (State.startReady 24 { s' with bureau := { s'.bureau with
        reasm := s.bureau.reasm.filter (fun o => !(o.charter == charter && o.id == id)) ++
          [{ charter := charter, id := id, count := count, total := total, segs := [(index, payload.drop 8)] }] } })) ∧
    (∀ r, found = some r → r.count = count → r.total = total → 1 ≤ count → count ≤ 8 → index < count →
      ((SMap.find r.segs index).isSome = true → exec .inbandSegment s = .next (State.startReady 24 s')) ∧
      (SMap.find r.segs index = none →
        let others := s.bureau.reasm.filter (fun o => !(o.charter == r.charter && o.id == r.id))
        let segs := SMap.put r.segs index (payload.drop 8)
        let bytes := segs.flatMap (fun e => e.2)
        (segs.length < count → exec .inbandSegment s = .next (State.startReady 24
          { s' with bureau := { s'.bureau with reasm := others ++ [{ r with segs := segs }] } })) ∧
        (count ≤ segs.length → bytes.length = total → s.role ≠ 3 → ∃ b : Bundle,
          exec .inbandSegment s = .next (State.startReady 24 { s' with bureau := { s'.bureau with
            reasm := others, inbandWaiting := s.bureau.inbandWaiting ++ [b] } }) ∧
          b.words = bytesToWords (ceilDiv bytes.length 8) bytes ∧ b.delivered = bytes.length ∧ b.charter = 17 + r.charter ∧
          b.phase = .waiting))) ∧
    ((count = 0 ∨ 8 < count ∨ count ≤ index ∨ (found = none ∧ 4 ≤ s.bureau.reasm.length) ∨
        (∃ r, found = some r ∧ (r.count ≠ count ∨ r.total ≠ total))) →
      exec .inbandSegment s = .next (State.startReady 24 (s'.dropReasm charter id)))) ∧
  (∀ (s : State) (charter id : Nat), s.Acts → s.bureau.reasm.any (fun r => r.charter == charter && r.id == id) = true →
    exec (.inbandReassemblyTimeout charter id) s = .next (State.startReady 24 (s.dropReasm charter id))) ∧
  (∀ (s : State) (charter id : Nat), ∃ reasm, (s.dropReasm charter id).bureau.reasm = reasm ∧
    ∀ r ∈ reasm, ¬ (r.charter = charter ∧ r.id = id))

/-! ### Orders -/

/-- How a bundle goes on. An instruction whose COND fails is skipped. Behind its last instruction a bundle without a stage set ends: OK
with the number of instructions executed, or INCOMPLETE where a commit of it applied late; one that holds a stage set ends ABORTED with
detail 3. With an instruction left it goes on there. NOP, GET, CHECK, STAGE.BEGIN, STAGE.END and ABORT, where they come next: NOP only
goes on; GET loads its G register with the register it names; CHECK sets C to its test of the G register under the mask, and with HALT and
a false test ends the bundle ABORTED with detail 1 and the G register; STAGE.BEGIN opens a stage set with a number that no other set has;
STAGE.END closes it; ABORT discards it with its claims. -/
def Obligations.ControlOrders : Prop :=
  ((∀ (s : State) (q : OrderQueue) (b : Bundle) (p : ProgStep) (i : OrderInstr) (run : Bundle → ProgStep → State → State), s.Acts →
    s.slot q = some b → b.phase = .running → b.prog[b.next]? = some p → p.instr = i →
    ((p.cond = 1 ∧ b.c = false) ∨ (p.cond = 2 ∧ b.c = true)) →
    s.order q i run = State.startReady 24 (s.proceed q)) ∧
  (∀ (s : State) (q : OrderQueue) (b : Bundle),
    let b' : Bundle := { b with next := b.next + 1, phase := .running }
    (b.next + 1 < b.prog.length → (s.setSlot q b).proceed q = s.setSlot q b') ∧
    (b.prog.length ≤ b.next + 1 →
      (b.stage = none → b.late = none →
        (s.setSlot q b).proceed q = (s.setSlot q b').endBundle q ⟨0, 0x1FFF, b.executed, 0⟩) ∧
      (∀ l, b.stage = none → b.late = some l →
        (s.setSlot q b).proceed q = (s.setSlot q b').endBundle q ⟨7, l.1, l.2, 0⟩) ∧
      (b.stage ≠ none → (s.setSlot q b).proceed q = (s.setSlot q b').endBundle q ⟨9, 0x1FFF, 3, 0⟩))) ∧
  (∀ (s : State) (q : OrderQueue) (b : Bundle) (e : Ending), b.stage = none → (e.status < 2 ∨ 4 < e.status) →
    (s.setSlot q b).endBundle q e = s.setSlot q { b with phase := .finished, ending := some e })) ∧
  (∀ (s : State) (q : OrderQueue) (b : Bundle) (p : ProgStep),
    (s.ComesNext q b p .nop → exec (.nop q) s = .next (s.goesOn q b.ran)) ∧
    (∀ (g off : Nat) (w64 : Bool), s.ComesNext q b p (.get g off w64) →
      exec (.get q g off w64) s =
        .next (s.goesOn q { b.ran with g := SMap.set 0 b.g g (BitVec.ofNat 64 ((s.setSlot q b.ran).peek off w64)) })) ∧
    (∀ (g test : Nat) (mask value : Word64), s.ComesNext q b p (.check g test mask value) →
      let ok := checkTest test (b.reg g &&& mask).toNat value.toNat
      (ok = true ∨ p.halt = false → exec (.check q g test mask value) s = .next (s.goesOn q { b.ran with c := ok })) ∧
      (ok = false → p.halt = true →
        exec (.check q g test mask value) s = .next (s.failsAt q { b.ran with c := false } p 9 1 (b.reg g).toNat))) ∧
    (s.ComesNext q b p .stageBegin →
      exec (.stageBegin q) s = .next (({ s with bureau := { s.bureau with nextSet := s.bureau.nextSet + 1 } } : State).goesOn q
        { b.ran with stage := some { id := s.bureau.nextSet, opened := true, items := [], leafSwap := false } })) ∧
    (∀ st, s.ComesNext q b p .stageEnd → b.stage = some st →
      exec (.stageEnd q) s = .next (s.goesOn q { b.ran with stage := some { st with opened := false } })) ∧
    (∀ st, s.ComesNext q b p .abort → b.stage = some st →
      exec (.abort q) s = .next ((s.dropClaims st.id).goesOn q { b.ran with stage := none })))

/-- WAIT.EPOCH, WAIT.EVENT and FENCE park their bundle or go on, and what resumes it. An epoch that has come lets WAIT.EPOCH go on at
once, and WAIT_EPOCH_RESUME resumes a bundle whose epoch has come. An event raised since the bundle's first instruction began lets
WAIT.EVENT go on with C = 1; its arrival resumes the bundle with C = 1, and the timeout with C = 0, or ends it TIMEOUT with detail 2 where
HALT is set. A FENCE without the edge bit goes on when the earlier effects are complete; a parked one is released when they are, and where
it waits for an edge not before one has passed (R76 to R78). -/
def Obligations.WaitingOrders : Prop :=
  ∀ (s : State) (q : OrderQueue) (b : Bundle) (p : ProgStep),
    (∀ (rel : Bool) (epoch : Nat), s.ComesNext q b p (.waitEpoch rel epoch) →
      let target := if rel then s.epochNum + epoch else s.ownEpoch b epoch
      (target ≤ s.epochNum → exec (.waitEpoch q rel epoch) s = .next (s.goesOn q b.ran)) ∧
      (s.epochNum < target → exec (.waitEpoch q rel epoch) s =
        .next (State.startReady 24 (s.setSlot q { b.ran with phase := .waitEpoch target })))) ∧
    (∀ (code unit timeout : Nat), s.ComesNext q b p (.waitEvent code unit timeout) →
      ((∃ e ∈ b.seen, e.1 = code ∧ (unit = 0xFFF ∨ e.2 = unit)) →
        exec (.waitEvent q code unit timeout) s = .next (s.goesOn q { b.ran with c := true })) ∧
      ((∀ e ∈ b.seen, e.1 = code → unit ≠ 0xFFF ∧ e.2 ≠ unit) →
        exec (.waitEvent q code unit timeout) s =
          .next (State.startReady 24 (s.setSlot q { b.ran with phase := .waitEvent code unit p.halt })))) ∧
    (∀ edge : Bool, s.ComesNext q b p (.fence edge) →
      (edge = false → s.settledBefore (queueUnit q) b = true → exec (.fence q edge) s = .next (s.goesOn q b.ran)) ∧
      (edge = true ∨ s.settledBefore (queueUnit q) b = false →
        exec (.fence q edge) s = .next (State.startReady 24 (s.setSlot q { b.ran with phase := .fence edge })))) ∧
    (s.Acts → s.slot q = some b →
      (∀ target, b.phase = .waitEpoch target →
        (target ≤ s.epochNum → exec (.waitEpochResume q) s = .next (State.startReady 24 (s.proceed q))) ∧
        (s.epochNum < target → exec (.waitEpochResume q) s = .next (State.startReady 24 s))) ∧
      (∀ code unit halt, b.phase = .waitEvent code unit halt → b.prog[b.next]? = some p →
        (b.saw code unit = true →
          exec (.waitEventArrival q) s = .next (s.goesOn q { b with c := true }) ∧
          exec (.waitEventTimeout q) s = .next (s.goesOn q { b with c := true })) ∧
        (b.saw code unit = false → halt = false → exec (.waitEventTimeout q) s = .next (s.goesOn q { b with c := false })) ∧
        (b.saw code unit = false → halt = true →
          exec (.waitEventTimeout q) s = .next (s.failsAt q { b with c := false } p 8 2 0))) ∧
      (b.phase = .fence false → s.settledBefore (queueUnit q) b = true → exec (.fenceRelease q) s = .next (State.startReady 24 (s.proceed q))) ∧
      (b.phase = .fence true ∨ (b.phase = .fence false ∧ s.settledBefore (queueUnit q) b = false) → exec (.fenceRelease q) s = .next (State.startReady 24 s)))

/-- Unversioned writes. Where a stage set is open and nothing speaks against the write, it joins the set behind the writes before it and
the bundle goes on; a SET whose value comes from a G register joins with that value. Where no set is open it begins a commit of its own
that names epoch 0, and a closed set stays held. What speaks against it ends the bundle there with that STATUS. -/
def Obligations.UnversionedWrites : Prop :=
  (∀ (c : Instr) (s : State) (q : OrderQueue) (b : Bundle) (p : ProgStep) (i : OrderInstr), unversionedRow c = some (q, i) →
    s.ComesNext q b p i →
    (∀ st : StageSet, b.stage = some st → st.opened = true →
      ((s.setSlot q b.ran).writeFault q st.items (b.instrWord p) i = none →
        exec c s = .next (s.goesOn q (b.ran.joined st i))) ∧
      (∀ f, (s.setSlot q b.ran).writeFault q st.items (b.instrWord p) i = some f →
        exec c s = .next (s.failsAt q b.ran p f.1 f.2.1 f.2.2))) ∧
    (b.stage = none →
      ((s.setSlot q b.ran).writeFault q [] (b.instrWord p) i = none →
        exec c s = .next (State.startReady 24
          ((s.setSlot q b.ran).newSet.2.beginCommit q b.ran p s.bureau.nextSet [i] false 0))) ∧
      (∀ f, (s.setSlot q b.ran).writeFault q [] (b.instrWord p) i = some f →
        exec c s = .next (s.failsAt q b.ran p f.1 f.2.1 f.2.2))) ∧
    (∀ st : StageSet, b.stage = some st → st.opened = false →
      ((s.setSlot q b.ran).writeFault q [] (b.instrWord p) i = none →
        let u := (s.setSlot q b.ran).newSet.2.beginCommit q b.ran p s.bureau.nextSet [i] false 0
        ∀ b', u.slot q = some b' → exec c s = .next (State.startReady 24
          (if b'.phase = .finished then u.dropClaims st.id else u.setSlot q { b' with stage := some st }))) ∧
      (∀ f, (s.setSlot q b.ran).writeFault q [] (b.instrWord p) i = some f →
        exec c s = .next (s.failsAt q b.ran p f.1 f.2.1 f.2.2)))) ∧
  (∀ (s : State) (q : OrderQueue) (b : Bundle) (p : ProgStep) (off : Nat) (w64 : Bool) (value mask : Word64),
    s.ComesNext q b p (.set off w64 true value mask) →
    let i : OrderInstr := .set off w64 false (b.reg (value.toNat % 16)) mask
    (∀ st : StageSet, b.stage = some st → st.opened = true →
      (s.setSlot q b.ran).writeFault q st.items (b.instrWord p) i = none →
      exec (.set q off w64 true value mask) s = .next (s.goesOn q (b.ran.joined st i))) ∧
    (b.stage = none → (s.setSlot q b.ran).writeFault q [] (b.instrWord p) i = none →
      exec (.set q off w64 true value mask) s = .next (State.startReady 24
        ((s.setSlot q b.ran).newSet.2.beginCommit q b.ran p s.bureau.nextSet [i] false 0))))

/-- Entries of the TCAM, of the parse bank and of the pattern store are written under claims of the open set (R265, R270, R274): where
every place can be claimed the write joins the set and the places are its own; a place that is not free ends the bundle CONFLICT with
detail 4. A TCAM place that is neither listed nor claimed can be claimed to be written, and one that is open and unclaimed to be closed;
its claim is then the set's. A TCAM entry is written for the version to come when its set is sent (R27), and applies under the version of
its edge. -/
def Obligations.VersionedWrites : Prop :=
  (∀ (c : Instr) (s : State) (q : OrderQueue) (b : Bundle) (p : ProgStep) (i : OrderInstr) (st : StageSet),
    versionedRow c = some (q, i) → s.ComesNext q b p i → b.stage = some st →
    (∀ t, (s.setSlot q b.ran).claimPlaces st.id i = .inr t → exec c s = .next (t.goesOn q (b.ran.joined st i))) ∧
    (∀ d1, (s.setSlot q b.ran).claimPlaces st.id i = .inl d1 → exec c s = .next (s.failsAt q b.ran p 6 4 d1))) ∧
  (∀ (s : State) (id pipe index : Nat) (egress : Bool) (words : List Word64),
    let k := tcamKey pipe egress index
    let claimed : State := { s with tcamClaims := SMap.put s.tcamClaims k id }
    (SMap.find s.tcam k = none → SMap.find s.tcamClaims k = none →
      s.claimPlaces id (.tcamWr pipe index egress false words) = .inr claimed) ∧
    (∀ e, SMap.find s.tcam k = some e → e.since = e.until' → SMap.find s.tcamClaims k = none →
      s.claimPlaces id (.tcamWr pipe index egress true words) = .inr claimed) ∧
    (SMap.find s.tcam k ≠ none ∨ SMap.find s.tcamClaims k ≠ none →
      s.claimPlaces id (.tcamWr pipe index egress false words) = .inl (pipe * 2 ^ 48 + index * 2 ^ 32 + 0x0101))) ∧
  (∀ (s : State) (v pipe index : Nat) (egress : Bool) (words : List Word64),
    SMap.find (s.applyItem v (.tcamWr pipe index egress false words)).tcam (tcamKey pipe egress index) =
      some { words := words, since := v, until' := v, staged := .applied }) ∧
  (∀ (s : State) (id unit pipe index : Nat) (egress : Bool) (words : List Word64),
    SMap.find (State.sendItem id unit s (.tcamWr pipe index egress false words)).tcam (tcamKey pipe egress index) =
      some { words := words, since := (s.version + 1) % 256, until' := (s.version + 1) % 256, staged := .entering })

/-- Exact-match writes (R293 to R295): what the table answers decides, behind the errors that its reads find (R310). A table that takes the
write lets the bundle go on, the write joined to the open set if there is one; one that refuses ends the bundle CONFLICT with detail 4 and
the code of R266 with its pipeline and object. -/
def Obligations.TableOrders : Prop :=
  ∀ (s : State) (q : OrderQueue) (b : Bundle) (p : ProgStep) (pipes : Nat) (wide : Bool) (words : List Word64)
    (errors : List (Fin 8 × Nat × Bool)),
    let read := (s.setSlot q b.ran).readErrors errors
    let key := if wide then words.take 5 else words.take 1
    let r0 := if wide then (words.getD 5 0).toNat else (words.getD 1 0).toNat
    let r1 := if wide then (words.getD 6 0).toNat else 0
    let holds := fun (c : Instr) (i : OrderInstr) (r : TblResult) => s.ComesNext q b p i →
      (∀ t, r = .ok t →
        (b.stage.any (fun st => st.opened) = false → exec c s = .next (State.startReady 24 (t.proceed q))) ∧
        (∀ st, b.stage = some st → st.opened = true → exec c s = .next (t.goesOn q (((t.slot q).getD b.ran).joined st i)))) ∧
      (∀ f, r = .error f → exec c s = .next (State.startReady 24
        (read.endBundle q ⟨6, p.index, 4, f.2.1 * 2 ^ 48 + f.2.2 * 2 ^ 32 + f.1⟩)))
    (∀ st : StageSet, b.stage = some st → st.opened = true →
      holds (.tblIns q pipes wide false words errors) (.tblIns pipes wide false words) (read.insertStaged st.id pipes key r0 r1) ∧
      holds (.tblDel q pipes wide false words errors) (.tblDel pipes wide false words) (read.deleteStaged st.id pipes key) ∧
      holds (.tblMod q pipes wide words errors) (.tblMod pipes wide words) (read.modifyStaged st.id pipes key r0 r1)) ∧
    (b.stage.any (fun st => st.opened) = false →
      holds (.tblIns q pipes wide false words errors) (.tblIns pipes wide false words) (read.insertDirect pipes key r0 r1) ∧
      holds (.tblIns q pipes wide true words errors) (.tblIns pipes wide true words)
        (read.learnedInsert (words.getD 0 0) (read.learnedPipes (words.getD 0 0) pipes) r0) ∧
      holds (.tblDel q pipes wide false words errors) (.tblDel pipes wide false words) (read.deleteDirect pipes key) ∧
      holds (.tblDel q pipes wide true words errors) (.tblDel pipes wide true words)
        (read.learnedDelete (words.getD 0 0) (read.learnedPipes (words.getD 0 0) pipes)) ∧
      holds (.tblMod q pipes wide words errors) (.tblMod pipes wide words) (read.modifyDirect pipes key r0 r1))

/-- COMMIT and LEAF.SWAP. A named epoch that has passed ends the bundle TIMEOUT with detail 1 and the epoch; a refusal of admission ends
it REFUSED_DEADLINE, a breach of the connection memory's rules CONFLICT with detail 4, and a commit in progress that names the same epoch
and meets it CONFLICT with detail 1; otherwise a commit with the set's writes, its islands outstanding, begins, its staged state goes out
and the bundle waits for it. LEAF.SWAP in an open set marks the set and goes on; alone it is a commit without writes, and a closed set stays
held. -/
def Obligations.CommitOrders : Prop :=
  ∀ (s : State) (q : OrderQueue) (b : Bundle) (p : ProgStep) (epoch : Nat),
    let named := if epoch = 0 then 0 else s.ownEpoch b epoch
    (∀ st : StageSet, s.ComesNext q b p (.commit epoch) → b.stage = some st →
      let bare := { b.ran with stage := none }
      let r := (s.setSlot q bare).admission named st.items st.leafSwap
      (named ≠ 0 → named ≤ s.epochNum →
        exec (.commit q epoch) s = .next ((s.dropClaims st.id).failsAt q bare p 8 1 s.epochNum)) ∧
      (named = 0 ∨ s.epochNum < named →
        (∀ d0 d1, r.1 = .refused d0 d1 →
          exec (.commit q epoch) s = .next (State.startReady 24 ((r.2.dropClaims st.id).endBundle q ⟨1, p.index, d0, d1⟩))) ∧
        (∀ d1, r.1 = .breach d1 →
          exec (.commit q epoch) s = .next (State.startReady 24 ((r.2.dropClaims st.id).endBundle q ⟨6, p.index, 4, d1⟩))) ∧
        (∀ bounds, r.1 = .admitted bounds → r.2.meetsCommit st.items st.leafSwap named = true →
          exec (.commit q epoch) s = .next (State.startReady 24 ((r.2.dropClaims st.id).endBundle q ⟨6, p.index, 1, 0⟩))) ∧
        (∀ bounds, r.1 = .admitted bounds → r.2.meetsCommit st.items st.leafSwap named = false → b.forward = none →
          ∃ c : Commit, exec (.commit q epoch) s = .next (State.startReady 24 (State.sendCommit
              { r.2.setSlot q { bare with phase := .committing st.id } with
                bureau := { (r.2.setSlot q { bare with phase := .committing st.id }).bureau with
                  commits := r.2.bureau.commits ++ [c] } } c)) ∧
            c.id = st.id ∧ c.items = st.items ∧ c.leafSwap = st.leafSwap ∧ c.named = named ∧ c.attempt = 1 ∧ c.expired = none ∧
            c.outstanding = r.2.setIslandMap st.items st.leafSwap ∧ c.bounds = bounds))) ∧
    (s.ComesNext q b p (.leafSwap epoch) →
      (∀ st : StageSet, b.stage = some st → st.opened = true →
        exec (.leafSwap q epoch) s = .next (s.goesOn q { b.ran with stage := some { st with leafSwap := true } })) ∧
      (b.stage = none →
        exec (.leafSwap q epoch) s = .next (State.startReady 24
          ((s.setSlot q b.ran).newSet.2.beginCommit q b.ran p s.bureau.nextSet [] true named))) ∧
      (∀ st : StageSet, b.stage = some st → st.opened = false →
        let u := (s.setSlot q b.ran).newSet.2.beginCommit q b.ran p s.bureau.nextSet [] true named
        ∀ b', u.slot q = some b' → exec (.leafSwap q epoch) s = .next (State.startReady 24
          (if b'.phase = .finished then u.dropClaims st.id else u.setSlot q { b' with stage := some st }))))

/-- LEAF.WR, TB.STEP, TB.RATE, TB.REARM, SNAP, SPRINT.ARM and FREEZE.PERMIT take effect as they are executed, without a commit. An
unstaged LEAF.WR writes the standby page of its quadrant, or is held while the quadrant copies, and the lanes that it connects start to
widen; in an open set it joins the set. TB.STEP arms its step: a relative one to its size, an absolute one to the second after the next
microsecond; one that R383 refuses ends the bundle CONFLICT with detail 5. TB.RATE stores RATE_SW. TB.REARM leaves STEP armed only in a
locked time base and raises EV_TB_REARM. SNAP joins the requests of the coming edge. SPRINT.ARM is a request for Sprint. FREEZE.PERMIT
sets the remaining time of the permission, and needs the burned fuse. -/
def Obligations.DirectOrders : Prop :=
  ∀ (s : State) (q : OrderQueue) (b : Bundle) (p : ProgStep),
    let s' := s.setSlot q b.ran
    (∀ (outLane outTu inLane inTu : Nat) (unequipped : Bool), s.ComesNext q b p (.leafWr outLane outTu inLane inTu unequipped) →
      let k := tuKey outLane outTu
      let w := leafWord inLane inTu unequipped
      let u := queueUnit q
      (b.stage = none → ((s'.otherSets q).flatMap itemKeys).contains (1, k) = false → (∀ c ∈ s.bureau.commits, c.leafSwap = false) →
        exec (.leafWr q outLane outTu inLane inTu unequipped) s = .next (State.startReady 24
          ((if unequipped then s'.leafPut u k w else ((s'.leafPut u k w).wantLane outLane).wantLane inLane).proceed q))) ∧
      (b.stage = none → ((s'.otherSets q).flatMap itemKeys).contains (1, k) = true ∨ (∃ c ∈ s.bureau.commits, c.leafSwap = true) →
        exec (.leafWr q outLane outTu inLane inTu unequipped) s = .next (s.failsAt q b.ran p 6 1 0)) ∧
      (s.flag R.TSI_Q_STAT_COPYING (leafQuadrant k) = false →
        s'.leafPut u k w = s'.setReg (leafReg (1 - s.activeLeaf (leafQuadrant k))) k w) ∧
      (s.flag R.TSI_Q_STAT_COPYING (leafQuadrant k) = true →
        s'.leafPut u k w = { s' with leafHeld := s.leafHeld.filter (fun e => e.1 != k) ++ [(k, w, u)] }) ∧
      (∀ st : StageSet, b.stage = some st → st.opened = true →
        s'.writeFault q st.items (b.instrWord p) (.leafWr outLane outTu inLane inTu unequipped) = none →
        exec (.leafWr q outLane outTu inLane inTu unequipped) s =
          .next (s.goesOn q (b.ran.joined st (.leafWr outLane outTu inLane inTu unequipped))))) ∧
    (∀ (tb : Nat) (abs : Bool) (w0 w1 : Word64), s.ComesNext q b p (.tbStep tb abs w0 w1) →
      let v := (s.tbGet tb).value
      let instant := ((v + 1000 * nsUnits) / secondUnits + 1) * secondUnits
      let armed : Nat × Int := if abs then (instant, (absValue w0 w1 : Int) - (instant : Int)) else (v, relativeStep w0)
      (s.stepCause tb abs w0 = 0 →
        exec (.tbStep q tb abs w0 w1) s = .next (State.startReady 24
          (((s'.setFld R.TIME_TB_STAT_STEP tb 2).updServo tb (fun r => { r with armed := some armed })).proceed q))) ∧
      (s.stepCause tb abs w0 ≠ 0 →
        exec (.tbStep q tb abs w0 w1) s = .next (State.startReady 24
          (((s'.setFld R.TIME_TB_STAT_REFUSE tb (s.stepCause tb abs w0)).raiseAt EV_TB_STEP_REFUSED tb tb
            [s.stepCause tb abs w0]).endBundle q ⟨6, p.index, 5, 0⟩)))) ∧
    (∀ tb rate : Nat, s.ComesNext q b p (.tbRate tb rate) →
      exec (.tbRate q tb rate) s = .next (State.startReady 24 ((s'.tbRateSet tb rate).proceed q)) ∧
      (tb < 8 → (s'.tbRateSet tb rate).fld R.TIME_TB_RATE_RATE_SW tb =
        rate % 2 ^ (R.TIME_TB_RATE_RATE_SW.hi + 1 - R.TIME_TB_RATE_RATE_SW.lo))) ∧
    (∀ tb : Nat, s.ComesNext q b p (.tbRearm tb) →
      (s.fld R.TIME_TB_STAT_STEP tb = 2 → exec (.tbRearm q tb) s = .next (State.startReady 24
        (((s'.setFld R.TIME_TB_STAT_STEP tb (ofFlag (s.tbState tb == tbLocked))).raiseOf EV_TB_REARM tb).proceed q))) ∧
      (s.fld R.TIME_TB_STAT_STEP tb ≠ 2 →
        exec (.tbRearm q tb) s = .next (State.startReady 24 ((s'.raiseOf EV_TB_REARM tb).proceed q)))) ∧
    (∀ block unit : Nat, s.ComesNext q b p (.snap block unit) → s.epoch.cutoffDone = false →
      (s.epoch.snapNow.contains (block, unit) = true → exec (.snap q block unit) s = .next (s.goesOn q b.ran)) ∧
      (s.epoch.snapNow.contains (block, unit) = false → s.epoch.snapNow.length < 256 →
        exec (.snap q block unit) s =
          .next (({ s with epoch := { s.epoch with snapNow := s.epoch.snapNow ++ [(block, unit)] } } : State).goesOn q b.ran))) ∧
    (∀ arm : Bool, s.ComesNext q b p (.sprintArm arm) → s.forcedOff R.PWR_SPRINT_STAT_LC 0 = false →
      (arm = true → s.fld R.PWR_SPRINT_STAT_LC 0 = lifeBits .off none →
        exec (.sprintArm q arm) s = .next ((s.setFld R.PWR_SPRINT_STAT_LC 0 (lifeBits .starting none)).goesOn q b.ran)) ∧
      exec (.sprintArm q arm) s = .next (State.startReady 24 ((s'.askSprint arm).proceed q))) ∧
    (∀ duration : Nat, s.ComesNext q b p (.freezePermit duration) →
      (duration = 0 ∨ s.otp.freeze = true → exec (.freezePermit q duration) s =
        .next (({ s with power := { s.power with permitted := duration != 0, permit := duration * 1000000000 * 65536 } } : State).goesOn
          q b.ran)) ∧
      (duration ≠ 0 → s.otp.freeze = false → exec (.freezePermit q duration) s = .next (s.failsAt q b.ran p 6 4 0x0502)))

/-- PAIR.ROLE and PAIR.SWAP (R411, R420). From INIT or FENCED, PAIR.ROLE 1 makes the device ACTIVE unless the peer shows ACTIVE, and
PAIR.ROLE 0 makes it SYNCING with READY 0 and no bulk copy begun; from another role, or with an active peer, it is a CONFLICT with the
codes 0x0402 and 0x0403. PAIR.SWAP is taken by an ACTIVE device whose link is up and whose STANDBY peer is ready. -/
def Obligations.PairOrders : Prop :=
  ∀ (s : State) (q : OrderQueue) (b : Bundle) (p : ProgStep),
    let s' := s.setSlot q b.ran
    (∀ active : Bool, s.ComesNext q b p (.pairRole active) →
      (active = true → s.peerRole = 1 → exec (.pairRole q active) s = .next (s.failsAt q b.ran p 6 4 0x0403)) ∧
      (active = false ∨ s.peerRole ≠ 1 → s.role ≠ 0 → s.role ≠ 4 →
        exec (.pairRole q active) s = .next (s.failsAt q b.ran p 6 4 0x0402)) ∧
      (active = true → s.peerRole ≠ 1 → s.role = 0 ∨ s.role = 4 → exec (.pairRole q active) s = .next (State.startReady 24
        (((s'.setRole 1).updPair (fun r => { r with txOn := true, txOff := false })).settlePair.proceed q)) ∧
        (s'.setRole 1).role = 1) ∧
      (active = false → s.role = 0 ∨ s.role = 4 →
        ∃ t : State, exec (.pairRole q active) s = .next (State.startReady 24 (t.proceed q)) ∧ t.role = 2 ∧
          t.flag R.PAIR_STAT_READY 0 = false ∧ t.pair.bulk = false ∧ t.pair.copy = none)) ∧
    (∀ epoch : Nat, s.ComesNext q b p (.pairSwap epoch) →
      (s.role ≠ 1 → exec (.pairSwap q epoch) s = .next (s.failsAt q b.ran p 6 4 0x0402)) ∧
      (s.role = 1 → s.linkUp = false ∨ s.peerRole ≠ 3 ∨ s.pair.peerReady = false →
        exec (.pairSwap q epoch) s = .next (s.failsAt q b.ran p 6 4 0x0401)) ∧
      (s.role = 1 → s.linkUp = true → s.peerRole = 3 → s.pair.peerReady = true →
        exec (.pairSwap q epoch) s = .next (({ s with pair := { s.pair with swap := some epoch } } : State).goesOn q b.ran)))

/-- The security instructions (R88, R102, R104, R107). FW.LOAD reads its image from host memory, or for the console from its store; an
image without a fault is stored in the spare copy of its slot and noted for entry, and EV_FW_LOADED is raised; any other, or one that cannot be read, raises EV_FW_BAD and
ends the bundle with the fault, flash and slots as they were.
KEY.ENROL burns the digests of a slot that is not enrolled, and KEY.REVOKE revokes a slot while another is in use; each raises
EV_AUTH_KEY; otherwise the bundle ends BAD_ENC with detail 6 and no fuse burns. CHARTER.SET writes a valid record to the copy that is not
installed and installs it, raising EV_AUTH_CHARTER; a bad body ends BAD_ENC, a bad signature BAD_SIG. ATTEST takes the report body as the
device stands, with the nonce, and waits to be signed, at once where no other report is being signed; without the identity key it ends
BAD_SIG with detail 3. When its signature is ready the report goes to its address, in host memory or in the console's store,
EV_ATTEST_DONE is raised, the bundle goes on and the next report is signed; for another queue nothing happens (R111 to R113). -/
def Obligations.SecurityOrders : Prop :=
  (∀ (s : State) (q : OrderQueue) (b : Bundle) (p : ProgStep),
    let s' := s.setSlot q b.ran
    (∀ (slot : Nat) (addr len : Word64) (image : Option (List Byte)), s.ComesNext q b p (.fwLoad slot addr len) →
      let read : Option (List Byte) := if q = .console then
          if addr.toNat + len.toNat ≤ 0x200000 then some (s.storeRead addr.toNat len.toNat) else none
        else image.filter (fun im => im.length == len.toNat)
      (∀ im, read = some im → s.imageFault slot im = none →
        let loaded : State := { s' with
          flash := { s.flash with images := SMap.put s.flash.images (2 * slot + s.spareImage slot) im }
          auth := { s.auth with entering := SMap.put s.auth.entering slot im } }
        exec (.fwLoad q slot addr len image) s = .next (State.startReady 24 ((loaded.raise EV_FW_LOADED slot).proceed q))) ∧
      (∀ im st d, read = some im → s.imageFault slot im = some (st, d) →
        exec (.fwLoad q slot addr len image) s = .next (State.startReady 24
          ((s'.raise EV_FW_BAD slot).endBundle q ⟨st, p.index, d, if st = 5 then b.instrWord p else 0⟩))) ∧
      (read = none → exec (.fwLoad q slot addr len image) s = .next (State.startReady 24
        ((s'.raise EV_FW_BAD slot).endBundle q ⟨5, p.index, 6, b.instrWord p⟩)))) ∧
    (∀ (slot : Nat) (words : List Word64), s.ComesNext q b p (.keyEnrol slot words) →
      let digest := fun (ws : List Word64) => ws.flatMap (fun w => beBytes 8 w.toNat)
      let burned : State := { s' with otp := s.otp.enrol slot (digest (words.take 6)) (digest (words.drop 6)) }
      ((s.otp.slot slot).enrolled = false →
        exec (.keyEnrol q slot words) s = .next (State.startReady 24 ((burned.raise EV_AUTH_KEY slot).proceed q))) ∧
      ((s.otp.slot slot).enrolled = true →
        exec (.keyEnrol q slot words) s = .next (s.failsAt q b.ran p 5 6 (b.instrWord p))) ∧
      (burned.otp.slot slot).enrolled = true ∧ (burned.otp.slot slot).rsa = digest (words.take 6) ∧
      (burned.otp.slot slot).slh = digest (words.drop 6) ∧ ∀ k, k ≠ slot → burned.otp.slot k = s.otp.slot k) ∧
    (∀ slot : Nat, s.ComesNext q b p (.keyRevoke slot) →
      ((s.otp.slot slot).inUse = true → (∃ k, k < 8 ∧ k ≠ slot ∧ (s.otp.slot k).inUse = true) →
        exec (.keyRevoke q slot) s = .next (State.startReady 24
          ((({ s' with otp := s.otp.revoke slot } : State).raise EV_AUTH_KEY slot).proceed q))) ∧
      ((s.otp.slot slot).inUse = false ∨ (∀ k, k < 8 → k ≠ slot → (s.otp.slot k).inUse = false) →
        exec (.keyRevoke q slot) s = .next (s.failsAt q b.ran p 5 6 (b.instrWord p))) ∧
      ((s.otp.revoke slot).slot slot).revoked = true ∧ ∀ k, k ≠ slot → (s.otp.revoke slot).slot k = s.otp.slot k) ∧
    (∀ (source number : Nat) (addr len : Word64), s.ComesNext q b p (.charterSet source number addr len) →
      let i := charterIndex source number
      let r := b.recordHere
      (charterBodyOk i (s.charterSeq i) r = false →
        exec (.charterSet q source number addr len) s = .next (s.failsAt q b.ran p 5 6 (b.instrWord p))) ∧
      (charterBodyOk i (s.charterSeq i) r = true → s.charterSigFault r ≠ 0 →
        exec (.charterSet q source number addr len) s = .next (s.failsAt q b.ran p 4 (s.charterSigFault r) 0)) ∧
      (charterBodyOk i (s.charterSeq i) r = true → s.charterSigFault r = 0 →
        ∃ copy, (copy = 0 ∨ SMap.find s.auth.charterCopy i = some (1 - copy)) ∧
          exec (.charterSet q source number addr len) s = .next (State.startReady 24
            (((({ s' with flash := { s.flash with charters := SMap.put s.flash.charters (2 * i + copy) r } } : State).installCharter
              i copy 2 r).raiseAt EV_AUTH_CHARTER 0 i []).proceed q))))) ∧
  ((∀ (s : State) (q : OrderQueue) (b : Bundle) (p : ProgStep) (nonce : List Word64) (addr limit : Word64),
    s.ComesNext q b p (.attest nonce addr limit) →
    let parked := (s.setSlot q { b.ran with report := some ((s.setSlot q b.ran).reportBody nonce, addr.toNat), phase := .attesting })
    (s.auth.identity = false → exec (.attest q nonce addr limit) s = .next (s.failsAt q b.ran p 4 3 0)) ∧
    (s.auth.identity = true → s.auth.signing ≠ none → exec (.attest q nonce addr limit) s = .next (State.startReady 24 parked)) ∧
    (s.auth.identity = true → s.auth.signing = none → exec (.attest q nonce addr limit) s = .next (State.startReady 24
      { parked with auth := { s.auth with signing := some (queueUnit q) } }))) ∧
  (∀ (s : State) (q : OrderQueue) (b : Bundle) (body : List Byte) (addr : Nat), s.Acts → s.slot q = some b → b.phase = .attesting →
    b.report = some (body, addr) →
    (s.auth.signing ≠ some (queueUnit q) → exec (.attestSigned q) s = .next (State.startReady 24 s)) ∧
    (s.auth.signing = some (queueUnit q) →
      let signed := s.signReport body
      let out := if q = .console then signed.2.storeWrite addr signed.1 else signed.2.emit (.hostBytes addr signed.1)
      let done := (((out.setSlot q { b with report := none }).raise EV_ATTEST_DONE 0).proceed q)
      exec (.attestSigned q) s = .next (State.startReady 24 { done with auth := { done.auth with signing := done.nextReport } }))))

/-! ### Commits and the edge -/

/-- What the staged writes do when their commit applies. A SET changes in its register the OW bits under its mask and no other bit (R70);
AUTH_OTP_CTL burns fuses and PWR_FREEZE_CTL freezes a device that permits it instead. An indexed return of CELL_QUAR_RET joins the cells
to scrub. PORT.UP records the form of a port that is Off and requests it; PORT.DOWN requests it Off. LANE.CFG sets its parameter, and a
floor or THIN_PARK moves what its port has parked (R143); RECAL calibrates a lane that is not On at the temperature as it stands and takes
one that is On out of service (R131), CHK_CLEAR zeroes the counts of the checker, INJ_FIRE injects, TEST_EN requests a lane that no port
has, GEN starts a generator from ones. TU.MAP sets both labels. METER.CFG, RSV.DECL and PULSE.SET store what they name; a withdrawn
declaration is gone. -/
def Obligations.AppliedWrites : Prop :=
  (∀ (r : RegSpec) (old value mask i : Nat),
    (setMerge r old value mask).testBit i = if (mask &&& owBits r).testBit i then value.testBit i else old.testBit i) ∧
  (∀ (s : State) (ver off : Nat) (w64 : Bool) (value mask : Word64) (r : RegSpec) (n v m : Nat),
    setTarget off w64 value.toNat mask.toNat = some (r, n, v, m) → r ≠ R.AUTH_OTP_CTL → r ≠ R.PWR_FREEZE_CTL →
    s.applyItem ver (.set off w64 false value mask) =
      (s.setReg r n (setMerge r (s.reg r n) v m)).afterSet r n (s.reg r n) m) ∧
  (∀ (s : State) (ver : Nat) (value mask : Word64),
    s.applyItem ver (.set 0x60030 false false value mask) =
      if value.toNat % 2 = 1 ∧ mask.toNat % 2 = 1 ∧ s.otp.freeze = true ∧ s.power.permitted = true then s.freeze 2 else s) ∧
  (∀ (s : State) (ver : Nat) (value mask : Word64),
    (bit value.toNat 8 = true → bit mask.toNat 8 = true →
      (s.applyItem ver (.set 0x20020 false false value mask)).otp.freeze = true) ∧
    (s.otp.rollback < 128 → (s.applyItem ver (.set 0x20020 false false value mask)).otp.rollback =
      max s.otp.rollback ((s.otp.rollback &&& (127 - bits mask.toNat 6 0)) ||| (bits value.toNat 6 0 &&& bits mask.toNat 6 0)))) ∧
  (∀ (s : State) (ver index : Nat), index < 2 ^ 20 →
    (s.applyItem ver (.set 0xC0001C false false (BitVec.ofNat 64 index) 0xFFFFF)).scrub = s.scrub ++ [index]) ∧
  (∀ (s : State) (ver port lane lanes speed fec mode : Nat),
    (s.portLife port ≠ .off → s.applyItem ver (.portUp port lane lanes speed fec mode) = s.askPort port true) ∧
    (s.portLife port = .off →
      ∃ t : State, s.applyItem ver (.portUp port lane lanes speed fec mode) = t.askPort port true ∧
        t.fld R.PORT_STAT_FIRST_LANE port = lane % 512 ∧ t.fld R.PORT_STAT_LANES port = lanes % 4 ∧
        t.fld R.PORT_STAT_SPEED port = speed % 8 ∧ t.fld R.PORT_STAT_FEC port = fec % 2 ∧ t.fld R.PORT_STAT_MODE port = mode % 4 ∧
        (t.port port).place = some lane ∧ RegistersBut [R.PORT_STAT.addr port] s t) ∧
    s.applyItem ver (.portDown port) = s.askPort port false) ∧
  (∀ (s : State) (ver lane value : Nat), lane < 512 →
    let reparked := fun (t : State) => match s.portOfLane lane with
      | none => t
      | some p => t.repark p
    s.applyItem ver (.laneCfg lane 0x00 value) = reparked (s.setFld R.LANE_CFG_TX_FLOOR lane value) ∧
    s.applyItem ver (.laneCfg lane 0x01 value) = reparked (s.setFld R.LANE_CFG_RX_FLOOR lane value) ∧
    s.applyItem ver (.laneCfg lane 0x24 value) = reparked (s.setFld R.LANE_THIN_PARK lane value) ∧
    s.applyItem ver (.laneCfg lane 0x10 value) =
      (s.setFld R.LANE_CFG_LOOPBACK lane value).updLane lane (fun l => { l with injDue := 0 }) ∧
    s.applyItem ver (.laneCfg lane 0x21 value) = s.setFld R.LANE_THIN_LOW lane value ∧
    s.applyItem ver (.laneCfg lane 0x22 value) = s.setFld R.LANE_THIN_HIGH lane value ∧
    (s.laneOn lane = false →
      s.applyItem ver (.laneCfg lane 0x06 value) = s.updLane lane (fun l => { l with calTemp := s.junction })) ∧
    (s.laneOn lane = true → s.applyItem ver (.laneCfg lane 0x06 value) = s.recalLane lane) ∧
    s.applyItem ver (.laneCfg lane 0x17 value) = s.injectFire lane ∧
    s.applyItem ver (.laneCfg lane 0x18 value) = (s.setFld R.LANE_CHK_BITS_COUNT lane 0).setFld R.LANE_CHK_ERRS_COUNT lane 0 ∧
    (s.portOfLane lane = none →
      s.applyItem ver (.laneCfg lane 0x07 value) = (s.setFld R.LANE_CFG_TEST_EN lane value).askLane lane (value == 1) ∧
      s.applyItem ver (.laneCfg lane 0x11 value) =
        ((s.setFld R.LANE_TEST_GEN_PAT lane value).setFld R.LANE_TEST_GEN_INV lane (value / 8)).updLane lane (fun l =>
          { l with gen := if value % 8 = 0 then [] else List.replicate 31 true, genPos := 0, injDue := 0 })) ∧
    (s.portOfLane lane ≠ none → s.applyItem ver (.laneCfg lane 0x07 value) = s.raiseOf EV_LANE_CFG_IGNORED lane)) ∧
  (∀ (s : State) (ver lane tu label : Nat), s.stfLane lane = false →
    s.applyItem ver (.tuMap lane tu label) =
      (s.setFld R.STF_TU_LABEL_TX_LABEL (tuKey lane tu) label).setFld R.STF_TU_LABEL_EXP_LABEL (tuKey lane tu) label) ∧
  (∀ (s : State) (ver meter alg : Nat) (aware : Bool) (w0 w1 : Word64),
    let t := s.applyItem ver (.meterCfg meter alg aware w0 w1)
    (t.meter meter).alg = alg ∧ (t.meter meter).aware = aware ∧ (t.meter meter).w0 = w0 ∧ (t.meter meter).w1 = w1 ∧
    (∀ m, m ≠ meter → t.meter m = s.meter m) ∧ t = { s with meters := t.meters }) ∧
  (∀ (s : State) (ver flow meter queue : Nat) (w0 w1 : Word64),
    s.applyItem ver (.rsvDecl flow meter queue false w0 w1) = { s with flows := SMap.put s.flows flow (flowOf meter queue w0 w1) } ∧
    s.applyItem ver (.rsvDecl flow meter queue true w0 w1) = { s with flows := SMap.del s.flows flow }) ∧
  (∀ (s : State) (ver tpo tb : Nat) (train : Bool) (sec ns period : Word64), s.life R.TIME_TPO_STAT_LC tpo = .off → tpo < 16 →
    let t := s.applyItem ver (.pulseSet tpo tb false train sec ns period)
    t.fld R.TIME_TPO_CFG_TB tpo = tb % 8 ∧ t.flag R.TIME_TPO_CFG_TRAIN tpo = train ∧
    t.reg R.TIME_TPO_START_NS tpo = ns.toNat ∧ t.reg R.TIME_TPO_PERIOD tpo = period.toNat ∧ OnlyRegisters s t)

/-- Acknowledgements and their window (R27, R29, R145, R152). An acknowledgement from an island that is outstanding, and that withholds
nothing, is taken: the island leaves the outstanding ones. Any other changes nothing. A window that expires with nothing missing changes
nothing; the first expiry names the lowest outstanding island, raises EV_COMMIT_INCOMPLETE, withdraws what is staged and marks the
commit to be sent again at the next edge; the second raises EV_COMMIT_ABORT and ends the bundle. -/
def Obligations.Acknowledgements : Prop :=
  (∀ (s : State) (q : OrderQueue) (i : Fin 40) (c : Commit), s.Acts → s.commitOf q = some c →
    (c.resend = false → bit c.outstanding i.val = true → s.withholds i.val c.items = false → c.paired = none →
      exec (.islandAck q i) s = .next { s with bureau := { s.bureau with
        commits := s.bureau.commits.map (fun d => if d.id = c.id then
          { c with outstanding := withBits c.outstanding i.val i.val 0, lastAcks := 2 ^ i.val } else d) } } ∧
      bit (withBits c.outstanding i.val i.val 0) i.val = false ∧
      ∀ j, j ≠ i.val → bit (withBits c.outstanding i.val i.val 0) j = bit c.outstanding j) ∧
    (c.resend = true ∨ bit c.outstanding i.val = false ∨ s.withholds i.val c.items = true →
      exec (.islandAck q i) s = .next s)) ∧
  (∀ (s : State) (q : OrderQueue) (c : Commit), s.Acts → s.commitOf q = some c →
    (c.resend = true ∨ c.incomplete = false → exec (.ackWindowExpiry q) s = .next (State.startReady 24 s)) ∧
    (∀ (island : Nat) (others : List Nat), c.resend = false → c.incomplete = true → onesOf 40 c.outstanding = island :: others →
      let named := s.setFld R.DEV_EPOCH_STAT_ISLAND 0 island
      (c.attempt = 1 →
        let withdrawn := ((named.raiseAt EV_COMMIT_INCOMPLETE 0 0 [island]).leafRestore c.id).unstage c.id
        exec (.ackWindowExpiry q) s = .next (State.startReady 24 { withdrawn with bureau := { withdrawn.bureau with
          commits := withdrawn.bureau.commits.map (fun d => if d.id = c.id then
            { c with outstanding := 0, resend := true, expired := some island, edge := none, peerReady := false } else d) } })) ∧
      (c.attempt ≠ 1 → exec (.ackWindowExpiry q) s = .next (State.startReady 24
        ((named.raiseAt EV_COMMIT_ABORT 0 0 [island]).failCommit c 9 2 island)))))

/-- The cutoff and the epoch edge (R13 to R31). The cutoff comes 10 µs before the edge, once: the commits of which nothing is missing and
whose named epoch has come are settled on the coming edge. The edge comes at its count of TB0, reports what it did, and is the only thing
that counts epochs here: EPOCH advances by one and the next edge lies 125 µs on. A commit of versioned writes makes the version advance by
one, and one more version live; others leave it. A retirement makes one less live, the oldest one by one. -/
def Obligations.CutoffAndEdge : Prop :=
  (∀ s : State, s.Acts → s.epoch.cutoffDone = true → exec .edgeCutoff s = .next (State.startReady 24 s)) ∧
  (∀ s : State, s.Acts → s.epoch.cutoffDone = false →
    exec .edgeCutoff s = .next (State.startReady 24 (s.advanceUntil 0 (s.epoch.target - 10000 * nsUnits)).cutoff)) ∧
  (∀ s : State, s.role = 0 → s.fld R.DEV_VERSION_LIVE 0 < 4 →
    (∀ c ∈ s.bureau.commits, c.leafSwap = false) →
    s.cutoff = { s with
      bureau := { s.bureau with commits := s.bureau.commits.map (fun c =>
        if s.carries c then { c with edge := some (s.epochNum + 1) } else c) }
      epoch := { s.epoch with cutoffDone := true } }) ∧
  (∀ (s : State) (freqs : List (Fin 512 × Int)), s.Acts →
    exec (.epochEdge freqs) s = .next (State.startReady 24 (s.edge freqs)) ∧
    (∃ board delta : Bool, (s.edge freqs).fld R.DEV_EPOCH_STAT_LAST_ACT 0 =
      actionField (s.settled.chosen.any (fun c => c.items.any versioned)) (s.settled.chosen.any (fun c => c.items.all (fun i => !versioned i) || c.items.any (fun i => !versioned i &&
          (match i with
          | .leafWr .. => false
          | _ => true))))
        (s.settled.chosen.any (fun c => c.leafSwap)) (!s.settled.epoch.snapNow.isEmpty) board delta
        (s.settled.retires (s.settled.tbGet 0).free))) ∧
  (∀ s : State, s.pair.marker = none → s.linkUp = false →
    s.countEdge.epochNum = (s.epochNum + 1) % 2 ^ 48 ∧ s.countEdge.epoch.target = s.epoch.target + 125000 * nsUnits ∧
    s.countEdge.epoch.cutoffDone = false ∧ RegistersBut [R.DEV_EPOCH_NUM.addr 0] s s.countEdge) ∧
  (∀ s : State, s.advanceVersion.version = (s.version + 1) % 256 ∧
    s.advanceVersion.fld R.DEV_VERSION_LIVE 0 = (s.fld R.DEV_VERSION_LIVE 0 + 1) % 8 ∧ s.advanceVersion.oldest = s.oldest) ∧
  (∀ s : State, (s.retireOldest).oldest = (s.oldest + 1) % 256 ∧ s.retireOldest.fld R.DEV_VERSION_LIVE 0 = (s.fld R.DEV_VERSION_LIVE 0 - 1) % 8 ∧
    s.retireOldest.epoch.retire = s.epoch.retire.drop 1) ∧
  (∀ (s : State) (count : Nat), s.applyEdge [] count = s)

/-! ### Frames -/

/-- The receive MAC. A port that takes no frame changes nothing. A frame that fails a check counts in the counter of the first check that
it fails and goes no further; one whose cells are in the buffer already fails there. A good data frame of a port with room joins its input
store with its receive stamps, behind the frames that are there; a 65th is discarded and counted at the arbiter. A good PFC or PAUSE frame
waits to be acted on; another MAC control frame is counted and ends there. Under a near-end loopback the port takes the frames that it has
sent, and a far-end loopback sends out what the port receives (R140). -/
def Obligations.FrameReception : Prop :=
  (∀ (s : State) (p : Fin 1024) (bytes : List Byte) (codeError truncated : Bool) (badBlocks time : Nat), s.Acts →
    let s' := s.advance time
    let plain := s'.portNearLoop p.val = false ∧ s'.portFarLoop p.val = false
    let maxFrame := s'.fld R.PORT_CFG_MAX_FRAME p.val
    let blocks := if badBlocks = 0 ∨ isChannel p.val = true then s' else s'.portCount p.val 30 badBlocks
    let seen := blocks.portCount p.val 11 (min bytes.length (maxFrame + 1))
    let control := be16At bytes (typeOffset bytes) = 0x8808
    let op := be16At bytes (typeOffset bytes + 2)
    let good := (seen.portCount p.val (sizeBucket bytes.length) 1).portCount p.val 10 bytes.length
    let known := good.portCount p.val (12 + min 2 (addressKind bytes)) 1
    let counted := if lengthWrong bytes = true then known.portCount p.val 25 1 else known
    let c := Instr.frameReceive p bytes codeError truncated badBlocks time
    (plain → s'.receives p.val = false → exec c s = .next s') ∧
    (plain → s'.receives p.val = true →
      (∀ i, rxFailure bytes maxFrame codeError truncated = some i →
        ((s'.port p.val).arriving = none → exec c s = .next (seen.portCount p.val i 1)) ∧
        (∀ a, (s'.port p.val).arriving = some a → exec c s = .next ((seen.portCount p.val i 1).failFrame p.val a))) ∧
      (rxFailure bytes maxFrame codeError truncated = none → ∀ a, (s'.port p.val).arriving = some a →
        exec c s = .next (counted.finishFrame p.val a bytes)) ∧
      (rxFailure bytes maxFrame codeError truncated = none → (s'.port p.val).arriving = none →
        (¬ control → exec c s = .next (counted.store p.val (counted.stamped p.val bytes))) ∧
        (control → op = 0x0001 → exec c s = .next ((good.portCount p.val 15 1).updPort p.val (fun q =>
          { q with control := q.control ++ [.pause (be16At bytes (typeOffset bytes + 4))] }))) ∧
        (control → op = 0x0101 → beNat (bytes.take 6) = 0x0180C2000001 →
          exec c s = .next ((good.portCount p.val 16 1).updPort p.val (fun q =>
            { q with control := q.control ++ [.pfc (be16At bytes (typeOffset bytes + 4))
              ((List.range 8).map (fun i => be16At bytes (typeOffset bytes + 6 + 2 * i)))] }))) ∧
        (control → op = 0x0101 → beNat (bytes.take 6) ≠ 0x0180C2000001 → exec c s = .next (good.portCount p.val 16 1)) ∧
        (control → op ≠ 0x0001 → op ≠ 0x0101 → exec c s = .next (good.portCount p.val 17 1)))) ∧
    (s'.portNearLoop p.val = true →
      ((s'.port p.val).looped = [] → exec c s = .next s') ∧
      (∀ own rest, (s'.port p.val).looped = own :: rest → exec c s =
        .next ((s'.updPort p.val (fun q => { q with looped := rest })).receiveFrame p.val own codeError truncated badBlocks))) ∧
    (s'.portNearLoop p.val = false → s'.portFarLoop p.val = true → exec c s =
      .next ((s'.emit (.frame p.val (lineBytes bytes))).receiveFrame p.val bytes codeError truncated badBlocks))) ∧
  (∀ (s : State) (p : Nat) (f : Stored),
    ((s.port p).input.length < 64 → ((s.store p f).port p).input = (s.port p).input ++ [f]) ∧
    (64 ≤ (s.port p).input.length → ((s.store p f).port p).input = (s.port p).input))

/-- The ingress pipeline takes the oldest frame of the input store: with an empty store nothing happens; a frame that no TCAM entry
matches, or whose action is DISCARD, ends there, counted; one whose action asks for it is inspected, and a forwarded one goes through its
action. A frame that still arrives goes on with its next cells, within MAX_FRAME. The pattern engine scans the oldest frame of the reserved
queue that waits behind no earlier frame of its port, or where there is none the oldest of the other queue, counts it and its bytes, and
gives it its second pass with the groups that it found; an engine that is Off or Starting, or has no frame, does nothing. -/
def Obligations.IngressPipeline : Prop :=
  ((∀ (s : State) (p : Fin 1024) (errors : List (Nat × Bool)) (time : Nat), s.Runs →
    let s' := (s.advance time).tblErrors ((s.advance time).pipeOf p.val) errors
    ((s'.port p.val).input = [] → exec (.frameIngress p none errors time) s = .next s') ∧
    (∀ (f : Stored) (rest : List Stored), (s'.port p.val).input = f :: rest →
      let taken := s'.updPort p.val (fun q => { q with input := rest })
      let pl := taken.pipeOf p.val
      let counted := taken.pipeCount pl 0 1
      ((counted.classify p.val f).2 = none → exec (.frameIngress p none errors time) s = .next
        ((counted.pipeCount pl 1 1).raiseOnce EV_TCAM_NO_MATCH pl pl pl [])) ∧
      (∀ i a, (counted.classify p.val f).2 = some (i, a) → actionBits a 0 59 59 = 1 → (counted.classify p.val f).1.vector.cause = 0 →
        exec (.frameIngress p none errors time) s = .next (counted.inspect pl f.bytes (counted.classify p.val f).1 i a)) ∧
      (∀ i a, (counted.classify p.val f).2 = some (i, a) → actionBits a 0 59 59 = 0 ∨ (counted.classify p.val f).1.vector.cause ≠ 0 →
        exec (.frameIngress p none errors time) s =
          .next (counted.resolve pl f.bytes none (counted.classify p.val f).1 a))) ∧
    (∀ (got : Nat) (bytes : List Byte), s'.portNearLoop p.val = false →
      let held := min got (s'.fld R.PORT_CFG_MAX_FRAME p.val / 256 * 256)
      held ≠ 0 → held % 256 = 0 → held < bytes.length →
      (∀ a : Arriving, (s'.port p.val).arriving = some a →
        (a.got < held → exec (.frameIngress p (some (got, bytes)) errors time) s =
          .next (s'.continueFrame p.val a ((bytes.take held).drop a.got))) ∧
        (held ≤ a.got → exec (.frameIngress p (some (got, bytes)) errors time) s = .next s')) ∧
      ((s'.port p.val).arriving = none → s'.receives p.val = true → (s'.port p.val).input = [] →
        exec (.frameIngress p (some (got, bytes)) errors time) s = .next (s'.ingressEarly p.val (s'.stamped p.val bytes) held)))) ∧
  (∀ (s : State) (pl : Nat) (bytes : List Byte) (info : FrameInfo) (a : List Word64), actionBits a 0 63 60 = 1 → actionBits a 2 63 63 = 0 →
    (s.resolve pl bytes none info a) = s.pipeCount pl 2 1)) ∧
  (∀ (s0 : State) (pl : Fin 8) (errors : List (Nat × Bool)), s0.Runs →
    let s := s0.tblErrors pl.val errors
    let reserved := SMap.get [] s.scans (2 * pl.val)
    let others := SMap.get [] s.scans (2 * pl.val + 1)
    let scanned := fun (k : Nat) (f : Scan) =>
      let window := scanWindow (f.bytes.take (f.bytes.length - 4)) f.info.vector
      let left := (SMap.get [] s.scans k).filter (fun g => g.order != f.order)
      let t := ((({ s with scans := SMap.set [] s.scans k left } : State).pipeCount pl.val 7 1).pipeCount pl.val 8 window.length)
      t.secondPass pl.val f.bytes f.info f.index f.action (t.groupVector pl.val f.info.version window)
    ((s.life R.PIPE_PAT_STAT_LC pl.val = .on ∨ s.life R.PIPE_PAT_STAT_LC pl.val = .stopping) →
      (∀ (f : Scan) (rest : List Scan), reserved = f :: rest →
        (∀ g ∈ others, g.info.inPort = f.info.inPort → f.order ≤ g.order) →
        exec (.patternScan pl errors) s0 = .next (scanned (2 * pl.val) f)) ∧
      (∀ (f : Scan) (rest : List Scan), others = f :: rest →
        (∀ r ∈ reserved, ∃ g ∈ others, g.info.inPort = r.info.inPort ∧ g.order < r.order) →
        exec (.patternScan pl errors) s0 = .next (scanned (2 * pl.val + 1) f))) ∧
    ((reserved = [] ∧ others = []) ∨ s.life R.PIPE_PAT_STAT_LC pl.val = .off ∨ s.life R.PIPE_PAT_STAT_LC pl.val = .starting →
      exec (.patternScan pl errors) s0 = .next s))

/-- The scheduler starts the next copy of a port that sends none: the copy leaves its queue and its first cell is read next. A copy that
is too old, or of a version that is retired, is discarded and counted in DEV_LIFETIME_DROPS; one whose head cell cannot be read, or whose
egress action says so, is discarded too, and so is one that its edits, the egress action's among them, make longer than MAX_FRAME; an egress
mirror copy is made before the head is read. While a frame is on the wire or a PFC frame is due, or without a link or a copy to take,
nothing starts. Then a Stopping port is looked at. The timestamp FIFO of a port (R397, R398): the timestamp point of a frame with a tag
writes its record at WR and WR advances, once for the frame; with 64 records unread the record is lost and counted, and EV_TSF_OVF
raised. -/
def Obligations.EgressPort : Prop :=
  ((∀ (s : State) (p : Fin 1024) (fault : Option CellFault) (time point : Nat), s.Runs →
    let s' := s.advance time
    let settled := fun t : State => exec (.frameDequeue p fault time point) s = .next (t.settlePort p.val)
    ((s'.port p.val).sending ≠ none ∨ (s'.port p.val).pfcDue = true ∨ s'.flag R.PORT_STAT_LINK_UP p.val = false ∨ s'.choose p.val = none →
      settled s') ∧
    (∀ (q : Nat) (c : Copy) (t : State), (s'.port p.val).sending = none → (s'.port p.val).pfcDue = false →
      s'.choose p.val = some (q, c, t) →
      (t.expired c.info = true →
        settled (((t.readLink c.head fault).2.discardHead p.val q c).bump R.DEV_LIFETIME_DROPS_COUNT 0 1)) ∧
      (∀ a : Option (List Word64), t.expired c.info = false → t.egressAction p.val q c = a →
        let edits := c.info.edits ++ (a.map (fun w => w.getD 1 0)).toList
        let mirrored := if actionBits (a.getD []) 2 63 63 = 1 then t.egressMirror (actionBits (a.getD []) 2 62 59) c edits else t
        let read := mirrored.readCell c.head fault
        (read.1 = false → settled (read.2.discardHead p.val q c)) ∧
        (read.1 = true →
          (actionBits (a.getD []) 0 63 60 = 1 →
            settled ((read.2.discardHead p.val q c).pipeCount (read.2.pipeOf p.val) 3 1)) ∧
          (actionBits (a.getD []) 0 63 60 ≠ 1 → c.wireLen edits ≤ read.2.fld R.PORT_CFG_MAX_FRAME p.val →
            settled (read.2.startCopy p.val q point c edits)) ∧
          (actionBits (a.getD []) 0 63 60 ≠ 1 → read.2.fld R.PORT_CFG_MAX_FRAME p.val < c.wireLen edits →
            settled ((read.2.discardHead p.val q c).portCount p.val 52 1)))))) ∧
  (∀ (t : State) (c : Nat), t.readCell c none = (!(t.cell c).lost && !(t.cell c).marked, t)) ∧
  (∀ (t : State) (p q point : Nat) (c : Copy) (edits : List Word64), ∃ snd,
    ((t.startCopy p q point c edits).port p).sending = some snd ∧ snd.cell = c.head ∧ snd.gen = c.gen ∧ snd.taken = 0 ∧ snd.raw = [] ∧
      snd.cut = c.frame.isSome ∧ snd.started = c.frame.isNone ∧ snd.stamped = false) ∧
  (∀ (s : State) (p : Nat), s.portLife p ≠ .stopping → s.settlePort p = s)) ∧
  (∀ (s : State) (p : Fin 512) (time : Nat), s.Acts →
    let s' := s.advance time
    let wr := s'.fld R.PORT_TSF_WR_WR p.val
    let unread := (wr + 65536 - s'.fld R.PORT_TSF_RD_RD p.val) % 65536
    (∀ t : Sending, (s'.port p.val).sending = some t → (t.copy.stamp = none ∨ t.stamped = true) →
      exec (.timestampPoint p time) s = .next s') ∧
    ((s'.port p.val).sending = none → exec (.timestampPoint p time) s = .next s') ∧
    (∀ (t : Sending) (tag : Nat), (s'.port p.val).sending = some t → t.copy.stamp = some tag → t.stamped = false → unread ≠ 64 →
      ∃ u, exec (.timestampPoint p time) s = .next u ∧ u.fld R.PORT_TSF_WR_WR p.val = (wr + 1) % 65536 ∧
        (u.port p.val).sending = some { t with stamped := true } ∧ (u.port p.val).lost = 0 ∧
        bits (u.reg R.PORT_TSF_REC (128 * p.val + 2 * (wr % 64))) 15 0 = tag % 65536 ∧
        RegistersBut [R.PORT_TSF_REC.addr (128 * p.val + 2 * (wr % 64)), R.PORT_TSF_REC.addr (128 * p.val + 2 * (wr % 64) + 1),
          R.PORT_TSF_WR.addr p.val] s' u) ∧
    (∀ (t : Sending) (tag : Nat), (s'.port p.val).sending = some t → t.copy.stamp = some tag → t.stamped = false → unread = 64 →
      exec (.timestampPoint p time) s = .next ((((s'.updPort p.val (fun u => { u with sending := some { t with stamped := true } })).bump
        R.PORT_TSF_OVF_COUNT p.val 1).updPort p.val (fun u => { u with lost := min 65535 (u.lost + 1) })).raiseOnce EV_TSF_OVF
          p.val p.val p.val [])))

/-- Cells. A release under the generation of a cell that is held takes one reference away; under another generation, or of a cell that
nobody holds, it changes no cell and is counted with its event; one whose link entry is lost releases nothing. The last cell of a frame on
the wire puts the frame out, with its FCS: behind its preamble on an Ethernet port, behind its header in the stream of a packet channel. An
underrun of a cut-through frame ends it with an inverted FCS, counts it and raises THRESH by one, but not beyond 8. A cache below 256
entries is refilled; a fuller one is left alone. -/
def Obligations.CellTraffic : Prop :=
  (∀ (s : State) (p : Fin 1024) (cell gen : Nat) (fault : Option CellFault), s.Runs →
    (∀ t, (s.port p.val).sending = some t → t.cell ≠ cell ∨ t.gen ≠ gen) →
    let u := (s.readLink cell fault).2
    ((s.readLink cell fault).1 = false → exec (.cellRelease p cell gen fault) s = .next u) ∧
    ((s.readLink cell fault).1 = true →
      ((u.cell cell).gen = gen → 2 ≤ (u.cell cell).refcnt →
        exec (.cellRelease p cell gen fault) s = .next (u.setCell cell { u.cell cell with refcnt := (u.cell cell).refcnt - 1 })) ∧
      ((u.cell cell).gen = gen → (u.cell cell).refcnt = 1 → (u.cell cell).marked = false →
        exec (.cellRelease p cell gen fault) s = .next ((u.setCell cell { u.cell cell with refcnt := 0 }).giveCell cell)) ∧
      ((u.cell cell).gen = gen → (u.cell cell).refcnt = 1 → (u.cell cell).marked = true →
        exec (.cellRelease p cell gen fault) s =
          .next ((u.setCell cell { u.cell cell with refcnt := 0, marked := false }).quarantineCell cell)) ∧
      ((u.cell cell).gen ≠ gen →
        exec (.cellRelease p cell gen fault) s =
          .next ((u.cellCount 2 1).raiseOnce EV_CELL_FOREIGN 0 0 0 [cell, gen, (u.cell cell).gen])) ∧
      ((u.cell cell).gen = gen → (u.cell cell).refcnt = 0 →
        exec (.cellRelease p cell gen fault) s =
          .next ((u.cellCount 3 1).raiseOnce EV_CELL_DFREE 0 0 0 [cell, gen, (u.cell cell).gen])))) ∧
  (∀ (s : State) (cell : Nat),
    ((s.cell cell).lost = true → ∀ fault, s.readLink cell fault = (false, s)) ∧
    ((s.cell cell).lost = false → s.readLink cell none = (true, s) ∧
      s.readLink cell (some .linkCorrected) = (true, s.cellCount 6 1) ∧ (s.readLink cell (some .linkLost)).1 = false ∧
      ((s.readLink cell (some .linkLost)).2.cell cell).lost = true)) ∧
  (∀ (s : State) (p : Fin 1024) (t : Sending) (fault : Option CellFault), s.Runs → (s.port p.val).sending = some t →
    exec (.cellRelease p t.cell t.gen fault) s = .next ((s.sendCell p.val t fault).settlePort p.val)) ∧
  (∀ (s : State) (p : Fin 1024) (t : Sending),
    ((s.finishSending p.val t).port p.val).sending = none ∧
    (isChannel p.val = true →
      ((s.finishSending p.val t).channel p.val).tx = (s.channel p.val).tx ++ headerBytes t.bytes.length ++ t.bytes) ∧
    (isChannel p.val = false →
      (s.txLanes p.val).any (fun n =>
        s.fld R.LANE_TEST_GEN_PAT n != 0 || s.fld R.LANE_CFG_LOOPBACK n == 3 || (s.lane n).outOfService) = false →
      (s.finishSending p.val t).out = s.out ++ [.frame p.val (List.replicate 7 0x55 ++ [0xD5] ++ t.bytes)])) ∧
  (∀ (s : State) (p : Fin 1024), s.Runs →
    ((s.port p.val).sending = none → exec (.underrun p) s = .next (s.settlePort p.val)) ∧
    (∀ t : Sending, (s.port p.val).sending = some t →
      (t.copy.frame ≠ none → t.started = true → t.taken + 1 = t.copy.cells →
        let ended := ((s.stomp p.val t (s.cell t.cell).data).portCount p.val 50 1).raiseOnce EV_PORT_UNDERRUN p.val p.val p.val []
        exec (.underrun p) s = .next (((ended.raiseThreshold p.val).setFld R.PORT_CT_THRESH_CLEAN p.val 0).settlePort p.val)) ∧
      (t.copy.frame = none ∨ t.started = false ∨ t.taken + 1 ≠ t.copy.cells → exec (.underrun p) s = .next (s.settlePort p.val)))) ∧
  (∀ (s : State) (p : Nat), s.fld R.PORT_CT_THRESH_THRESH p < 8 → s.fld R.PORT_CT_THRESH_THRESH p ≠ 7 →
    s.raiseThreshold p = s.setFld R.PORT_CT_THRESH_THRESH p (s.fld R.PORT_CT_THRESH_THRESH p + 1)) ∧
  (∀ (s : State) (p : Nat), s.fld R.PORT_CT_THRESH_THRESH p = 8 → s.raiseThreshold p = s) ∧
  (∀ (s : State) (q : Fin 4), s.Runs →
    (256 ≤ runsLen (s.cupboard q.val).cache → exec (.cupboardRefill q) s = .next s) ∧
    (runsLen (s.cupboard q.val).cache < 256 → runsLen (s.cupboard q.val).ring ≠ 0 →
      exec (.cupboardRefill q) s = .next (s.setCupboard q.val {
        cache := (s.cupboard q.val).cache ++ (runsTake 128 (s.cupboard q.val).ring).1
        ring := (runsTake 128 (s.cupboard q.val).ring).2 })))

/-- PAUSE and PFC. A PAUSE frame that the port obeys loads the timers of all eight priorities with its time, and a PFC frame those that it
enables and RX_EN allows; a timer with a time pauses its priority, one with 0 releases it, and its expiry releases it too. A frame kept by
the MAC is acted on in its turn. A PFC frame that is due is sent while the link is up and the wire free, and again half of QUANTA later
while a priority stays asserted; behind a frame in progress the second one falls due. An FEC codeword with up to 15 symbol errors is corrected and counted. -/
def Obligations.FlowControl : Prop :=
  (∀ (s : State) (p : Fin 1024) (quanta : Nat) (rest : List Control), s.Acts → (s.port p.val).control = .pause quanta :: rest →
    let t := s.updPort p.val (fun q => { q with control := rest })
    (t.flag R.PORT_CFG_PAUSE_RX_EN p.val = false → exec (.pauseFrameReceive p) s = .next t) ∧
    (t.flag R.PORT_CFG_PAUSE_RX_EN p.val = true → exec (.pauseFrameReceive p) s =
      .next ((List.range 8).foldl (State.loadPause p.val quanta) (t.countIgnored p.val (fun _ => true)))) ∧
    exec (.pfcFrameReceive p) s = .next s) ∧
  (∀ (s : State) (p : Fin 1024) (enable : Nat) (times : List Nat) (rest : List Control), s.Acts →
    (s.port p.val).control = .pfc enable times :: rest →
    let t := s.updPort p.val (fun q => { q with control := rest })
    let on := onesOf 8 (enable &&& s.fld R.PORT_PFC_RX_EN p.val)
    exec (.pfcFrameReceive p) s =
      .next (on.foldl (fun s k => s.loadPause p.val (times.getD k 0) k) (t.countIgnored p.val (fun k => on.contains k))) ∧
    exec (.pauseFrameReceive p) s = .next s) ∧
  (∀ (s : State) (p k quanta : Nat), k < 8 →
    let t := State.loadPause p quanta s k
    SMap.get 0 (t.port p).pause k = quanta ∧ (t.fld R.PORT_PFC_STAT_PAUSED p).testBit k = decide (quanta ≠ 0) ∧
    (∀ j, j ≠ k → SMap.get 0 (t.port p).pause j = SMap.get 0 (s.port p).pause j) ∧
    (∀ j, j < 8 → j ≠ k → (t.fld R.PORT_PFC_STAT_PAUSED p).testBit j = (s.fld R.PORT_PFC_STAT_PAUSED p).testBit j)) ∧
  (∀ (s : State) (p : Fin 1024) (k : Fin 8), s.Acts → exec (.pauseTimerExpiry p k) s = .next (State.loadPause p.val 0 s k.val)) ∧
  (∀ (s : State) (p : Fin 1024), s.Acts →
    (s.flag R.PORT_STAT_LINK_UP p.val = true → (s.port p.val).sending = none →
      ((s.port p.val).pfcDue = true → exec (.pfcFrameSend p) s = .next (s.sendPfc p.val)) ∧
      ((s.port p.val).resend = true → exec (.pfcResend p) s = .next (s.sendPfc p.val))) ∧
    (s.flag R.PORT_STAT_LINK_UP p.val = true → (s.port p.val).sending ≠ none →
      exec (.pfcFrameSend p) s = .next s ∧
      ((s.port p.val).resend = true → exec (.pfcResend p) s = .next (s.updPort p.val (fun q => { q with pfcDue := true })))) ∧
    ((s.port p.val).pfcDue = false ∨ s.flag R.PORT_STAT_LINK_UP p.val = false → exec (.pfcFrameSend p) s = .next s) ∧
    ((s.port p.val).resend = false ∨ s.flag R.PORT_STAT_LINK_UP p.val = false → exec (.pfcResend p) s = .next s) ∧
    ((s.sendPfc p.val).port p.val).pfcDue = false ∧
    (isChannel p.val = true → ((s.sendPfc p.val).channel p.val).tx = (s.channel p.val).tx ++ headerBytes 64 ++ s.pfcBytes p.val) ∧
    (isChannel p.val = false →
      (s.txLanes p.val).any (fun n =>
        s.fld R.LANE_TEST_GEN_PAT n != 0 || s.fld R.LANE_CFG_LOOPBACK n == 3 || (s.lane n).outOfService) = false →
      (s.sendPfc p.val).out = s.out ++ [.frame p.val (List.replicate 7 0x55 ++ [0xD5] ++ s.pfcBytes p.val)])) ∧
  (∀ (s : State) (p : Fin 512) (symbols : Nat), s.Acts → s.flag R.PORT_STAT_FEC p.val = true → s.portLife p.val ≠ .off →
    (symbols = 0 → exec (.fecCodeword p symbols) s = .next s) ∧
    (1 ≤ symbols → symbols ≤ 15 → exec (.fecCodeword p symbols) s = .next ((s.portCount p.val 26 1).portCount p.val 28 symbols)) ∧
    (16 ≤ symbols → exec (.fecCodeword p symbols) s =
      .next ((s.portCount p.val 27 1).raiseOnce EV_PORT_FEC_UNCORR p.val p.val p.val [])))

/-- The end of a moved queue's Stopping discards its frames and takes it to Off, or on to Starting at its new port. An empty queue that is
visited has its F caught up with V. The end of a scrub gives the clean cells back, keeps the failed ones in quarantine, reports 1, 2 or 3
in LAST_SCRUB and raises EV_CELL_SCRUB. -/
def Obligations.QueueAndQuarantine : Prop :=
  (∀ (s : State) (q : Fin 65536), s.Runs →
    ((s.queue q.val).moving = false ∨ lifeOf (s.queue q.val).life ≠ .stopping → exec (.queueStoppingEnd q) s = .next s) ∧
    ((s.queue q.val).moving = true → (s.queue q.val).life = lifeBits .stopping none → (s.queue q.val).copies = [] →
      (s.queue q.val).port = none →
      ∃ t, exec (.queueStoppingEnd q) s = .next t ∧ (t.queue q.val).life = lifeBits .off none ∧ (t.queue q.val).moving = false ∧
        (∀ k, k ≠ q.val → t.queue k = s.queue k) ∧ t = { s with queues := t.queues })) ∧
  (∀ (s : State) (q : Fin 65536), s.Runs →
    (∀ p, (s.queue q.val).port = some p → (s.queue q.val).copies = [] →
      after (s.queue q.val).finish (s.tierV p (s.queue q.val).tier) = false →
      ∃ t, exec (.emptyQueueVisit q) s = .next t ∧ (t.queue q.val).finish = s.tierV p (s.queue q.val).tier ∧
        (∀ k, k ≠ q.val → t.queue k = s.queue k) ∧ t = { s with queues := t.queues }) ∧
    ((s.queue q.val).copies ≠ [] → exec (.emptyQueueVisit q) s = .next s)) ∧
  (∀ (s : State) (failed : List Nat), s.Runs →
    (s.scrub = [] → exec (.cellScrubEnd failed) s = .next s) ∧
    (∀ (i : Nat) (rest : List Nat), s.scrub = i :: rest → i ≠ 0xFFFFF → i ∉ s.quarantine →
      exec (.cellScrubEnd failed) s =
        .next ((({ s with scrub := rest } : State).setFld R.CELL_QUAR_LAST_SCRUB 0 3).raise EV_CELL_SCRUB 0)) ∧
    (∀ (i : Nat) (rest : List Nat), s.scrub = i :: rest → i ≠ 0xFFFFF → s.quarantine.filter (fun c => c == i) = [i] →
      exec (.cellScrubEnd failed) s = .next (((({ s with scrub := rest } : State).scrubCell failed i).setFld R.CELL_QUAR_LAST_SCRUB 0
        (if failed.contains i then 2 else 1)).raise EV_CELL_SCRUB 0)) ∧
    (∀ i : Nat, (s.scrubCell failed i).quarantine =
      if failed.contains i then s.quarantine else s.quarantine.filter (fun d => d != i)))

/-! ### Lanes, links and life cycles -/

/-- Lanes. A Starting lane that is calibrated comes up and is On, with EV_LANE_STATE; one whose PLL or calibration fails goes to Stopping
with EV_LANE_START_FAIL, and takes a Starting port with it; a Stopping one goes dark and is Off. A reference clock that is lost is noted,
EV_OCT_REF raised, and the octet switches to the other reference where AUTO_BACKUP allows it and that one is there; else it is without a
PLL lock. The background recalibration of a lane with a direction in Active or Quiet takes the temperature as it stands and changes nothing
else; a parked direction that has recalibrated is Active, and a lane that was taken out of service is in service again. A checker that is
off counts nothing; a running one counts the bits it has seen and those in error: the bits of the balls, or under a near-end loopback those
that the lane's own generator sends. -/
def Obligations.LaneCommands : Prop :=
  (∀ (s : State) (n : Fin 512), s.Acts →
    (s.life R.LANE_STAT_LC n.val ≠ .starting → ∀ ok, exec (.laneStartingEnd n ok) s = .next s) ∧
    (s.life R.LANE_STAT_LC n.val ≠ .stopping → exec (.laneStoppingEnd n) s = .next s) ∧
    (s.life R.LANE_STAT_LC n.val = .starting → exec (.laneStartingEnd n true) s =
      .next ((((s.laneUp n.val).lifeEnd R.LANE_STAT_LC n.val .on).raiseOf EV_LANE_STATE n.val).evalLane n.val)) ∧
    (s.life R.LANE_STAT_LC n.val = .starting →
      let failed := (s.setFld R.LANE_STAT_LC n.val (lifeFail (s.fld R.LANE_STAT_LC n.val))).raiseOf EV_LANE_START_FAIL n.val
      (failed.portOfLane n.val = none → exec (.laneStartingEnd n false) s = .next failed) ∧
      (∀ p, failed.portOfLane n.val = some p → failed.portLife p = .starting →
        let t := failed.raiseOf EV_PORT_START_FAIL p
        exec (.laneStartingEnd n false) s =
          .next ((t.setFld R.PORT_STAT_LC p (lifeFail (t.fld R.PORT_STAT_LC p))).portStop p))) ∧
    (s.life R.LANE_STAT_LC n.val = .stopping → exec (.laneStoppingEnd n) s =
      .next (((s.laneOut n.val).lifeEnd R.LANE_STAT_LC n.val .off).raiseOf EV_LANE_STATE n.val))) ∧
  (∀ (s : State) (f : Fld) (n : Nat) (l : Life), f.hi < 64 → f.hi = f.lo + 3 →
    (s.lifeEnd f n l).fld f n = lifeArrive (s.fld f n) l ∧ (s.lifeEnd f n l).forced.contains (f.reg.addr n) = false ∧
    RegistersBut [f.reg.addr n] s (s.lifeEnd f n l)) ∧
  (∀ (s : State) (o : Fin 64), s.Acts →
    let on := s.flag R.LANE_OCT_STAT_ON_NEIGHBOUR o.val
    let lost := if s.refLost.contains (refclkOf o.val on) then s.refLost else insertRising (refclkOf o.val on) s.refLost
    let t := ({ s with refLost := lost } : State).raiseOf EV_OCT_REF o.val
    (t.flag R.LANE_OCT_REF_AUTO_BACKUP o.val = true → lost.contains (refclkOf o.val (!on)) = false →
      exec (.refclkLoss o) s = .next (t.takeRef o.val (!on))) ∧
    (t.flag R.LANE_OCT_REF_AUTO_BACKUP o.val = false ∨ lost.contains (refclkOf o.val (!on)) = true →
      exec (.refclkLoss o) s = .next (t.takeRef o.val on))) ∧
  (∀ (s : State) (o : Nat) (neighbour : Bool), (s.takeRef o neighbour).flag R.LANE_OCT_STAT_ON_NEIGHBOUR o = neighbour ∧
    (s.takeRef o neighbour).flag R.LANE_OCT_STAT_PLL_LOCK o = !s.refLost.contains (refclkOf o neighbour)) ∧
  (∀ (s : State) (n : Fin 512), s.Acts →
    (s.laneOn n.val = true → s.fld R.LANE_STAT_TX_PWR n.val ≤ 1 ∨ s.fld R.LANE_STAT_RX_PWR n.val ≤ 1 →
      ∃ t, exec (.backgroundRecal n) s = .next t ∧ t.lane n.val = { s.lane n.val with calTemp := s.junction } ∧
        (∀ m, m ≠ n.val → t.lane m = s.lane m) ∧ t = { s with lanes := t.lanes }) ∧
    (s.laneOn n.val = false ∨ (1 < s.fld R.LANE_STAT_TX_PWR n.val ∧ 1 < s.fld R.LANE_STAT_RX_PWR n.val) →
      exec (.backgroundRecal n) s = .next s) ∧
    ((s.lane n.val).recalTx = false → (s.lane n.val).recalRx = false → (s.lane n.val).outOfService = false →
      exec (.recalDone n) s = .next s) ∧
    ((s.lane n.val).recalTx = false → (s.lane n.val).recalRx = false → (s.lane n.val).outOfService = true →
      ∃ t, exec (.recalDone n) s = .next t ∧ t.lane n.val = { s.lane n.val with calTemp := s.junction, outOfService := false } ∧
        t = { s with lanes := t.lanes }) ∧
    ((s.lane n.val).recalTx = true → (s.lane n.val).recalRx = true →
      ∃ t, exec (.recalDone n) s = .next t ∧ t.fld R.LANE_STAT_TX_PWR n.val = 0 ∧ t.fld R.LANE_STAT_RX_PWR n.val = 0 ∧
        t.lane n.val = { s.lane n.val with calTemp := s.junction, recalTx := false, recalRx := false, outOfService := false } ∧
        t = { s with regs := t.regs, lanes := t.lanes })) ∧
  (∀ (s : State) (n : Fin 512) (received : List Bool), s.Acts →
    (s.laneOn n.val = false → exec (.checkerSample n received) s = .next s) ∧
    (s.laneOn n.val = true →
      let user := s.fld R.LANE_USER_PAT_PATTERN n.val
      let gen := s.fld R.LANE_TEST_GEN_PAT n.val
      let every := if s.fld R.LANE_TEST_INJ_MODE n.val = 3 then s.fld R.LANE_INJ_INTERVAL_INTERVAL n.val * 1024 else 0
      let own := genBits gen (s.flag R.LANE_TEST_GEN_INV n.val) user every received.length (s.lane n.val)
      let looped := s.nearLoop n.val = true ∧ gen ≠ 0
      let seen := if s.nearLoop n.val = true then (if gen ≠ 0 then s.updLane n.val (fun _ => own.2) else s) else s.signalSeen n.val
      let pat := seen.fld R.LANE_TEST_CHK_PAT n.val
      (pat = 0 → exec (.checkerSample n received) s = .next seen) ∧
      (pat ≠ 0 →
        let r := (if looped then own.1 else received).foldl (checkBit pat (seen.flag R.LANE_TEST_CHK_INV n.val) user)
          ⟨(seen.lane n.val).chk, seen.flag R.LANE_STAT_CHK_LOCK n.val, 0, 0, 0⟩
        exec (.checkerSample n received) s = .next ((List.range r.changes).foldl (fun s _ => s.raiseOf EV_LANE_CHK n.val)
          (((((seen.updLane n.val (fun l => { l with chk := r.chk })).bump R.LANE_CHK_BITS_COUNT n.val r.seen).bump
            R.LANE_CHK_ERRS_COUNT n.val r.errs)).setFlag R.LANE_STAT_CHK_LOCK n.val r.locked)))))

/-- Signals and links. SIG_DET and CDR_LOCK go to 0 when a lane that is On loses its signal and to 1 when it has it back, and an STF lane
notes LOS; an alignment marker lock that is gained or lost is shown in AM_LOCK and decides with the deskew on LINK_UP; LOCAL_FAULT and
REMOTE_FAULT show what the sublayer reports; a next page whose bit 0 declares the partner capable sets what PARTNER_THIN shows on a port in
Starting or On. A lane that is not On or is out of service, and a port that is Off or not of Ethernet, ignore them. -/
def Obligations.LinkCommands : Prop :=
  (∀ (s : State) (n : Fin 512), s.Acts →
    (s.laneOn n.val = false → exec (.sigDetLoss n) s = .next s ∧ exec (.losClear n) s = .next s) ∧
    (s.laneOn n.val = true →
      let dark := (s.setFlag R.LANE_STAT_SIG_DET n.val false).setFlag R.LANE_STAT_CDR_LOCK n.val false
      let lit := (s.setFlag R.LANE_STAT_SIG_DET n.val true).setFlag R.LANE_STAT_CDR_LOCK n.val true
      exec (.sigDetLoss n) s = .next ((dark.updStf n.val (fun x => { x with los := true })).evalLane n.val) ∧
      exec (.losClear n) s = .next ((lit.updStf n.val (fun x => { x with los := false })).evalLane n.val) ∧
      dark.flag R.LANE_STAT_SIG_DET n.val = false ∧ lit.flag R.LANE_STAT_CDR_LOCK n.val = true)) ∧
  (∀ (s : State) (n : Nat), s.stfLane n = false → s.evalLane n = s) ∧
  (∀ (s : State) (n : Fin 512) (locked deskewed : Bool), s.Acts →
    (s.portOfLane n.val = none → exec (.alignmentMarkerLock n locked deskewed) s = .next s) ∧
    (∀ p, s.portOfLane n.val = some p → s.portMode p ≠ 0 ∨ s.laneOn n.val = false ∨ (s.lane n.val).outOfService = true →
      exec (.alignmentMarkerLock n locked deskewed) s = .next (s.settlePort p)) ∧
    (∀ p, s.portOfLane n.val = some p → s.portMode p = 0 → s.laneOn n.val = true → (s.lane n.val).outOfService = false →
      let seen := if locked then s.signalSeen n.val else s
      let t := ((seen.setAmLock n.val locked).updPort p (fun r => { r with deskewed := deskewed })).relink p
      (t.portOfLane n.val = some p → exec (.alignmentMarkerLock n locked deskewed) s = .next (t.settlePort p)) ∧
      (p < 1024 → (seen.setAmLock n.val locked).flag R.LANE_STAT_AM_LOCK n.val = locked))) ∧
  (∀ (s : State) (n p : Nat), s.portOfLane n = some p → s.flag R.LANE_STAT_AM_LOCK n = true →
    s.setAmLock n false = (s.setLock R.LANE_STAT_AM_LOCK n false).portCount p 31 1) ∧
  (∀ (s : State) (p : Fin 512) (loc rem : Bool), s.Acts →
    (s.portMode p.val ≠ 0 ∨ s.portLife p.val = .off → exec (.linkFaultSignalling p loc rem) s = .next s) ∧
    (s.portMode p.val = 0 → s.portLife p.val ≠ .off →
      let t := (s.setFlag R.PORT_STAT_LOCAL_FAULT p.val loc).setFlag R.PORT_STAT_REMOTE_FAULT p.val rem
      exec (.linkFaultSignalling p loc rem) s = .next ((t.relink p.val).settlePort p.val) ∧
      t.flag R.PORT_STAT_LOCAL_FAULT p.val = loc ∧ t.flag R.PORT_STAT_REMOTE_FAULT p.val = rem)) ∧
  (∀ (s : State) (p : Fin 512) (capability : Nat), s.Acts →
    (s.portMode p.val = 0 → capability % 2 = 1 → s.portLife p.val = .on →
      exec (.clause73NextPage p capability) s =
        .next ((s.updPort p.val (fun q => { q with advertised := true })).showPartner p.val)) ∧
    (s.portMode p.val ≠ 0 ∨ capability % 2 = 0 ∨ s.portLife p.val = .off →
      exec (.clause73NextPage p capability) s = .next s))

/-- Thinning (R147 to R152). A slot of a port that is On carries a hold word while its parked receivers must recalibrate, else the words of
its own announcement: the first COUNT as it begins, which wakes the transmitters of a widening; the same COUNT again while the widening is
held; else the next lower one, until COUNT 0 has closed it. Without either it carries nothing. A word leaves an Ethernet port in a control
block of type 0x4B, and an STF port with its next frame. A received word with a wrong CHECK changes nothing; an announcement is noted with
its width, depth and COUNT, and a new one to widen wakes the receivers; a hold word for the own widening holds it. The boundary behind
COUNT 0 switches; without hold words for their time a widening is no longer held. -/
def Obligations.ThinningCommands : Prop :=
  (∀ (s : State) (p : Fin 512), s.Acts → s.portLife p.val = .on →
    ((s.port p.val).peer = none → (s.port p.val).own = none → exec (.laneControlWordSlot p) s = .next s) ∧
    (∀ r, (s.port p.val).peer = some r → s.rxHolds p.val = true →
      exec (.laneControlWordSlot p) s = .next (s.sendThin p.val (thinWordOf 3 r.width 0 0))) ∧
    (∀ r, s.rxHolds p.val = false → (s.port p.val).own = some r →
      let word := fun c => thinWordOf (if r.widen then 2 else 1) r.width r.park c
      (r.begun = false →
        let t := if r.widen then (s.lanesBetween p.val (s.txWidth p.val) r.width).foldl State.wakeTx s else s
        exec (.laneControlWordSlot p) s =
          .next ((t.updPort p.val (fun q => { q with own := some { r with begun := true } })).sendThin p.val (word r.count))) ∧
      (r.begun = true → s.txHolds p.val r = true →
        exec (.laneControlWordSlot p) s = .next (s.sendThin p.val (word r.count))) ∧
      (r.begun = true → s.txHolds p.val r = false → r.closed = true → exec (.laneControlWordSlot p) s = .next s) ∧
      (r.begun = true → s.txHolds p.val r = false → r.closed = false →
        exec (.laneControlWordSlot p) s =
          .next ((s.updPort p.val (fun q => { q with own := some { r with count := r.count - 1, closed := r.count == 1 } })).sendThin p.val
            (word (r.count - 1))))) ∧
    (∀ word : BitVec 24, bits word.toNat 4 0 ≠ thinCheck word.toNat → exec (.laneControlWordReceive p word) s = .next s) ∧
    (∀ word : BitVec 24, bits word.toNat 4 0 = thinCheck word.toNat → bits word.toNat 23 20 = 1 ∨ bits word.toNat 23 20 = 2 →
      let widen := bits word.toNat 23 20 == 2
      let width := bits word.toNat 19 18
      let known := (s.port p.val).peer.any (fun r => r.widen && r.width == width)
      let t := if widen && !known then (s.lanesBetween p.val (s.port p.val).rxWidth width).foldl State.wakeRx s else s
      exec (.laneControlWordReceive p word) s = .next (t.updPort p.val (fun q => { q with
        peer := some ⟨widen, width, bits word.toNat 17 15, bits word.toNat 14 5, true, bits word.toNat 14 5 == 0⟩ }))) ∧
    (∀ (word : BitVec 24) (r : ThinRun), bits word.toNat 4 0 = thinCheck word.toNat → bits word.toNat 23 20 = 3 →
      (s.port p.val).own = some r → r.widen = true → r.width = bits word.toNat 19 18 →
      exec (.laneControlWordReceive p word) s = .next (s.updPort p.val (fun q => { q with held := true }))) ∧
    exec (.thinSwitch p false) s = .next (((s.parkFrames p.val).ownSwitch p.val).widenUsed p.val) ∧
    (s.portMode p.val ≠ 1 → s.parkFrames p.val = s) ∧
    (s.portMode p.val ≠ 1 → (s.peerSwitch p.val).portMode p.val = s.portMode p.val → (s.port p.val).peer ≠ none →
      exec (.thinSwitch p true) s = .next (s.peerSwitch p.val)) ∧
    ((s.port p.val).peer = none → exec (.thinSwitch p true) s = .next s)) ∧
  (∀ (s : State) (p word : Nat),
    (s.portMode p ≠ 1 → s.sendThin p word = (s.portCount p 58 1).emit (.pcsBlock p 2 (thinBlock word))) ∧
    (s.portMode p = 1 → ((s.sendThin p word).port p).thinWord = word)) ∧
  (∀ (s : State) (p : Fin 512), s.Acts → s.portLife p.val ≠ .on →
    (∀ received, exec (.thinSwitch p received) s = .next s) ∧ exec (.laneControlWordSlot p) s = .next s ∧
    ∀ word, exec (.laneControlWordReceive p word) s = .next s) ∧
  (∀ (s : State) (p : Fin 512), s.Acts → ∃ t, exec (.holdWordTimeout p) s = .next t ∧
    t.port p.val = { s.port p.val with held := false } ∧ (∀ k, k ≠ p.val → t.port k = s.port k) ∧ t = { s with ports := t.ports }) ∧
  (∀ kind width park count : Nat, 1 ≤ kind → kind ≤ 3 → width < 4 → park < 8 → count < 1024 →
    let w := thinWordOf kind width park count
    w < 2 ^ 24 ∧ bits w 4 0 = thinCheck w ∧ bits w 23 20 = kind ∧ bits w 19 18 = width ∧ bits w 17 15 = park ∧ bits w 14 5 = count)

/-- The ends of the life-cycle transitions. A Starting port whose lanes are all On, and a channel whose first frame has been sent, reach
On; a Stopping one that is drained with its lanes Off, or with its stream and its unequipped frame sent, reaches Off; a drain that expires is flushed. A
quadrant, a pattern engine with empty scan queues, and a pulse output reach On from Starting and Off from Stopping, with the event of the
unit. A quadrant's copy that ends clears COPYING. In any other state nothing changes. -/
def Obligations.TransitionEnds : Prop :=
  (∀ (s : State) (p : Fin 512), s.Acts →
    (s.portLife p.val = .starting → (∀ n ∈ s.lanesOf p.val, s.laneOn n = true) →
      exec (.portStartingEnd p) s = .next (s.portArrive p.val)) ∧
    (s.portLife p.val ≠ .starting ∨ (∃ n ∈ s.lanesOf p.val, s.laneOn n = false) → exec (.portStartingEnd p) s = .next s) ∧
    (s.portLife p.val = .stopping → (s.port p.val).draining = false → (∀ n ∈ s.lanesOf p.val, s.life R.LANE_STAT_LC n = .off) →
      exec (.portStoppingEnd p) s = .next (s.portLeave p.val)) ∧
    (s.portLife p.val ≠ .stopping ∨ (s.port p.val).draining = true → exec (.portStoppingEnd p) s = .next s) ∧
    (s.portLife (512 + p.val) = .starting → exec (.channelStartingEnd p) s = .next (s.portArrive (512 + p.val))) ∧
    (s.portLife (512 + p.val) ≠ .starting → exec (.channelStartingEnd p) s = .next s) ∧
    (s.portLife (512 + p.val) = .stopping → (s.port (512 + p.val)).draining = false → (s.channel (512 + p.val)).tx = [] →
      exec (.channelStoppingEnd p) s = .next ((if (s.channel (512 + p.val)).unbind then s.unbindChannel (512 + p.val) else s).portLeave
        (512 + p.val))) ∧
    (s.portLife (512 + p.val) ≠ .stopping ∨ (s.port (512 + p.val)).draining = true ∨ (s.channel (512 + p.val)).tx ≠ [] →
      exec (.channelStoppingEnd p) s = .next s)) ∧
  (∀ (s : State) (p : Fin 1024), s.Acts →
    (s.portLife p.val = .stopping → (s.port p.val).draining = true →
      exec (.portDrainExpiry p) s = .next ((s.flushPort p.val).settlePort p.val)) ∧
    (s.portLife p.val ≠ .stopping ∨ (s.port p.val).draining = false → exec (.portDrainExpiry p) s = .next s)) ∧
  (∀ (s : State) (q : Fin 4), s.Acts →
    (s.life R.TSI_Q_STAT_LC q.val = .starting →
      exec (.tsiQuadrantTransitionEnd q) s = .next ((s.lifeEnd R.TSI_Q_STAT_LC q.val .on).raise EV_TSI_STATE q.val)) ∧
    (s.life R.TSI_Q_STAT_LC q.val = .stopping →
      exec (.tsiQuadrantTransitionEnd q) s = .next ((s.lifeEnd R.TSI_Q_STAT_LC q.val .off).raise EV_TSI_STATE q.val)) ∧
    (s.life R.TSI_Q_STAT_LC q.val = .off ∨ s.life R.TSI_Q_STAT_LC q.val = .on → exec (.tsiQuadrantTransitionEnd q) s = .next s) ∧
    (s.flag R.TSI_Q_STAT_COPYING q.val = false → exec (.leafCopyEnd q) s = .next s) ∧
    (s.flag R.TSI_Q_STAT_COPYING q.val = true → ∃ t, exec (.leafCopyEnd q) s = .next t ∧
      t.flag R.TSI_Q_STAT_COPYING q.val = false ∧ t = { s with regs := t.regs, leafHeld := t.leafHeld })) ∧
  (∀ (s : State) (pl : Fin 8), s.Runs →
    (s.life R.PIPE_PAT_STAT_LC pl.val = .starting →
      exec (.patternEngineTransitionEnd pl) s = .next ((s.lifeEnd R.PIPE_PAT_STAT_LC pl.val .on).raiseOf EV_PAT_STATE pl.val)) ∧
    (s.life R.PIPE_PAT_STAT_LC pl.val = .stopping →
      (SMap.get [] s.scans (2 * pl.val) ≠ [] ∨ SMap.get [] s.scans (2 * pl.val + 1) ≠ [] →
        exec (.patternEngineTransitionEnd pl) s = .next s) ∧
      (SMap.get [] s.scans (2 * pl.val) = [] → SMap.get [] s.scans (2 * pl.val + 1) = [] →
        let t := (s.lifeEnd R.PIPE_PAT_STAT_LC pl.val .off).raiseOf EV_PAT_STATE pl.val
        t.life R.PIPE_PAT_STAT_LC pl.val ≠ .starting → exec (.patternEngineTransitionEnd pl) s = .next t)) ∧
    (s.life R.PIPE_PAT_STAT_LC pl.val = .off ∨ s.life R.PIPE_PAT_STAT_LC pl.val = .on →
      exec (.patternEngineTransitionEnd pl) s = .next s)) ∧
  (∀ (s : State) (n : Fin 16), s.Acts →
    (s.life R.TIME_TPO_STAT_LC n.val = .off ∨ s.life R.TIME_TPO_STAT_LC n.val = .on → exec (.tpoTransitionEnd n) s = .next s) ∧
    (s.life R.TIME_TPO_STAT_LC n.val = .starting → (s.pulse n.val).stored = none →
      let t := (s.lifeEnd R.TIME_TPO_STAT_LC n.val .on).raiseOf EV_TPO_STATE n.val
      ((s.pulse n.val).next ≠ none → exec (.tpoTransitionEnd n) s = .next t)) ∧
    (s.life R.TIME_TPO_STAT_LC n.val = .stopping → (s.pulse n.val).stored = none → s.fld R.TIME_TPO_STAT_LC n.val = lifeBits .stopping none →
      exec (.tpoTransitionEnd n) s = .next (((s.updPulse n.val (fun p => { p with active := false, next := none, last := none })).lifeEnd
        R.TIME_TPO_STAT_LC n.val .off).raiseOf EV_TPO_STATE n.val)))

/-! ### STF lanes -/

/-- The frames of an STF lane. A block on the balls counts only on an STF lane that is neither parked nor out of service: without block
lock 64 good headers in a row gain it and a bad one starts again; with lock the 16th bad header of a window of 64 loses it, and any other
block goes on to alignment and to its place in the frame. A far-end loopback sends it back out, and a near-end one takes the lane's own
blocks in its place. Words 1 to 4 of row 0 of a frame in SYNC show its number and flags, and its BIP and REI count; before they have
arrived they change nothing. The oldest path overhead word that has arrived shows its REI and label, and its BIP against the container
before it; a slot word of a TU that yields its span is the next word of its container. A masked lane that woke is evaluated anew without
its mask. A frame starts on an STF lane that transmits and is due: it begins with the FAW, the frame number, LANE_ID and the slaved and
free-running flags, and is scrambled from that number and identity on behind word 1; fill words follow a frame that is complete. A lane
that is not ready, or whose frame is not due, only sends the words that are due. -/
def Obligations.StfFrames : Prop :=
  ((∀ (s : State) (n : Fin 512) (header : BitVec 2) (word : Word64) (time : Nat), s.Acts →
    let u := (s.advance time).sendDue
    let run := exec (.stfBlockReceive n header word time) s
    (u.fld R.LANE_CFG_LOOPBACK n.val = 0 →
      (u.stfLane n.val = false ∨ u.fld R.LANE_STAT_RX_PWR n.val ≠ 0 ∨ (u.lane n.val).outOfService = true →
        run = .next (u.followers n.val)) ∧
      (u.stfLane n.val = true → u.fld R.LANE_STAT_RX_PWR n.val = 0 → (u.lane n.val).outOfService = false →
        let t := u.signalSeen n.val
        (t.flag R.LANE_STAT_BLOCK_LOCK n.val = false →
          (header ≠ 1 → run = .next ((t.updLane n.val (fun l => { l with huntGood := 0 })).followers n.val)) ∧
          (header = 1 → (t.lane n.val).huntGood = 63 → run = .next ((t.gainBlocks n.val).followers n.val)) ∧
          (header = 1 → (t.lane n.val).huntGood ≠ 63 →
            run = .next ((t.updLane n.val (fun l => { l with huntGood := l.huntGood + 1 })).followers n.val))) ∧
        (t.flag R.LANE_STAT_BLOCK_LOCK n.val = true →
          (header ≠ 1 → (t.lane n.val).windowBad = 15 → run = .next ((t.loseBlocks n.val).followers n.val)) ∧
          (header = 1 → (t.lane n.val).windowBad < 16 → (t.lane n.val).windowSeen ≠ 63 →
            let v := t.updLane n.val (fun l =>
              { l with windowSeen := (t.lane n.val).windowSeen + 1, windowBad := (t.lane n.val).windowBad })
            run = .next (((v.alignBlock n.val word.toNat).frameBlock n.val (v.stfOf n.val).pos word.toNat).followers n.val))))) ∧
    (u.fld R.LANE_CFG_LOOPBACK n.val = 1 ∨ u.fld R.LANE_CFG_LOOPBACK n.val = 2 →
      ((u.stfOf n.val).looped = [] → run = .next u) ∧
      (∀ v rest, (u.stfOf n.val).looped = v :: rest →
        run = .next (((u.updStf n.val (fun x => { x with looped := rest })).stfBlock n.val 1 v.toNat).followers n.val))) ∧
    (u.fld R.LANE_CFG_LOOPBACK n.val = 3 → u.laneOn n.val = true →
      run = .next (((u.emit (.stfBlock n.val header.toNat word)).stfBlock n.val header.toNat word.toNat).followers n.val))) ∧
  (∀ (s : State) (n : Fin 512), s.Acts →
    let x := s.stfOf n.val
    (s.stfLane n.val = false ∨ s.fld R.STF_STAT_ALIGN n.val ≠ 2 ∨ x.ready = false → exec (.stfFrameReceive n) s = .next s) ∧
    (s.stfLane n.val = true → s.fld R.STF_STAT_ALIGN n.val = 2 → x.ready = true →
      let identity := (x.head.getD 0 0).toNat
      let st := (x.head.getD 1 0).toNat
      let t := (s.updStf n.val (fun x => { x with ready := false })).stfOverhead n.val identity st x.framePar (s.fawPhase x.fawAt)
      exec (.stfFrameReceive n) s = .next (t.stfInner n.val st ((x.head.drop 2).take 2)) ∧
      t.fld R.STF_RX_FRAME_RX_FN n.val = bits identity 63 32 ∧
      t.fld R.STF_RX_FRAME_RX_FLAGS n.val = bits identity 15 0 ∧
      t.fld R.STF_STAT_LAST_REI n.val = bits st 55 52 ∧
      (x.framed = true → t.fld R.STF_STAT_LAST_BIP n.val = popCount 8 (x.framePar ^^^ bits st 63 56)) ∧
      t = { s with regs := t.regs, stf := t.stf })) ∧
  (∀ (s : State) (n : Fin 512) (tu : Fin 78), s.Acts →
    let k := tuKey n.val tu.val
    ((s.tu k).arrived = [] → exec (.containerReceive n tu) s = .next s) ∧
    (∀ (overhead : Word64) (parity : Nat) (rest : List (Word64 × Nat)), (s.tu k).arrived = (overhead, parity) :: rest →
      ∃ t : State, t.fld R.STF_TU_STAT_LAST_REI k = bits overhead.toNat 55 52 ∧
        (t.tu k).label = bits overhead.toNat 47 40 ∧ (t.tu k).arrived = rest ∧
        ((s.tu k).seen = true → t.fld R.STF_TU_STAT_LAST_BIP k = popCount 8 (parity ^^^ bits overhead.toNat 63 56)) ∧
        t = { s with regs := t.regs, tus := t.tus } ∧
        exec (.containerReceive n tu) s = .next
          (match (t.evalTu n.val tu.val).chanOf n.val tu.val with
          | some p => (t.evalTu n.val tu.val).refreshChannel p
          | none => t.evalTu n.val tu.val))) ∧
  (∀ (s : State) (n t i : Nat) (w : Word64), s.tuLive (tuKey n t) = true → s.chanOf n t = none → i ≠ 1344 → i ≠ 1345 →
    let u := s.tu (tuKey n t)
    let v := (s.slotWord n t i w).tu (tuKey n t)
    v.count = u.count + 1 ∧ v.place = (u.place + 1) % 2560 ∧ v.tail.head? = some (u.place, w) ∧
    v.arrived = (if u.place = 0 then u.arrived ++ [(w, u.parity)] else u.arrived)) ∧
  (∀ (s : State) (n : Fin 512), s.Acts →
    ((s.stfOf n.val).masked = false → exec (.parkedMaskExpiry n) s = .next s) ∧
    ((s.stfOf n.val).masked = true →
      exec (.parkedMaskExpiry n) s = .next ((s.updStf n.val (fun x => { x with masked := false })).evalLane n.val)))) ∧
  (∀ (s : State) (n : Fin 512) (time : Nat), s.Acts →
    let u := (s.advance time).sendDue
    (u.stfLane n.val = false ∨ u.fld R.LANE_STAT_TX_PWR n.val ≠ 0 ∨ (u.expressOf n.val = none ∧ (u.stfOf n.val).due = false) →
      exec (.stfFrameStart n time) s = .next u) ∧
    (u.stfLane n.val = true → u.fld R.LANE_STAT_TX_PWR n.val = 0 → u.expressOf n.val = none → (u.stfOf n.val).due = true →
      u.phaseChanges n.val = false →
      let fn := (u.epochPhase n.val).1.fn
      let v := (u.epochPhase n.val).2.endFrame n.val (u.epochPhase n.val).1.jump
      ∃ (t : State) (f : TxFrame) (w : Word64), exec (.stfFrameStart n time) s = .next t ∧ (t.stfOf n.val).frame = some f ∧
        f.words = 0 ∧ f.start = (v.tbGet 0).free ∧ f.reg = stfSeed fn (v.fld R.STF_ID_TX_ID n.val) ∧ f.head.length = 5 ∧
        f.head[0]? = some 0x5A3CC3A50F96E178 ∧ f.head[1]? = some w ∧
        bits w.toNat 63 32 = fn ∧ bits w.toNat 31 16 = v.fld R.STF_ID_TX_ID n.val ∧ bits w.toNat 15 15 = 0 ∧
        bits w.toNat 14 14 = ofFlag (v.tbState 0 != tbLocked))) ∧
  (∀ (s : State) (n : Nat) (f : TxFrame), (s.stfOf n).frame = some f →
    (f.words < 2 → s.sendWord n = s.putWord n f (f.head.getD f.words 0).toNat f.reg) ∧
    (2 ≤ f.words → f.words < 5 →
      let c := stfScramble f.reg (f.head.getD f.words 0).toNat
      s.sendWord n = s.putWord n f c.1 c.2) ∧
    (200000 ≤ f.words →
      let c := stfScramble f.reg 0
      s.sendWord n = s.putWord n f c.1 c.2)) ∧
  (∀ (s : State) (n : Nat) (f : TxFrame) (w reg : Nat),
    s.fld R.LANE_TEST_GEN_PAT n = 0 → (s.lane n).outOfService = false → s.fld R.LANE_CFG_LOOPBACK n = 0 →
    ∃ t : State, s.putWord n f w reg = t.emit (.stfBlock n 1 (BitVec.ofNat 64 w)) ∧ t = { s with stf := t.stf } ∧
      (t.stfOf n).frame = some { f with words := f.words + 1, reg := reg, parity := f.parity ^^^ byteParity w })

/-- Headers of packet channels and of management channels (R247 to R249, R213). In HUNT a good header leads to PRESYNC, two more of them
to SYNC, a bad one back to HUNT; in SYNC a good one delivers its frame unless its length is 0, and the third bad one in a row loses SYNC.
A good header has its length's CRC-16 and a length that is 0 or within the limits. The frame is the bytes behind its header, and the next
header lies behind it; hunting moves on by one byte. PRESYNC that lasts too long goes back to HUNT one byte behind its candidate. A frame
of a packet channel goes to the receive MAC of its port, and a management frame waits at its host ring; a channel that is Off, and a lane
without the channel, take no header. -/
def Obligations.Delineation : Prop :=
  (∀ (d : Delin) (lo hi h : Nat),
    let len := bits h 31 16
    let ok := headerCrc len = bits h 15 0 ∧ (len = 0 ∨ (lo ≤ len ∧ len ≤ hi))
    (d.st = 0 → ok → d.header lo hi h = (⟨1, 0, 0⟩, 0)) ∧ (d.st = 0 → ¬ ok → d.header lo hi h = (d, 0)) ∧
    (d.st = 1 → ok → d.oks = 1 → d.header lo hi h = (⟨2, 0, 0⟩, 0)) ∧
    (d.st = 1 → ok → d.oks ≠ 1 → d.header lo hi h = ({ d with oks := d.oks + 1 }, 0)) ∧
    (d.st = 1 → ¬ ok → d.header lo hi h = (Delin.hunt, 0)) ∧
    (d.st = 2 → ok → d.header lo hi h = ({ d with errs := 0 }, if len = 0 then 0 else 1)) ∧
    (d.st = 2 → ¬ ok → d.errs = 2 → d.header lo hi h = (Delin.hunt, 3)) ∧
    (d.st = 2 → ¬ ok → d.errs ≠ 2 → d.header lo hi h = ({ d with errs := d.errs + 1 }, 2))) ∧
  (∀ (x : Stream) (lo hi : Nat),
    let behind := x.rest.drop x.skip
    let h := beNat (behind.take 4)
    let len := bits h 31 16
    (behind.length < 4 → x.take lo hi = (x, 0, [])) ∧
    (x.delin.st = 2 → headerCrc len = bits h 15 0 → lo ≤ len → len ≤ hi → len ≠ 0 → 4 + len ≤ behind.length →
      x.take lo hi = (⟨{ x.delin with errs := 0 }, behind.drop (4 + len), 0⟩, 1, (behind.drop 4).take len)) ∧
    (x.delin.st = 0 → headerCrc len ≠ bits h 15 0 → 4 ≤ behind.length → x.take lo hi = (⟨x.delin, x.rest.drop 1, 0⟩, 0, []))) ∧
  (∀ (s : State) (n : Fin 512), s.Acts →
    (s.stfLane n.val = false ∨ s.fld R.STF_STAT_ALIGN n.val ≠ 2 ∨ s.flag R.STF_CFG_MGMT_EN n.val = false ∨
        s.flag R.STF_STAT_AIS n.val = true → exec (.mgmtFrameReceive n) s = .next s) ∧
    (s.stfLane n.val = true → s.fld R.STF_STAT_ALIGN n.val = 2 → s.flag R.STF_CFG_MGMT_EN n.val = true →
      s.flag R.STF_STAT_AIS n.val = false →
      let r := (s.stfOf n.val).mgmtStream.take 1 2048
      let t := s.updStf n.val (fun x => x.setMgmt r.1)
      (r.2.1 ≠ 1 → exec (.mgmtFrameReceive n) s = .next t) ∧
      (r.2.1 = 1 → ∃ f : HostFrame, f.bytes = r.2.2 ∧ f.kind = 2 ∧ f.source = n.val ∧
        exec (.mgmtFrameReceive n) s = .next { t with
          hostRx := SMap.upd [] s.hostRx (s.fld R.HDMA_CFG_MGMT_RING 0) (fun q => q ++ [f]) }))) ∧
  (∀ (s : State) (n : Fin 512), s.Acts →
    let p := 512 + n.val
    (s.portLife p = .off ∨ s.flag R.PORT_CHAN_STAT_RX_FAIL n.val = true → exec (.channelHeaderReceive n) s = .next s) ∧
    (s.portLife p ≠ .off → s.flag R.PORT_CHAN_STAT_RX_FAIL n.val = false →
      let r := (s.channel p).stream.take 64 (s.fld R.PORT_CFG_MAX_FRAME p)
      let t := s.updChannel p (fun c => c.setStream r.1)
      (r.2.1 = 0 → exec (.channelHeaderReceive n) s = .next (t.refreshChannel p)) ∧
      (r.2.1 = 1 → exec (.channelHeaderReceive n) s = .next ((t.refreshChannel p).receiveFrame p r.2.2 false false 0)) ∧
      (r.2.1 = 2 → exec (.channelHeaderReceive n) s = .next ((t.bump R.PORT_CHAN_HDR_ERR_COUNT n.val 1).refreshChannel p)) ∧
      (r.2.1 = 3 → exec (.channelHeaderReceive n) s = .next
        (((t.bump R.PORT_CHAN_HDR_ERR_COUNT n.val 1).bump R.PORT_CHAN_SYNC_LOSS_COUNT n.val 1).refreshChannel p)))) ∧
  (∀ (s : State) (n : Fin 512), s.Acts →
    ((s.stfOf n.val).mgmt.st = 1 → exec (.presyncTimeout true n) s =
      .next (s.updStf n.val (fun x => { x with mgmt := Delin.hunt, mgmtRx := x.mgmtRx.drop 1, mgmtSkip := 0 }))) ∧
    ((s.stfOf n.val).mgmt.st ≠ 1 → exec (.presyncTimeout true n) s = .next s) ∧
    ((s.channel (512 + n.val)).delin.st = 1 → exec (.presyncTimeout false n) s =
      .next ((s.updChannel (512 + n.val) (fun c => { c with delin := Delin.hunt, rx := c.rx.drop 1, skip := 0 })).refreshChannel
        (512 + n.val))) ∧
    ((s.channel (512 + n.val)).delin.st ≠ 1 → exec (.presyncTimeout false n) s = .next s))

/-! ### Time -/

/-- Time. A servo of a time base with a hardware source shows its frequency error, sets the rate in use within the limit (the rate it
holds in HOLDOVER; with a step spent the output of a proportional-integral loop on the phase error, whose gains for the time constant of
TAU are the model's free values, log 117; else what cancels the error) and, once LOCK_N good updates have come, is LOCKED; one without a
measurement changes nothing. An armed step takes effect once: the value moves by its size, STEP_LAST and STEP_EPOCH show it, and nothing
stays armed; none armed changes nothing, and a step of TB0 waits for an epoch edge that is due by then. A pulse output that is On puts its
pulse out at the scheduled time: a train schedules the next one a period later, a single pulse asks for a disable. An edge of the other
polarity, or of a timing input that is off, changes nothing. In the pulse-per-second mode an edge counts when it is the first or comes one
second, within 100 µs, after the last one; another is counted as rejected. In the 10 MHz mode every edge counts. An input that is on and
sees no edge in time is lost. -/
def Obligations.TimingCommands : Prop :=
  ((∀ (s : State) (b : Fin 8), s.Acts → (s.freqError b.val = none → exec (.servoUpdate b) s = .next s)) ∧
  (∀ (s : State) (b : Fin 8) (err : Int), s.Acts → s.freqError b.val = some err →
    let held := s.tbState b.val = tbHoldover
    let phase := s.source b.val ≠ 6 ∧ s.fld R.TIME_TB_STAT_STEP b.val = 2
    let gain := Config.servoGains (2 ^ (s.fld R.TIME_TB_CFG_TAU b.val + 2))
    let integral := (s.servo b.val).integral.getD (s.tbRate b.val) - gain.2 * s.phaseError b.val
    let rate : Int := if held then s.tbRate b.val
      else if phase then integral - gain.1 * s.phaseError b.val
      else s.tbRate b.val - Int.tdiv (err * ((2 ^ 48 : Nat) : Int)) 256000000000
    ∃ t : State, t.fld R.TIME_TB_SERVO_FREQ_ERR b.val = unsigned 32 err ∧
      t.tbRate b.val = (if held ∧ b.val ≠ 0 then s else s.setRate b.val rate).tbRate b.val ∧
      (¬ held → phase → (t.servo b.val).integral = some integral) ∧
      (t.servo b.val).good = (if err.natAbs ≤ 50 * 256 then (s.servo b.val).good + 1 else 0) ∧
      exec (.servoUpdate b) s = .next (if t.tbState b.val ≠ tbLocked ∧ t.fld R.TIME_TB_CFG_LOCK_N b.val ≤ (t.servo b.val).good then
        t.toTb b.val tbLocked else t)) ∧
  (∀ (s : State) (b : Fin 8), s.Acts →
    ((s.servo b.val).armed = none → exec (.tbStepApply b) s = .next s) ∧
    (∀ (instant : Nat) (delta : Int), (s.servo b.val).armed = some (instant, delta) →
      let edgeFirst := b.val = 0 ∧ s.epoch.target ≤ max instant (s.tbGet 0).value
      let s' := s.advanceUntil b.val instant
      (edgeFirst → exec (.tbStepApply b) s = .next s) ∧
      (¬ edgeFirst →
        ∃ t : State, (t.tbGet b.val).value = (((s'.tbGet b.val).value : Int) + delta).toNat ∧ (t.servo b.val).armed = none ∧
          t.fld R.TIME_TB_STEP_LAST_DELTA b.val = unsigned 64 (max (-((2 ^ 63 - 1 : Nat) : Int))
            (min ((2 ^ 63 - 1 : Nat) : Int) (Int.tdiv delta (nsUnits : Int)))) ∧
          t.fld R.TIME_TB_STEP_EPOCH_EPOCH b.val = s'.epochNum ∧
          exec (.tbStepApply b) s =
            .next ((List.range 16).foldl (State.stepPulse b.val (s'.tbFine b.val) (t.tbFine b.val)) (if b.val = 0 then t.retarget else t))))) ∧
  (∀ (s : State) (n : Fin 16), s.Acts →
    (s.life R.TIME_TPO_STAT_LC n.val ≠ .on ∨ (s.pulse n.val).next = none → exec (.pulseEmit n) s = .next s) ∧
    (∀ at', s.life R.TIME_TPO_STAT_LC n.val = .on → (s.pulse n.val).next = some at' →
      let s' := s.advanceUntil (s.fld R.TIME_TPO_CFG_TB n.val) (at' * 2 ^ 48)
      let out := s'.out ++ [.pulse n.val (s'.pulseWidth n.val) (s'.flag R.TIME_TPO_CFG_POL n.val)]
      (s'.flag R.TIME_TPO_CFG_TRAIN n.val = true → ∃ t, exec (.pulseEmit n) s = .next t ∧ t.out = out ∧
        t.pulse n.val = { s'.pulse n.val with last := some at', active := true, next := some (at' + s'.reg R.TIME_TPO_PERIOD n.val) } ∧
        t = { s' with out := t.out, pulses := t.pulses }) ∧
      (s'.flag R.TIME_TPO_CFG_TRAIN n.val = false → ∃ t : State, exec (.pulseEmit n) s = .next (t.lifeForce R.TIME_TPO_STAT_LC n.val) ∧
        t.out = out ∧ (t.pulse n.val).next = none ∧ t = { s' with out := t.out, pulses := t.pulses })))) ∧
  (∀ (s : State) (n : Fin 4), s.Acts →
    (∀ (rising : Bool) (time : Nat),
      let s' := s.advance time
      let active := (s'.fld R.TIME_TIN_CFG_EDGE n.val = 0 ↔ rising = true)
      (¬ active → exec (.tinEdge n rising time) s = .next s') ∧
      (active →
        (s'.fld R.TIME_TIN_CFG_MODE n.val ≠ 1 → s'.fld R.TIME_TIN_CFG_MODE n.val ≠ 2 → exec (.tinEdge n rising time) s = .next s') ∧
        (s'.fld R.TIME_TIN_CFG_MODE n.val = 2 → exec (.tinEdge n rising time) s = .next (s'.acceptEdge n.val)) ∧
        (s'.fld R.TIME_TIN_CFG_MODE n.val = 1 →
          ((s'.tin n.val).edge = none → exec (.tinEdge n rising time) s = .next (s'.acceptEdge n.val)) ∧
          (∀ t, (s'.tin n.val).edge = some t →
            let apart := s'.now - t
            (999900000 * 65536 ≤ apart → apart ≤ 1000100000 * 65536 → exec (.tinEdge n rising time) s = .next (s'.acceptEdge n.val)) ∧
            (apart < 999900000 * 65536 ∨ 1000100000 * 65536 < apart →
              exec (.tinEdge n rising time) s = .next (s'.bump R.TIME_TIN_REJECTED_COUNT n.val 1)))))) ∧
    (s.fld R.TIME_TIN_CFG_MODE n.val = 0 → exec (.tinLossTimeout n) s = .next s) ∧
    (s.fld R.TIME_TIN_CFG_MODE n.val ≠ 0 →
      exec (.tinLossTimeout n) s =
        .next ((s.updTin n.val (fun t => { t with edge := none, latest := [], fresh := false })).setLost n.val true)))

/-! ### Tables -/

/-- Learning and ageing, behind the errors that the reads of the tables find. The oldest notice of a learn queue leaves it and is handled,
but a STANDBY device discards it. An ACK that has not come in time ends its notice and is counted. A visit of the age sweep: a place
without an entry or that this sweep has visited, an entry that does not age, ageing switched off, a STANDBY device, and a device whose
sweeps have not begun change nothing; an agable entry of its own pipeline that was hit since the last visit loses HIT and IDLE, one that
was not becomes IDLE, and one that was IDLE already is deleted, counted and reported; a hit in the cycle of the read leaves HIT 1 and
IDLE 0, and one in the cycle of the removal's re-read does so too and is counted. -/
def Obligations.LearningCommands : Prop :=
  (∀ (s : State) (pl : Fin 8) (errors : List (Fin 8 × Nat × Bool)), s.Runs →
    let u := s.readErrors errors
    (SMap.get [] u.learnQ pl.val = [] → exec (.learnNotice pl errors) s = .next u) ∧
    (∀ (n : Notice) (rest : List Notice), SMap.get [] u.learnQ pl.val = n :: rest →
      let t := ({ u with learnQ := SMap.set [] u.learnQ pl.val rest } : State).setFld R.TBL_LEARN_Q_DEPTH pl.val rest.length
      (u.role = 3 → exec (.learnNotice pl errors) s = .next t) ∧
      (u.role ≠ 3 → exec (.learnNotice pl errors) s = .next (t.handleNotice n)))) ∧
  (∀ (s : State) (pl : Fin 8) (key : Word64), s.Acts →
    ((∀ n ∈ s.notices, ¬ (n.key = key ∧ n.pipe = pl.val)) → exec (.learnAckTimeout pl key) s = .next s) ∧
    (∀ n, s.notices.find? (fun n => n.key == key && n.pipe == pl.val) = some n →
      let left := s.notices.filter (fun m => m != n)
      exec (.learnAckTimeout pl key) s =
        .next ((({ s with notices := left } : State).setFld R.TBL_LEARN_STAT_PENDING 0 left.length).tblCount pl.val 9 1))) ∧
  (∀ (s : State) (pl : Fin 8) (place : Nat) (errors : List (Fin 8 × Nat × Bool)), s.Runs →
    let u := s.readErrors errors
    let k := placeKey pl.val place
    let run := fun late => exec (.ageSweepVisit pl place late errors) s
    (SMap.find u.table k = none ∨ u.sweep = none → ∀ late, run late = .next u) ∧
    (∀ e w, SMap.find u.table k = some e → u.sweep = some w →
      e.agable = false ∨ u.flag R.TBL_AGE_CFG_AGE_EN 0 = false ∨ u.role = 3 ∨ k ∈ (w.at u.sweepLength u.now).visited →
      ∀ late, run late = .next u) ∧
    (∀ e w, SMap.find u.table k = some e → u.sweep = some w →
      e.agable = true → u.flag R.TBL_AGE_CFG_AGE_EN 0 = true → u.role ≠ 3 → k ∉ (w.at u.sweepLength u.now).visited →
      u.sharedKey pl.val e.key = false → u.openEntry pl.val e.key = some (k, e) →
      let now := w.at u.sweepLength u.now
      let t : State := { u with sweep := some { now with visited := k :: now.visited } }
      let hit := bits e.result0 42 42
      let idle := bits e.result0 31 31
      (run (some false) = .next ((t.updEntry k (fun g => g.aged 0 0)).updEntry k TblEntry.hit)) ∧
      (∀ late, late ≠ some false → hit = 1 → run late = .next (t.updEntry k (fun g => g.aged 0 0))) ∧
      (∀ late, late ≠ some false → hit = 0 → idle = 0 → run late = .next (t.updEntry k (fun g => g.aged 1 0))) ∧
      (hit = 0 → idle = 1 → run (some true) =
        .next (((t.updEntry k (fun g => g.aged 0 0)).updEntry k TblEntry.hit).tblCount (k / 2 ^ 20) 13 1)) ∧
      (hit = 0 → idle = 1 →
        ∃ v : State, SMap.find v.table k = none ∧ ∃ words,
          words.head? = some (3 <<< 60 + (e.key.getD 0 0).toNat % 2 ^ 60) ∧
          run none = .next ((v.tblCount (k / 2 ^ 20) 12 1).raiseAt EV_LEARN (k / 2 ^ 20) (k / 2 ^ 20) words))))

/-- The shadow check, behind the errors that its reads of the replicas find. Without a posted descriptor, or behind the last segment, a
segment changes nothing; a descriptor that is not in order, or whose words cannot be read, ends the run with EV_SHADOW_FETCH and HEAD
moves on; the first segment of a run starts it with MISMATCHES 0, and its records are compared. The final scan reports every valid entry
that no record marked, ends the run and raises EV_SHADOW_DONE; of a mismatch the event names the kind, the pipeline, the place, the ring
index and the record index. -/
def Obligations.ShadowCheck : Prop :=
  (∀ (s : State) (addr : Word64) (count flags rsv : Nat) (words : Option (List Word64)) (errors : List (Fin 8 × Nat × Bool)), s.Runs →
    let u := s.readErrors errors
    (u.shadowPosted = false ∨ (∃ r, u.shadow = some r ∧ r.last = true) →
      exec (.shadowSegment addr count flags rsv words errors) s = .next u) ∧
    (u.shadowPosted = true → (∀ r, u.shadow = some r → r.last = false) → flags % 2 = 1 →
      addr.toNat % 64 ≠ 0 ∨ count = 0 ∨ 4096 < count ∨ 4 ≤ flags ∨ rsv ≠ 0 ∨ words = none →
      exec (.shadowSegment addr count flags rsv words errors) s = .next u.shadowFail.shadowNext)) ∧
  (∀ (s : State) (addr : Word64) (count flags : Nat) (ws : List Word64) (errors : List (Fin 8 × Nat × Bool)), s.Runs →
    let u := s.readErrors errors
    u.shadowPosted = true → u.shadow = none → addr.toNat % 64 = 0 → 1 ≤ count → count ≤ 4096 → (flags = 1 ∨ flags = 3) →
    ∃ t : State, t.shadow = some ⟨false, 0⟩ ∧ t.flag R.TBL_SHADOW_STAT_RUNNING 0 = true ∧
      t.fld R.TBL_SHADOW_STAT_MISMATCHES 0 = 0 ∧ (∀ e ∈ t.table, e.2.mark = false) ∧
      t = { u with regs := t.regs, table := t.table, shadow := t.shadow } ∧
      let read := (State.shadowRecords (u.fld R.TBL_SHADOW_HEAD_HEAD 0 % u.fld R.TBL_SHADOW_SIZE_SIZE 0) count 0 ws t).shadowNext
      exec (.shadowSegment addr count flags 0 (some ws) errors) s =
        .next { read with shadow := read.shadow.map (fun r => { r with last := flags.testBit 1 }) }) ∧
  (∀ (s : State) (errors : List (Fin 8 × Nat × Bool)), s.Runs →
    let u := s.readErrors errors
    ((u.shadow = none ∨ ∃ r, u.shadow = some r ∧ r.last = false) → exec (.shadowFinalScan errors) s = .next u) ∧
    (∀ r, u.shadow = some r → r.last = true → (∀ e ∈ u.table, e.2.staged = true ∨ e.2.mark = true) →
      exec (.shadowFinalScan errors) s =
        .next ((({ u with shadow := none } : State).setFlag R.TBL_SHADOW_STAT_RUNNING 0 false).raise EV_SHADOW_DONE 0))) ∧
  (∀ (s : State) (r : ShadowRun) (kind pl place ring record : Nat), s.shadow = some r → r.found < 256 →
    ∃ t : State, t.shadow = some { r with found := r.found + 1 } ∧ t.fld R.TBL_SHADOW_STAT_MISMATCHES 0 = r.found + 1 ∧
      t = { s with regs := t.regs, shadow := t.shadow } ∧
      s.mismatch kind pl (some place) ring record = t.raiseAt EV_SHADOW_MISMATCH 0 0 [kind, pl, placeWord place, ring, record]) ∧
  (∀ s : State, s.Acts → (s.shadowPosted = false → exec .shadowFetchTimeout s = .next s) ∧
    (s.shadowPosted = true → exec .shadowFetchTimeout s = .next s.shadowFail.shadowNext) ∧
    s.shadowFail.shadow = none ∧ s.shadowFail.flag R.TBL_SHADOW_STAT_RUNNING 0 = false)

/-! ### The pair -/

/-- What arrives from the peer. A heartbeat shows its role, pin, readiness and serial number. Copies, forwarded bundles and completion
records count in the role that takes them: a copy of the last paired edge waits for the next edge on a SYNCING or STANDBY device until the
cutoff; a forwarded bundle waits there to be checked; a record ends its comparison on an ACTIVE device. Readiness is noted with the bundle
or the commit it is about; a record that does not come in time counts as a divergence. -/
def Obligations.PairReception : Prop :=
  (∀ (s : State) (h : Heartbeat), s.Acts → s.linkUp = true → s.peerRole ≠ 7 → s.role ≠ 1 → h.marker = none → h.word = 0 →
    s.flag R.PAIR_STAT_FENCE_OUT 0 = false → h.role < 5 →
    ∃ t : State, exec (.heartbeatReceive h) s = .next (State.startReady 24 t.settlePair) ∧ t.peerRole = h.role ∧
      t.flag R.PAIR_STAT_PIN_CLASH 0 = (h.pin == s.flag R.PAIR_STAT_PIN_ROLE 0) ∧ t.role = s.role ∧
      t.pair = { s.pair with peerPin := h.pin, peerReady := h.ready, peerSerial := h.serial } ∧
      t = { s with regs := t.regs, pair := t.pair }) ∧
  (∀ (s : State) (copy : Sideboard), s.Acts →
    ((s.role = 2 ∨ s.role = 3) → s.epoch.cutoffDone = false → (copy.epoch : Int) = s.epochNum + s.pair.shift →
      exec (.sideboardCopyReceive copy) s = .next { s with pair := { s.pair with copy := some copy } }) ∧
    ((s.role ≠ 2 ∧ s.role ≠ 3) ∨ s.epoch.cutoffDone = true ∨ (copy.epoch : Int) ≠ s.epochNum + s.pair.shift →
      exec (.sideboardCopyReceive copy) s = .next s)) ∧
  (∀ (s : State) (n apply : Nat) (words : List Word64), s.Acts →
    ((s.role = 2 ∨ s.role = 3) → ∃ b : Bundle, b.words = words ∧ b.phase = .waiting ∧
      b.forward = some ⟨n, ((apply : Int) - s.pair.shift).toNat, true, false, false, false⟩ ∧
      exec (.forwardedBundle n words apply) s =
        .next (State.startReady 24 { s with bureau := { s.bureau with pairWaiting := s.bureau.pairWaiting ++ [b] } })) ∧
    (s.role ≠ 2 → s.role ≠ 3 → exec (.forwardedBundle n words apply) s = .next (State.startReady 24 s))) ∧
  (∀ (s : State) (n : Nat), s.Acts →
    exec (.pairReadiness n false) s = .next (State.startReady 24 (s.updForward n (fun w => { w with peerReady := true }))) ∧
    ((∃ c ∈ s.bureau.commits, c.paired = some n ∧ c.peerReady = false) → exec (.pairReadiness n true) s =
      .next (State.startReady 24 { s with bureau := { s.bureau with
        commits := s.bureau.commits.map (fun c => if c.paired = some n then { c with peerReady := true } else c) } })) ∧
    ((∀ c ∈ s.bureau.commits, c.paired = some n → c.peerReady = true) → exec (.pairReadiness n true) s =
      .next (State.startReady 24 (s.updForward n (fun w => { w with early := true }))))) ∧
  (∀ (s : State) (n : Nat) (words : List Word64), s.Acts →
    (s.role ≠ 1 → exec (.peerCompletionRecord n words) s = .next (State.startReady 24 s)) ∧
    (∀ own, SMap.find s.pair.ownRecords n = some own →
      let t : State := { s with pair := { s.pair with ownRecords := SMap.del s.pair.ownRecords n } }
      (s.role = 1 → exec (.peerCompletionRecord n words) s = .next (State.startReady 24 (t.compareRecords own (some words)))) ∧
      exec (.peerRecordTimeout n) s = .next (State.startReady 24 (t.compareRecords own none))) ∧
    (SMap.find s.pair.ownRecords n = none → exec (.peerRecordTimeout n) s = .next (State.startReady 24 s))) ∧
  (∀ (s : State) (own peer : List Word64), recordCompared peer = recordCompared own → s.compareRecords own (some peer) = s)

/-- Failure of a device or of the link (R413, R414, R417, R425, R426). The fail and fence lines show in FAIL_IN and FENCE_IN, but a
line that this device drives itself tells nothing of the peer; a low fail line makes a STANDBY device take over, and no other; a low fence
line fences an ACTIVE one, and no other. A peer without heartbeats is
lost: LINK_UP 0, PEER_ROLE 7, and a STANDBY device that may takes over. A fenced device deasserts TXSEL at the latest at its deadline. Ten
polls in a row without an answer assert the failure. The link runs on eight or on four aligned lanes. -/
def Obligations.PairFailure : Prop :=
  (∀ (s : State) (low : Bool), s.Acts →
    (let fails := low && !s.flag R.PAIR_STAT_FAIL_OUT 0
     let t := s.setFlag R.PAIR_STAT_FAIL_IN 0 fails
     (fails = false ∨ s.role ≠ 3 → exec (.peerFailAsserted low) s = .next (State.startReady 24 t)) ∧
     (fails = true → exec (.peerFailAsserted low) s = .next (State.startReady 24 t.takeOver))) ∧
    (let fences := low && !s.flag R.PAIR_STAT_FENCE_OUT 0
     let t := s.setFlag R.PAIR_STAT_FENCE_IN 0 fences
     (fences = false ∨ s.role ≠ 1 → exec (.peerFenceAsserted low) s = .next (State.startReady 24 t)) ∧
     (fences = true → s.role = 1 → exec (.peerFenceAsserted low) s = .next (State.startReady 24 t.fenced)))) ∧
  (∀ s : State, s.role = 3 → ∃ t : State, s.takeOver = t.settlePair ∧ t.role = 1 ∧ t.flag R.PAIR_STAT_FENCE_OUT 0 = true ∧
    t.pair.txOn = true) ∧
  (∀ s : State, s.Acts →
    (s.peerRole = 7 → s.linkUp = false → exec .heartbeatTimeout s = .next (State.startReady 24 s)) ∧
    (s.peerRole ≠ 7 ∨ s.linkUp = true → s.flag R.PAIR_CFG_TAKEOVER_EN 0 = false →
      ∃ t : State, exec .heartbeatTimeout s = .next (State.startReady 24 t.settlePair) ∧ t.peerRole = 7 ∧ t.linkUp = false ∧
        t.role = s.role ∧ t.pair = { s.pair with peerReady := false, marker := none, swap := none })) ∧
  (∀ s : State, s.Acts →
    (s.pair.txOff = false → exec .txselDeadlineExpiry s = .next s) ∧
    (s.pair.txOff = true → ∃ t, exec .txselDeadlineExpiry s = .next t ∧ t.fld R.PAIR_STAT_TXSEL 0 = 0 ∧
      t.pair = { s.pair with txOff := false } ∧ t = { s with regs := t.regs, pair := t.pair } ∧
      RegistersBut [R.PAIR_STAT.addr 0] s t)) ∧
  (∀ (s : State) (a b : Bool), s.Acts →
    let next := fun (ok : Bool) (n : Nat) => if ok = true then 0 else n + 1
    let t : State := { s with pair := { s.pair with polls := (next a s.pair.polls.1, next b s.pair.polls.2) } }
    (next a s.pair.polls.1 < 10 → next b s.pair.polls.2 < 10 → exec (.islandPoll a b) s = .next t) ∧
    (10 ≤ next a s.pair.polls.1 ∨ 10 ≤ next b s.pair.polls.2 → exec (.islandPoll a b) s = .next t.failPins) ∧
    t.failPins.flag R.PAIR_STAT_FAIL_OUT 0 = true ∧ t.failPins.fld R.PAIR_STAT_TXSEL 0 = 0) ∧
  (∀ (s : State) (lane : Fin 8) (aligned : Bool), s.Acts →
    let map := withBits s.pair.lanes lane.val lane.val (ofFlag aligned)
    let n := popCount 8 map
    let t := ({ s with pair := { s.pair with lanes := map } } : State).setFld R.PAIR_STAT_LANES 0
      (if n = 8 then 8 else if 4 ≤ n then 4 else 0)
    (4 ≤ popCount 8 s.pair.lanes → 4 ≤ n → exec (.psiusLaneAlignment lane aligned) s = .next (State.startReady 24 t)) ∧
    (popCount 8 s.pair.lanes < 4 → 4 ≤ n →
      exec (.psiusLaneAlignment lane aligned) s = .next (State.startReady 24 (t.setPairLink true).fenceChoice)) ∧
    (n < 4 → exec (.psiusLaneAlignment lane aligned) s = .next (State.startReady 24 (t.setPairLink false))))

/-! ### Reset, power and freeze -/

/-- RESET returns everything to its reset value but the fuses, the boot flash and what has left the device (the commands that wait and the
count of free values, which are the model's, stay too). BOOT acts in step 1 only: the pin's level is PIN_ROLE, and with a readable flash
the Charters and images of the flash are installed; every octet takes its reference clock, every lane is calibrated at the temperature as
it stands, the quadrants start and the device waits in step 5. A flash that cannot be read, or whose directory is neither valid nor blank,
leaves the device without a signed bundle. BOOT_COMPLETE takes it from there
to step 6, and does nothing in another. -/
def Obligations.ResetAndBoot : Prop :=
  (∀ s : State, exec .reset s = .next { State.reset with
    pending := s.pending, out := s.out, free := s.free, otp := s.otp, flash := s.flash }) ∧
  (∀ (s : State) (pin readable : Bool) (bad : List Nat) (ms : Nat), s.Acts →
    (s.fld R.PWR_STAT_BOOT_STEP 0 ≠ 1 → exec (.boot pin readable bad ms) s = .next s) ∧
    (s.fld R.PWR_STAT_BOOT_STEP 0 = 1 →
      let flashed := ((s.setFlag R.PAIR_STAT_PIN_ROLE 0 pin).bootFlash readable).setFld R.PWR_BOOT_TIME_FLASH_MS 0 ms
      let t := (flashed.bootLanes.bootCells bad).setFld R.PWR_STAT_BOOT_STEP 0 5
      exec (.boot pin readable bad ms) s = .next t ∧ t.fld R.PWR_STAT_BOOT_STEP 0 = 5)) ∧
  (∀ (s : State) (n : Fin 512), (s.bootLanes.lane n.val).calTemp = s.junction) ∧
  (∀ (s : State) (o : Fin 64), s.refLost = [] →
    s.bootLanes.flag R.LANE_OCT_STAT_REF_PRESENT o.val = true ∧ s.bootLanes.flag R.LANE_OCT_STAT_PLL_LOCK o.val = true) ∧
  (∀ s : State, (s.flash.directory ≠ 0x42464C5301000000 → s.flash.directory ≠ 0xFFFFFFFFFFFFFFFF → s.bootFlash true = s.bootBlind) ∧
    s.bootFlash false = s.bootBlind ∧ s.bootBlind.flag R.PWR_STAT_FLASH_FAIL 0 = true) ∧
  (∀ (s : State) (ms : Nat), s.Acts →
    (s.fld R.PWR_STAT_BOOT_STEP 0 ≠ 5 → exec (.bootComplete ms) s = .next s) ∧
    (s.fld R.PWR_STAT_BOOT_STEP 0 = 5 → s.auth.entering = [] →
      ∃ t, exec (.bootComplete ms) s = .next t ∧ t.fld R.PWR_STAT_BOOT_STEP 0 = 6 ∧
        t.fld R.PWR_BOOT_TIME_READY_MS 0 = ms % 2 ^ (R.PWR_BOOT_TIME_READY_MS.hi + 1 - R.PWR_BOOT_TIME_READY_MS.lo) ∧
        RegistersBut [R.PWR_STAT.addr 0, R.PWR_BOOT_TIME.addr 0] s t ∧ OnlyRegisters s t))

/-- Samples and the clock. Fewer than twelve sensors that work trip the device; the hottest of the others is Tj, shown with its peak, and
two samples in a row at 115 °C trip it too. A current of 560 A ends Sprint, and a millisecond of it at the base clock trips. An exhausted
CREDIT ends Sprint with code 1. The clock moves one step towards its aim where it may, and no step when it is there. A supply fault trips
with cause 3 and holds the device; a device that has tripped does not trip again. The freeze (R486 to R489). The FREEZE_N pin freezes a
device whose fuse is burned and that is permitted: it notes the cause, the epoch and TB0, asserts PAIR_FAIL, deasserts TXSEL and quiets
its lanes. Any other device counts the request and raises EV_FREEZE_DENIED. The permission ends with its time. -/
def Obligations.PowerAndFreeze : Prop :=
  ((∀ (s : State) (readings : List (Option Int)), s.Acts →
    let valid := (readings.take 24).filterMap id
    let t := s.setFld R.PWR_STAT_BAD_SENSORS 0 (24 - valid.length)
    (∀ r rest, valid = r :: rest →
      (12 ≤ valid.length → exec (.tjSample readings) s = .next (t.temperature (rest.foldl max r))) ∧
      (valid.length < 12 → exec (.tjSample readings) s = .next ((t.temperature (rest.foldl max r)).trip 1))) ∧
    (valid = [] → exec (.tjSample readings) s = .next (t.trip 1))) ∧
  (∀ (s : State) (tj : Int), s.sprinting = false → s.flag R.PWR_STAT_ALERT 0 = true → tj < 115 * 16 →
    (((s.fld R.PWR_THERM_CFG_ALERT_C 0 : Nat) : Int) - 3) * 16 < tj → s.sfld R.PWR_THERM_TJ_PEAK 0 ≥ tj →
    s.temperature tj = { s.setFld R.PWR_THERM_TJ 0 (unsigned 16 tj) with power := { s.power with hot := 0 } }) ∧
  (∀ (s : State) (amperes : Nat), s.Acts → amperes < 560 → s.fld R.PWR_ICORE_I_PEAK 0 ≥ amperes →
    exec (.icoreSample amperes) s = .next { s.setFld R.PWR_ICORE_I 0 amperes with power := { s.power with surge := 0 } }) ∧
  (∀ (s : State) (amperes : Nat), s.Acts → 560 ≤ amperes → s.sprinting = false → s.fld R.PWR_SPRINT_STAT_CLOCK 0 = 0 →
    s.power.surge ≠ 999 → s.fld R.PWR_ICORE_I_PEAK 0 ≥ min 1023 amperes →
    exec (.icoreSample amperes) s =
      .next { s.setFld R.PWR_ICORE_I 0 (min 1023 amperes) with power := { s.power with surge := s.power.surge + 1 } }) ∧
  (∀ (s : State) (time : Nat), s.Runs →
    ((s.advance time).power.credit ≠ 0 → exec (.creditExhausted time) s = .next (s.advance time)) ∧
    ((s.advance time).power.credit = 0 → exec (.creditExhausted time) s = .next ((s.advance time).sprintExit 1)) ∧
    (let s' := s.advance time
     let clock := s'.fld R.PWR_SPRINT_STAT_CLOCK 0
     (clock = s'.power.target ∨ s'.mayStep = false → exec (.sprintClockStep time) s = .next s') ∧
     (clock ≠ s'.power.target → s'.mayStep = true →
      let next := if clock < s'.power.target then clock + 1 else clock - 1
      let t := (s'.setFld R.PWR_SPRINT_STAT_CLOCK 0 next).updPower (fun q => { q with stepped := s'.now })
      exec (.sprintClockStep time) s =
        .next (t.setFlag R.PWR_SPRINT_STAT_STEPPING 0 (next != s'.power.target)).settleSprint))) ∧
  (∀ (s : State) (code : Nat), (s.power.target = 0 → s.sprintExit code = s) ∧
    (s.power.target ≠ 0 → ((s.sprintExit code).power.target = 0 ∧ (s.sprintExit code).fld R.PWR_SPRINT_STAT_LAST_END 0 = code % 8))) ∧
  (∀ s : State, s.Acts → ∃ t, exec .supplyFault s = .next { t with power := { t.power with supplyFault := true } } ∧ t = s.trip 3) ∧
  (∀ (s : State) (cause : Nat), s.flag R.PWR_STAT_TRIPPED 0 = true → s.trip cause = s)) ∧
  ((∀ (s : State) (trip : Bool), s.Acts →
    (s.otp.freeze = true → s.power.permitted = true →
      exec (.freezeNAsserted trip) s = .next (s.freeze (if trip = true then 5 else 1))) ∧
    (s.otp.freeze = false ∨ s.power.permitted = false →
      exec (.freezeNAsserted trip) s = .next ((s.bump R.PWR_FREEZE_DENIED_COUNT 0 1).raise EV_FREEZE_DENIED 0))) ∧
  (∀ (s : State) (cause : Nat), (∃ f, (s.freeze cause).power.frozen = some f ∧ f.cause = cause ∧ f.tb0 = (s.tbGet 0).value ∧
      f.epoch = s.epochNum ∧ f.key = s.free) ∧
    (s.freeze cause).flag R.PAIR_STAT_FAIL_OUT 0 = true ∧ (s.freeze cause).fld R.PAIR_STAT_TXSEL 0 = 0 ∧
    (s.freeze cause).out = s.out ∧ (s.freeze cause).otp = s.otp) ∧
  (∀ s : State, s.Acts →
    exec .freezePermitExpiry s = .next { s with power := { s.power with permitted := false, permit := 0 } }))
end

