-- ==== Sys2Proof/Laws/State.lean ====
section
/-! SUPPORT. What each update of one field of the state leaves in every field: true by definition. -/

namespace Sys2Proof.Machine

/-! `unstage` -/
@[simp] theorem State.unstage_pending (s : State) (id : Nat) : (s.unstage id).pending = s.pending := rfl
@[simp] theorem State.unstage_regs (s : State) (id : Nat) : (s.unstage id).regs = s.regs := rfl
@[simp] theorem State.unstage_evq (s : State) (id : Nat) : (s.unstage id).evq = s.evq := rfl
@[simp] theorem State.unstage_rseq (s : State) (id : Nat) : (s.unstage id).rseq = s.rseq := rfl
@[simp] theorem State.unstage_out (s : State) (id : Nat) : (s.unstage id).out = s.out := rfl
@[simp] theorem State.unstage_free (s : State) (id : Nat) : (s.unstage id).free = s.free := rfl
@[simp] theorem State.unstage_bureau (s : State) (id : Nat) : (s.unstage id).bureau = s.bureau := rfl
@[simp] theorem State.unstage_epoch (s : State) (id : Nat) : (s.unstage id).epoch = s.epoch := rfl
@[simp] theorem State.unstage_now (s : State) (id : Nat) : (s.unstage id).now = s.now := rfl
@[simp] theorem State.unstage_tb (s : State) (id : Nat) : (s.unstage id).tb = s.tb := rfl
@[simp] theorem State.unstage_otp (s : State) (id : Nat) : (s.unstage id).otp = s.otp := rfl
@[simp] theorem State.unstage_forced (s : State) (id : Nat) : (s.unstage id).forced = s.forced := rfl
@[simp] theorem State.unstage_servos (s : State) (id : Nat) : (s.unstage id).servos = s.servos := rfl
@[simp] theorem State.unstage_pulses (s : State) (id : Nat) : (s.unstage id).pulses = s.pulses := rfl
@[simp] theorem State.unstage_tins (s : State) (id : Nat) : (s.unstage id).tins = s.tins := rfl
@[simp] theorem State.unstage_lanes (s : State) (id : Nat) : (s.unstage id).lanes = s.lanes := rfl
@[simp] theorem State.unstage_refLost (s : State) (id : Nat) : (s.unstage id).refLost = s.refLost := rfl
@[simp] theorem State.unstage_ports (s : State) (id : Nat) : (s.unstage id).ports = s.ports := rfl
@[simp] theorem State.unstage_stf (s : State) (id : Nat) : (s.unstage id).stf = s.stf := rfl
@[simp] theorem State.unstage_tus (s : State) (id : Nat) : (s.unstage id).tus = s.tus := rfl
@[simp] theorem State.unstage_channels (s : State) (id : Nat) : (s.unstage id).channels = s.channels := rfl
@[simp] theorem State.unstage_leafHeld (s : State) (id : Nat) : (s.unstage id).leafHeld = s.leafHeld := rfl
@[simp] theorem State.unstage_leafPrev (s : State) (id : Nat) : (s.unstage id).leafPrev = s.leafPrev := rfl
@[simp] theorem State.unstage_frames (s : State) (id : Nat) : (s.unstage id).frames = s.frames := rfl
@[simp] theorem State.unstage_cells (s : State) (id : Nat) : (s.unstage id).cells = s.cells := rfl
@[simp] theorem State.unstage_cupboards (s : State) (id : Nat) : (s.unstage id).cupboards = s.cupboards := rfl
@[simp] theorem State.unstage_quarantine (s : State) (id : Nat) : (s.unstage id).quarantine = s.quarantine := rfl
@[simp] theorem State.unstage_cellLow (s : State) (id : Nat) : (s.unstage id).cellLow = s.cellLow := rfl
@[simp] theorem State.unstage_minFree (s : State) (id : Nat) : (s.unstage id).minFree = s.minFree := rfl
@[simp] theorem State.unstage_scrub (s : State) (id : Nat) : (s.unstage id).scrub = s.scrub := rfl
@[simp] theorem State.unstage_ingressCells (s : State) (id : Nat) : (s.unstage id).ingressCells = s.ingressCells := rfl
@[simp] theorem State.unstage_queues (s : State) (id : Nat) : (s.unstage id).queues = s.queues := rfl
@[simp] theorem State.unstage_meters (s : State) (id : Nat) : (s.unstage id).meters = s.meters := rfl
@[simp] theorem State.unstage_flows (s : State) (id : Nat) : (s.unstage id).flows = s.flows := rfl
@[simp] theorem State.unstage_shapers (s : State) (id : Nat) : (s.unstage id).shapers = s.shapers := rfl
@[simp] theorem State.unstage_virtual (s : State) (id : Nat) : (s.unstage id).virtual = s.virtual := rfl
@[simp] theorem State.unstage_mirrorCount (s : State) (id : Nat) : (s.unstage id).mirrorCount = s.mirrorCount := rfl
@[simp] theorem State.unstage_nodes (s : State) (id : Nat) : (s.unstage id).nodes = s.nodes := rfl
@[simp] theorem State.unstage_tcam (s : State) (id : Nat) : (s.unstage id).tcam = unstageEntries (claimedBy id s.tcamClaims) s.tcam := rfl
@[simp] theorem State.unstage_patterns (s : State) (id : Nat) : (s.unstage id).patterns = unstageEntries (claimedBy id s.patClaims) s.patterns := rfl
@[simp] theorem State.unstage_tcamClaims (s : State) (id : Nat) : (s.unstage id).tcamClaims = s.tcamClaims := rfl
@[simp] theorem State.unstage_patClaims (s : State) (id : Nat) : (s.unstage id).patClaims = s.patClaims := rfl
@[simp] theorem State.unstage_bankClaims (s : State) (id : Nat) : (s.unstage id).bankClaims = s.bankClaims := rfl
@[simp] theorem State.unstage_slow (s : State) (id : Nat) : (s.unstage id).slow = s.slow := rfl
@[simp] theorem State.unstage_scans (s : State) (id : Nat) : (s.unstage id).scans = s.scans := rfl
@[simp] theorem State.unstage_table (s : State) (id : Nat) : (s.unstage id).table = s.table := rfl
@[simp] theorem State.unstage_learnQ (s : State) (id : Nat) : (s.unstage id).learnQ = s.learnQ := rfl
@[simp] theorem State.unstage_notices (s : State) (id : Nat) : (s.unstage id).notices = s.notices := rfl
@[simp] theorem State.unstage_accepted (s : State) (id : Nat) : (s.unstage id).accepted = s.accepted := rfl
@[simp] theorem State.unstage_sweep (s : State) (id : Nat) : (s.unstage id).sweep = s.sweep := rfl
@[simp] theorem State.unstage_shadow (s : State) (id : Nat) : (s.unstage id).shadow = s.shadow := rfl
@[simp] theorem State.unstage_hostRx (s : State) (id : Nat) : (s.unstage id).hostRx = s.hostRx := rfl
@[simp] theorem State.unstage_host (s : State) (id : Nat) : (s.unstage id).host = s.host := rfl
@[simp] theorem State.unstage_flash (s : State) (id : Nat) : (s.unstage id).flash = s.flash := rfl
@[simp] theorem State.unstage_auth (s : State) (id : Nat) : (s.unstage id).auth = s.auth := rfl
@[simp] theorem State.unstage_power (s : State) (id : Nat) : (s.unstage id).power = s.power := rfl
@[simp] theorem State.unstage_pair (s : State) (id : Nat) : (s.unstage id).pair = s.pair := rfl

/-! `updAuth` -/
@[simp] theorem State.updAuth_pending (s : State) (f : Auth → Auth) : (s.updAuth f).pending = s.pending := rfl
@[simp] theorem State.updAuth_regs (s : State) (f : Auth → Auth) : (s.updAuth f).regs = s.regs := rfl
@[simp] theorem State.updAuth_evq (s : State) (f : Auth → Auth) : (s.updAuth f).evq = s.evq := rfl
@[simp] theorem State.updAuth_rseq (s : State) (f : Auth → Auth) : (s.updAuth f).rseq = s.rseq := rfl
@[simp] theorem State.updAuth_out (s : State) (f : Auth → Auth) : (s.updAuth f).out = s.out := rfl
@[simp] theorem State.updAuth_free (s : State) (f : Auth → Auth) : (s.updAuth f).free = s.free := rfl
@[simp] theorem State.updAuth_bureau (s : State) (f : Auth → Auth) : (s.updAuth f).bureau = s.bureau := rfl
@[simp] theorem State.updAuth_epoch (s : State) (f : Auth → Auth) : (s.updAuth f).epoch = s.epoch := rfl
@[simp] theorem State.updAuth_now (s : State) (f : Auth → Auth) : (s.updAuth f).now = s.now := rfl
@[simp] theorem State.updAuth_tb (s : State) (f : Auth → Auth) : (s.updAuth f).tb = s.tb := rfl
@[simp] theorem State.updAuth_otp (s : State) (f : Auth → Auth) : (s.updAuth f).otp = s.otp := rfl
@[simp] theorem State.updAuth_forced (s : State) (f : Auth → Auth) : (s.updAuth f).forced = s.forced := rfl
@[simp] theorem State.updAuth_servos (s : State) (f : Auth → Auth) : (s.updAuth f).servos = s.servos := rfl
@[simp] theorem State.updAuth_pulses (s : State) (f : Auth → Auth) : (s.updAuth f).pulses = s.pulses := rfl
@[simp] theorem State.updAuth_tins (s : State) (f : Auth → Auth) : (s.updAuth f).tins = s.tins := rfl
@[simp] theorem State.updAuth_lanes (s : State) (f : Auth → Auth) : (s.updAuth f).lanes = s.lanes := rfl
@[simp] theorem State.updAuth_refLost (s : State) (f : Auth → Auth) : (s.updAuth f).refLost = s.refLost := rfl
@[simp] theorem State.updAuth_ports (s : State) (f : Auth → Auth) : (s.updAuth f).ports = s.ports := rfl
@[simp] theorem State.updAuth_stf (s : State) (f : Auth → Auth) : (s.updAuth f).stf = s.stf := rfl
@[simp] theorem State.updAuth_tus (s : State) (f : Auth → Auth) : (s.updAuth f).tus = s.tus := rfl
@[simp] theorem State.updAuth_channels (s : State) (f : Auth → Auth) : (s.updAuth f).channels = s.channels := rfl
@[simp] theorem State.updAuth_leafHeld (s : State) (f : Auth → Auth) : (s.updAuth f).leafHeld = s.leafHeld := rfl
@[simp] theorem State.updAuth_leafPrev (s : State) (f : Auth → Auth) : (s.updAuth f).leafPrev = s.leafPrev := rfl
@[simp] theorem State.updAuth_frames (s : State) (f : Auth → Auth) : (s.updAuth f).frames = s.frames := rfl
@[simp] theorem State.updAuth_cells (s : State) (f : Auth → Auth) : (s.updAuth f).cells = s.cells := rfl
@[simp] theorem State.updAuth_cupboards (s : State) (f : Auth → Auth) : (s.updAuth f).cupboards = s.cupboards := rfl
@[simp] theorem State.updAuth_quarantine (s : State) (f : Auth → Auth) : (s.updAuth f).quarantine = s.quarantine := rfl
@[simp] theorem State.updAuth_cellLow (s : State) (f : Auth → Auth) : (s.updAuth f).cellLow = s.cellLow := rfl
@[simp] theorem State.updAuth_minFree (s : State) (f : Auth → Auth) : (s.updAuth f).minFree = s.minFree := rfl
@[simp] theorem State.updAuth_scrub (s : State) (f : Auth → Auth) : (s.updAuth f).scrub = s.scrub := rfl
@[simp] theorem State.updAuth_ingressCells (s : State) (f : Auth → Auth) : (s.updAuth f).ingressCells = s.ingressCells := rfl
@[simp] theorem State.updAuth_queues (s : State) (f : Auth → Auth) : (s.updAuth f).queues = s.queues := rfl
@[simp] theorem State.updAuth_meters (s : State) (f : Auth → Auth) : (s.updAuth f).meters = s.meters := rfl
@[simp] theorem State.updAuth_flows (s : State) (f : Auth → Auth) : (s.updAuth f).flows = s.flows := rfl
@[simp] theorem State.updAuth_shapers (s : State) (f : Auth → Auth) : (s.updAuth f).shapers = s.shapers := rfl
@[simp] theorem State.updAuth_virtual (s : State) (f : Auth → Auth) : (s.updAuth f).virtual = s.virtual := rfl
@[simp] theorem State.updAuth_mirrorCount (s : State) (f : Auth → Auth) : (s.updAuth f).mirrorCount = s.mirrorCount := rfl
@[simp] theorem State.updAuth_nodes (s : State) (f : Auth → Auth) : (s.updAuth f).nodes = s.nodes := rfl
@[simp] theorem State.updAuth_tcam (s : State) (f : Auth → Auth) : (s.updAuth f).tcam = s.tcam := rfl
@[simp] theorem State.updAuth_patterns (s : State) (f : Auth → Auth) : (s.updAuth f).patterns = s.patterns := rfl
@[simp] theorem State.updAuth_tcamClaims (s : State) (f : Auth → Auth) : (s.updAuth f).tcamClaims = s.tcamClaims := rfl
@[simp] theorem State.updAuth_patClaims (s : State) (f : Auth → Auth) : (s.updAuth f).patClaims = s.patClaims := rfl
@[simp] theorem State.updAuth_bankClaims (s : State) (f : Auth → Auth) : (s.updAuth f).bankClaims = s.bankClaims := rfl
@[simp] theorem State.updAuth_slow (s : State) (f : Auth → Auth) : (s.updAuth f).slow = s.slow := rfl
@[simp] theorem State.updAuth_scans (s : State) (f : Auth → Auth) : (s.updAuth f).scans = s.scans := rfl
@[simp] theorem State.updAuth_table (s : State) (f : Auth → Auth) : (s.updAuth f).table = s.table := rfl
@[simp] theorem State.updAuth_learnQ (s : State) (f : Auth → Auth) : (s.updAuth f).learnQ = s.learnQ := rfl
@[simp] theorem State.updAuth_notices (s : State) (f : Auth → Auth) : (s.updAuth f).notices = s.notices := rfl
@[simp] theorem State.updAuth_accepted (s : State) (f : Auth → Auth) : (s.updAuth f).accepted = s.accepted := rfl
@[simp] theorem State.updAuth_sweep (s : State) (f : Auth → Auth) : (s.updAuth f).sweep = s.sweep := rfl
@[simp] theorem State.updAuth_shadow (s : State) (f : Auth → Auth) : (s.updAuth f).shadow = s.shadow := rfl
@[simp] theorem State.updAuth_hostRx (s : State) (f : Auth → Auth) : (s.updAuth f).hostRx = s.hostRx := rfl
@[simp] theorem State.updAuth_host (s : State) (f : Auth → Auth) : (s.updAuth f).host = s.host := rfl
@[simp] theorem State.updAuth_flash (s : State) (f : Auth → Auth) : (s.updAuth f).flash = s.flash := rfl
@[simp] theorem State.updAuth_auth (s : State) (f : Auth → Auth) : (s.updAuth f).auth = f s.auth := rfl
@[simp] theorem State.updAuth_power (s : State) (f : Auth → Auth) : (s.updAuth f).power = s.power := rfl
@[simp] theorem State.updAuth_pair (s : State) (f : Auth → Auth) : (s.updAuth f).pair = s.pair := rfl

/-! `setCupboard` -/
@[simp] theorem State.setCupboard_pending (s : State) (q : Nat) (c : Cupboard) : (s.setCupboard q c).pending = s.pending := rfl
@[simp] theorem State.setCupboard_regs (s : State) (q : Nat) (c : Cupboard) : (s.setCupboard q c).regs = s.regs := rfl
@[simp] theorem State.setCupboard_evq (s : State) (q : Nat) (c : Cupboard) : (s.setCupboard q c).evq = s.evq := rfl
@[simp] theorem State.setCupboard_rseq (s : State) (q : Nat) (c : Cupboard) : (s.setCupboard q c).rseq = s.rseq := rfl
@[simp] theorem State.setCupboard_out (s : State) (q : Nat) (c : Cupboard) : (s.setCupboard q c).out = s.out := rfl
@[simp] theorem State.setCupboard_free (s : State) (q : Nat) (c : Cupboard) : (s.setCupboard q c).free = s.free := rfl
@[simp] theorem State.setCupboard_bureau (s : State) (q : Nat) (c : Cupboard) : (s.setCupboard q c).bureau = s.bureau := rfl
@[simp] theorem State.setCupboard_epoch (s : State) (q : Nat) (c : Cupboard) : (s.setCupboard q c).epoch = s.epoch := rfl
@[simp] theorem State.setCupboard_now (s : State) (q : Nat) (c : Cupboard) : (s.setCupboard q c).now = s.now := rfl
@[simp] theorem State.setCupboard_tb (s : State) (q : Nat) (c : Cupboard) : (s.setCupboard q c).tb = s.tb := rfl
@[simp] theorem State.setCupboard_otp (s : State) (q : Nat) (c : Cupboard) : (s.setCupboard q c).otp = s.otp := rfl
@[simp] theorem State.setCupboard_forced (s : State) (q : Nat) (c : Cupboard) : (s.setCupboard q c).forced = s.forced := rfl
@[simp] theorem State.setCupboard_servos (s : State) (q : Nat) (c : Cupboard) : (s.setCupboard q c).servos = s.servos := rfl
@[simp] theorem State.setCupboard_pulses (s : State) (q : Nat) (c : Cupboard) : (s.setCupboard q c).pulses = s.pulses := rfl
@[simp] theorem State.setCupboard_tins (s : State) (q : Nat) (c : Cupboard) : (s.setCupboard q c).tins = s.tins := rfl
@[simp] theorem State.setCupboard_lanes (s : State) (q : Nat) (c : Cupboard) : (s.setCupboard q c).lanes = s.lanes := rfl
@[simp] theorem State.setCupboard_refLost (s : State) (q : Nat) (c : Cupboard) : (s.setCupboard q c).refLost = s.refLost := rfl
@[simp] theorem State.setCupboard_ports (s : State) (q : Nat) (c : Cupboard) : (s.setCupboard q c).ports = s.ports := rfl
@[simp] theorem State.setCupboard_stf (s : State) (q : Nat) (c : Cupboard) : (s.setCupboard q c).stf = s.stf := rfl
@[simp] theorem State.setCupboard_tus (s : State) (q : Nat) (c : Cupboard) : (s.setCupboard q c).tus = s.tus := rfl
@[simp] theorem State.setCupboard_channels (s : State) (q : Nat) (c : Cupboard) : (s.setCupboard q c).channels = s.channels := rfl
@[simp] theorem State.setCupboard_leafHeld (s : State) (q : Nat) (c : Cupboard) : (s.setCupboard q c).leafHeld = s.leafHeld := rfl
@[simp] theorem State.setCupboard_leafPrev (s : State) (q : Nat) (c : Cupboard) : (s.setCupboard q c).leafPrev = s.leafPrev := rfl
@[simp] theorem State.setCupboard_frames (s : State) (q : Nat) (c : Cupboard) : (s.setCupboard q c).frames = s.frames := rfl
@[simp] theorem State.setCupboard_cells (s : State) (q : Nat) (c : Cupboard) : (s.setCupboard q c).cells = s.cells := rfl
@[simp] theorem State.setCupboard_cupboards (s : State) (q : Nat) (c : Cupboard) : (s.setCupboard q c).cupboards = SMap.set Cupboard.bare s.cupboards q c := rfl
@[simp] theorem State.setCupboard_quarantine (s : State) (q : Nat) (c : Cupboard) : (s.setCupboard q c).quarantine = s.quarantine := rfl
@[simp] theorem State.setCupboard_cellLow (s : State) (q : Nat) (c : Cupboard) : (s.setCupboard q c).cellLow = s.cellLow := rfl
@[simp] theorem State.setCupboard_minFree (s : State) (q : Nat) (c : Cupboard) : (s.setCupboard q c).minFree = s.minFree := rfl
@[simp] theorem State.setCupboard_scrub (s : State) (q : Nat) (c : Cupboard) : (s.setCupboard q c).scrub = s.scrub := rfl
@[simp] theorem State.setCupboard_ingressCells (s : State) (q : Nat) (c : Cupboard) : (s.setCupboard q c).ingressCells = s.ingressCells := rfl
@[simp] theorem State.setCupboard_queues (s : State) (q : Nat) (c : Cupboard) : (s.setCupboard q c).queues = s.queues := rfl
@[simp] theorem State.setCupboard_meters (s : State) (q : Nat) (c : Cupboard) : (s.setCupboard q c).meters = s.meters := rfl
@[simp] theorem State.setCupboard_flows (s : State) (q : Nat) (c : Cupboard) : (s.setCupboard q c).flows = s.flows := rfl
@[simp] theorem State.setCupboard_shapers (s : State) (q : Nat) (c : Cupboard) : (s.setCupboard q c).shapers = s.shapers := rfl
@[simp] theorem State.setCupboard_virtual (s : State) (q : Nat) (c : Cupboard) : (s.setCupboard q c).virtual = s.virtual := rfl
@[simp] theorem State.setCupboard_mirrorCount (s : State) (q : Nat) (c : Cupboard) : (s.setCupboard q c).mirrorCount = s.mirrorCount := rfl
@[simp] theorem State.setCupboard_nodes (s : State) (q : Nat) (c : Cupboard) : (s.setCupboard q c).nodes = s.nodes := rfl
@[simp] theorem State.setCupboard_tcam (s : State) (q : Nat) (c : Cupboard) : (s.setCupboard q c).tcam = s.tcam := rfl
@[simp] theorem State.setCupboard_patterns (s : State) (q : Nat) (c : Cupboard) : (s.setCupboard q c).patterns = s.patterns := rfl
@[simp] theorem State.setCupboard_tcamClaims (s : State) (q : Nat) (c : Cupboard) : (s.setCupboard q c).tcamClaims = s.tcamClaims := rfl
@[simp] theorem State.setCupboard_patClaims (s : State) (q : Nat) (c : Cupboard) : (s.setCupboard q c).patClaims = s.patClaims := rfl
@[simp] theorem State.setCupboard_bankClaims (s : State) (q : Nat) (c : Cupboard) : (s.setCupboard q c).bankClaims = s.bankClaims := rfl
@[simp] theorem State.setCupboard_slow (s : State) (q : Nat) (c : Cupboard) : (s.setCupboard q c).slow = s.slow := rfl
@[simp] theorem State.setCupboard_scans (s : State) (q : Nat) (c : Cupboard) : (s.setCupboard q c).scans = s.scans := rfl
@[simp] theorem State.setCupboard_table (s : State) (q : Nat) (c : Cupboard) : (s.setCupboard q c).table = s.table := rfl
@[simp] theorem State.setCupboard_learnQ (s : State) (q : Nat) (c : Cupboard) : (s.setCupboard q c).learnQ = s.learnQ := rfl
@[simp] theorem State.setCupboard_notices (s : State) (q : Nat) (c : Cupboard) : (s.setCupboard q c).notices = s.notices := rfl
@[simp] theorem State.setCupboard_accepted (s : State) (q : Nat) (c : Cupboard) : (s.setCupboard q c).accepted = s.accepted := rfl
@[simp] theorem State.setCupboard_sweep (s : State) (q : Nat) (c : Cupboard) : (s.setCupboard q c).sweep = s.sweep := rfl
@[simp] theorem State.setCupboard_shadow (s : State) (q : Nat) (c : Cupboard) : (s.setCupboard q c).shadow = s.shadow := rfl
@[simp] theorem State.setCupboard_hostRx (s : State) (q : Nat) (c : Cupboard) : (s.setCupboard q c).hostRx = s.hostRx := rfl
@[simp] theorem State.setCupboard_host (s : State) (q : Nat) (c : Cupboard) : (s.setCupboard q c).host = s.host := rfl
@[simp] theorem State.setCupboard_flash (s : State) (q : Nat) (c : Cupboard) : (s.setCupboard q c).flash = s.flash := rfl
@[simp] theorem State.setCupboard_auth (s : State) (q : Nat) (c : Cupboard) : (s.setCupboard q c).auth = s.auth := rfl
@[simp] theorem State.setCupboard_power (s : State) (q : Nat) (c : Cupboard) : (s.setCupboard q c).power = s.power := rfl
@[simp] theorem State.setCupboard_pair (s : State) (q : Nat) (c : Cupboard) : (s.setCupboard q c).pair = s.pair := rfl

/-! `setCell` -/
@[simp] theorem State.setCell_pending (s : State) (c : Nat) (v : Cell) : (s.setCell c v).pending = s.pending := rfl
@[simp] theorem State.setCell_regs (s : State) (c : Nat) (v : Cell) : (s.setCell c v).regs = s.regs := rfl
@[simp] theorem State.setCell_evq (s : State) (c : Nat) (v : Cell) : (s.setCell c v).evq = s.evq := rfl
@[simp] theorem State.setCell_rseq (s : State) (c : Nat) (v : Cell) : (s.setCell c v).rseq = s.rseq := rfl
@[simp] theorem State.setCell_out (s : State) (c : Nat) (v : Cell) : (s.setCell c v).out = s.out := rfl
@[simp] theorem State.setCell_free (s : State) (c : Nat) (v : Cell) : (s.setCell c v).free = s.free := rfl
@[simp] theorem State.setCell_bureau (s : State) (c : Nat) (v : Cell) : (s.setCell c v).bureau = s.bureau := rfl
@[simp] theorem State.setCell_epoch (s : State) (c : Nat) (v : Cell) : (s.setCell c v).epoch = s.epoch := rfl
@[simp] theorem State.setCell_now (s : State) (c : Nat) (v : Cell) : (s.setCell c v).now = s.now := rfl
@[simp] theorem State.setCell_tb (s : State) (c : Nat) (v : Cell) : (s.setCell c v).tb = s.tb := rfl
@[simp] theorem State.setCell_otp (s : State) (c : Nat) (v : Cell) : (s.setCell c v).otp = s.otp := rfl
@[simp] theorem State.setCell_forced (s : State) (c : Nat) (v : Cell) : (s.setCell c v).forced = s.forced := rfl
@[simp] theorem State.setCell_servos (s : State) (c : Nat) (v : Cell) : (s.setCell c v).servos = s.servos := rfl
@[simp] theorem State.setCell_pulses (s : State) (c : Nat) (v : Cell) : (s.setCell c v).pulses = s.pulses := rfl
@[simp] theorem State.setCell_tins (s : State) (c : Nat) (v : Cell) : (s.setCell c v).tins = s.tins := rfl
@[simp] theorem State.setCell_lanes (s : State) (c : Nat) (v : Cell) : (s.setCell c v).lanes = s.lanes := rfl
@[simp] theorem State.setCell_refLost (s : State) (c : Nat) (v : Cell) : (s.setCell c v).refLost = s.refLost := rfl
@[simp] theorem State.setCell_ports (s : State) (c : Nat) (v : Cell) : (s.setCell c v).ports = s.ports := rfl
@[simp] theorem State.setCell_stf (s : State) (c : Nat) (v : Cell) : (s.setCell c v).stf = s.stf := rfl
@[simp] theorem State.setCell_tus (s : State) (c : Nat) (v : Cell) : (s.setCell c v).tus = s.tus := rfl
@[simp] theorem State.setCell_channels (s : State) (c : Nat) (v : Cell) : (s.setCell c v).channels = s.channels := rfl
@[simp] theorem State.setCell_leafHeld (s : State) (c : Nat) (v : Cell) : (s.setCell c v).leafHeld = s.leafHeld := rfl
@[simp] theorem State.setCell_leafPrev (s : State) (c : Nat) (v : Cell) : (s.setCell c v).leafPrev = s.leafPrev := rfl
@[simp] theorem State.setCell_frames (s : State) (c : Nat) (v : Cell) : (s.setCell c v).frames = s.frames := rfl
@[simp] theorem State.setCell_cells (s : State) (c : Nat) (v : Cell) : (s.setCell c v).cells = SMap.set Cell.empty s.cells c v := rfl
@[simp] theorem State.setCell_cupboards (s : State) (c : Nat) (v : Cell) : (s.setCell c v).cupboards = s.cupboards := rfl
@[simp] theorem State.setCell_quarantine (s : State) (c : Nat) (v : Cell) : (s.setCell c v).quarantine = s.quarantine := rfl
@[simp] theorem State.setCell_cellLow (s : State) (c : Nat) (v : Cell) : (s.setCell c v).cellLow = s.cellLow := rfl
@[simp] theorem State.setCell_minFree (s : State) (c : Nat) (v : Cell) : (s.setCell c v).minFree = s.minFree := rfl
@[simp] theorem State.setCell_scrub (s : State) (c : Nat) (v : Cell) : (s.setCell c v).scrub = s.scrub := rfl
@[simp] theorem State.setCell_ingressCells (s : State) (c : Nat) (v : Cell) : (s.setCell c v).ingressCells = s.ingressCells := rfl
@[simp] theorem State.setCell_queues (s : State) (c : Nat) (v : Cell) : (s.setCell c v).queues = s.queues := rfl
@[simp] theorem State.setCell_meters (s : State) (c : Nat) (v : Cell) : (s.setCell c v).meters = s.meters := rfl
@[simp] theorem State.setCell_flows (s : State) (c : Nat) (v : Cell) : (s.setCell c v).flows = s.flows := rfl
@[simp] theorem State.setCell_shapers (s : State) (c : Nat) (v : Cell) : (s.setCell c v).shapers = s.shapers := rfl
@[simp] theorem State.setCell_virtual (s : State) (c : Nat) (v : Cell) : (s.setCell c v).virtual = s.virtual := rfl
@[simp] theorem State.setCell_mirrorCount (s : State) (c : Nat) (v : Cell) : (s.setCell c v).mirrorCount = s.mirrorCount := rfl
@[simp] theorem State.setCell_nodes (s : State) (c : Nat) (v : Cell) : (s.setCell c v).nodes = s.nodes := rfl
@[simp] theorem State.setCell_tcam (s : State) (c : Nat) (v : Cell) : (s.setCell c v).tcam = s.tcam := rfl
@[simp] theorem State.setCell_patterns (s : State) (c : Nat) (v : Cell) : (s.setCell c v).patterns = s.patterns := rfl
@[simp] theorem State.setCell_tcamClaims (s : State) (c : Nat) (v : Cell) : (s.setCell c v).tcamClaims = s.tcamClaims := rfl
@[simp] theorem State.setCell_patClaims (s : State) (c : Nat) (v : Cell) : (s.setCell c v).patClaims = s.patClaims := rfl
@[simp] theorem State.setCell_bankClaims (s : State) (c : Nat) (v : Cell) : (s.setCell c v).bankClaims = s.bankClaims := rfl
@[simp] theorem State.setCell_slow (s : State) (c : Nat) (v : Cell) : (s.setCell c v).slow = s.slow := rfl
@[simp] theorem State.setCell_scans (s : State) (c : Nat) (v : Cell) : (s.setCell c v).scans = s.scans := rfl
@[simp] theorem State.setCell_table (s : State) (c : Nat) (v : Cell) : (s.setCell c v).table = s.table := rfl
@[simp] theorem State.setCell_learnQ (s : State) (c : Nat) (v : Cell) : (s.setCell c v).learnQ = s.learnQ := rfl
@[simp] theorem State.setCell_notices (s : State) (c : Nat) (v : Cell) : (s.setCell c v).notices = s.notices := rfl
@[simp] theorem State.setCell_accepted (s : State) (c : Nat) (v : Cell) : (s.setCell c v).accepted = s.accepted := rfl
@[simp] theorem State.setCell_sweep (s : State) (c : Nat) (v : Cell) : (s.setCell c v).sweep = s.sweep := rfl
@[simp] theorem State.setCell_shadow (s : State) (c : Nat) (v : Cell) : (s.setCell c v).shadow = s.shadow := rfl
@[simp] theorem State.setCell_hostRx (s : State) (c : Nat) (v : Cell) : (s.setCell c v).hostRx = s.hostRx := rfl
@[simp] theorem State.setCell_host (s : State) (c : Nat) (v : Cell) : (s.setCell c v).host = s.host := rfl
@[simp] theorem State.setCell_flash (s : State) (c : Nat) (v : Cell) : (s.setCell c v).flash = s.flash := rfl
@[simp] theorem State.setCell_auth (s : State) (c : Nat) (v : Cell) : (s.setCell c v).auth = s.auth := rfl
@[simp] theorem State.setCell_power (s : State) (c : Nat) (v : Cell) : (s.setCell c v).power = s.power := rfl
@[simp] theorem State.setCell_pair (s : State) (c : Nat) (v : Cell) : (s.setCell c v).pair = s.pair := rfl

/-! `updQueue` -/
@[simp] theorem State.updQueue_pending (s : State) (q : Nat) (f : Queue → Queue) : (s.updQueue q f).pending = s.pending := rfl
@[simp] theorem State.updQueue_regs (s : State) (q : Nat) (f : Queue → Queue) : (s.updQueue q f).regs = s.regs := rfl
@[simp] theorem State.updQueue_evq (s : State) (q : Nat) (f : Queue → Queue) : (s.updQueue q f).evq = s.evq := rfl
@[simp] theorem State.updQueue_rseq (s : State) (q : Nat) (f : Queue → Queue) : (s.updQueue q f).rseq = s.rseq := rfl
@[simp] theorem State.updQueue_out (s : State) (q : Nat) (f : Queue → Queue) : (s.updQueue q f).out = s.out := rfl
@[simp] theorem State.updQueue_free (s : State) (q : Nat) (f : Queue → Queue) : (s.updQueue q f).free = s.free := rfl
@[simp] theorem State.updQueue_bureau (s : State) (q : Nat) (f : Queue → Queue) : (s.updQueue q f).bureau = s.bureau := rfl
@[simp] theorem State.updQueue_epoch (s : State) (q : Nat) (f : Queue → Queue) : (s.updQueue q f).epoch = s.epoch := rfl
@[simp] theorem State.updQueue_now (s : State) (q : Nat) (f : Queue → Queue) : (s.updQueue q f).now = s.now := rfl
@[simp] theorem State.updQueue_tb (s : State) (q : Nat) (f : Queue → Queue) : (s.updQueue q f).tb = s.tb := rfl
@[simp] theorem State.updQueue_otp (s : State) (q : Nat) (f : Queue → Queue) : (s.updQueue q f).otp = s.otp := rfl
@[simp] theorem State.updQueue_forced (s : State) (q : Nat) (f : Queue → Queue) : (s.updQueue q f).forced = s.forced := rfl
@[simp] theorem State.updQueue_servos (s : State) (q : Nat) (f : Queue → Queue) : (s.updQueue q f).servos = s.servos := rfl
@[simp] theorem State.updQueue_pulses (s : State) (q : Nat) (f : Queue → Queue) : (s.updQueue q f).pulses = s.pulses := rfl
@[simp] theorem State.updQueue_tins (s : State) (q : Nat) (f : Queue → Queue) : (s.updQueue q f).tins = s.tins := rfl
@[simp] theorem State.updQueue_lanes (s : State) (q : Nat) (f : Queue → Queue) : (s.updQueue q f).lanes = s.lanes := rfl
@[simp] theorem State.updQueue_refLost (s : State) (q : Nat) (f : Queue → Queue) : (s.updQueue q f).refLost = s.refLost := rfl
@[simp] theorem State.updQueue_ports (s : State) (q : Nat) (f : Queue → Queue) : (s.updQueue q f).ports = s.ports := rfl
@[simp] theorem State.updQueue_stf (s : State) (q : Nat) (f : Queue → Queue) : (s.updQueue q f).stf = s.stf := rfl
@[simp] theorem State.updQueue_tus (s : State) (q : Nat) (f : Queue → Queue) : (s.updQueue q f).tus = s.tus := rfl
@[simp] theorem State.updQueue_channels (s : State) (q : Nat) (f : Queue → Queue) : (s.updQueue q f).channels = s.channels := rfl
@[simp] theorem State.updQueue_leafHeld (s : State) (q : Nat) (f : Queue → Queue) : (s.updQueue q f).leafHeld = s.leafHeld := rfl
@[simp] theorem State.updQueue_leafPrev (s : State) (q : Nat) (f : Queue → Queue) : (s.updQueue q f).leafPrev = s.leafPrev := rfl
@[simp] theorem State.updQueue_frames (s : State) (q : Nat) (f : Queue → Queue) : (s.updQueue q f).frames = s.frames := rfl
@[simp] theorem State.updQueue_cells (s : State) (q : Nat) (f : Queue → Queue) : (s.updQueue q f).cells = s.cells := rfl
@[simp] theorem State.updQueue_cupboards (s : State) (q : Nat) (f : Queue → Queue) : (s.updQueue q f).cupboards = s.cupboards := rfl
@[simp] theorem State.updQueue_quarantine (s : State) (q : Nat) (f : Queue → Queue) : (s.updQueue q f).quarantine = s.quarantine := rfl
@[simp] theorem State.updQueue_cellLow (s : State) (q : Nat) (f : Queue → Queue) : (s.updQueue q f).cellLow = s.cellLow := rfl
@[simp] theorem State.updQueue_minFree (s : State) (q : Nat) (f : Queue → Queue) : (s.updQueue q f).minFree = s.minFree := rfl
@[simp] theorem State.updQueue_scrub (s : State) (q : Nat) (f : Queue → Queue) : (s.updQueue q f).scrub = s.scrub := rfl
@[simp] theorem State.updQueue_ingressCells (s : State) (q : Nat) (f : Queue → Queue) : (s.updQueue q f).ingressCells = s.ingressCells := rfl
@[simp] theorem State.updQueue_queues (s : State) (q : Nat) (f : Queue → Queue) : (s.updQueue q f).queues = SMap.set (Queue.reset q) s.queues q (f (s.queue q)) := rfl
@[simp] theorem State.updQueue_meters (s : State) (q : Nat) (f : Queue → Queue) : (s.updQueue q f).meters = s.meters := rfl
@[simp] theorem State.updQueue_flows (s : State) (q : Nat) (f : Queue → Queue) : (s.updQueue q f).flows = s.flows := rfl
@[simp] theorem State.updQueue_shapers (s : State) (q : Nat) (f : Queue → Queue) : (s.updQueue q f).shapers = s.shapers := rfl
@[simp] theorem State.updQueue_virtual (s : State) (q : Nat) (f : Queue → Queue) : (s.updQueue q f).virtual = s.virtual := rfl
@[simp] theorem State.updQueue_mirrorCount (s : State) (q : Nat) (f : Queue → Queue) : (s.updQueue q f).mirrorCount = s.mirrorCount := rfl
@[simp] theorem State.updQueue_nodes (s : State) (q : Nat) (f : Queue → Queue) : (s.updQueue q f).nodes = s.nodes := rfl
@[simp] theorem State.updQueue_tcam (s : State) (q : Nat) (f : Queue → Queue) : (s.updQueue q f).tcam = s.tcam := rfl
@[simp] theorem State.updQueue_patterns (s : State) (q : Nat) (f : Queue → Queue) : (s.updQueue q f).patterns = s.patterns := rfl
@[simp] theorem State.updQueue_tcamClaims (s : State) (q : Nat) (f : Queue → Queue) : (s.updQueue q f).tcamClaims = s.tcamClaims := rfl
@[simp] theorem State.updQueue_patClaims (s : State) (q : Nat) (f : Queue → Queue) : (s.updQueue q f).patClaims = s.patClaims := rfl
@[simp] theorem State.updQueue_bankClaims (s : State) (q : Nat) (f : Queue → Queue) : (s.updQueue q f).bankClaims = s.bankClaims := rfl
@[simp] theorem State.updQueue_slow (s : State) (q : Nat) (f : Queue → Queue) : (s.updQueue q f).slow = s.slow := rfl
@[simp] theorem State.updQueue_scans (s : State) (q : Nat) (f : Queue → Queue) : (s.updQueue q f).scans = s.scans := rfl
@[simp] theorem State.updQueue_table (s : State) (q : Nat) (f : Queue → Queue) : (s.updQueue q f).table = s.table := rfl
@[simp] theorem State.updQueue_learnQ (s : State) (q : Nat) (f : Queue → Queue) : (s.updQueue q f).learnQ = s.learnQ := rfl
@[simp] theorem State.updQueue_notices (s : State) (q : Nat) (f : Queue → Queue) : (s.updQueue q f).notices = s.notices := rfl
@[simp] theorem State.updQueue_accepted (s : State) (q : Nat) (f : Queue → Queue) : (s.updQueue q f).accepted = s.accepted := rfl
@[simp] theorem State.updQueue_sweep (s : State) (q : Nat) (f : Queue → Queue) : (s.updQueue q f).sweep = s.sweep := rfl
@[simp] theorem State.updQueue_shadow (s : State) (q : Nat) (f : Queue → Queue) : (s.updQueue q f).shadow = s.shadow := rfl
@[simp] theorem State.updQueue_hostRx (s : State) (q : Nat) (f : Queue → Queue) : (s.updQueue q f).hostRx = s.hostRx := rfl
@[simp] theorem State.updQueue_host (s : State) (q : Nat) (f : Queue → Queue) : (s.updQueue q f).host = s.host := rfl
@[simp] theorem State.updQueue_flash (s : State) (q : Nat) (f : Queue → Queue) : (s.updQueue q f).flash = s.flash := rfl
@[simp] theorem State.updQueue_auth (s : State) (q : Nat) (f : Queue → Queue) : (s.updQueue q f).auth = s.auth := rfl
@[simp] theorem State.updQueue_power (s : State) (q : Nat) (f : Queue → Queue) : (s.updQueue q f).power = s.power := rfl
@[simp] theorem State.updQueue_pair (s : State) (q : Nat) (f : Queue → Queue) : (s.updQueue q f).pair = s.pair := rfl

/-! `updBureau` -/
@[simp] theorem State.updBureau_pending (s : State) (f : Bureau → Bureau) : (s.updBureau f).pending = s.pending := rfl
@[simp] theorem State.updBureau_regs (s : State) (f : Bureau → Bureau) : (s.updBureau f).regs = s.regs := rfl
@[simp] theorem State.updBureau_evq (s : State) (f : Bureau → Bureau) : (s.updBureau f).evq = s.evq := rfl
@[simp] theorem State.updBureau_rseq (s : State) (f : Bureau → Bureau) : (s.updBureau f).rseq = s.rseq := rfl
@[simp] theorem State.updBureau_out (s : State) (f : Bureau → Bureau) : (s.updBureau f).out = s.out := rfl
@[simp] theorem State.updBureau_free (s : State) (f : Bureau → Bureau) : (s.updBureau f).free = s.free := rfl
@[simp] theorem State.updBureau_bureau (s : State) (f : Bureau → Bureau) : (s.updBureau f).bureau = f s.bureau := rfl
@[simp] theorem State.updBureau_epoch (s : State) (f : Bureau → Bureau) : (s.updBureau f).epoch = s.epoch := rfl
@[simp] theorem State.updBureau_now (s : State) (f : Bureau → Bureau) : (s.updBureau f).now = s.now := rfl
@[simp] theorem State.updBureau_tb (s : State) (f : Bureau → Bureau) : (s.updBureau f).tb = s.tb := rfl
@[simp] theorem State.updBureau_otp (s : State) (f : Bureau → Bureau) : (s.updBureau f).otp = s.otp := rfl
@[simp] theorem State.updBureau_forced (s : State) (f : Bureau → Bureau) : (s.updBureau f).forced = s.forced := rfl
@[simp] theorem State.updBureau_servos (s : State) (f : Bureau → Bureau) : (s.updBureau f).servos = s.servos := rfl
@[simp] theorem State.updBureau_pulses (s : State) (f : Bureau → Bureau) : (s.updBureau f).pulses = s.pulses := rfl
@[simp] theorem State.updBureau_tins (s : State) (f : Bureau → Bureau) : (s.updBureau f).tins = s.tins := rfl
@[simp] theorem State.updBureau_lanes (s : State) (f : Bureau → Bureau) : (s.updBureau f).lanes = s.lanes := rfl
@[simp] theorem State.updBureau_refLost (s : State) (f : Bureau → Bureau) : (s.updBureau f).refLost = s.refLost := rfl
@[simp] theorem State.updBureau_ports (s : State) (f : Bureau → Bureau) : (s.updBureau f).ports = s.ports := rfl
@[simp] theorem State.updBureau_stf (s : State) (f : Bureau → Bureau) : (s.updBureau f).stf = s.stf := rfl
@[simp] theorem State.updBureau_tus (s : State) (f : Bureau → Bureau) : (s.updBureau f).tus = s.tus := rfl
@[simp] theorem State.updBureau_channels (s : State) (f : Bureau → Bureau) : (s.updBureau f).channels = s.channels := rfl
@[simp] theorem State.updBureau_leafHeld (s : State) (f : Bureau → Bureau) : (s.updBureau f).leafHeld = s.leafHeld := rfl
@[simp] theorem State.updBureau_leafPrev (s : State) (f : Bureau → Bureau) : (s.updBureau f).leafPrev = s.leafPrev := rfl
@[simp] theorem State.updBureau_frames (s : State) (f : Bureau → Bureau) : (s.updBureau f).frames = s.frames := rfl
@[simp] theorem State.updBureau_cells (s : State) (f : Bureau → Bureau) : (s.updBureau f).cells = s.cells := rfl
@[simp] theorem State.updBureau_cupboards (s : State) (f : Bureau → Bureau) : (s.updBureau f).cupboards = s.cupboards := rfl
@[simp] theorem State.updBureau_quarantine (s : State) (f : Bureau → Bureau) : (s.updBureau f).quarantine = s.quarantine := rfl
@[simp] theorem State.updBureau_cellLow (s : State) (f : Bureau → Bureau) : (s.updBureau f).cellLow = s.cellLow := rfl
@[simp] theorem State.updBureau_minFree (s : State) (f : Bureau → Bureau) : (s.updBureau f).minFree = s.minFree := rfl
@[simp] theorem State.updBureau_scrub (s : State) (f : Bureau → Bureau) : (s.updBureau f).scrub = s.scrub := rfl
@[simp] theorem State.updBureau_ingressCells (s : State) (f : Bureau → Bureau) : (s.updBureau f).ingressCells = s.ingressCells := rfl
@[simp] theorem State.updBureau_queues (s : State) (f : Bureau → Bureau) : (s.updBureau f).queues = s.queues := rfl
@[simp] theorem State.updBureau_meters (s : State) (f : Bureau → Bureau) : (s.updBureau f).meters = s.meters := rfl
@[simp] theorem State.updBureau_flows (s : State) (f : Bureau → Bureau) : (s.updBureau f).flows = s.flows := rfl
@[simp] theorem State.updBureau_shapers (s : State) (f : Bureau → Bureau) : (s.updBureau f).shapers = s.shapers := rfl
@[simp] theorem State.updBureau_virtual (s : State) (f : Bureau → Bureau) : (s.updBureau f).virtual = s.virtual := rfl
@[simp] theorem State.updBureau_mirrorCount (s : State) (f : Bureau → Bureau) : (s.updBureau f).mirrorCount = s.mirrorCount := rfl
@[simp] theorem State.updBureau_nodes (s : State) (f : Bureau → Bureau) : (s.updBureau f).nodes = s.nodes := rfl
@[simp] theorem State.updBureau_tcam (s : State) (f : Bureau → Bureau) : (s.updBureau f).tcam = s.tcam := rfl
@[simp] theorem State.updBureau_patterns (s : State) (f : Bureau → Bureau) : (s.updBureau f).patterns = s.patterns := rfl
@[simp] theorem State.updBureau_tcamClaims (s : State) (f : Bureau → Bureau) : (s.updBureau f).tcamClaims = s.tcamClaims := rfl
@[simp] theorem State.updBureau_patClaims (s : State) (f : Bureau → Bureau) : (s.updBureau f).patClaims = s.patClaims := rfl
@[simp] theorem State.updBureau_bankClaims (s : State) (f : Bureau → Bureau) : (s.updBureau f).bankClaims = s.bankClaims := rfl
@[simp] theorem State.updBureau_slow (s : State) (f : Bureau → Bureau) : (s.updBureau f).slow = s.slow := rfl
@[simp] theorem State.updBureau_scans (s : State) (f : Bureau → Bureau) : (s.updBureau f).scans = s.scans := rfl
@[simp] theorem State.updBureau_table (s : State) (f : Bureau → Bureau) : (s.updBureau f).table = s.table := rfl
@[simp] theorem State.updBureau_learnQ (s : State) (f : Bureau → Bureau) : (s.updBureau f).learnQ = s.learnQ := rfl
@[simp] theorem State.updBureau_notices (s : State) (f : Bureau → Bureau) : (s.updBureau f).notices = s.notices := rfl
@[simp] theorem State.updBureau_accepted (s : State) (f : Bureau → Bureau) : (s.updBureau f).accepted = s.accepted := rfl
@[simp] theorem State.updBureau_sweep (s : State) (f : Bureau → Bureau) : (s.updBureau f).sweep = s.sweep := rfl
@[simp] theorem State.updBureau_shadow (s : State) (f : Bureau → Bureau) : (s.updBureau f).shadow = s.shadow := rfl
@[simp] theorem State.updBureau_hostRx (s : State) (f : Bureau → Bureau) : (s.updBureau f).hostRx = s.hostRx := rfl
@[simp] theorem State.updBureau_host (s : State) (f : Bureau → Bureau) : (s.updBureau f).host = s.host := rfl
@[simp] theorem State.updBureau_flash (s : State) (f : Bureau → Bureau) : (s.updBureau f).flash = s.flash := rfl
@[simp] theorem State.updBureau_auth (s : State) (f : Bureau → Bureau) : (s.updBureau f).auth = s.auth := rfl
@[simp] theorem State.updBureau_power (s : State) (f : Bureau → Bureau) : (s.updBureau f).power = s.power := rfl
@[simp] theorem State.updBureau_pair (s : State) (f : Bureau → Bureau) : (s.updBureau f).pair = s.pair := rfl

/-! `updHost` -/
@[simp] theorem State.updHost_pending (s : State) (f : HostSide → HostSide) : (s.updHost f).pending = s.pending := rfl
@[simp] theorem State.updHost_regs (s : State) (f : HostSide → HostSide) : (s.updHost f).regs = s.regs := rfl
@[simp] theorem State.updHost_evq (s : State) (f : HostSide → HostSide) : (s.updHost f).evq = s.evq := rfl
@[simp] theorem State.updHost_rseq (s : State) (f : HostSide → HostSide) : (s.updHost f).rseq = s.rseq := rfl
@[simp] theorem State.updHost_out (s : State) (f : HostSide → HostSide) : (s.updHost f).out = s.out := rfl
@[simp] theorem State.updHost_free (s : State) (f : HostSide → HostSide) : (s.updHost f).free = s.free := rfl
@[simp] theorem State.updHost_bureau (s : State) (f : HostSide → HostSide) : (s.updHost f).bureau = s.bureau := rfl
@[simp] theorem State.updHost_epoch (s : State) (f : HostSide → HostSide) : (s.updHost f).epoch = s.epoch := rfl
@[simp] theorem State.updHost_now (s : State) (f : HostSide → HostSide) : (s.updHost f).now = s.now := rfl
@[simp] theorem State.updHost_tb (s : State) (f : HostSide → HostSide) : (s.updHost f).tb = s.tb := rfl
@[simp] theorem State.updHost_otp (s : State) (f : HostSide → HostSide) : (s.updHost f).otp = s.otp := rfl
@[simp] theorem State.updHost_forced (s : State) (f : HostSide → HostSide) : (s.updHost f).forced = s.forced := rfl
@[simp] theorem State.updHost_servos (s : State) (f : HostSide → HostSide) : (s.updHost f).servos = s.servos := rfl
@[simp] theorem State.updHost_pulses (s : State) (f : HostSide → HostSide) : (s.updHost f).pulses = s.pulses := rfl
@[simp] theorem State.updHost_tins (s : State) (f : HostSide → HostSide) : (s.updHost f).tins = s.tins := rfl
@[simp] theorem State.updHost_lanes (s : State) (f : HostSide → HostSide) : (s.updHost f).lanes = s.lanes := rfl
@[simp] theorem State.updHost_refLost (s : State) (f : HostSide → HostSide) : (s.updHost f).refLost = s.refLost := rfl
@[simp] theorem State.updHost_ports (s : State) (f : HostSide → HostSide) : (s.updHost f).ports = s.ports := rfl
@[simp] theorem State.updHost_stf (s : State) (f : HostSide → HostSide) : (s.updHost f).stf = s.stf := rfl
@[simp] theorem State.updHost_tus (s : State) (f : HostSide → HostSide) : (s.updHost f).tus = s.tus := rfl
@[simp] theorem State.updHost_channels (s : State) (f : HostSide → HostSide) : (s.updHost f).channels = s.channels := rfl
@[simp] theorem State.updHost_leafHeld (s : State) (f : HostSide → HostSide) : (s.updHost f).leafHeld = s.leafHeld := rfl
@[simp] theorem State.updHost_leafPrev (s : State) (f : HostSide → HostSide) : (s.updHost f).leafPrev = s.leafPrev := rfl
@[simp] theorem State.updHost_frames (s : State) (f : HostSide → HostSide) : (s.updHost f).frames = s.frames := rfl
@[simp] theorem State.updHost_cells (s : State) (f : HostSide → HostSide) : (s.updHost f).cells = s.cells := rfl
@[simp] theorem State.updHost_cupboards (s : State) (f : HostSide → HostSide) : (s.updHost f).cupboards = s.cupboards := rfl
@[simp] theorem State.updHost_quarantine (s : State) (f : HostSide → HostSide) : (s.updHost f).quarantine = s.quarantine := rfl
@[simp] theorem State.updHost_cellLow (s : State) (f : HostSide → HostSide) : (s.updHost f).cellLow = s.cellLow := rfl
@[simp] theorem State.updHost_minFree (s : State) (f : HostSide → HostSide) : (s.updHost f).minFree = s.minFree := rfl
@[simp] theorem State.updHost_scrub (s : State) (f : HostSide → HostSide) : (s.updHost f).scrub = s.scrub := rfl
@[simp] theorem State.updHost_ingressCells (s : State) (f : HostSide → HostSide) : (s.updHost f).ingressCells = s.ingressCells := rfl
@[simp] theorem State.updHost_queues (s : State) (f : HostSide → HostSide) : (s.updHost f).queues = s.queues := rfl
@[simp] theorem State.updHost_meters (s : State) (f : HostSide → HostSide) : (s.updHost f).meters = s.meters := rfl
@[simp] theorem State.updHost_flows (s : State) (f : HostSide → HostSide) : (s.updHost f).flows = s.flows := rfl
@[simp] theorem State.updHost_shapers (s : State) (f : HostSide → HostSide) : (s.updHost f).shapers = s.shapers := rfl
@[simp] theorem State.updHost_virtual (s : State) (f : HostSide → HostSide) : (s.updHost f).virtual = s.virtual := rfl
@[simp] theorem State.updHost_mirrorCount (s : State) (f : HostSide → HostSide) : (s.updHost f).mirrorCount = s.mirrorCount := rfl
@[simp] theorem State.updHost_nodes (s : State) (f : HostSide → HostSide) : (s.updHost f).nodes = s.nodes := rfl
@[simp] theorem State.updHost_tcam (s : State) (f : HostSide → HostSide) : (s.updHost f).tcam = s.tcam := rfl
@[simp] theorem State.updHost_patterns (s : State) (f : HostSide → HostSide) : (s.updHost f).patterns = s.patterns := rfl
@[simp] theorem State.updHost_tcamClaims (s : State) (f : HostSide → HostSide) : (s.updHost f).tcamClaims = s.tcamClaims := rfl
@[simp] theorem State.updHost_patClaims (s : State) (f : HostSide → HostSide) : (s.updHost f).patClaims = s.patClaims := rfl
@[simp] theorem State.updHost_bankClaims (s : State) (f : HostSide → HostSide) : (s.updHost f).bankClaims = s.bankClaims := rfl
@[simp] theorem State.updHost_slow (s : State) (f : HostSide → HostSide) : (s.updHost f).slow = s.slow := rfl
@[simp] theorem State.updHost_scans (s : State) (f : HostSide → HostSide) : (s.updHost f).scans = s.scans := rfl
@[simp] theorem State.updHost_table (s : State) (f : HostSide → HostSide) : (s.updHost f).table = s.table := rfl
@[simp] theorem State.updHost_learnQ (s : State) (f : HostSide → HostSide) : (s.updHost f).learnQ = s.learnQ := rfl
@[simp] theorem State.updHost_notices (s : State) (f : HostSide → HostSide) : (s.updHost f).notices = s.notices := rfl
@[simp] theorem State.updHost_accepted (s : State) (f : HostSide → HostSide) : (s.updHost f).accepted = s.accepted := rfl
@[simp] theorem State.updHost_sweep (s : State) (f : HostSide → HostSide) : (s.updHost f).sweep = s.sweep := rfl
@[simp] theorem State.updHost_shadow (s : State) (f : HostSide → HostSide) : (s.updHost f).shadow = s.shadow := rfl
@[simp] theorem State.updHost_hostRx (s : State) (f : HostSide → HostSide) : (s.updHost f).hostRx = s.hostRx := rfl
@[simp] theorem State.updHost_host (s : State) (f : HostSide → HostSide) : (s.updHost f).host = f s.host := rfl
@[simp] theorem State.updHost_flash (s : State) (f : HostSide → HostSide) : (s.updHost f).flash = s.flash := rfl
@[simp] theorem State.updHost_auth (s : State) (f : HostSide → HostSide) : (s.updHost f).auth = s.auth := rfl
@[simp] theorem State.updHost_power (s : State) (f : HostSide → HostSide) : (s.updHost f).power = s.power := rfl
@[simp] theorem State.updHost_pair (s : State) (f : HostSide → HostSide) : (s.updHost f).pair = s.pair := rfl

/-! `setReg` -/
@[simp] theorem State.setReg_pending (s : State) (r : RegSpec) (n v : Nat) : (s.setReg r n v).pending = s.pending := rfl
@[simp] theorem State.setReg_regs (s : State) (r : RegSpec) (n v : Nat) : (s.setReg r n v).regs = regPut s.regs (r.addr n) (BitVec.ofNat 64 v) := rfl
@[simp] theorem State.setReg_evq (s : State) (r : RegSpec) (n v : Nat) : (s.setReg r n v).evq = s.evq := rfl
@[simp] theorem State.setReg_rseq (s : State) (r : RegSpec) (n v : Nat) : (s.setReg r n v).rseq = s.rseq := rfl
@[simp] theorem State.setReg_out (s : State) (r : RegSpec) (n v : Nat) : (s.setReg r n v).out = s.out := rfl
@[simp] theorem State.setReg_free (s : State) (r : RegSpec) (n v : Nat) : (s.setReg r n v).free = s.free := rfl
@[simp] theorem State.setReg_bureau (s : State) (r : RegSpec) (n v : Nat) : (s.setReg r n v).bureau = s.bureau := rfl
@[simp] theorem State.setReg_epoch (s : State) (r : RegSpec) (n v : Nat) : (s.setReg r n v).epoch = s.epoch := rfl
@[simp] theorem State.setReg_now (s : State) (r : RegSpec) (n v : Nat) : (s.setReg r n v).now = s.now := rfl
@[simp] theorem State.setReg_tb (s : State) (r : RegSpec) (n v : Nat) : (s.setReg r n v).tb = s.tb := rfl
@[simp] theorem State.setReg_otp (s : State) (r : RegSpec) (n v : Nat) : (s.setReg r n v).otp = s.otp := rfl
@[simp] theorem State.setReg_forced (s : State) (r : RegSpec) (n v : Nat) : (s.setReg r n v).forced = s.forced := rfl
@[simp] theorem State.setReg_servos (s : State) (r : RegSpec) (n v : Nat) : (s.setReg r n v).servos = s.servos := rfl
@[simp] theorem State.setReg_pulses (s : State) (r : RegSpec) (n v : Nat) : (s.setReg r n v).pulses = s.pulses := rfl
@[simp] theorem State.setReg_tins (s : State) (r : RegSpec) (n v : Nat) : (s.setReg r n v).tins = s.tins := rfl
@[simp] theorem State.setReg_lanes (s : State) (r : RegSpec) (n v : Nat) : (s.setReg r n v).lanes = s.lanes := rfl
@[simp] theorem State.setReg_refLost (s : State) (r : RegSpec) (n v : Nat) : (s.setReg r n v).refLost = s.refLost := rfl
@[simp] theorem State.setReg_ports (s : State) (r : RegSpec) (n v : Nat) : (s.setReg r n v).ports = s.ports := rfl
@[simp] theorem State.setReg_stf (s : State) (r : RegSpec) (n v : Nat) : (s.setReg r n v).stf = s.stf := rfl
@[simp] theorem State.setReg_tus (s : State) (r : RegSpec) (n v : Nat) : (s.setReg r n v).tus = s.tus := rfl
@[simp] theorem State.setReg_channels (s : State) (r : RegSpec) (n v : Nat) : (s.setReg r n v).channels = s.channels := rfl
@[simp] theorem State.setReg_leafHeld (s : State) (r : RegSpec) (n v : Nat) : (s.setReg r n v).leafHeld = s.leafHeld := rfl
@[simp] theorem State.setReg_leafPrev (s : State) (r : RegSpec) (n v : Nat) : (s.setReg r n v).leafPrev = s.leafPrev := rfl
@[simp] theorem State.setReg_frames (s : State) (r : RegSpec) (n v : Nat) : (s.setReg r n v).frames = s.frames := rfl
@[simp] theorem State.setReg_cells (s : State) (r : RegSpec) (n v : Nat) : (s.setReg r n v).cells = s.cells := rfl
@[simp] theorem State.setReg_cupboards (s : State) (r : RegSpec) (n v : Nat) : (s.setReg r n v).cupboards = s.cupboards := rfl
@[simp] theorem State.setReg_quarantine (s : State) (r : RegSpec) (n v : Nat) : (s.setReg r n v).quarantine = s.quarantine := rfl
@[simp] theorem State.setReg_cellLow (s : State) (r : RegSpec) (n v : Nat) : (s.setReg r n v).cellLow = s.cellLow := rfl
@[simp] theorem State.setReg_minFree (s : State) (r : RegSpec) (n v : Nat) : (s.setReg r n v).minFree = s.minFree := rfl
@[simp] theorem State.setReg_scrub (s : State) (r : RegSpec) (n v : Nat) : (s.setReg r n v).scrub = s.scrub := rfl
@[simp] theorem State.setReg_ingressCells (s : State) (r : RegSpec) (n v : Nat) : (s.setReg r n v).ingressCells = s.ingressCells := rfl
@[simp] theorem State.setReg_queues (s : State) (r : RegSpec) (n v : Nat) : (s.setReg r n v).queues = s.queues := rfl
@[simp] theorem State.setReg_meters (s : State) (r : RegSpec) (n v : Nat) : (s.setReg r n v).meters = s.meters := rfl
@[simp] theorem State.setReg_flows (s : State) (r : RegSpec) (n v : Nat) : (s.setReg r n v).flows = s.flows := rfl
@[simp] theorem State.setReg_shapers (s : State) (r : RegSpec) (n v : Nat) : (s.setReg r n v).shapers = s.shapers := rfl
@[simp] theorem State.setReg_virtual (s : State) (r : RegSpec) (n v : Nat) : (s.setReg r n v).virtual = s.virtual := rfl
@[simp] theorem State.setReg_mirrorCount (s : State) (r : RegSpec) (n v : Nat) : (s.setReg r n v).mirrorCount = s.mirrorCount := rfl
@[simp] theorem State.setReg_nodes (s : State) (r : RegSpec) (n v : Nat) : (s.setReg r n v).nodes = s.nodes := rfl
@[simp] theorem State.setReg_tcam (s : State) (r : RegSpec) (n v : Nat) : (s.setReg r n v).tcam = s.tcam := rfl
@[simp] theorem State.setReg_patterns (s : State) (r : RegSpec) (n v : Nat) : (s.setReg r n v).patterns = s.patterns := rfl
@[simp] theorem State.setReg_tcamClaims (s : State) (r : RegSpec) (n v : Nat) : (s.setReg r n v).tcamClaims = s.tcamClaims := rfl
@[simp] theorem State.setReg_patClaims (s : State) (r : RegSpec) (n v : Nat) : (s.setReg r n v).patClaims = s.patClaims := rfl
@[simp] theorem State.setReg_bankClaims (s : State) (r : RegSpec) (n v : Nat) : (s.setReg r n v).bankClaims = s.bankClaims := rfl
@[simp] theorem State.setReg_slow (s : State) (r : RegSpec) (n v : Nat) : (s.setReg r n v).slow = s.slow := rfl
@[simp] theorem State.setReg_scans (s : State) (r : RegSpec) (n v : Nat) : (s.setReg r n v).scans = s.scans := rfl
@[simp] theorem State.setReg_table (s : State) (r : RegSpec) (n v : Nat) : (s.setReg r n v).table = s.table := rfl
@[simp] theorem State.setReg_learnQ (s : State) (r : RegSpec) (n v : Nat) : (s.setReg r n v).learnQ = s.learnQ := rfl
@[simp] theorem State.setReg_notices (s : State) (r : RegSpec) (n v : Nat) : (s.setReg r n v).notices = s.notices := rfl
@[simp] theorem State.setReg_accepted (s : State) (r : RegSpec) (n v : Nat) : (s.setReg r n v).accepted = s.accepted := rfl
@[simp] theorem State.setReg_sweep (s : State) (r : RegSpec) (n v : Nat) : (s.setReg r n v).sweep = s.sweep := rfl
@[simp] theorem State.setReg_shadow (s : State) (r : RegSpec) (n v : Nat) : (s.setReg r n v).shadow = s.shadow := rfl
@[simp] theorem State.setReg_hostRx (s : State) (r : RegSpec) (n v : Nat) : (s.setReg r n v).hostRx = s.hostRx := rfl
@[simp] theorem State.setReg_host (s : State) (r : RegSpec) (n v : Nat) : (s.setReg r n v).host = s.host := rfl
@[simp] theorem State.setReg_flash (s : State) (r : RegSpec) (n v : Nat) : (s.setReg r n v).flash = s.flash := rfl
@[simp] theorem State.setReg_auth (s : State) (r : RegSpec) (n v : Nat) : (s.setReg r n v).auth = s.auth := rfl
@[simp] theorem State.setReg_power (s : State) (r : RegSpec) (n v : Nat) : (s.setReg r n v).power = s.power := rfl
@[simp] theorem State.setReg_pair (s : State) (r : RegSpec) (n v : Nat) : (s.setReg r n v).pair = s.pair := rfl

/-! `emit` -/
@[simp] theorem State.emit_pending (s : State) (o : Out) : (s.emit o).pending = s.pending := rfl
@[simp] theorem State.emit_regs (s : State) (o : Out) : (s.emit o).regs = s.regs := rfl
@[simp] theorem State.emit_evq (s : State) (o : Out) : (s.emit o).evq = s.evq := rfl
@[simp] theorem State.emit_rseq (s : State) (o : Out) : (s.emit o).rseq = s.rseq := rfl
@[simp] theorem State.emit_out (s : State) (o : Out) : (s.emit o).out = s.out ++ [o] := rfl
@[simp] theorem State.emit_free (s : State) (o : Out) : (s.emit o).free = s.free := rfl
@[simp] theorem State.emit_bureau (s : State) (o : Out) : (s.emit o).bureau = s.bureau := rfl
@[simp] theorem State.emit_epoch (s : State) (o : Out) : (s.emit o).epoch = s.epoch := rfl
@[simp] theorem State.emit_now (s : State) (o : Out) : (s.emit o).now = s.now := rfl
@[simp] theorem State.emit_tb (s : State) (o : Out) : (s.emit o).tb = s.tb := rfl
@[simp] theorem State.emit_otp (s : State) (o : Out) : (s.emit o).otp = s.otp := rfl
@[simp] theorem State.emit_forced (s : State) (o : Out) : (s.emit o).forced = s.forced := rfl
@[simp] theorem State.emit_servos (s : State) (o : Out) : (s.emit o).servos = s.servos := rfl
@[simp] theorem State.emit_pulses (s : State) (o : Out) : (s.emit o).pulses = s.pulses := rfl
@[simp] theorem State.emit_tins (s : State) (o : Out) : (s.emit o).tins = s.tins := rfl
@[simp] theorem State.emit_lanes (s : State) (o : Out) : (s.emit o).lanes = s.lanes := rfl
@[simp] theorem State.emit_refLost (s : State) (o : Out) : (s.emit o).refLost = s.refLost := rfl
@[simp] theorem State.emit_ports (s : State) (o : Out) : (s.emit o).ports = s.ports := rfl
@[simp] theorem State.emit_stf (s : State) (o : Out) : (s.emit o).stf = s.stf := rfl
@[simp] theorem State.emit_tus (s : State) (o : Out) : (s.emit o).tus = s.tus := rfl
@[simp] theorem State.emit_channels (s : State) (o : Out) : (s.emit o).channels = s.channels := rfl
@[simp] theorem State.emit_leafHeld (s : State) (o : Out) : (s.emit o).leafHeld = s.leafHeld := rfl
@[simp] theorem State.emit_leafPrev (s : State) (o : Out) : (s.emit o).leafPrev = s.leafPrev := rfl
@[simp] theorem State.emit_frames (s : State) (o : Out) : (s.emit o).frames = s.frames := rfl
@[simp] theorem State.emit_cells (s : State) (o : Out) : (s.emit o).cells = s.cells := rfl
@[simp] theorem State.emit_cupboards (s : State) (o : Out) : (s.emit o).cupboards = s.cupboards := rfl
@[simp] theorem State.emit_quarantine (s : State) (o : Out) : (s.emit o).quarantine = s.quarantine := rfl
@[simp] theorem State.emit_cellLow (s : State) (o : Out) : (s.emit o).cellLow = s.cellLow := rfl
@[simp] theorem State.emit_minFree (s : State) (o : Out) : (s.emit o).minFree = s.minFree := rfl
@[simp] theorem State.emit_scrub (s : State) (o : Out) : (s.emit o).scrub = s.scrub := rfl
@[simp] theorem State.emit_ingressCells (s : State) (o : Out) : (s.emit o).ingressCells = s.ingressCells := rfl
@[simp] theorem State.emit_queues (s : State) (o : Out) : (s.emit o).queues = s.queues := rfl
@[simp] theorem State.emit_meters (s : State) (o : Out) : (s.emit o).meters = s.meters := rfl
@[simp] theorem State.emit_flows (s : State) (o : Out) : (s.emit o).flows = s.flows := rfl
@[simp] theorem State.emit_shapers (s : State) (o : Out) : (s.emit o).shapers = s.shapers := rfl
@[simp] theorem State.emit_virtual (s : State) (o : Out) : (s.emit o).virtual = s.virtual := rfl
@[simp] theorem State.emit_mirrorCount (s : State) (o : Out) : (s.emit o).mirrorCount = s.mirrorCount := rfl
@[simp] theorem State.emit_nodes (s : State) (o : Out) : (s.emit o).nodes = s.nodes := rfl
@[simp] theorem State.emit_tcam (s : State) (o : Out) : (s.emit o).tcam = s.tcam := rfl
@[simp] theorem State.emit_patterns (s : State) (o : Out) : (s.emit o).patterns = s.patterns := rfl
@[simp] theorem State.emit_tcamClaims (s : State) (o : Out) : (s.emit o).tcamClaims = s.tcamClaims := rfl
@[simp] theorem State.emit_patClaims (s : State) (o : Out) : (s.emit o).patClaims = s.patClaims := rfl
@[simp] theorem State.emit_bankClaims (s : State) (o : Out) : (s.emit o).bankClaims = s.bankClaims := rfl
@[simp] theorem State.emit_slow (s : State) (o : Out) : (s.emit o).slow = s.slow := rfl
@[simp] theorem State.emit_scans (s : State) (o : Out) : (s.emit o).scans = s.scans := rfl
@[simp] theorem State.emit_table (s : State) (o : Out) : (s.emit o).table = s.table := rfl
@[simp] theorem State.emit_learnQ (s : State) (o : Out) : (s.emit o).learnQ = s.learnQ := rfl
@[simp] theorem State.emit_notices (s : State) (o : Out) : (s.emit o).notices = s.notices := rfl
@[simp] theorem State.emit_accepted (s : State) (o : Out) : (s.emit o).accepted = s.accepted := rfl
@[simp] theorem State.emit_sweep (s : State) (o : Out) : (s.emit o).sweep = s.sweep := rfl
@[simp] theorem State.emit_shadow (s : State) (o : Out) : (s.emit o).shadow = s.shadow := rfl
@[simp] theorem State.emit_hostRx (s : State) (o : Out) : (s.emit o).hostRx = s.hostRx := rfl
@[simp] theorem State.emit_host (s : State) (o : Out) : (s.emit o).host = s.host := rfl
@[simp] theorem State.emit_flash (s : State) (o : Out) : (s.emit o).flash = s.flash := rfl
@[simp] theorem State.emit_auth (s : State) (o : Out) : (s.emit o).auth = s.auth := rfl
@[simp] theorem State.emit_power (s : State) (o : Out) : (s.emit o).power = s.power := rfl
@[simp] theorem State.emit_pair (s : State) (o : Out) : (s.emit o).pair = s.pair := rfl

/-! `drawn` -/
@[simp] theorem State.drawn_pending (s : State) : (s.drawn).pending = s.pending := rfl
@[simp] theorem State.drawn_regs (s : State) : (s.drawn).regs = s.regs := rfl
@[simp] theorem State.drawn_evq (s : State) : (s.drawn).evq = s.evq := rfl
@[simp] theorem State.drawn_rseq (s : State) : (s.drawn).rseq = s.rseq := rfl
@[simp] theorem State.drawn_out (s : State) : (s.drawn).out = s.out := rfl
@[simp] theorem State.drawn_free (s : State) : (s.drawn).free = s.free + 1 := rfl
@[simp] theorem State.drawn_bureau (s : State) : (s.drawn).bureau = s.bureau := rfl
@[simp] theorem State.drawn_epoch (s : State) : (s.drawn).epoch = s.epoch := rfl
@[simp] theorem State.drawn_now (s : State) : (s.drawn).now = s.now := rfl
@[simp] theorem State.drawn_tb (s : State) : (s.drawn).tb = s.tb := rfl
@[simp] theorem State.drawn_otp (s : State) : (s.drawn).otp = s.otp := rfl
@[simp] theorem State.drawn_forced (s : State) : (s.drawn).forced = s.forced := rfl
@[simp] theorem State.drawn_servos (s : State) : (s.drawn).servos = s.servos := rfl
@[simp] theorem State.drawn_pulses (s : State) : (s.drawn).pulses = s.pulses := rfl
@[simp] theorem State.drawn_tins (s : State) : (s.drawn).tins = s.tins := rfl
@[simp] theorem State.drawn_lanes (s : State) : (s.drawn).lanes = s.lanes := rfl
@[simp] theorem State.drawn_refLost (s : State) : (s.drawn).refLost = s.refLost := rfl
@[simp] theorem State.drawn_ports (s : State) : (s.drawn).ports = s.ports := rfl
@[simp] theorem State.drawn_stf (s : State) : (s.drawn).stf = s.stf := rfl
@[simp] theorem State.drawn_tus (s : State) : (s.drawn).tus = s.tus := rfl
@[simp] theorem State.drawn_channels (s : State) : (s.drawn).channels = s.channels := rfl
@[simp] theorem State.drawn_leafHeld (s : State) : (s.drawn).leafHeld = s.leafHeld := rfl
@[simp] theorem State.drawn_leafPrev (s : State) : (s.drawn).leafPrev = s.leafPrev := rfl
@[simp] theorem State.drawn_frames (s : State) : (s.drawn).frames = s.frames := rfl
@[simp] theorem State.drawn_cells (s : State) : (s.drawn).cells = s.cells := rfl
@[simp] theorem State.drawn_cupboards (s : State) : (s.drawn).cupboards = s.cupboards := rfl
@[simp] theorem State.drawn_quarantine (s : State) : (s.drawn).quarantine = s.quarantine := rfl
@[simp] theorem State.drawn_cellLow (s : State) : (s.drawn).cellLow = s.cellLow := rfl
@[simp] theorem State.drawn_minFree (s : State) : (s.drawn).minFree = s.minFree := rfl
@[simp] theorem State.drawn_scrub (s : State) : (s.drawn).scrub = s.scrub := rfl
@[simp] theorem State.drawn_ingressCells (s : State) : (s.drawn).ingressCells = s.ingressCells := rfl
@[simp] theorem State.drawn_queues (s : State) : (s.drawn).queues = s.queues := rfl
@[simp] theorem State.drawn_meters (s : State) : (s.drawn).meters = s.meters := rfl
@[simp] theorem State.drawn_flows (s : State) : (s.drawn).flows = s.flows := rfl
@[simp] theorem State.drawn_shapers (s : State) : (s.drawn).shapers = s.shapers := rfl
@[simp] theorem State.drawn_virtual (s : State) : (s.drawn).virtual = s.virtual := rfl
@[simp] theorem State.drawn_mirrorCount (s : State) : (s.drawn).mirrorCount = s.mirrorCount := rfl
@[simp] theorem State.drawn_nodes (s : State) : (s.drawn).nodes = s.nodes := rfl
@[simp] theorem State.drawn_tcam (s : State) : (s.drawn).tcam = s.tcam := rfl
@[simp] theorem State.drawn_patterns (s : State) : (s.drawn).patterns = s.patterns := rfl
@[simp] theorem State.drawn_tcamClaims (s : State) : (s.drawn).tcamClaims = s.tcamClaims := rfl
@[simp] theorem State.drawn_patClaims (s : State) : (s.drawn).patClaims = s.patClaims := rfl
@[simp] theorem State.drawn_bankClaims (s : State) : (s.drawn).bankClaims = s.bankClaims := rfl
@[simp] theorem State.drawn_slow (s : State) : (s.drawn).slow = s.slow := rfl
@[simp] theorem State.drawn_scans (s : State) : (s.drawn).scans = s.scans := rfl
@[simp] theorem State.drawn_table (s : State) : (s.drawn).table = s.table := rfl
@[simp] theorem State.drawn_learnQ (s : State) : (s.drawn).learnQ = s.learnQ := rfl
@[simp] theorem State.drawn_notices (s : State) : (s.drawn).notices = s.notices := rfl
@[simp] theorem State.drawn_accepted (s : State) : (s.drawn).accepted = s.accepted := rfl
@[simp] theorem State.drawn_sweep (s : State) : (s.drawn).sweep = s.sweep := rfl
@[simp] theorem State.drawn_shadow (s : State) : (s.drawn).shadow = s.shadow := rfl
@[simp] theorem State.drawn_hostRx (s : State) : (s.drawn).hostRx = s.hostRx := rfl
@[simp] theorem State.drawn_host (s : State) : (s.drawn).host = s.host := rfl
@[simp] theorem State.drawn_flash (s : State) : (s.drawn).flash = s.flash := rfl
@[simp] theorem State.drawn_auth (s : State) : (s.drawn).auth = s.auth := rfl
@[simp] theorem State.drawn_power (s : State) : (s.drawn).power = s.power := rfl
@[simp] theorem State.drawn_pair (s : State) : (s.drawn).pair = s.pair := rfl

/-! `tbSet` -/
@[simp] theorem State.tbSet_pending (s : State) (b : Nat) (t : TimeBase) : (s.tbSet b t).pending = s.pending := rfl
@[simp] theorem State.tbSet_regs (s : State) (b : Nat) (t : TimeBase) : (s.tbSet b t).regs = s.regs := rfl
@[simp] theorem State.tbSet_evq (s : State) (b : Nat) (t : TimeBase) : (s.tbSet b t).evq = s.evq := rfl
@[simp] theorem State.tbSet_rseq (s : State) (b : Nat) (t : TimeBase) : (s.tbSet b t).rseq = s.rseq := rfl
@[simp] theorem State.tbSet_out (s : State) (b : Nat) (t : TimeBase) : (s.tbSet b t).out = s.out := rfl
@[simp] theorem State.tbSet_free (s : State) (b : Nat) (t : TimeBase) : (s.tbSet b t).free = s.free := rfl
@[simp] theorem State.tbSet_bureau (s : State) (b : Nat) (t : TimeBase) : (s.tbSet b t).bureau = s.bureau := rfl
@[simp] theorem State.tbSet_epoch (s : State) (b : Nat) (t : TimeBase) : (s.tbSet b t).epoch = s.epoch := rfl
@[simp] theorem State.tbSet_now (s : State) (b : Nat) (t : TimeBase) : (s.tbSet b t).now = s.now := rfl
@[simp] theorem State.tbSet_tb (s : State) (b : Nat) (t : TimeBase) : (s.tbSet b t).tb = SMap.set TimeBase.zero s.tb b t := rfl
@[simp] theorem State.tbSet_otp (s : State) (b : Nat) (t : TimeBase) : (s.tbSet b t).otp = s.otp := rfl
@[simp] theorem State.tbSet_forced (s : State) (b : Nat) (t : TimeBase) : (s.tbSet b t).forced = s.forced := rfl
@[simp] theorem State.tbSet_servos (s : State) (b : Nat) (t : TimeBase) : (s.tbSet b t).servos = s.servos := rfl
@[simp] theorem State.tbSet_pulses (s : State) (b : Nat) (t : TimeBase) : (s.tbSet b t).pulses = s.pulses := rfl
@[simp] theorem State.tbSet_tins (s : State) (b : Nat) (t : TimeBase) : (s.tbSet b t).tins = s.tins := rfl
@[simp] theorem State.tbSet_lanes (s : State) (b : Nat) (t : TimeBase) : (s.tbSet b t).lanes = s.lanes := rfl
@[simp] theorem State.tbSet_refLost (s : State) (b : Nat) (t : TimeBase) : (s.tbSet b t).refLost = s.refLost := rfl
@[simp] theorem State.tbSet_ports (s : State) (b : Nat) (t : TimeBase) : (s.tbSet b t).ports = s.ports := rfl
@[simp] theorem State.tbSet_stf (s : State) (b : Nat) (t : TimeBase) : (s.tbSet b t).stf = s.stf := rfl
@[simp] theorem State.tbSet_tus (s : State) (b : Nat) (t : TimeBase) : (s.tbSet b t).tus = s.tus := rfl
@[simp] theorem State.tbSet_channels (s : State) (b : Nat) (t : TimeBase) : (s.tbSet b t).channels = s.channels := rfl
@[simp] theorem State.tbSet_leafHeld (s : State) (b : Nat) (t : TimeBase) : (s.tbSet b t).leafHeld = s.leafHeld := rfl
@[simp] theorem State.tbSet_leafPrev (s : State) (b : Nat) (t : TimeBase) : (s.tbSet b t).leafPrev = s.leafPrev := rfl
@[simp] theorem State.tbSet_frames (s : State) (b : Nat) (t : TimeBase) : (s.tbSet b t).frames = s.frames := rfl
@[simp] theorem State.tbSet_cells (s : State) (b : Nat) (t : TimeBase) : (s.tbSet b t).cells = s.cells := rfl
@[simp] theorem State.tbSet_cupboards (s : State) (b : Nat) (t : TimeBase) : (s.tbSet b t).cupboards = s.cupboards := rfl
@[simp] theorem State.tbSet_quarantine (s : State) (b : Nat) (t : TimeBase) : (s.tbSet b t).quarantine = s.quarantine := rfl
@[simp] theorem State.tbSet_cellLow (s : State) (b : Nat) (t : TimeBase) : (s.tbSet b t).cellLow = s.cellLow := rfl
@[simp] theorem State.tbSet_minFree (s : State) (b : Nat) (t : TimeBase) : (s.tbSet b t).minFree = s.minFree := rfl
@[simp] theorem State.tbSet_scrub (s : State) (b : Nat) (t : TimeBase) : (s.tbSet b t).scrub = s.scrub := rfl
@[simp] theorem State.tbSet_ingressCells (s : State) (b : Nat) (t : TimeBase) : (s.tbSet b t).ingressCells = s.ingressCells := rfl
@[simp] theorem State.tbSet_queues (s : State) (b : Nat) (t : TimeBase) : (s.tbSet b t).queues = s.queues := rfl
@[simp] theorem State.tbSet_meters (s : State) (b : Nat) (t : TimeBase) : (s.tbSet b t).meters = s.meters := rfl
@[simp] theorem State.tbSet_flows (s : State) (b : Nat) (t : TimeBase) : (s.tbSet b t).flows = s.flows := rfl
@[simp] theorem State.tbSet_shapers (s : State) (b : Nat) (t : TimeBase) : (s.tbSet b t).shapers = s.shapers := rfl
@[simp] theorem State.tbSet_virtual (s : State) (b : Nat) (t : TimeBase) : (s.tbSet b t).virtual = s.virtual := rfl
@[simp] theorem State.tbSet_mirrorCount (s : State) (b : Nat) (t : TimeBase) : (s.tbSet b t).mirrorCount = s.mirrorCount := rfl
@[simp] theorem State.tbSet_nodes (s : State) (b : Nat) (t : TimeBase) : (s.tbSet b t).nodes = s.nodes := rfl
@[simp] theorem State.tbSet_tcam (s : State) (b : Nat) (t : TimeBase) : (s.tbSet b t).tcam = s.tcam := rfl
@[simp] theorem State.tbSet_patterns (s : State) (b : Nat) (t : TimeBase) : (s.tbSet b t).patterns = s.patterns := rfl
@[simp] theorem State.tbSet_tcamClaims (s : State) (b : Nat) (t : TimeBase) : (s.tbSet b t).tcamClaims = s.tcamClaims := rfl
@[simp] theorem State.tbSet_patClaims (s : State) (b : Nat) (t : TimeBase) : (s.tbSet b t).patClaims = s.patClaims := rfl
@[simp] theorem State.tbSet_bankClaims (s : State) (b : Nat) (t : TimeBase) : (s.tbSet b t).bankClaims = s.bankClaims := rfl
@[simp] theorem State.tbSet_slow (s : State) (b : Nat) (t : TimeBase) : (s.tbSet b t).slow = s.slow := rfl
@[simp] theorem State.tbSet_scans (s : State) (b : Nat) (t : TimeBase) : (s.tbSet b t).scans = s.scans := rfl
@[simp] theorem State.tbSet_table (s : State) (b : Nat) (t : TimeBase) : (s.tbSet b t).table = s.table := rfl
@[simp] theorem State.tbSet_learnQ (s : State) (b : Nat) (t : TimeBase) : (s.tbSet b t).learnQ = s.learnQ := rfl
@[simp] theorem State.tbSet_notices (s : State) (b : Nat) (t : TimeBase) : (s.tbSet b t).notices = s.notices := rfl
@[simp] theorem State.tbSet_accepted (s : State) (b : Nat) (t : TimeBase) : (s.tbSet b t).accepted = s.accepted := rfl
@[simp] theorem State.tbSet_sweep (s : State) (b : Nat) (t : TimeBase) : (s.tbSet b t).sweep = s.sweep := rfl
@[simp] theorem State.tbSet_shadow (s : State) (b : Nat) (t : TimeBase) : (s.tbSet b t).shadow = s.shadow := rfl
@[simp] theorem State.tbSet_hostRx (s : State) (b : Nat) (t : TimeBase) : (s.tbSet b t).hostRx = s.hostRx := rfl
@[simp] theorem State.tbSet_host (s : State) (b : Nat) (t : TimeBase) : (s.tbSet b t).host = s.host := rfl
@[simp] theorem State.tbSet_flash (s : State) (b : Nat) (t : TimeBase) : (s.tbSet b t).flash = s.flash := rfl
@[simp] theorem State.tbSet_auth (s : State) (b : Nat) (t : TimeBase) : (s.tbSet b t).auth = s.auth := rfl
@[simp] theorem State.tbSet_power (s : State) (b : Nat) (t : TimeBase) : (s.tbSet b t).power = s.power := rfl
@[simp] theorem State.tbSet_pair (s : State) (b : Nat) (t : TimeBase) : (s.tbSet b t).pair = s.pair := rfl

/-! `updPower` -/
@[simp] theorem State.updPower_pending (s : State) (f : Power → Power) : (s.updPower f).pending = s.pending := rfl
@[simp] theorem State.updPower_regs (s : State) (f : Power → Power) : (s.updPower f).regs = s.regs := rfl
@[simp] theorem State.updPower_evq (s : State) (f : Power → Power) : (s.updPower f).evq = s.evq := rfl
@[simp] theorem State.updPower_rseq (s : State) (f : Power → Power) : (s.updPower f).rseq = s.rseq := rfl
@[simp] theorem State.updPower_out (s : State) (f : Power → Power) : (s.updPower f).out = s.out := rfl
@[simp] theorem State.updPower_free (s : State) (f : Power → Power) : (s.updPower f).free = s.free := rfl
@[simp] theorem State.updPower_bureau (s : State) (f : Power → Power) : (s.updPower f).bureau = s.bureau := rfl
@[simp] theorem State.updPower_epoch (s : State) (f : Power → Power) : (s.updPower f).epoch = s.epoch := rfl
@[simp] theorem State.updPower_now (s : State) (f : Power → Power) : (s.updPower f).now = s.now := rfl
@[simp] theorem State.updPower_tb (s : State) (f : Power → Power) : (s.updPower f).tb = s.tb := rfl
@[simp] theorem State.updPower_otp (s : State) (f : Power → Power) : (s.updPower f).otp = s.otp := rfl
@[simp] theorem State.updPower_forced (s : State) (f : Power → Power) : (s.updPower f).forced = s.forced := rfl
@[simp] theorem State.updPower_servos (s : State) (f : Power → Power) : (s.updPower f).servos = s.servos := rfl
@[simp] theorem State.updPower_pulses (s : State) (f : Power → Power) : (s.updPower f).pulses = s.pulses := rfl
@[simp] theorem State.updPower_tins (s : State) (f : Power → Power) : (s.updPower f).tins = s.tins := rfl
@[simp] theorem State.updPower_lanes (s : State) (f : Power → Power) : (s.updPower f).lanes = s.lanes := rfl
@[simp] theorem State.updPower_refLost (s : State) (f : Power → Power) : (s.updPower f).refLost = s.refLost := rfl
@[simp] theorem State.updPower_ports (s : State) (f : Power → Power) : (s.updPower f).ports = s.ports := rfl
@[simp] theorem State.updPower_stf (s : State) (f : Power → Power) : (s.updPower f).stf = s.stf := rfl
@[simp] theorem State.updPower_tus (s : State) (f : Power → Power) : (s.updPower f).tus = s.tus := rfl
@[simp] theorem State.updPower_channels (s : State) (f : Power → Power) : (s.updPower f).channels = s.channels := rfl
@[simp] theorem State.updPower_leafHeld (s : State) (f : Power → Power) : (s.updPower f).leafHeld = s.leafHeld := rfl
@[simp] theorem State.updPower_leafPrev (s : State) (f : Power → Power) : (s.updPower f).leafPrev = s.leafPrev := rfl
@[simp] theorem State.updPower_frames (s : State) (f : Power → Power) : (s.updPower f).frames = s.frames := rfl
@[simp] theorem State.updPower_cells (s : State) (f : Power → Power) : (s.updPower f).cells = s.cells := rfl
@[simp] theorem State.updPower_cupboards (s : State) (f : Power → Power) : (s.updPower f).cupboards = s.cupboards := rfl
@[simp] theorem State.updPower_quarantine (s : State) (f : Power → Power) : (s.updPower f).quarantine = s.quarantine := rfl
@[simp] theorem State.updPower_cellLow (s : State) (f : Power → Power) : (s.updPower f).cellLow = s.cellLow := rfl
@[simp] theorem State.updPower_minFree (s : State) (f : Power → Power) : (s.updPower f).minFree = s.minFree := rfl
@[simp] theorem State.updPower_scrub (s : State) (f : Power → Power) : (s.updPower f).scrub = s.scrub := rfl
@[simp] theorem State.updPower_ingressCells (s : State) (f : Power → Power) : (s.updPower f).ingressCells = s.ingressCells := rfl
@[simp] theorem State.updPower_queues (s : State) (f : Power → Power) : (s.updPower f).queues = s.queues := rfl
@[simp] theorem State.updPower_meters (s : State) (f : Power → Power) : (s.updPower f).meters = s.meters := rfl
@[simp] theorem State.updPower_flows (s : State) (f : Power → Power) : (s.updPower f).flows = s.flows := rfl
@[simp] theorem State.updPower_shapers (s : State) (f : Power → Power) : (s.updPower f).shapers = s.shapers := rfl
@[simp] theorem State.updPower_virtual (s : State) (f : Power → Power) : (s.updPower f).virtual = s.virtual := rfl
@[simp] theorem State.updPower_mirrorCount (s : State) (f : Power → Power) : (s.updPower f).mirrorCount = s.mirrorCount := rfl
@[simp] theorem State.updPower_nodes (s : State) (f : Power → Power) : (s.updPower f).nodes = s.nodes := rfl
@[simp] theorem State.updPower_tcam (s : State) (f : Power → Power) : (s.updPower f).tcam = s.tcam := rfl
@[simp] theorem State.updPower_patterns (s : State) (f : Power → Power) : (s.updPower f).patterns = s.patterns := rfl
@[simp] theorem State.updPower_tcamClaims (s : State) (f : Power → Power) : (s.updPower f).tcamClaims = s.tcamClaims := rfl
@[simp] theorem State.updPower_patClaims (s : State) (f : Power → Power) : (s.updPower f).patClaims = s.patClaims := rfl
@[simp] theorem State.updPower_bankClaims (s : State) (f : Power → Power) : (s.updPower f).bankClaims = s.bankClaims := rfl
@[simp] theorem State.updPower_slow (s : State) (f : Power → Power) : (s.updPower f).slow = s.slow := rfl
@[simp] theorem State.updPower_scans (s : State) (f : Power → Power) : (s.updPower f).scans = s.scans := rfl
@[simp] theorem State.updPower_table (s : State) (f : Power → Power) : (s.updPower f).table = s.table := rfl
@[simp] theorem State.updPower_learnQ (s : State) (f : Power → Power) : (s.updPower f).learnQ = s.learnQ := rfl
@[simp] theorem State.updPower_notices (s : State) (f : Power → Power) : (s.updPower f).notices = s.notices := rfl
@[simp] theorem State.updPower_accepted (s : State) (f : Power → Power) : (s.updPower f).accepted = s.accepted := rfl
@[simp] theorem State.updPower_sweep (s : State) (f : Power → Power) : (s.updPower f).sweep = s.sweep := rfl
@[simp] theorem State.updPower_shadow (s : State) (f : Power → Power) : (s.updPower f).shadow = s.shadow := rfl
@[simp] theorem State.updPower_hostRx (s : State) (f : Power → Power) : (s.updPower f).hostRx = s.hostRx := rfl
@[simp] theorem State.updPower_host (s : State) (f : Power → Power) : (s.updPower f).host = s.host := rfl
@[simp] theorem State.updPower_flash (s : State) (f : Power → Power) : (s.updPower f).flash = s.flash := rfl
@[simp] theorem State.updPower_auth (s : State) (f : Power → Power) : (s.updPower f).auth = s.auth := rfl
@[simp] theorem State.updPower_power (s : State) (f : Power → Power) : (s.updPower f).power = f s.power := rfl
@[simp] theorem State.updPower_pair (s : State) (f : Power → Power) : (s.updPower f).pair = s.pair := rfl

/-! `updPair` -/
@[simp] theorem State.updPair_pending (s : State) (f : Pair → Pair) : (s.updPair f).pending = s.pending := rfl
@[simp] theorem State.updPair_regs (s : State) (f : Pair → Pair) : (s.updPair f).regs = s.regs := rfl
@[simp] theorem State.updPair_evq (s : State) (f : Pair → Pair) : (s.updPair f).evq = s.evq := rfl
@[simp] theorem State.updPair_rseq (s : State) (f : Pair → Pair) : (s.updPair f).rseq = s.rseq := rfl
@[simp] theorem State.updPair_out (s : State) (f : Pair → Pair) : (s.updPair f).out = s.out := rfl
@[simp] theorem State.updPair_free (s : State) (f : Pair → Pair) : (s.updPair f).free = s.free := rfl
@[simp] theorem State.updPair_bureau (s : State) (f : Pair → Pair) : (s.updPair f).bureau = s.bureau := rfl
@[simp] theorem State.updPair_epoch (s : State) (f : Pair → Pair) : (s.updPair f).epoch = s.epoch := rfl
@[simp] theorem State.updPair_now (s : State) (f : Pair → Pair) : (s.updPair f).now = s.now := rfl
@[simp] theorem State.updPair_tb (s : State) (f : Pair → Pair) : (s.updPair f).tb = s.tb := rfl
@[simp] theorem State.updPair_otp (s : State) (f : Pair → Pair) : (s.updPair f).otp = s.otp := rfl
@[simp] theorem State.updPair_forced (s : State) (f : Pair → Pair) : (s.updPair f).forced = s.forced := rfl
@[simp] theorem State.updPair_servos (s : State) (f : Pair → Pair) : (s.updPair f).servos = s.servos := rfl
@[simp] theorem State.updPair_pulses (s : State) (f : Pair → Pair) : (s.updPair f).pulses = s.pulses := rfl
@[simp] theorem State.updPair_tins (s : State) (f : Pair → Pair) : (s.updPair f).tins = s.tins := rfl
@[simp] theorem State.updPair_lanes (s : State) (f : Pair → Pair) : (s.updPair f).lanes = s.lanes := rfl
@[simp] theorem State.updPair_refLost (s : State) (f : Pair → Pair) : (s.updPair f).refLost = s.refLost := rfl
@[simp] theorem State.updPair_ports (s : State) (f : Pair → Pair) : (s.updPair f).ports = s.ports := rfl
@[simp] theorem State.updPair_stf (s : State) (f : Pair → Pair) : (s.updPair f).stf = s.stf := rfl
@[simp] theorem State.updPair_tus (s : State) (f : Pair → Pair) : (s.updPair f).tus = s.tus := rfl
@[simp] theorem State.updPair_channels (s : State) (f : Pair → Pair) : (s.updPair f).channels = s.channels := rfl
@[simp] theorem State.updPair_leafHeld (s : State) (f : Pair → Pair) : (s.updPair f).leafHeld = s.leafHeld := rfl
@[simp] theorem State.updPair_leafPrev (s : State) (f : Pair → Pair) : (s.updPair f).leafPrev = s.leafPrev := rfl
@[simp] theorem State.updPair_frames (s : State) (f : Pair → Pair) : (s.updPair f).frames = s.frames := rfl
@[simp] theorem State.updPair_cells (s : State) (f : Pair → Pair) : (s.updPair f).cells = s.cells := rfl
@[simp] theorem State.updPair_cupboards (s : State) (f : Pair → Pair) : (s.updPair f).cupboards = s.cupboards := rfl
@[simp] theorem State.updPair_quarantine (s : State) (f : Pair → Pair) : (s.updPair f).quarantine = s.quarantine := rfl
@[simp] theorem State.updPair_cellLow (s : State) (f : Pair → Pair) : (s.updPair f).cellLow = s.cellLow := rfl
@[simp] theorem State.updPair_minFree (s : State) (f : Pair → Pair) : (s.updPair f).minFree = s.minFree := rfl
@[simp] theorem State.updPair_scrub (s : State) (f : Pair → Pair) : (s.updPair f).scrub = s.scrub := rfl
@[simp] theorem State.updPair_ingressCells (s : State) (f : Pair → Pair) : (s.updPair f).ingressCells = s.ingressCells := rfl
@[simp] theorem State.updPair_queues (s : State) (f : Pair → Pair) : (s.updPair f).queues = s.queues := rfl
@[simp] theorem State.updPair_meters (s : State) (f : Pair → Pair) : (s.updPair f).meters = s.meters := rfl
@[simp] theorem State.updPair_flows (s : State) (f : Pair → Pair) : (s.updPair f).flows = s.flows := rfl
@[simp] theorem State.updPair_shapers (s : State) (f : Pair → Pair) : (s.updPair f).shapers = s.shapers := rfl
@[simp] theorem State.updPair_virtual (s : State) (f : Pair → Pair) : (s.updPair f).virtual = s.virtual := rfl
@[simp] theorem State.updPair_mirrorCount (s : State) (f : Pair → Pair) : (s.updPair f).mirrorCount = s.mirrorCount := rfl
@[simp] theorem State.updPair_nodes (s : State) (f : Pair → Pair) : (s.updPair f).nodes = s.nodes := rfl
@[simp] theorem State.updPair_tcam (s : State) (f : Pair → Pair) : (s.updPair f).tcam = s.tcam := rfl
@[simp] theorem State.updPair_patterns (s : State) (f : Pair → Pair) : (s.updPair f).patterns = s.patterns := rfl
@[simp] theorem State.updPair_tcamClaims (s : State) (f : Pair → Pair) : (s.updPair f).tcamClaims = s.tcamClaims := rfl
@[simp] theorem State.updPair_patClaims (s : State) (f : Pair → Pair) : (s.updPair f).patClaims = s.patClaims := rfl
@[simp] theorem State.updPair_bankClaims (s : State) (f : Pair → Pair) : (s.updPair f).bankClaims = s.bankClaims := rfl
@[simp] theorem State.updPair_slow (s : State) (f : Pair → Pair) : (s.updPair f).slow = s.slow := rfl
@[simp] theorem State.updPair_scans (s : State) (f : Pair → Pair) : (s.updPair f).scans = s.scans := rfl
@[simp] theorem State.updPair_table (s : State) (f : Pair → Pair) : (s.updPair f).table = s.table := rfl
@[simp] theorem State.updPair_learnQ (s : State) (f : Pair → Pair) : (s.updPair f).learnQ = s.learnQ := rfl
@[simp] theorem State.updPair_notices (s : State) (f : Pair → Pair) : (s.updPair f).notices = s.notices := rfl
@[simp] theorem State.updPair_accepted (s : State) (f : Pair → Pair) : (s.updPair f).accepted = s.accepted := rfl
@[simp] theorem State.updPair_sweep (s : State) (f : Pair → Pair) : (s.updPair f).sweep = s.sweep := rfl
@[simp] theorem State.updPair_shadow (s : State) (f : Pair → Pair) : (s.updPair f).shadow = s.shadow := rfl
@[simp] theorem State.updPair_hostRx (s : State) (f : Pair → Pair) : (s.updPair f).hostRx = s.hostRx := rfl
@[simp] theorem State.updPair_host (s : State) (f : Pair → Pair) : (s.updPair f).host = s.host := rfl
@[simp] theorem State.updPair_flash (s : State) (f : Pair → Pair) : (s.updPair f).flash = s.flash := rfl
@[simp] theorem State.updPair_auth (s : State) (f : Pair → Pair) : (s.updPair f).auth = s.auth := rfl
@[simp] theorem State.updPair_power (s : State) (f : Pair → Pair) : (s.updPair f).power = s.power := rfl
@[simp] theorem State.updPair_pair (s : State) (f : Pair → Pair) : (s.updPair f).pair = f s.pair := rfl

/-! `updLane` -/
@[simp] theorem State.updLane_pending (s : State) (n : Nat) (f : Lane → Lane) : (s.updLane n f).pending = s.pending := rfl
@[simp] theorem State.updLane_regs (s : State) (n : Nat) (f : Lane → Lane) : (s.updLane n f).regs = s.regs := rfl
@[simp] theorem State.updLane_evq (s : State) (n : Nat) (f : Lane → Lane) : (s.updLane n f).evq = s.evq := rfl
@[simp] theorem State.updLane_rseq (s : State) (n : Nat) (f : Lane → Lane) : (s.updLane n f).rseq = s.rseq := rfl
@[simp] theorem State.updLane_out (s : State) (n : Nat) (f : Lane → Lane) : (s.updLane n f).out = s.out := rfl
@[simp] theorem State.updLane_free (s : State) (n : Nat) (f : Lane → Lane) : (s.updLane n f).free = s.free := rfl
@[simp] theorem State.updLane_bureau (s : State) (n : Nat) (f : Lane → Lane) : (s.updLane n f).bureau = s.bureau := rfl
@[simp] theorem State.updLane_epoch (s : State) (n : Nat) (f : Lane → Lane) : (s.updLane n f).epoch = s.epoch := rfl
@[simp] theorem State.updLane_now (s : State) (n : Nat) (f : Lane → Lane) : (s.updLane n f).now = s.now := rfl
@[simp] theorem State.updLane_tb (s : State) (n : Nat) (f : Lane → Lane) : (s.updLane n f).tb = s.tb := rfl
@[simp] theorem State.updLane_otp (s : State) (n : Nat) (f : Lane → Lane) : (s.updLane n f).otp = s.otp := rfl
@[simp] theorem State.updLane_forced (s : State) (n : Nat) (f : Lane → Lane) : (s.updLane n f).forced = s.forced := rfl
@[simp] theorem State.updLane_servos (s : State) (n : Nat) (f : Lane → Lane) : (s.updLane n f).servos = s.servos := rfl
@[simp] theorem State.updLane_pulses (s : State) (n : Nat) (f : Lane → Lane) : (s.updLane n f).pulses = s.pulses := rfl
@[simp] theorem State.updLane_tins (s : State) (n : Nat) (f : Lane → Lane) : (s.updLane n f).tins = s.tins := rfl
@[simp] theorem State.updLane_lanes (s : State) (n : Nat) (f : Lane → Lane) : (s.updLane n f).lanes = SMap.upd Lane.reset s.lanes n f := rfl
@[simp] theorem State.updLane_refLost (s : State) (n : Nat) (f : Lane → Lane) : (s.updLane n f).refLost = s.refLost := rfl
@[simp] theorem State.updLane_ports (s : State) (n : Nat) (f : Lane → Lane) : (s.updLane n f).ports = s.ports := rfl
@[simp] theorem State.updLane_stf (s : State) (n : Nat) (f : Lane → Lane) : (s.updLane n f).stf = s.stf := rfl
@[simp] theorem State.updLane_tus (s : State) (n : Nat) (f : Lane → Lane) : (s.updLane n f).tus = s.tus := rfl
@[simp] theorem State.updLane_channels (s : State) (n : Nat) (f : Lane → Lane) : (s.updLane n f).channels = s.channels := rfl
@[simp] theorem State.updLane_leafHeld (s : State) (n : Nat) (f : Lane → Lane) : (s.updLane n f).leafHeld = s.leafHeld := rfl
@[simp] theorem State.updLane_leafPrev (s : State) (n : Nat) (f : Lane → Lane) : (s.updLane n f).leafPrev = s.leafPrev := rfl
@[simp] theorem State.updLane_frames (s : State) (n : Nat) (f : Lane → Lane) : (s.updLane n f).frames = s.frames := rfl
@[simp] theorem State.updLane_cells (s : State) (n : Nat) (f : Lane → Lane) : (s.updLane n f).cells = s.cells := rfl
@[simp] theorem State.updLane_cupboards (s : State) (n : Nat) (f : Lane → Lane) : (s.updLane n f).cupboards = s.cupboards := rfl
@[simp] theorem State.updLane_quarantine (s : State) (n : Nat) (f : Lane → Lane) : (s.updLane n f).quarantine = s.quarantine := rfl
@[simp] theorem State.updLane_cellLow (s : State) (n : Nat) (f : Lane → Lane) : (s.updLane n f).cellLow = s.cellLow := rfl
@[simp] theorem State.updLane_minFree (s : State) (n : Nat) (f : Lane → Lane) : (s.updLane n f).minFree = s.minFree := rfl
@[simp] theorem State.updLane_scrub (s : State) (n : Nat) (f : Lane → Lane) : (s.updLane n f).scrub = s.scrub := rfl
@[simp] theorem State.updLane_ingressCells (s : State) (n : Nat) (f : Lane → Lane) : (s.updLane n f).ingressCells = s.ingressCells := rfl
@[simp] theorem State.updLane_queues (s : State) (n : Nat) (f : Lane → Lane) : (s.updLane n f).queues = s.queues := rfl
@[simp] theorem State.updLane_meters (s : State) (n : Nat) (f : Lane → Lane) : (s.updLane n f).meters = s.meters := rfl
@[simp] theorem State.updLane_flows (s : State) (n : Nat) (f : Lane → Lane) : (s.updLane n f).flows = s.flows := rfl
@[simp] theorem State.updLane_shapers (s : State) (n : Nat) (f : Lane → Lane) : (s.updLane n f).shapers = s.shapers := rfl
@[simp] theorem State.updLane_virtual (s : State) (n : Nat) (f : Lane → Lane) : (s.updLane n f).virtual = s.virtual := rfl
@[simp] theorem State.updLane_mirrorCount (s : State) (n : Nat) (f : Lane → Lane) : (s.updLane n f).mirrorCount = s.mirrorCount := rfl
@[simp] theorem State.updLane_nodes (s : State) (n : Nat) (f : Lane → Lane) : (s.updLane n f).nodes = s.nodes := rfl
@[simp] theorem State.updLane_tcam (s : State) (n : Nat) (f : Lane → Lane) : (s.updLane n f).tcam = s.tcam := rfl
@[simp] theorem State.updLane_patterns (s : State) (n : Nat) (f : Lane → Lane) : (s.updLane n f).patterns = s.patterns := rfl
@[simp] theorem State.updLane_tcamClaims (s : State) (n : Nat) (f : Lane → Lane) : (s.updLane n f).tcamClaims = s.tcamClaims := rfl
@[simp] theorem State.updLane_patClaims (s : State) (n : Nat) (f : Lane → Lane) : (s.updLane n f).patClaims = s.patClaims := rfl
@[simp] theorem State.updLane_bankClaims (s : State) (n : Nat) (f : Lane → Lane) : (s.updLane n f).bankClaims = s.bankClaims := rfl
@[simp] theorem State.updLane_slow (s : State) (n : Nat) (f : Lane → Lane) : (s.updLane n f).slow = s.slow := rfl
@[simp] theorem State.updLane_scans (s : State) (n : Nat) (f : Lane → Lane) : (s.updLane n f).scans = s.scans := rfl
@[simp] theorem State.updLane_table (s : State) (n : Nat) (f : Lane → Lane) : (s.updLane n f).table = s.table := rfl
@[simp] theorem State.updLane_learnQ (s : State) (n : Nat) (f : Lane → Lane) : (s.updLane n f).learnQ = s.learnQ := rfl
@[simp] theorem State.updLane_notices (s : State) (n : Nat) (f : Lane → Lane) : (s.updLane n f).notices = s.notices := rfl
@[simp] theorem State.updLane_accepted (s : State) (n : Nat) (f : Lane → Lane) : (s.updLane n f).accepted = s.accepted := rfl
@[simp] theorem State.updLane_sweep (s : State) (n : Nat) (f : Lane → Lane) : (s.updLane n f).sweep = s.sweep := rfl
@[simp] theorem State.updLane_shadow (s : State) (n : Nat) (f : Lane → Lane) : (s.updLane n f).shadow = s.shadow := rfl
@[simp] theorem State.updLane_hostRx (s : State) (n : Nat) (f : Lane → Lane) : (s.updLane n f).hostRx = s.hostRx := rfl
@[simp] theorem State.updLane_host (s : State) (n : Nat) (f : Lane → Lane) : (s.updLane n f).host = s.host := rfl
@[simp] theorem State.updLane_flash (s : State) (n : Nat) (f : Lane → Lane) : (s.updLane n f).flash = s.flash := rfl
@[simp] theorem State.updLane_auth (s : State) (n : Nat) (f : Lane → Lane) : (s.updLane n f).auth = s.auth := rfl
@[simp] theorem State.updLane_power (s : State) (n : Nat) (f : Lane → Lane) : (s.updLane n f).power = s.power := rfl
@[simp] theorem State.updLane_pair (s : State) (n : Nat) (f : Lane → Lane) : (s.updLane n f).pair = s.pair := rfl

/-! `updPort` -/
@[simp] theorem State.updPort_pending (s : State) (p : Nat) (f : Port → Port) : (s.updPort p f).pending = s.pending := rfl
@[simp] theorem State.updPort_regs (s : State) (p : Nat) (f : Port → Port) : (s.updPort p f).regs = s.regs := rfl
@[simp] theorem State.updPort_evq (s : State) (p : Nat) (f : Port → Port) : (s.updPort p f).evq = s.evq := rfl
@[simp] theorem State.updPort_rseq (s : State) (p : Nat) (f : Port → Port) : (s.updPort p f).rseq = s.rseq := rfl
@[simp] theorem State.updPort_out (s : State) (p : Nat) (f : Port → Port) : (s.updPort p f).out = s.out := rfl
@[simp] theorem State.updPort_free (s : State) (p : Nat) (f : Port → Port) : (s.updPort p f).free = s.free := rfl
@[simp] theorem State.updPort_bureau (s : State) (p : Nat) (f : Port → Port) : (s.updPort p f).bureau = s.bureau := rfl
@[simp] theorem State.updPort_epoch (s : State) (p : Nat) (f : Port → Port) : (s.updPort p f).epoch = s.epoch := rfl
@[simp] theorem State.updPort_now (s : State) (p : Nat) (f : Port → Port) : (s.updPort p f).now = s.now := rfl
@[simp] theorem State.updPort_tb (s : State) (p : Nat) (f : Port → Port) : (s.updPort p f).tb = s.tb := rfl
@[simp] theorem State.updPort_otp (s : State) (p : Nat) (f : Port → Port) : (s.updPort p f).otp = s.otp := rfl
@[simp] theorem State.updPort_forced (s : State) (p : Nat) (f : Port → Port) : (s.updPort p f).forced = s.forced := rfl
@[simp] theorem State.updPort_servos (s : State) (p : Nat) (f : Port → Port) : (s.updPort p f).servos = s.servos := rfl
@[simp] theorem State.updPort_pulses (s : State) (p : Nat) (f : Port → Port) : (s.updPort p f).pulses = s.pulses := rfl
@[simp] theorem State.updPort_tins (s : State) (p : Nat) (f : Port → Port) : (s.updPort p f).tins = s.tins := rfl
@[simp] theorem State.updPort_lanes (s : State) (p : Nat) (f : Port → Port) : (s.updPort p f).lanes = s.lanes := rfl
@[simp] theorem State.updPort_refLost (s : State) (p : Nat) (f : Port → Port) : (s.updPort p f).refLost = s.refLost := rfl
@[simp] theorem State.updPort_ports (s : State) (p : Nat) (f : Port → Port) : (s.updPort p f).ports = SMap.upd Port.reset s.ports p f := rfl
@[simp] theorem State.updPort_stf (s : State) (p : Nat) (f : Port → Port) : (s.updPort p f).stf = s.stf := rfl
@[simp] theorem State.updPort_tus (s : State) (p : Nat) (f : Port → Port) : (s.updPort p f).tus = s.tus := rfl
@[simp] theorem State.updPort_channels (s : State) (p : Nat) (f : Port → Port) : (s.updPort p f).channels = s.channels := rfl
@[simp] theorem State.updPort_leafHeld (s : State) (p : Nat) (f : Port → Port) : (s.updPort p f).leafHeld = s.leafHeld := rfl
@[simp] theorem State.updPort_leafPrev (s : State) (p : Nat) (f : Port → Port) : (s.updPort p f).leafPrev = s.leafPrev := rfl
@[simp] theorem State.updPort_frames (s : State) (p : Nat) (f : Port → Port) : (s.updPort p f).frames = s.frames := rfl
@[simp] theorem State.updPort_cells (s : State) (p : Nat) (f : Port → Port) : (s.updPort p f).cells = s.cells := rfl
@[simp] theorem State.updPort_cupboards (s : State) (p : Nat) (f : Port → Port) : (s.updPort p f).cupboards = s.cupboards := rfl
@[simp] theorem State.updPort_quarantine (s : State) (p : Nat) (f : Port → Port) : (s.updPort p f).quarantine = s.quarantine := rfl
@[simp] theorem State.updPort_cellLow (s : State) (p : Nat) (f : Port → Port) : (s.updPort p f).cellLow = s.cellLow := rfl
@[simp] theorem State.updPort_minFree (s : State) (p : Nat) (f : Port → Port) : (s.updPort p f).minFree = s.minFree := rfl
@[simp] theorem State.updPort_scrub (s : State) (p : Nat) (f : Port → Port) : (s.updPort p f).scrub = s.scrub := rfl
@[simp] theorem State.updPort_ingressCells (s : State) (p : Nat) (f : Port → Port) : (s.updPort p f).ingressCells = s.ingressCells := rfl
@[simp] theorem State.updPort_queues (s : State) (p : Nat) (f : Port → Port) : (s.updPort p f).queues = s.queues := rfl
@[simp] theorem State.updPort_meters (s : State) (p : Nat) (f : Port → Port) : (s.updPort p f).meters = s.meters := rfl
@[simp] theorem State.updPort_flows (s : State) (p : Nat) (f : Port → Port) : (s.updPort p f).flows = s.flows := rfl
@[simp] theorem State.updPort_shapers (s : State) (p : Nat) (f : Port → Port) : (s.updPort p f).shapers = s.shapers := rfl
@[simp] theorem State.updPort_virtual (s : State) (p : Nat) (f : Port → Port) : (s.updPort p f).virtual = s.virtual := rfl
@[simp] theorem State.updPort_mirrorCount (s : State) (p : Nat) (f : Port → Port) : (s.updPort p f).mirrorCount = s.mirrorCount := rfl
@[simp] theorem State.updPort_nodes (s : State) (p : Nat) (f : Port → Port) : (s.updPort p f).nodes = s.nodes := rfl
@[simp] theorem State.updPort_tcam (s : State) (p : Nat) (f : Port → Port) : (s.updPort p f).tcam = s.tcam := rfl
@[simp] theorem State.updPort_patterns (s : State) (p : Nat) (f : Port → Port) : (s.updPort p f).patterns = s.patterns := rfl
@[simp] theorem State.updPort_tcamClaims (s : State) (p : Nat) (f : Port → Port) : (s.updPort p f).tcamClaims = s.tcamClaims := rfl
@[simp] theorem State.updPort_patClaims (s : State) (p : Nat) (f : Port → Port) : (s.updPort p f).patClaims = s.patClaims := rfl
@[simp] theorem State.updPort_bankClaims (s : State) (p : Nat) (f : Port → Port) : (s.updPort p f).bankClaims = s.bankClaims := rfl
@[simp] theorem State.updPort_slow (s : State) (p : Nat) (f : Port → Port) : (s.updPort p f).slow = s.slow := rfl
@[simp] theorem State.updPort_scans (s : State) (p : Nat) (f : Port → Port) : (s.updPort p f).scans = s.scans := rfl
@[simp] theorem State.updPort_table (s : State) (p : Nat) (f : Port → Port) : (s.updPort p f).table = s.table := rfl
@[simp] theorem State.updPort_learnQ (s : State) (p : Nat) (f : Port → Port) : (s.updPort p f).learnQ = s.learnQ := rfl
@[simp] theorem State.updPort_notices (s : State) (p : Nat) (f : Port → Port) : (s.updPort p f).notices = s.notices := rfl
@[simp] theorem State.updPort_accepted (s : State) (p : Nat) (f : Port → Port) : (s.updPort p f).accepted = s.accepted := rfl
@[simp] theorem State.updPort_sweep (s : State) (p : Nat) (f : Port → Port) : (s.updPort p f).sweep = s.sweep := rfl
@[simp] theorem State.updPort_shadow (s : State) (p : Nat) (f : Port → Port) : (s.updPort p f).shadow = s.shadow := rfl
@[simp] theorem State.updPort_hostRx (s : State) (p : Nat) (f : Port → Port) : (s.updPort p f).hostRx = s.hostRx := rfl
@[simp] theorem State.updPort_host (s : State) (p : Nat) (f : Port → Port) : (s.updPort p f).host = s.host := rfl
@[simp] theorem State.updPort_flash (s : State) (p : Nat) (f : Port → Port) : (s.updPort p f).flash = s.flash := rfl
@[simp] theorem State.updPort_auth (s : State) (p : Nat) (f : Port → Port) : (s.updPort p f).auth = s.auth := rfl
@[simp] theorem State.updPort_power (s : State) (p : Nat) (f : Port → Port) : (s.updPort p f).power = s.power := rfl
@[simp] theorem State.updPort_pair (s : State) (p : Nat) (f : Port → Port) : (s.updPort p f).pair = s.pair := rfl

/-! `updStf` -/
@[simp] theorem State.updStf_pending (s : State) (n : Nat) (f : Stf → Stf) : (s.updStf n f).pending = s.pending := rfl
@[simp] theorem State.updStf_regs (s : State) (n : Nat) (f : Stf → Stf) : (s.updStf n f).regs = s.regs := rfl
@[simp] theorem State.updStf_evq (s : State) (n : Nat) (f : Stf → Stf) : (s.updStf n f).evq = s.evq := rfl
@[simp] theorem State.updStf_rseq (s : State) (n : Nat) (f : Stf → Stf) : (s.updStf n f).rseq = s.rseq := rfl
@[simp] theorem State.updStf_out (s : State) (n : Nat) (f : Stf → Stf) : (s.updStf n f).out = s.out := rfl
@[simp] theorem State.updStf_free (s : State) (n : Nat) (f : Stf → Stf) : (s.updStf n f).free = s.free := rfl
@[simp] theorem State.updStf_bureau (s : State) (n : Nat) (f : Stf → Stf) : (s.updStf n f).bureau = s.bureau := rfl
@[simp] theorem State.updStf_epoch (s : State) (n : Nat) (f : Stf → Stf) : (s.updStf n f).epoch = s.epoch := rfl
@[simp] theorem State.updStf_now (s : State) (n : Nat) (f : Stf → Stf) : (s.updStf n f).now = s.now := rfl
@[simp] theorem State.updStf_tb (s : State) (n : Nat) (f : Stf → Stf) : (s.updStf n f).tb = s.tb := rfl
@[simp] theorem State.updStf_otp (s : State) (n : Nat) (f : Stf → Stf) : (s.updStf n f).otp = s.otp := rfl
@[simp] theorem State.updStf_forced (s : State) (n : Nat) (f : Stf → Stf) : (s.updStf n f).forced = s.forced := rfl
@[simp] theorem State.updStf_servos (s : State) (n : Nat) (f : Stf → Stf) : (s.updStf n f).servos = s.servos := rfl
@[simp] theorem State.updStf_pulses (s : State) (n : Nat) (f : Stf → Stf) : (s.updStf n f).pulses = s.pulses := rfl
@[simp] theorem State.updStf_tins (s : State) (n : Nat) (f : Stf → Stf) : (s.updStf n f).tins = s.tins := rfl
@[simp] theorem State.updStf_lanes (s : State) (n : Nat) (f : Stf → Stf) : (s.updStf n f).lanes = s.lanes := rfl
@[simp] theorem State.updStf_refLost (s : State) (n : Nat) (f : Stf → Stf) : (s.updStf n f).refLost = s.refLost := rfl
@[simp] theorem State.updStf_ports (s : State) (n : Nat) (f : Stf → Stf) : (s.updStf n f).ports = s.ports := rfl
@[simp] theorem State.updStf_stf (s : State) (n : Nat) (f : Stf → Stf) : (s.updStf n f).stf = SMap.upd Stf.reset s.stf n f := rfl
@[simp] theorem State.updStf_tus (s : State) (n : Nat) (f : Stf → Stf) : (s.updStf n f).tus = s.tus := rfl
@[simp] theorem State.updStf_channels (s : State) (n : Nat) (f : Stf → Stf) : (s.updStf n f).channels = s.channels := rfl
@[simp] theorem State.updStf_leafHeld (s : State) (n : Nat) (f : Stf → Stf) : (s.updStf n f).leafHeld = s.leafHeld := rfl
@[simp] theorem State.updStf_leafPrev (s : State) (n : Nat) (f : Stf → Stf) : (s.updStf n f).leafPrev = s.leafPrev := rfl
@[simp] theorem State.updStf_frames (s : State) (n : Nat) (f : Stf → Stf) : (s.updStf n f).frames = s.frames := rfl
@[simp] theorem State.updStf_cells (s : State) (n : Nat) (f : Stf → Stf) : (s.updStf n f).cells = s.cells := rfl
@[simp] theorem State.updStf_cupboards (s : State) (n : Nat) (f : Stf → Stf) : (s.updStf n f).cupboards = s.cupboards := rfl
@[simp] theorem State.updStf_quarantine (s : State) (n : Nat) (f : Stf → Stf) : (s.updStf n f).quarantine = s.quarantine := rfl
@[simp] theorem State.updStf_cellLow (s : State) (n : Nat) (f : Stf → Stf) : (s.updStf n f).cellLow = s.cellLow := rfl
@[simp] theorem State.updStf_minFree (s : State) (n : Nat) (f : Stf → Stf) : (s.updStf n f).minFree = s.minFree := rfl
@[simp] theorem State.updStf_scrub (s : State) (n : Nat) (f : Stf → Stf) : (s.updStf n f).scrub = s.scrub := rfl
@[simp] theorem State.updStf_ingressCells (s : State) (n : Nat) (f : Stf → Stf) : (s.updStf n f).ingressCells = s.ingressCells := rfl
@[simp] theorem State.updStf_queues (s : State) (n : Nat) (f : Stf → Stf) : (s.updStf n f).queues = s.queues := rfl
@[simp] theorem State.updStf_meters (s : State) (n : Nat) (f : Stf → Stf) : (s.updStf n f).meters = s.meters := rfl
@[simp] theorem State.updStf_flows (s : State) (n : Nat) (f : Stf → Stf) : (s.updStf n f).flows = s.flows := rfl
@[simp] theorem State.updStf_shapers (s : State) (n : Nat) (f : Stf → Stf) : (s.updStf n f).shapers = s.shapers := rfl
@[simp] theorem State.updStf_virtual (s : State) (n : Nat) (f : Stf → Stf) : (s.updStf n f).virtual = s.virtual := rfl
@[simp] theorem State.updStf_mirrorCount (s : State) (n : Nat) (f : Stf → Stf) : (s.updStf n f).mirrorCount = s.mirrorCount := rfl
@[simp] theorem State.updStf_nodes (s : State) (n : Nat) (f : Stf → Stf) : (s.updStf n f).nodes = s.nodes := rfl
@[simp] theorem State.updStf_tcam (s : State) (n : Nat) (f : Stf → Stf) : (s.updStf n f).tcam = s.tcam := rfl
@[simp] theorem State.updStf_patterns (s : State) (n : Nat) (f : Stf → Stf) : (s.updStf n f).patterns = s.patterns := rfl
@[simp] theorem State.updStf_tcamClaims (s : State) (n : Nat) (f : Stf → Stf) : (s.updStf n f).tcamClaims = s.tcamClaims := rfl
@[simp] theorem State.updStf_patClaims (s : State) (n : Nat) (f : Stf → Stf) : (s.updStf n f).patClaims = s.patClaims := rfl
@[simp] theorem State.updStf_bankClaims (s : State) (n : Nat) (f : Stf → Stf) : (s.updStf n f).bankClaims = s.bankClaims := rfl
@[simp] theorem State.updStf_slow (s : State) (n : Nat) (f : Stf → Stf) : (s.updStf n f).slow = s.slow := rfl
@[simp] theorem State.updStf_scans (s : State) (n : Nat) (f : Stf → Stf) : (s.updStf n f).scans = s.scans := rfl
@[simp] theorem State.updStf_table (s : State) (n : Nat) (f : Stf → Stf) : (s.updStf n f).table = s.table := rfl
@[simp] theorem State.updStf_learnQ (s : State) (n : Nat) (f : Stf → Stf) : (s.updStf n f).learnQ = s.learnQ := rfl
@[simp] theorem State.updStf_notices (s : State) (n : Nat) (f : Stf → Stf) : (s.updStf n f).notices = s.notices := rfl
@[simp] theorem State.updStf_accepted (s : State) (n : Nat) (f : Stf → Stf) : (s.updStf n f).accepted = s.accepted := rfl
@[simp] theorem State.updStf_sweep (s : State) (n : Nat) (f : Stf → Stf) : (s.updStf n f).sweep = s.sweep := rfl
@[simp] theorem State.updStf_shadow (s : State) (n : Nat) (f : Stf → Stf) : (s.updStf n f).shadow = s.shadow := rfl
@[simp] theorem State.updStf_hostRx (s : State) (n : Nat) (f : Stf → Stf) : (s.updStf n f).hostRx = s.hostRx := rfl
@[simp] theorem State.updStf_host (s : State) (n : Nat) (f : Stf → Stf) : (s.updStf n f).host = s.host := rfl
@[simp] theorem State.updStf_flash (s : State) (n : Nat) (f : Stf → Stf) : (s.updStf n f).flash = s.flash := rfl
@[simp] theorem State.updStf_auth (s : State) (n : Nat) (f : Stf → Stf) : (s.updStf n f).auth = s.auth := rfl
@[simp] theorem State.updStf_power (s : State) (n : Nat) (f : Stf → Stf) : (s.updStf n f).power = s.power := rfl
@[simp] theorem State.updStf_pair (s : State) (n : Nat) (f : Stf → Stf) : (s.updStf n f).pair = s.pair := rfl

/-! `updTu` -/
@[simp] theorem State.updTu_pending (s : State) (k : Nat) (f : Tu → Tu) : (s.updTu k f).pending = s.pending := rfl
@[simp] theorem State.updTu_regs (s : State) (k : Nat) (f : Tu → Tu) : (s.updTu k f).regs = s.regs := rfl
@[simp] theorem State.updTu_evq (s : State) (k : Nat) (f : Tu → Tu) : (s.updTu k f).evq = s.evq := rfl
@[simp] theorem State.updTu_rseq (s : State) (k : Nat) (f : Tu → Tu) : (s.updTu k f).rseq = s.rseq := rfl
@[simp] theorem State.updTu_out (s : State) (k : Nat) (f : Tu → Tu) : (s.updTu k f).out = s.out := rfl
@[simp] theorem State.updTu_free (s : State) (k : Nat) (f : Tu → Tu) : (s.updTu k f).free = s.free := rfl
@[simp] theorem State.updTu_bureau (s : State) (k : Nat) (f : Tu → Tu) : (s.updTu k f).bureau = s.bureau := rfl
@[simp] theorem State.updTu_epoch (s : State) (k : Nat) (f : Tu → Tu) : (s.updTu k f).epoch = s.epoch := rfl
@[simp] theorem State.updTu_now (s : State) (k : Nat) (f : Tu → Tu) : (s.updTu k f).now = s.now := rfl
@[simp] theorem State.updTu_tb (s : State) (k : Nat) (f : Tu → Tu) : (s.updTu k f).tb = s.tb := rfl
@[simp] theorem State.updTu_otp (s : State) (k : Nat) (f : Tu → Tu) : (s.updTu k f).otp = s.otp := rfl
@[simp] theorem State.updTu_forced (s : State) (k : Nat) (f : Tu → Tu) : (s.updTu k f).forced = s.forced := rfl
@[simp] theorem State.updTu_servos (s : State) (k : Nat) (f : Tu → Tu) : (s.updTu k f).servos = s.servos := rfl
@[simp] theorem State.updTu_pulses (s : State) (k : Nat) (f : Tu → Tu) : (s.updTu k f).pulses = s.pulses := rfl
@[simp] theorem State.updTu_tins (s : State) (k : Nat) (f : Tu → Tu) : (s.updTu k f).tins = s.tins := rfl
@[simp] theorem State.updTu_lanes (s : State) (k : Nat) (f : Tu → Tu) : (s.updTu k f).lanes = s.lanes := rfl
@[simp] theorem State.updTu_refLost (s : State) (k : Nat) (f : Tu → Tu) : (s.updTu k f).refLost = s.refLost := rfl
@[simp] theorem State.updTu_ports (s : State) (k : Nat) (f : Tu → Tu) : (s.updTu k f).ports = s.ports := rfl
@[simp] theorem State.updTu_stf (s : State) (k : Nat) (f : Tu → Tu) : (s.updTu k f).stf = s.stf := rfl
@[simp] theorem State.updTu_tus (s : State) (k : Nat) (f : Tu → Tu) : (s.updTu k f).tus = SMap.upd Tu.reset s.tus k f := rfl
@[simp] theorem State.updTu_channels (s : State) (k : Nat) (f : Tu → Tu) : (s.updTu k f).channels = s.channels := rfl
@[simp] theorem State.updTu_leafHeld (s : State) (k : Nat) (f : Tu → Tu) : (s.updTu k f).leafHeld = s.leafHeld := rfl
@[simp] theorem State.updTu_leafPrev (s : State) (k : Nat) (f : Tu → Tu) : (s.updTu k f).leafPrev = s.leafPrev := rfl
@[simp] theorem State.updTu_frames (s : State) (k : Nat) (f : Tu → Tu) : (s.updTu k f).frames = s.frames := rfl
@[simp] theorem State.updTu_cells (s : State) (k : Nat) (f : Tu → Tu) : (s.updTu k f).cells = s.cells := rfl
@[simp] theorem State.updTu_cupboards (s : State) (k : Nat) (f : Tu → Tu) : (s.updTu k f).cupboards = s.cupboards := rfl
@[simp] theorem State.updTu_quarantine (s : State) (k : Nat) (f : Tu → Tu) : (s.updTu k f).quarantine = s.quarantine := rfl
@[simp] theorem State.updTu_cellLow (s : State) (k : Nat) (f : Tu → Tu) : (s.updTu k f).cellLow = s.cellLow := rfl
@[simp] theorem State.updTu_minFree (s : State) (k : Nat) (f : Tu → Tu) : (s.updTu k f).minFree = s.minFree := rfl
@[simp] theorem State.updTu_scrub (s : State) (k : Nat) (f : Tu → Tu) : (s.updTu k f).scrub = s.scrub := rfl
@[simp] theorem State.updTu_ingressCells (s : State) (k : Nat) (f : Tu → Tu) : (s.updTu k f).ingressCells = s.ingressCells := rfl
@[simp] theorem State.updTu_queues (s : State) (k : Nat) (f : Tu → Tu) : (s.updTu k f).queues = s.queues := rfl
@[simp] theorem State.updTu_meters (s : State) (k : Nat) (f : Tu → Tu) : (s.updTu k f).meters = s.meters := rfl
@[simp] theorem State.updTu_flows (s : State) (k : Nat) (f : Tu → Tu) : (s.updTu k f).flows = s.flows := rfl
@[simp] theorem State.updTu_shapers (s : State) (k : Nat) (f : Tu → Tu) : (s.updTu k f).shapers = s.shapers := rfl
@[simp] theorem State.updTu_virtual (s : State) (k : Nat) (f : Tu → Tu) : (s.updTu k f).virtual = s.virtual := rfl
@[simp] theorem State.updTu_mirrorCount (s : State) (k : Nat) (f : Tu → Tu) : (s.updTu k f).mirrorCount = s.mirrorCount := rfl
@[simp] theorem State.updTu_nodes (s : State) (k : Nat) (f : Tu → Tu) : (s.updTu k f).nodes = s.nodes := rfl
@[simp] theorem State.updTu_tcam (s : State) (k : Nat) (f : Tu → Tu) : (s.updTu k f).tcam = s.tcam := rfl
@[simp] theorem State.updTu_patterns (s : State) (k : Nat) (f : Tu → Tu) : (s.updTu k f).patterns = s.patterns := rfl
@[simp] theorem State.updTu_tcamClaims (s : State) (k : Nat) (f : Tu → Tu) : (s.updTu k f).tcamClaims = s.tcamClaims := rfl
@[simp] theorem State.updTu_patClaims (s : State) (k : Nat) (f : Tu → Tu) : (s.updTu k f).patClaims = s.patClaims := rfl
@[simp] theorem State.updTu_bankClaims (s : State) (k : Nat) (f : Tu → Tu) : (s.updTu k f).bankClaims = s.bankClaims := rfl
@[simp] theorem State.updTu_slow (s : State) (k : Nat) (f : Tu → Tu) : (s.updTu k f).slow = s.slow := rfl
@[simp] theorem State.updTu_scans (s : State) (k : Nat) (f : Tu → Tu) : (s.updTu k f).scans = s.scans := rfl
@[simp] theorem State.updTu_table (s : State) (k : Nat) (f : Tu → Tu) : (s.updTu k f).table = s.table := rfl
@[simp] theorem State.updTu_learnQ (s : State) (k : Nat) (f : Tu → Tu) : (s.updTu k f).learnQ = s.learnQ := rfl
@[simp] theorem State.updTu_notices (s : State) (k : Nat) (f : Tu → Tu) : (s.updTu k f).notices = s.notices := rfl
@[simp] theorem State.updTu_accepted (s : State) (k : Nat) (f : Tu → Tu) : (s.updTu k f).accepted = s.accepted := rfl
@[simp] theorem State.updTu_sweep (s : State) (k : Nat) (f : Tu → Tu) : (s.updTu k f).sweep = s.sweep := rfl
@[simp] theorem State.updTu_shadow (s : State) (k : Nat) (f : Tu → Tu) : (s.updTu k f).shadow = s.shadow := rfl
@[simp] theorem State.updTu_hostRx (s : State) (k : Nat) (f : Tu → Tu) : (s.updTu k f).hostRx = s.hostRx := rfl
@[simp] theorem State.updTu_host (s : State) (k : Nat) (f : Tu → Tu) : (s.updTu k f).host = s.host := rfl
@[simp] theorem State.updTu_flash (s : State) (k : Nat) (f : Tu → Tu) : (s.updTu k f).flash = s.flash := rfl
@[simp] theorem State.updTu_auth (s : State) (k : Nat) (f : Tu → Tu) : (s.updTu k f).auth = s.auth := rfl
@[simp] theorem State.updTu_power (s : State) (k : Nat) (f : Tu → Tu) : (s.updTu k f).power = s.power := rfl
@[simp] theorem State.updTu_pair (s : State) (k : Nat) (f : Tu → Tu) : (s.updTu k f).pair = s.pair := rfl

/-! `updChannel` -/
@[simp] theorem State.updChannel_pending (s : State) (p : Nat) (f : Channel → Channel) : (s.updChannel p f).pending = s.pending := rfl
@[simp] theorem State.updChannel_regs (s : State) (p : Nat) (f : Channel → Channel) : (s.updChannel p f).regs = s.regs := rfl
@[simp] theorem State.updChannel_evq (s : State) (p : Nat) (f : Channel → Channel) : (s.updChannel p f).evq = s.evq := rfl
@[simp] theorem State.updChannel_rseq (s : State) (p : Nat) (f : Channel → Channel) : (s.updChannel p f).rseq = s.rseq := rfl
@[simp] theorem State.updChannel_out (s : State) (p : Nat) (f : Channel → Channel) : (s.updChannel p f).out = s.out := rfl
@[simp] theorem State.updChannel_free (s : State) (p : Nat) (f : Channel → Channel) : (s.updChannel p f).free = s.free := rfl
@[simp] theorem State.updChannel_bureau (s : State) (p : Nat) (f : Channel → Channel) : (s.updChannel p f).bureau = s.bureau := rfl
@[simp] theorem State.updChannel_epoch (s : State) (p : Nat) (f : Channel → Channel) : (s.updChannel p f).epoch = s.epoch := rfl
@[simp] theorem State.updChannel_now (s : State) (p : Nat) (f : Channel → Channel) : (s.updChannel p f).now = s.now := rfl
@[simp] theorem State.updChannel_tb (s : State) (p : Nat) (f : Channel → Channel) : (s.updChannel p f).tb = s.tb := rfl
@[simp] theorem State.updChannel_otp (s : State) (p : Nat) (f : Channel → Channel) : (s.updChannel p f).otp = s.otp := rfl
@[simp] theorem State.updChannel_forced (s : State) (p : Nat) (f : Channel → Channel) : (s.updChannel p f).forced = s.forced := rfl
@[simp] theorem State.updChannel_servos (s : State) (p : Nat) (f : Channel → Channel) : (s.updChannel p f).servos = s.servos := rfl
@[simp] theorem State.updChannel_pulses (s : State) (p : Nat) (f : Channel → Channel) : (s.updChannel p f).pulses = s.pulses := rfl
@[simp] theorem State.updChannel_tins (s : State) (p : Nat) (f : Channel → Channel) : (s.updChannel p f).tins = s.tins := rfl
@[simp] theorem State.updChannel_lanes (s : State) (p : Nat) (f : Channel → Channel) : (s.updChannel p f).lanes = s.lanes := rfl
@[simp] theorem State.updChannel_refLost (s : State) (p : Nat) (f : Channel → Channel) : (s.updChannel p f).refLost = s.refLost := rfl
@[simp] theorem State.updChannel_ports (s : State) (p : Nat) (f : Channel → Channel) : (s.updChannel p f).ports = s.ports := rfl
@[simp] theorem State.updChannel_stf (s : State) (p : Nat) (f : Channel → Channel) : (s.updChannel p f).stf = s.stf := rfl
@[simp] theorem State.updChannel_tus (s : State) (p : Nat) (f : Channel → Channel) : (s.updChannel p f).tus = s.tus := rfl
@[simp] theorem State.updChannel_channels (s : State) (p : Nat) (f : Channel → Channel) : (s.updChannel p f).channels = SMap.upd Channel.reset s.channels (p - 512) f := rfl
@[simp] theorem State.updChannel_leafHeld (s : State) (p : Nat) (f : Channel → Channel) : (s.updChannel p f).leafHeld = s.leafHeld := rfl
@[simp] theorem State.updChannel_leafPrev (s : State) (p : Nat) (f : Channel → Channel) : (s.updChannel p f).leafPrev = s.leafPrev := rfl
@[simp] theorem State.updChannel_frames (s : State) (p : Nat) (f : Channel → Channel) : (s.updChannel p f).frames = s.frames := rfl
@[simp] theorem State.updChannel_cells (s : State) (p : Nat) (f : Channel → Channel) : (s.updChannel p f).cells = s.cells := rfl
@[simp] theorem State.updChannel_cupboards (s : State) (p : Nat) (f : Channel → Channel) : (s.updChannel p f).cupboards = s.cupboards := rfl
@[simp] theorem State.updChannel_quarantine (s : State) (p : Nat) (f : Channel → Channel) : (s.updChannel p f).quarantine = s.quarantine := rfl
@[simp] theorem State.updChannel_cellLow (s : State) (p : Nat) (f : Channel → Channel) : (s.updChannel p f).cellLow = s.cellLow := rfl
@[simp] theorem State.updChannel_minFree (s : State) (p : Nat) (f : Channel → Channel) : (s.updChannel p f).minFree = s.minFree := rfl
@[simp] theorem State.updChannel_scrub (s : State) (p : Nat) (f : Channel → Channel) : (s.updChannel p f).scrub = s.scrub := rfl
@[simp] theorem State.updChannel_ingressCells (s : State) (p : Nat) (f : Channel → Channel) : (s.updChannel p f).ingressCells = s.ingressCells := rfl
@[simp] theorem State.updChannel_queues (s : State) (p : Nat) (f : Channel → Channel) : (s.updChannel p f).queues = s.queues := rfl
@[simp] theorem State.updChannel_meters (s : State) (p : Nat) (f : Channel → Channel) : (s.updChannel p f).meters = s.meters := rfl
@[simp] theorem State.updChannel_flows (s : State) (p : Nat) (f : Channel → Channel) : (s.updChannel p f).flows = s.flows := rfl
@[simp] theorem State.updChannel_shapers (s : State) (p : Nat) (f : Channel → Channel) : (s.updChannel p f).shapers = s.shapers := rfl
@[simp] theorem State.updChannel_virtual (s : State) (p : Nat) (f : Channel → Channel) : (s.updChannel p f).virtual = s.virtual := rfl
@[simp] theorem State.updChannel_mirrorCount (s : State) (p : Nat) (f : Channel → Channel) : (s.updChannel p f).mirrorCount = s.mirrorCount := rfl
@[simp] theorem State.updChannel_nodes (s : State) (p : Nat) (f : Channel → Channel) : (s.updChannel p f).nodes = s.nodes := rfl
@[simp] theorem State.updChannel_tcam (s : State) (p : Nat) (f : Channel → Channel) : (s.updChannel p f).tcam = s.tcam := rfl
@[simp] theorem State.updChannel_patterns (s : State) (p : Nat) (f : Channel → Channel) : (s.updChannel p f).patterns = s.patterns := rfl
@[simp] theorem State.updChannel_tcamClaims (s : State) (p : Nat) (f : Channel → Channel) : (s.updChannel p f).tcamClaims = s.tcamClaims := rfl
@[simp] theorem State.updChannel_patClaims (s : State) (p : Nat) (f : Channel → Channel) : (s.updChannel p f).patClaims = s.patClaims := rfl
@[simp] theorem State.updChannel_bankClaims (s : State) (p : Nat) (f : Channel → Channel) : (s.updChannel p f).bankClaims = s.bankClaims := rfl
@[simp] theorem State.updChannel_slow (s : State) (p : Nat) (f : Channel → Channel) : (s.updChannel p f).slow = s.slow := rfl
@[simp] theorem State.updChannel_scans (s : State) (p : Nat) (f : Channel → Channel) : (s.updChannel p f).scans = s.scans := rfl
@[simp] theorem State.updChannel_table (s : State) (p : Nat) (f : Channel → Channel) : (s.updChannel p f).table = s.table := rfl
@[simp] theorem State.updChannel_learnQ (s : State) (p : Nat) (f : Channel → Channel) : (s.updChannel p f).learnQ = s.learnQ := rfl
@[simp] theorem State.updChannel_notices (s : State) (p : Nat) (f : Channel → Channel) : (s.updChannel p f).notices = s.notices := rfl
@[simp] theorem State.updChannel_accepted (s : State) (p : Nat) (f : Channel → Channel) : (s.updChannel p f).accepted = s.accepted := rfl
@[simp] theorem State.updChannel_sweep (s : State) (p : Nat) (f : Channel → Channel) : (s.updChannel p f).sweep = s.sweep := rfl
@[simp] theorem State.updChannel_shadow (s : State) (p : Nat) (f : Channel → Channel) : (s.updChannel p f).shadow = s.shadow := rfl
@[simp] theorem State.updChannel_hostRx (s : State) (p : Nat) (f : Channel → Channel) : (s.updChannel p f).hostRx = s.hostRx := rfl
@[simp] theorem State.updChannel_host (s : State) (p : Nat) (f : Channel → Channel) : (s.updChannel p f).host = s.host := rfl
@[simp] theorem State.updChannel_flash (s : State) (p : Nat) (f : Channel → Channel) : (s.updChannel p f).flash = s.flash := rfl
@[simp] theorem State.updChannel_auth (s : State) (p : Nat) (f : Channel → Channel) : (s.updChannel p f).auth = s.auth := rfl
@[simp] theorem State.updChannel_power (s : State) (p : Nat) (f : Channel → Channel) : (s.updChannel p f).power = s.power := rfl
@[simp] theorem State.updChannel_pair (s : State) (p : Nat) (f : Channel → Channel) : (s.updChannel p f).pair = s.pair := rfl

/-! `putEntry` -/
@[simp] theorem State.putEntry_pending (s : State) (k : Nat) (e : TblEntry) : (s.putEntry k e).pending = s.pending := rfl
@[simp] theorem State.putEntry_regs (s : State) (k : Nat) (e : TblEntry) : (s.putEntry k e).regs = s.regs := rfl
@[simp] theorem State.putEntry_evq (s : State) (k : Nat) (e : TblEntry) : (s.putEntry k e).evq = s.evq := rfl
@[simp] theorem State.putEntry_rseq (s : State) (k : Nat) (e : TblEntry) : (s.putEntry k e).rseq = s.rseq := rfl
@[simp] theorem State.putEntry_out (s : State) (k : Nat) (e : TblEntry) : (s.putEntry k e).out = s.out := rfl
@[simp] theorem State.putEntry_free (s : State) (k : Nat) (e : TblEntry) : (s.putEntry k e).free = s.free := rfl
@[simp] theorem State.putEntry_bureau (s : State) (k : Nat) (e : TblEntry) : (s.putEntry k e).bureau = s.bureau := rfl
@[simp] theorem State.putEntry_epoch (s : State) (k : Nat) (e : TblEntry) : (s.putEntry k e).epoch = s.epoch := rfl
@[simp] theorem State.putEntry_now (s : State) (k : Nat) (e : TblEntry) : (s.putEntry k e).now = s.now := rfl
@[simp] theorem State.putEntry_tb (s : State) (k : Nat) (e : TblEntry) : (s.putEntry k e).tb = s.tb := rfl
@[simp] theorem State.putEntry_otp (s : State) (k : Nat) (e : TblEntry) : (s.putEntry k e).otp = s.otp := rfl
@[simp] theorem State.putEntry_forced (s : State) (k : Nat) (e : TblEntry) : (s.putEntry k e).forced = s.forced := rfl
@[simp] theorem State.putEntry_servos (s : State) (k : Nat) (e : TblEntry) : (s.putEntry k e).servos = s.servos := rfl
@[simp] theorem State.putEntry_pulses (s : State) (k : Nat) (e : TblEntry) : (s.putEntry k e).pulses = s.pulses := rfl
@[simp] theorem State.putEntry_tins (s : State) (k : Nat) (e : TblEntry) : (s.putEntry k e).tins = s.tins := rfl
@[simp] theorem State.putEntry_lanes (s : State) (k : Nat) (e : TblEntry) : (s.putEntry k e).lanes = s.lanes := rfl
@[simp] theorem State.putEntry_refLost (s : State) (k : Nat) (e : TblEntry) : (s.putEntry k e).refLost = s.refLost := rfl
@[simp] theorem State.putEntry_ports (s : State) (k : Nat) (e : TblEntry) : (s.putEntry k e).ports = s.ports := rfl
@[simp] theorem State.putEntry_stf (s : State) (k : Nat) (e : TblEntry) : (s.putEntry k e).stf = s.stf := rfl
@[simp] theorem State.putEntry_tus (s : State) (k : Nat) (e : TblEntry) : (s.putEntry k e).tus = s.tus := rfl
@[simp] theorem State.putEntry_channels (s : State) (k : Nat) (e : TblEntry) : (s.putEntry k e).channels = s.channels := rfl
@[simp] theorem State.putEntry_leafHeld (s : State) (k : Nat) (e : TblEntry) : (s.putEntry k e).leafHeld = s.leafHeld := rfl
@[simp] theorem State.putEntry_leafPrev (s : State) (k : Nat) (e : TblEntry) : (s.putEntry k e).leafPrev = s.leafPrev := rfl
@[simp] theorem State.putEntry_frames (s : State) (k : Nat) (e : TblEntry) : (s.putEntry k e).frames = s.frames := rfl
@[simp] theorem State.putEntry_cells (s : State) (k : Nat) (e : TblEntry) : (s.putEntry k e).cells = s.cells := rfl
@[simp] theorem State.putEntry_cupboards (s : State) (k : Nat) (e : TblEntry) : (s.putEntry k e).cupboards = s.cupboards := rfl
@[simp] theorem State.putEntry_quarantine (s : State) (k : Nat) (e : TblEntry) : (s.putEntry k e).quarantine = s.quarantine := rfl
@[simp] theorem State.putEntry_cellLow (s : State) (k : Nat) (e : TblEntry) : (s.putEntry k e).cellLow = s.cellLow := rfl
@[simp] theorem State.putEntry_minFree (s : State) (k : Nat) (e : TblEntry) : (s.putEntry k e).minFree = s.minFree := rfl
@[simp] theorem State.putEntry_scrub (s : State) (k : Nat) (e : TblEntry) : (s.putEntry k e).scrub = s.scrub := rfl
@[simp] theorem State.putEntry_ingressCells (s : State) (k : Nat) (e : TblEntry) : (s.putEntry k e).ingressCells = s.ingressCells := rfl
@[simp] theorem State.putEntry_queues (s : State) (k : Nat) (e : TblEntry) : (s.putEntry k e).queues = s.queues := rfl
@[simp] theorem State.putEntry_meters (s : State) (k : Nat) (e : TblEntry) : (s.putEntry k e).meters = s.meters := rfl
@[simp] theorem State.putEntry_flows (s : State) (k : Nat) (e : TblEntry) : (s.putEntry k e).flows = s.flows := rfl
@[simp] theorem State.putEntry_shapers (s : State) (k : Nat) (e : TblEntry) : (s.putEntry k e).shapers = s.shapers := rfl
@[simp] theorem State.putEntry_virtual (s : State) (k : Nat) (e : TblEntry) : (s.putEntry k e).virtual = s.virtual := rfl
@[simp] theorem State.putEntry_mirrorCount (s : State) (k : Nat) (e : TblEntry) : (s.putEntry k e).mirrorCount = s.mirrorCount := rfl
@[simp] theorem State.putEntry_nodes (s : State) (k : Nat) (e : TblEntry) : (s.putEntry k e).nodes = s.nodes := rfl
@[simp] theorem State.putEntry_tcam (s : State) (k : Nat) (e : TblEntry) : (s.putEntry k e).tcam = s.tcam := rfl
@[simp] theorem State.putEntry_patterns (s : State) (k : Nat) (e : TblEntry) : (s.putEntry k e).patterns = s.patterns := rfl
@[simp] theorem State.putEntry_tcamClaims (s : State) (k : Nat) (e : TblEntry) : (s.putEntry k e).tcamClaims = s.tcamClaims := rfl
@[simp] theorem State.putEntry_patClaims (s : State) (k : Nat) (e : TblEntry) : (s.putEntry k e).patClaims = s.patClaims := rfl
@[simp] theorem State.putEntry_bankClaims (s : State) (k : Nat) (e : TblEntry) : (s.putEntry k e).bankClaims = s.bankClaims := rfl
@[simp] theorem State.putEntry_slow (s : State) (k : Nat) (e : TblEntry) : (s.putEntry k e).slow = s.slow := rfl
@[simp] theorem State.putEntry_scans (s : State) (k : Nat) (e : TblEntry) : (s.putEntry k e).scans = s.scans := rfl
@[simp] theorem State.putEntry_table (s : State) (k : Nat) (e : TblEntry) : (s.putEntry k e).table = SMap.put s.table k e := rfl
@[simp] theorem State.putEntry_learnQ (s : State) (k : Nat) (e : TblEntry) : (s.putEntry k e).learnQ = s.learnQ := rfl
@[simp] theorem State.putEntry_notices (s : State) (k : Nat) (e : TblEntry) : (s.putEntry k e).notices = s.notices := rfl
@[simp] theorem State.putEntry_accepted (s : State) (k : Nat) (e : TblEntry) : (s.putEntry k e).accepted = s.accepted := rfl
@[simp] theorem State.putEntry_sweep (s : State) (k : Nat) (e : TblEntry) : (s.putEntry k e).sweep = s.sweep := rfl
@[simp] theorem State.putEntry_shadow (s : State) (k : Nat) (e : TblEntry) : (s.putEntry k e).shadow = s.shadow := rfl
@[simp] theorem State.putEntry_hostRx (s : State) (k : Nat) (e : TblEntry) : (s.putEntry k e).hostRx = s.hostRx := rfl
@[simp] theorem State.putEntry_host (s : State) (k : Nat) (e : TblEntry) : (s.putEntry k e).host = s.host := rfl
@[simp] theorem State.putEntry_flash (s : State) (k : Nat) (e : TblEntry) : (s.putEntry k e).flash = s.flash := rfl
@[simp] theorem State.putEntry_auth (s : State) (k : Nat) (e : TblEntry) : (s.putEntry k e).auth = s.auth := rfl
@[simp] theorem State.putEntry_power (s : State) (k : Nat) (e : TblEntry) : (s.putEntry k e).power = s.power := rfl
@[simp] theorem State.putEntry_pair (s : State) (k : Nat) (e : TblEntry) : (s.putEntry k e).pair = s.pair := rfl

/-! `delEntry` -/
@[simp] theorem State.delEntry_pending (s : State) (k : Nat) : (s.delEntry k).pending = s.pending := rfl
@[simp] theorem State.delEntry_regs (s : State) (k : Nat) : (s.delEntry k).regs = s.regs := rfl
@[simp] theorem State.delEntry_evq (s : State) (k : Nat) : (s.delEntry k).evq = s.evq := rfl
@[simp] theorem State.delEntry_rseq (s : State) (k : Nat) : (s.delEntry k).rseq = s.rseq := rfl
@[simp] theorem State.delEntry_out (s : State) (k : Nat) : (s.delEntry k).out = s.out := rfl
@[simp] theorem State.delEntry_free (s : State) (k : Nat) : (s.delEntry k).free = s.free := rfl
@[simp] theorem State.delEntry_bureau (s : State) (k : Nat) : (s.delEntry k).bureau = s.bureau := rfl
@[simp] theorem State.delEntry_epoch (s : State) (k : Nat) : (s.delEntry k).epoch = s.epoch := rfl
@[simp] theorem State.delEntry_now (s : State) (k : Nat) : (s.delEntry k).now = s.now := rfl
@[simp] theorem State.delEntry_tb (s : State) (k : Nat) : (s.delEntry k).tb = s.tb := rfl
@[simp] theorem State.delEntry_otp (s : State) (k : Nat) : (s.delEntry k).otp = s.otp := rfl
@[simp] theorem State.delEntry_forced (s : State) (k : Nat) : (s.delEntry k).forced = s.forced := rfl
@[simp] theorem State.delEntry_servos (s : State) (k : Nat) : (s.delEntry k).servos = s.servos := rfl
@[simp] theorem State.delEntry_pulses (s : State) (k : Nat) : (s.delEntry k).pulses = s.pulses := rfl
@[simp] theorem State.delEntry_tins (s : State) (k : Nat) : (s.delEntry k).tins = s.tins := rfl
@[simp] theorem State.delEntry_lanes (s : State) (k : Nat) : (s.delEntry k).lanes = s.lanes := rfl
@[simp] theorem State.delEntry_refLost (s : State) (k : Nat) : (s.delEntry k).refLost = s.refLost := rfl
@[simp] theorem State.delEntry_ports (s : State) (k : Nat) : (s.delEntry k).ports = s.ports := rfl
@[simp] theorem State.delEntry_stf (s : State) (k : Nat) : (s.delEntry k).stf = s.stf := rfl
@[simp] theorem State.delEntry_tus (s : State) (k : Nat) : (s.delEntry k).tus = s.tus := rfl
@[simp] theorem State.delEntry_channels (s : State) (k : Nat) : (s.delEntry k).channels = s.channels := rfl
@[simp] theorem State.delEntry_leafHeld (s : State) (k : Nat) : (s.delEntry k).leafHeld = s.leafHeld := rfl
@[simp] theorem State.delEntry_leafPrev (s : State) (k : Nat) : (s.delEntry k).leafPrev = s.leafPrev := rfl
@[simp] theorem State.delEntry_frames (s : State) (k : Nat) : (s.delEntry k).frames = s.frames := rfl
@[simp] theorem State.delEntry_cells (s : State) (k : Nat) : (s.delEntry k).cells = s.cells := rfl
@[simp] theorem State.delEntry_cupboards (s : State) (k : Nat) : (s.delEntry k).cupboards = s.cupboards := rfl
@[simp] theorem State.delEntry_quarantine (s : State) (k : Nat) : (s.delEntry k).quarantine = s.quarantine := rfl
@[simp] theorem State.delEntry_cellLow (s : State) (k : Nat) : (s.delEntry k).cellLow = s.cellLow := rfl
@[simp] theorem State.delEntry_minFree (s : State) (k : Nat) : (s.delEntry k).minFree = s.minFree := rfl
@[simp] theorem State.delEntry_scrub (s : State) (k : Nat) : (s.delEntry k).scrub = s.scrub := rfl
@[simp] theorem State.delEntry_ingressCells (s : State) (k : Nat) : (s.delEntry k).ingressCells = s.ingressCells := rfl
@[simp] theorem State.delEntry_queues (s : State) (k : Nat) : (s.delEntry k).queues = s.queues := rfl
@[simp] theorem State.delEntry_meters (s : State) (k : Nat) : (s.delEntry k).meters = s.meters := rfl
@[simp] theorem State.delEntry_flows (s : State) (k : Nat) : (s.delEntry k).flows = s.flows := rfl
@[simp] theorem State.delEntry_shapers (s : State) (k : Nat) : (s.delEntry k).shapers = s.shapers := rfl
@[simp] theorem State.delEntry_virtual (s : State) (k : Nat) : (s.delEntry k).virtual = s.virtual := rfl
@[simp] theorem State.delEntry_mirrorCount (s : State) (k : Nat) : (s.delEntry k).mirrorCount = s.mirrorCount := rfl
@[simp] theorem State.delEntry_nodes (s : State) (k : Nat) : (s.delEntry k).nodes = s.nodes := rfl
@[simp] theorem State.delEntry_tcam (s : State) (k : Nat) : (s.delEntry k).tcam = s.tcam := rfl
@[simp] theorem State.delEntry_patterns (s : State) (k : Nat) : (s.delEntry k).patterns = s.patterns := rfl
@[simp] theorem State.delEntry_tcamClaims (s : State) (k : Nat) : (s.delEntry k).tcamClaims = s.tcamClaims := rfl
@[simp] theorem State.delEntry_patClaims (s : State) (k : Nat) : (s.delEntry k).patClaims = s.patClaims := rfl
@[simp] theorem State.delEntry_bankClaims (s : State) (k : Nat) : (s.delEntry k).bankClaims = s.bankClaims := rfl
@[simp] theorem State.delEntry_slow (s : State) (k : Nat) : (s.delEntry k).slow = s.slow := rfl
@[simp] theorem State.delEntry_scans (s : State) (k : Nat) : (s.delEntry k).scans = s.scans := rfl
@[simp] theorem State.delEntry_table (s : State) (k : Nat) : (s.delEntry k).table = SMap.del s.table k := rfl
@[simp] theorem State.delEntry_learnQ (s : State) (k : Nat) : (s.delEntry k).learnQ = s.learnQ := rfl
@[simp] theorem State.delEntry_notices (s : State) (k : Nat) : (s.delEntry k).notices = s.notices := rfl
@[simp] theorem State.delEntry_accepted (s : State) (k : Nat) : (s.delEntry k).accepted = s.accepted := rfl
@[simp] theorem State.delEntry_sweep (s : State) (k : Nat) : (s.delEntry k).sweep = s.sweep := rfl
@[simp] theorem State.delEntry_shadow (s : State) (k : Nat) : (s.delEntry k).shadow = s.shadow := rfl
@[simp] theorem State.delEntry_hostRx (s : State) (k : Nat) : (s.delEntry k).hostRx = s.hostRx := rfl
@[simp] theorem State.delEntry_host (s : State) (k : Nat) : (s.delEntry k).host = s.host := rfl
@[simp] theorem State.delEntry_flash (s : State) (k : Nat) : (s.delEntry k).flash = s.flash := rfl
@[simp] theorem State.delEntry_auth (s : State) (k : Nat) : (s.delEntry k).auth = s.auth := rfl
@[simp] theorem State.delEntry_power (s : State) (k : Nat) : (s.delEntry k).power = s.power := rfl
@[simp] theorem State.delEntry_pair (s : State) (k : Nat) : (s.delEntry k).pair = s.pair := rfl

/-! `updServo` -/
@[simp] theorem State.updServo_pending (s : State) (b : Nat) (f : Servo → Servo) : (s.updServo b f).pending = s.pending := rfl
@[simp] theorem State.updServo_regs (s : State) (b : Nat) (f : Servo → Servo) : (s.updServo b f).regs = s.regs := rfl
@[simp] theorem State.updServo_evq (s : State) (b : Nat) (f : Servo → Servo) : (s.updServo b f).evq = s.evq := rfl
@[simp] theorem State.updServo_rseq (s : State) (b : Nat) (f : Servo → Servo) : (s.updServo b f).rseq = s.rseq := rfl
@[simp] theorem State.updServo_out (s : State) (b : Nat) (f : Servo → Servo) : (s.updServo b f).out = s.out := rfl
@[simp] theorem State.updServo_free (s : State) (b : Nat) (f : Servo → Servo) : (s.updServo b f).free = s.free := rfl
@[simp] theorem State.updServo_bureau (s : State) (b : Nat) (f : Servo → Servo) : (s.updServo b f).bureau = s.bureau := rfl
@[simp] theorem State.updServo_epoch (s : State) (b : Nat) (f : Servo → Servo) : (s.updServo b f).epoch = s.epoch := rfl
@[simp] theorem State.updServo_now (s : State) (b : Nat) (f : Servo → Servo) : (s.updServo b f).now = s.now := rfl
@[simp] theorem State.updServo_tb (s : State) (b : Nat) (f : Servo → Servo) : (s.updServo b f).tb = s.tb := rfl
@[simp] theorem State.updServo_otp (s : State) (b : Nat) (f : Servo → Servo) : (s.updServo b f).otp = s.otp := rfl
@[simp] theorem State.updServo_forced (s : State) (b : Nat) (f : Servo → Servo) : (s.updServo b f).forced = s.forced := rfl
@[simp] theorem State.updServo_servos (s : State) (b : Nat) (f : Servo → Servo) : (s.updServo b f).servos = SMap.upd Servo.reset s.servos b f := rfl
@[simp] theorem State.updServo_pulses (s : State) (b : Nat) (f : Servo → Servo) : (s.updServo b f).pulses = s.pulses := rfl
@[simp] theorem State.updServo_tins (s : State) (b : Nat) (f : Servo → Servo) : (s.updServo b f).tins = s.tins := rfl
@[simp] theorem State.updServo_lanes (s : State) (b : Nat) (f : Servo → Servo) : (s.updServo b f).lanes = s.lanes := rfl
@[simp] theorem State.updServo_refLost (s : State) (b : Nat) (f : Servo → Servo) : (s.updServo b f).refLost = s.refLost := rfl
@[simp] theorem State.updServo_ports (s : State) (b : Nat) (f : Servo → Servo) : (s.updServo b f).ports = s.ports := rfl
@[simp] theorem State.updServo_stf (s : State) (b : Nat) (f : Servo → Servo) : (s.updServo b f).stf = s.stf := rfl
@[simp] theorem State.updServo_tus (s : State) (b : Nat) (f : Servo → Servo) : (s.updServo b f).tus = s.tus := rfl
@[simp] theorem State.updServo_channels (s : State) (b : Nat) (f : Servo → Servo) : (s.updServo b f).channels = s.channels := rfl
@[simp] theorem State.updServo_leafHeld (s : State) (b : Nat) (f : Servo → Servo) : (s.updServo b f).leafHeld = s.leafHeld := rfl
@[simp] theorem State.updServo_leafPrev (s : State) (b : Nat) (f : Servo → Servo) : (s.updServo b f).leafPrev = s.leafPrev := rfl
@[simp] theorem State.updServo_frames (s : State) (b : Nat) (f : Servo → Servo) : (s.updServo b f).frames = s.frames := rfl
@[simp] theorem State.updServo_cells (s : State) (b : Nat) (f : Servo → Servo) : (s.updServo b f).cells = s.cells := rfl
@[simp] theorem State.updServo_cupboards (s : State) (b : Nat) (f : Servo → Servo) : (s.updServo b f).cupboards = s.cupboards := rfl
@[simp] theorem State.updServo_quarantine (s : State) (b : Nat) (f : Servo → Servo) : (s.updServo b f).quarantine = s.quarantine := rfl
@[simp] theorem State.updServo_cellLow (s : State) (b : Nat) (f : Servo → Servo) : (s.updServo b f).cellLow = s.cellLow := rfl
@[simp] theorem State.updServo_minFree (s : State) (b : Nat) (f : Servo → Servo) : (s.updServo b f).minFree = s.minFree := rfl
@[simp] theorem State.updServo_scrub (s : State) (b : Nat) (f : Servo → Servo) : (s.updServo b f).scrub = s.scrub := rfl
@[simp] theorem State.updServo_ingressCells (s : State) (b : Nat) (f : Servo → Servo) : (s.updServo b f).ingressCells = s.ingressCells := rfl
@[simp] theorem State.updServo_queues (s : State) (b : Nat) (f : Servo → Servo) : (s.updServo b f).queues = s.queues := rfl
@[simp] theorem State.updServo_meters (s : State) (b : Nat) (f : Servo → Servo) : (s.updServo b f).meters = s.meters := rfl
@[simp] theorem State.updServo_flows (s : State) (b : Nat) (f : Servo → Servo) : (s.updServo b f).flows = s.flows := rfl
@[simp] theorem State.updServo_shapers (s : State) (b : Nat) (f : Servo → Servo) : (s.updServo b f).shapers = s.shapers := rfl
@[simp] theorem State.updServo_virtual (s : State) (b : Nat) (f : Servo → Servo) : (s.updServo b f).virtual = s.virtual := rfl
@[simp] theorem State.updServo_mirrorCount (s : State) (b : Nat) (f : Servo → Servo) : (s.updServo b f).mirrorCount = s.mirrorCount := rfl
@[simp] theorem State.updServo_nodes (s : State) (b : Nat) (f : Servo → Servo) : (s.updServo b f).nodes = s.nodes := rfl
@[simp] theorem State.updServo_tcam (s : State) (b : Nat) (f : Servo → Servo) : (s.updServo b f).tcam = s.tcam := rfl
@[simp] theorem State.updServo_patterns (s : State) (b : Nat) (f : Servo → Servo) : (s.updServo b f).patterns = s.patterns := rfl
@[simp] theorem State.updServo_tcamClaims (s : State) (b : Nat) (f : Servo → Servo) : (s.updServo b f).tcamClaims = s.tcamClaims := rfl
@[simp] theorem State.updServo_patClaims (s : State) (b : Nat) (f : Servo → Servo) : (s.updServo b f).patClaims = s.patClaims := rfl
@[simp] theorem State.updServo_bankClaims (s : State) (b : Nat) (f : Servo → Servo) : (s.updServo b f).bankClaims = s.bankClaims := rfl
@[simp] theorem State.updServo_slow (s : State) (b : Nat) (f : Servo → Servo) : (s.updServo b f).slow = s.slow := rfl
@[simp] theorem State.updServo_scans (s : State) (b : Nat) (f : Servo → Servo) : (s.updServo b f).scans = s.scans := rfl
@[simp] theorem State.updServo_table (s : State) (b : Nat) (f : Servo → Servo) : (s.updServo b f).table = s.table := rfl
@[simp] theorem State.updServo_learnQ (s : State) (b : Nat) (f : Servo → Servo) : (s.updServo b f).learnQ = s.learnQ := rfl
@[simp] theorem State.updServo_notices (s : State) (b : Nat) (f : Servo → Servo) : (s.updServo b f).notices = s.notices := rfl
@[simp] theorem State.updServo_accepted (s : State) (b : Nat) (f : Servo → Servo) : (s.updServo b f).accepted = s.accepted := rfl
@[simp] theorem State.updServo_sweep (s : State) (b : Nat) (f : Servo → Servo) : (s.updServo b f).sweep = s.sweep := rfl
@[simp] theorem State.updServo_shadow (s : State) (b : Nat) (f : Servo → Servo) : (s.updServo b f).shadow = s.shadow := rfl
@[simp] theorem State.updServo_hostRx (s : State) (b : Nat) (f : Servo → Servo) : (s.updServo b f).hostRx = s.hostRx := rfl
@[simp] theorem State.updServo_host (s : State) (b : Nat) (f : Servo → Servo) : (s.updServo b f).host = s.host := rfl
@[simp] theorem State.updServo_flash (s : State) (b : Nat) (f : Servo → Servo) : (s.updServo b f).flash = s.flash := rfl
@[simp] theorem State.updServo_auth (s : State) (b : Nat) (f : Servo → Servo) : (s.updServo b f).auth = s.auth := rfl
@[simp] theorem State.updServo_power (s : State) (b : Nat) (f : Servo → Servo) : (s.updServo b f).power = s.power := rfl
@[simp] theorem State.updServo_pair (s : State) (b : Nat) (f : Servo → Servo) : (s.updServo b f).pair = s.pair := rfl

/-! `updPulse` -/
@[simp] theorem State.updPulse_pending (s : State) (n : Nat) (f : Pulse → Pulse) : (s.updPulse n f).pending = s.pending := rfl
@[simp] theorem State.updPulse_regs (s : State) (n : Nat) (f : Pulse → Pulse) : (s.updPulse n f).regs = s.regs := rfl
@[simp] theorem State.updPulse_evq (s : State) (n : Nat) (f : Pulse → Pulse) : (s.updPulse n f).evq = s.evq := rfl
@[simp] theorem State.updPulse_rseq (s : State) (n : Nat) (f : Pulse → Pulse) : (s.updPulse n f).rseq = s.rseq := rfl
@[simp] theorem State.updPulse_out (s : State) (n : Nat) (f : Pulse → Pulse) : (s.updPulse n f).out = s.out := rfl
@[simp] theorem State.updPulse_free (s : State) (n : Nat) (f : Pulse → Pulse) : (s.updPulse n f).free = s.free := rfl
@[simp] theorem State.updPulse_bureau (s : State) (n : Nat) (f : Pulse → Pulse) : (s.updPulse n f).bureau = s.bureau := rfl
@[simp] theorem State.updPulse_epoch (s : State) (n : Nat) (f : Pulse → Pulse) : (s.updPulse n f).epoch = s.epoch := rfl
@[simp] theorem State.updPulse_now (s : State) (n : Nat) (f : Pulse → Pulse) : (s.updPulse n f).now = s.now := rfl
@[simp] theorem State.updPulse_tb (s : State) (n : Nat) (f : Pulse → Pulse) : (s.updPulse n f).tb = s.tb := rfl
@[simp] theorem State.updPulse_otp (s : State) (n : Nat) (f : Pulse → Pulse) : (s.updPulse n f).otp = s.otp := rfl
@[simp] theorem State.updPulse_forced (s : State) (n : Nat) (f : Pulse → Pulse) : (s.updPulse n f).forced = s.forced := rfl
@[simp] theorem State.updPulse_servos (s : State) (n : Nat) (f : Pulse → Pulse) : (s.updPulse n f).servos = s.servos := rfl
@[simp] theorem State.updPulse_pulses (s : State) (n : Nat) (f : Pulse → Pulse) : (s.updPulse n f).pulses = SMap.upd Pulse.reset s.pulses n f := rfl
@[simp] theorem State.updPulse_tins (s : State) (n : Nat) (f : Pulse → Pulse) : (s.updPulse n f).tins = s.tins := rfl
@[simp] theorem State.updPulse_lanes (s : State) (n : Nat) (f : Pulse → Pulse) : (s.updPulse n f).lanes = s.lanes := rfl
@[simp] theorem State.updPulse_refLost (s : State) (n : Nat) (f : Pulse → Pulse) : (s.updPulse n f).refLost = s.refLost := rfl
@[simp] theorem State.updPulse_ports (s : State) (n : Nat) (f : Pulse → Pulse) : (s.updPulse n f).ports = s.ports := rfl
@[simp] theorem State.updPulse_stf (s : State) (n : Nat) (f : Pulse → Pulse) : (s.updPulse n f).stf = s.stf := rfl
@[simp] theorem State.updPulse_tus (s : State) (n : Nat) (f : Pulse → Pulse) : (s.updPulse n f).tus = s.tus := rfl
@[simp] theorem State.updPulse_channels (s : State) (n : Nat) (f : Pulse → Pulse) : (s.updPulse n f).channels = s.channels := rfl
@[simp] theorem State.updPulse_leafHeld (s : State) (n : Nat) (f : Pulse → Pulse) : (s.updPulse n f).leafHeld = s.leafHeld := rfl
@[simp] theorem State.updPulse_leafPrev (s : State) (n : Nat) (f : Pulse → Pulse) : (s.updPulse n f).leafPrev = s.leafPrev := rfl
@[simp] theorem State.updPulse_frames (s : State) (n : Nat) (f : Pulse → Pulse) : (s.updPulse n f).frames = s.frames := rfl
@[simp] theorem State.updPulse_cells (s : State) (n : Nat) (f : Pulse → Pulse) : (s.updPulse n f).cells = s.cells := rfl
@[simp] theorem State.updPulse_cupboards (s : State) (n : Nat) (f : Pulse → Pulse) : (s.updPulse n f).cupboards = s.cupboards := rfl
@[simp] theorem State.updPulse_quarantine (s : State) (n : Nat) (f : Pulse → Pulse) : (s.updPulse n f).quarantine = s.quarantine := rfl
@[simp] theorem State.updPulse_cellLow (s : State) (n : Nat) (f : Pulse → Pulse) : (s.updPulse n f).cellLow = s.cellLow := rfl
@[simp] theorem State.updPulse_minFree (s : State) (n : Nat) (f : Pulse → Pulse) : (s.updPulse n f).minFree = s.minFree := rfl
@[simp] theorem State.updPulse_scrub (s : State) (n : Nat) (f : Pulse → Pulse) : (s.updPulse n f).scrub = s.scrub := rfl
@[simp] theorem State.updPulse_ingressCells (s : State) (n : Nat) (f : Pulse → Pulse) : (s.updPulse n f).ingressCells = s.ingressCells := rfl
@[simp] theorem State.updPulse_queues (s : State) (n : Nat) (f : Pulse → Pulse) : (s.updPulse n f).queues = s.queues := rfl
@[simp] theorem State.updPulse_meters (s : State) (n : Nat) (f : Pulse → Pulse) : (s.updPulse n f).meters = s.meters := rfl
@[simp] theorem State.updPulse_flows (s : State) (n : Nat) (f : Pulse → Pulse) : (s.updPulse n f).flows = s.flows := rfl
@[simp] theorem State.updPulse_shapers (s : State) (n : Nat) (f : Pulse → Pulse) : (s.updPulse n f).shapers = s.shapers := rfl
@[simp] theorem State.updPulse_virtual (s : State) (n : Nat) (f : Pulse → Pulse) : (s.updPulse n f).virtual = s.virtual := rfl
@[simp] theorem State.updPulse_mirrorCount (s : State) (n : Nat) (f : Pulse → Pulse) : (s.updPulse n f).mirrorCount = s.mirrorCount := rfl
@[simp] theorem State.updPulse_nodes (s : State) (n : Nat) (f : Pulse → Pulse) : (s.updPulse n f).nodes = s.nodes := rfl
@[simp] theorem State.updPulse_tcam (s : State) (n : Nat) (f : Pulse → Pulse) : (s.updPulse n f).tcam = s.tcam := rfl
@[simp] theorem State.updPulse_patterns (s : State) (n : Nat) (f : Pulse → Pulse) : (s.updPulse n f).patterns = s.patterns := rfl
@[simp] theorem State.updPulse_tcamClaims (s : State) (n : Nat) (f : Pulse → Pulse) : (s.updPulse n f).tcamClaims = s.tcamClaims := rfl
@[simp] theorem State.updPulse_patClaims (s : State) (n : Nat) (f : Pulse → Pulse) : (s.updPulse n f).patClaims = s.patClaims := rfl
@[simp] theorem State.updPulse_bankClaims (s : State) (n : Nat) (f : Pulse → Pulse) : (s.updPulse n f).bankClaims = s.bankClaims := rfl
@[simp] theorem State.updPulse_slow (s : State) (n : Nat) (f : Pulse → Pulse) : (s.updPulse n f).slow = s.slow := rfl
@[simp] theorem State.updPulse_scans (s : State) (n : Nat) (f : Pulse → Pulse) : (s.updPulse n f).scans = s.scans := rfl
@[simp] theorem State.updPulse_table (s : State) (n : Nat) (f : Pulse → Pulse) : (s.updPulse n f).table = s.table := rfl
@[simp] theorem State.updPulse_learnQ (s : State) (n : Nat) (f : Pulse → Pulse) : (s.updPulse n f).learnQ = s.learnQ := rfl
@[simp] theorem State.updPulse_notices (s : State) (n : Nat) (f : Pulse → Pulse) : (s.updPulse n f).notices = s.notices := rfl
@[simp] theorem State.updPulse_accepted (s : State) (n : Nat) (f : Pulse → Pulse) : (s.updPulse n f).accepted = s.accepted := rfl
@[simp] theorem State.updPulse_sweep (s : State) (n : Nat) (f : Pulse → Pulse) : (s.updPulse n f).sweep = s.sweep := rfl
@[simp] theorem State.updPulse_shadow (s : State) (n : Nat) (f : Pulse → Pulse) : (s.updPulse n f).shadow = s.shadow := rfl
@[simp] theorem State.updPulse_hostRx (s : State) (n : Nat) (f : Pulse → Pulse) : (s.updPulse n f).hostRx = s.hostRx := rfl
@[simp] theorem State.updPulse_host (s : State) (n : Nat) (f : Pulse → Pulse) : (s.updPulse n f).host = s.host := rfl
@[simp] theorem State.updPulse_flash (s : State) (n : Nat) (f : Pulse → Pulse) : (s.updPulse n f).flash = s.flash := rfl
@[simp] theorem State.updPulse_auth (s : State) (n : Nat) (f : Pulse → Pulse) : (s.updPulse n f).auth = s.auth := rfl
@[simp] theorem State.updPulse_power (s : State) (n : Nat) (f : Pulse → Pulse) : (s.updPulse n f).power = s.power := rfl
@[simp] theorem State.updPulse_pair (s : State) (n : Nat) (f : Pulse → Pulse) : (s.updPulse n f).pair = s.pair := rfl

/-! `updTin` -/
@[simp] theorem State.updTin_pending (s : State) (n : Nat) (f : TimeIn → TimeIn) : (s.updTin n f).pending = s.pending := rfl
@[simp] theorem State.updTin_regs (s : State) (n : Nat) (f : TimeIn → TimeIn) : (s.updTin n f).regs = s.regs := rfl
@[simp] theorem State.updTin_evq (s : State) (n : Nat) (f : TimeIn → TimeIn) : (s.updTin n f).evq = s.evq := rfl
@[simp] theorem State.updTin_rseq (s : State) (n : Nat) (f : TimeIn → TimeIn) : (s.updTin n f).rseq = s.rseq := rfl
@[simp] theorem State.updTin_out (s : State) (n : Nat) (f : TimeIn → TimeIn) : (s.updTin n f).out = s.out := rfl
@[simp] theorem State.updTin_free (s : State) (n : Nat) (f : TimeIn → TimeIn) : (s.updTin n f).free = s.free := rfl
@[simp] theorem State.updTin_bureau (s : State) (n : Nat) (f : TimeIn → TimeIn) : (s.updTin n f).bureau = s.bureau := rfl
@[simp] theorem State.updTin_epoch (s : State) (n : Nat) (f : TimeIn → TimeIn) : (s.updTin n f).epoch = s.epoch := rfl
@[simp] theorem State.updTin_now (s : State) (n : Nat) (f : TimeIn → TimeIn) : (s.updTin n f).now = s.now := rfl
@[simp] theorem State.updTin_tb (s : State) (n : Nat) (f : TimeIn → TimeIn) : (s.updTin n f).tb = s.tb := rfl
@[simp] theorem State.updTin_otp (s : State) (n : Nat) (f : TimeIn → TimeIn) : (s.updTin n f).otp = s.otp := rfl
@[simp] theorem State.updTin_forced (s : State) (n : Nat) (f : TimeIn → TimeIn) : (s.updTin n f).forced = s.forced := rfl
@[simp] theorem State.updTin_servos (s : State) (n : Nat) (f : TimeIn → TimeIn) : (s.updTin n f).servos = s.servos := rfl
@[simp] theorem State.updTin_pulses (s : State) (n : Nat) (f : TimeIn → TimeIn) : (s.updTin n f).pulses = s.pulses := rfl
@[simp] theorem State.updTin_tins (s : State) (n : Nat) (f : TimeIn → TimeIn) : (s.updTin n f).tins = SMap.upd TimeIn.reset s.tins n f := rfl
@[simp] theorem State.updTin_lanes (s : State) (n : Nat) (f : TimeIn → TimeIn) : (s.updTin n f).lanes = s.lanes := rfl
@[simp] theorem State.updTin_refLost (s : State) (n : Nat) (f : TimeIn → TimeIn) : (s.updTin n f).refLost = s.refLost := rfl
@[simp] theorem State.updTin_ports (s : State) (n : Nat) (f : TimeIn → TimeIn) : (s.updTin n f).ports = s.ports := rfl
@[simp] theorem State.updTin_stf (s : State) (n : Nat) (f : TimeIn → TimeIn) : (s.updTin n f).stf = s.stf := rfl
@[simp] theorem State.updTin_tus (s : State) (n : Nat) (f : TimeIn → TimeIn) : (s.updTin n f).tus = s.tus := rfl
@[simp] theorem State.updTin_channels (s : State) (n : Nat) (f : TimeIn → TimeIn) : (s.updTin n f).channels = s.channels := rfl
@[simp] theorem State.updTin_leafHeld (s : State) (n : Nat) (f : TimeIn → TimeIn) : (s.updTin n f).leafHeld = s.leafHeld := rfl
@[simp] theorem State.updTin_leafPrev (s : State) (n : Nat) (f : TimeIn → TimeIn) : (s.updTin n f).leafPrev = s.leafPrev := rfl
@[simp] theorem State.updTin_frames (s : State) (n : Nat) (f : TimeIn → TimeIn) : (s.updTin n f).frames = s.frames := rfl
@[simp] theorem State.updTin_cells (s : State) (n : Nat) (f : TimeIn → TimeIn) : (s.updTin n f).cells = s.cells := rfl
@[simp] theorem State.updTin_cupboards (s : State) (n : Nat) (f : TimeIn → TimeIn) : (s.updTin n f).cupboards = s.cupboards := rfl
@[simp] theorem State.updTin_quarantine (s : State) (n : Nat) (f : TimeIn → TimeIn) : (s.updTin n f).quarantine = s.quarantine := rfl
@[simp] theorem State.updTin_cellLow (s : State) (n : Nat) (f : TimeIn → TimeIn) : (s.updTin n f).cellLow = s.cellLow := rfl
@[simp] theorem State.updTin_minFree (s : State) (n : Nat) (f : TimeIn → TimeIn) : (s.updTin n f).minFree = s.minFree := rfl
@[simp] theorem State.updTin_scrub (s : State) (n : Nat) (f : TimeIn → TimeIn) : (s.updTin n f).scrub = s.scrub := rfl
@[simp] theorem State.updTin_ingressCells (s : State) (n : Nat) (f : TimeIn → TimeIn) : (s.updTin n f).ingressCells = s.ingressCells := rfl
@[simp] theorem State.updTin_queues (s : State) (n : Nat) (f : TimeIn → TimeIn) : (s.updTin n f).queues = s.queues := rfl
@[simp] theorem State.updTin_meters (s : State) (n : Nat) (f : TimeIn → TimeIn) : (s.updTin n f).meters = s.meters := rfl
@[simp] theorem State.updTin_flows (s : State) (n : Nat) (f : TimeIn → TimeIn) : (s.updTin n f).flows = s.flows := rfl
@[simp] theorem State.updTin_shapers (s : State) (n : Nat) (f : TimeIn → TimeIn) : (s.updTin n f).shapers = s.shapers := rfl
@[simp] theorem State.updTin_virtual (s : State) (n : Nat) (f : TimeIn → TimeIn) : (s.updTin n f).virtual = s.virtual := rfl
@[simp] theorem State.updTin_mirrorCount (s : State) (n : Nat) (f : TimeIn → TimeIn) : (s.updTin n f).mirrorCount = s.mirrorCount := rfl
@[simp] theorem State.updTin_nodes (s : State) (n : Nat) (f : TimeIn → TimeIn) : (s.updTin n f).nodes = s.nodes := rfl
@[simp] theorem State.updTin_tcam (s : State) (n : Nat) (f : TimeIn → TimeIn) : (s.updTin n f).tcam = s.tcam := rfl
@[simp] theorem State.updTin_patterns (s : State) (n : Nat) (f : TimeIn → TimeIn) : (s.updTin n f).patterns = s.patterns := rfl
@[simp] theorem State.updTin_tcamClaims (s : State) (n : Nat) (f : TimeIn → TimeIn) : (s.updTin n f).tcamClaims = s.tcamClaims := rfl
@[simp] theorem State.updTin_patClaims (s : State) (n : Nat) (f : TimeIn → TimeIn) : (s.updTin n f).patClaims = s.patClaims := rfl
@[simp] theorem State.updTin_bankClaims (s : State) (n : Nat) (f : TimeIn → TimeIn) : (s.updTin n f).bankClaims = s.bankClaims := rfl
@[simp] theorem State.updTin_slow (s : State) (n : Nat) (f : TimeIn → TimeIn) : (s.updTin n f).slow = s.slow := rfl
@[simp] theorem State.updTin_scans (s : State) (n : Nat) (f : TimeIn → TimeIn) : (s.updTin n f).scans = s.scans := rfl
@[simp] theorem State.updTin_table (s : State) (n : Nat) (f : TimeIn → TimeIn) : (s.updTin n f).table = s.table := rfl
@[simp] theorem State.updTin_learnQ (s : State) (n : Nat) (f : TimeIn → TimeIn) : (s.updTin n f).learnQ = s.learnQ := rfl
@[simp] theorem State.updTin_notices (s : State) (n : Nat) (f : TimeIn → TimeIn) : (s.updTin n f).notices = s.notices := rfl
@[simp] theorem State.updTin_accepted (s : State) (n : Nat) (f : TimeIn → TimeIn) : (s.updTin n f).accepted = s.accepted := rfl
@[simp] theorem State.updTin_sweep (s : State) (n : Nat) (f : TimeIn → TimeIn) : (s.updTin n f).sweep = s.sweep := rfl
@[simp] theorem State.updTin_shadow (s : State) (n : Nat) (f : TimeIn → TimeIn) : (s.updTin n f).shadow = s.shadow := rfl
@[simp] theorem State.updTin_hostRx (s : State) (n : Nat) (f : TimeIn → TimeIn) : (s.updTin n f).hostRx = s.hostRx := rfl
@[simp] theorem State.updTin_host (s : State) (n : Nat) (f : TimeIn → TimeIn) : (s.updTin n f).host = s.host := rfl
@[simp] theorem State.updTin_flash (s : State) (n : Nat) (f : TimeIn → TimeIn) : (s.updTin n f).flash = s.flash := rfl
@[simp] theorem State.updTin_auth (s : State) (n : Nat) (f : TimeIn → TimeIn) : (s.updTin n f).auth = s.auth := rfl
@[simp] theorem State.updTin_power (s : State) (n : Nat) (f : TimeIn → TimeIn) : (s.updTin n f).power = s.power := rfl
@[simp] theorem State.updTin_pair (s : State) (n : Nat) (f : TimeIn → TimeIn) : (s.updTin n f).pair = s.pair := rfl

/-! `setMeter` -/
@[simp] theorem State.setMeter_pending (s : State) (m : Nat) (v : Meter) : (s.setMeter m v).pending = s.pending := rfl
@[simp] theorem State.setMeter_regs (s : State) (m : Nat) (v : Meter) : (s.setMeter m v).regs = s.regs := rfl
@[simp] theorem State.setMeter_evq (s : State) (m : Nat) (v : Meter) : (s.setMeter m v).evq = s.evq := rfl
@[simp] theorem State.setMeter_rseq (s : State) (m : Nat) (v : Meter) : (s.setMeter m v).rseq = s.rseq := rfl
@[simp] theorem State.setMeter_out (s : State) (m : Nat) (v : Meter) : (s.setMeter m v).out = s.out := rfl
@[simp] theorem State.setMeter_free (s : State) (m : Nat) (v : Meter) : (s.setMeter m v).free = s.free := rfl
@[simp] theorem State.setMeter_bureau (s : State) (m : Nat) (v : Meter) : (s.setMeter m v).bureau = s.bureau := rfl
@[simp] theorem State.setMeter_epoch (s : State) (m : Nat) (v : Meter) : (s.setMeter m v).epoch = s.epoch := rfl
@[simp] theorem State.setMeter_now (s : State) (m : Nat) (v : Meter) : (s.setMeter m v).now = s.now := rfl
@[simp] theorem State.setMeter_tb (s : State) (m : Nat) (v : Meter) : (s.setMeter m v).tb = s.tb := rfl
@[simp] theorem State.setMeter_otp (s : State) (m : Nat) (v : Meter) : (s.setMeter m v).otp = s.otp := rfl
@[simp] theorem State.setMeter_forced (s : State) (m : Nat) (v : Meter) : (s.setMeter m v).forced = s.forced := rfl
@[simp] theorem State.setMeter_servos (s : State) (m : Nat) (v : Meter) : (s.setMeter m v).servos = s.servos := rfl
@[simp] theorem State.setMeter_pulses (s : State) (m : Nat) (v : Meter) : (s.setMeter m v).pulses = s.pulses := rfl
@[simp] theorem State.setMeter_tins (s : State) (m : Nat) (v : Meter) : (s.setMeter m v).tins = s.tins := rfl
@[simp] theorem State.setMeter_lanes (s : State) (m : Nat) (v : Meter) : (s.setMeter m v).lanes = s.lanes := rfl
@[simp] theorem State.setMeter_refLost (s : State) (m : Nat) (v : Meter) : (s.setMeter m v).refLost = s.refLost := rfl
@[simp] theorem State.setMeter_ports (s : State) (m : Nat) (v : Meter) : (s.setMeter m v).ports = s.ports := rfl
@[simp] theorem State.setMeter_stf (s : State) (m : Nat) (v : Meter) : (s.setMeter m v).stf = s.stf := rfl
@[simp] theorem State.setMeter_tus (s : State) (m : Nat) (v : Meter) : (s.setMeter m v).tus = s.tus := rfl
@[simp] theorem State.setMeter_channels (s : State) (m : Nat) (v : Meter) : (s.setMeter m v).channels = s.channels := rfl
@[simp] theorem State.setMeter_leafHeld (s : State) (m : Nat) (v : Meter) : (s.setMeter m v).leafHeld = s.leafHeld := rfl
@[simp] theorem State.setMeter_leafPrev (s : State) (m : Nat) (v : Meter) : (s.setMeter m v).leafPrev = s.leafPrev := rfl
@[simp] theorem State.setMeter_frames (s : State) (m : Nat) (v : Meter) : (s.setMeter m v).frames = s.frames := rfl
@[simp] theorem State.setMeter_cells (s : State) (m : Nat) (v : Meter) : (s.setMeter m v).cells = s.cells := rfl
@[simp] theorem State.setMeter_cupboards (s : State) (m : Nat) (v : Meter) : (s.setMeter m v).cupboards = s.cupboards := rfl
@[simp] theorem State.setMeter_quarantine (s : State) (m : Nat) (v : Meter) : (s.setMeter m v).quarantine = s.quarantine := rfl
@[simp] theorem State.setMeter_cellLow (s : State) (m : Nat) (v : Meter) : (s.setMeter m v).cellLow = s.cellLow := rfl
@[simp] theorem State.setMeter_minFree (s : State) (m : Nat) (v : Meter) : (s.setMeter m v).minFree = s.minFree := rfl
@[simp] theorem State.setMeter_scrub (s : State) (m : Nat) (v : Meter) : (s.setMeter m v).scrub = s.scrub := rfl
@[simp] theorem State.setMeter_ingressCells (s : State) (m : Nat) (v : Meter) : (s.setMeter m v).ingressCells = s.ingressCells := rfl
@[simp] theorem State.setMeter_queues (s : State) (m : Nat) (v : Meter) : (s.setMeter m v).queues = s.queues := rfl
@[simp] theorem State.setMeter_meters (s : State) (m : Nat) (v : Meter) : (s.setMeter m v).meters = SMap.set Meter.reset s.meters m v := rfl
@[simp] theorem State.setMeter_flows (s : State) (m : Nat) (v : Meter) : (s.setMeter m v).flows = s.flows := rfl
@[simp] theorem State.setMeter_shapers (s : State) (m : Nat) (v : Meter) : (s.setMeter m v).shapers = s.shapers := rfl
@[simp] theorem State.setMeter_virtual (s : State) (m : Nat) (v : Meter) : (s.setMeter m v).virtual = s.virtual := rfl
@[simp] theorem State.setMeter_mirrorCount (s : State) (m : Nat) (v : Meter) : (s.setMeter m v).mirrorCount = s.mirrorCount := rfl
@[simp] theorem State.setMeter_nodes (s : State) (m : Nat) (v : Meter) : (s.setMeter m v).nodes = s.nodes := rfl
@[simp] theorem State.setMeter_tcam (s : State) (m : Nat) (v : Meter) : (s.setMeter m v).tcam = s.tcam := rfl
@[simp] theorem State.setMeter_patterns (s : State) (m : Nat) (v : Meter) : (s.setMeter m v).patterns = s.patterns := rfl
@[simp] theorem State.setMeter_tcamClaims (s : State) (m : Nat) (v : Meter) : (s.setMeter m v).tcamClaims = s.tcamClaims := rfl
@[simp] theorem State.setMeter_patClaims (s : State) (m : Nat) (v : Meter) : (s.setMeter m v).patClaims = s.patClaims := rfl
@[simp] theorem State.setMeter_bankClaims (s : State) (m : Nat) (v : Meter) : (s.setMeter m v).bankClaims = s.bankClaims := rfl
@[simp] theorem State.setMeter_slow (s : State) (m : Nat) (v : Meter) : (s.setMeter m v).slow = s.slow := rfl
@[simp] theorem State.setMeter_scans (s : State) (m : Nat) (v : Meter) : (s.setMeter m v).scans = s.scans := rfl
@[simp] theorem State.setMeter_table (s : State) (m : Nat) (v : Meter) : (s.setMeter m v).table = s.table := rfl
@[simp] theorem State.setMeter_learnQ (s : State) (m : Nat) (v : Meter) : (s.setMeter m v).learnQ = s.learnQ := rfl
@[simp] theorem State.setMeter_notices (s : State) (m : Nat) (v : Meter) : (s.setMeter m v).notices = s.notices := rfl
@[simp] theorem State.setMeter_accepted (s : State) (m : Nat) (v : Meter) : (s.setMeter m v).accepted = s.accepted := rfl
@[simp] theorem State.setMeter_sweep (s : State) (m : Nat) (v : Meter) : (s.setMeter m v).sweep = s.sweep := rfl
@[simp] theorem State.setMeter_shadow (s : State) (m : Nat) (v : Meter) : (s.setMeter m v).shadow = s.shadow := rfl
@[simp] theorem State.setMeter_hostRx (s : State) (m : Nat) (v : Meter) : (s.setMeter m v).hostRx = s.hostRx := rfl
@[simp] theorem State.setMeter_host (s : State) (m : Nat) (v : Meter) : (s.setMeter m v).host = s.host := rfl
@[simp] theorem State.setMeter_flash (s : State) (m : Nat) (v : Meter) : (s.setMeter m v).flash = s.flash := rfl
@[simp] theorem State.setMeter_auth (s : State) (m : Nat) (v : Meter) : (s.setMeter m v).auth = s.auth := rfl
@[simp] theorem State.setMeter_power (s : State) (m : Nat) (v : Meter) : (s.setMeter m v).power = s.power := rfl
@[simp] theorem State.setMeter_pair (s : State) (m : Nat) (v : Meter) : (s.setMeter m v).pair = s.pair := rfl

/-! `setShaper` -/
@[simp] theorem State.setShaper_pending (s : State) (p g : Nat) (b : Bucket) : (s.setShaper p g b).pending = s.pending := rfl
@[simp] theorem State.setShaper_regs (s : State) (p g : Nat) (b : Bucket) : (s.setShaper p g b).regs = s.regs := rfl
@[simp] theorem State.setShaper_evq (s : State) (p g : Nat) (b : Bucket) : (s.setShaper p g b).evq = s.evq := rfl
@[simp] theorem State.setShaper_rseq (s : State) (p g : Nat) (b : Bucket) : (s.setShaper p g b).rseq = s.rseq := rfl
@[simp] theorem State.setShaper_out (s : State) (p g : Nat) (b : Bucket) : (s.setShaper p g b).out = s.out := rfl
@[simp] theorem State.setShaper_free (s : State) (p g : Nat) (b : Bucket) : (s.setShaper p g b).free = s.free := rfl
@[simp] theorem State.setShaper_bureau (s : State) (p g : Nat) (b : Bucket) : (s.setShaper p g b).bureau = s.bureau := rfl
@[simp] theorem State.setShaper_epoch (s : State) (p g : Nat) (b : Bucket) : (s.setShaper p g b).epoch = s.epoch := rfl
@[simp] theorem State.setShaper_now (s : State) (p g : Nat) (b : Bucket) : (s.setShaper p g b).now = s.now := rfl
@[simp] theorem State.setShaper_tb (s : State) (p g : Nat) (b : Bucket) : (s.setShaper p g b).tb = s.tb := rfl
@[simp] theorem State.setShaper_otp (s : State) (p g : Nat) (b : Bucket) : (s.setShaper p g b).otp = s.otp := rfl
@[simp] theorem State.setShaper_forced (s : State) (p g : Nat) (b : Bucket) : (s.setShaper p g b).forced = s.forced := rfl
@[simp] theorem State.setShaper_servos (s : State) (p g : Nat) (b : Bucket) : (s.setShaper p g b).servos = s.servos := rfl
@[simp] theorem State.setShaper_pulses (s : State) (p g : Nat) (b : Bucket) : (s.setShaper p g b).pulses = s.pulses := rfl
@[simp] theorem State.setShaper_tins (s : State) (p g : Nat) (b : Bucket) : (s.setShaper p g b).tins = s.tins := rfl
@[simp] theorem State.setShaper_lanes (s : State) (p g : Nat) (b : Bucket) : (s.setShaper p g b).lanes = s.lanes := rfl
@[simp] theorem State.setShaper_refLost (s : State) (p g : Nat) (b : Bucket) : (s.setShaper p g b).refLost = s.refLost := rfl
@[simp] theorem State.setShaper_ports (s : State) (p g : Nat) (b : Bucket) : (s.setShaper p g b).ports = s.ports := rfl
@[simp] theorem State.setShaper_stf (s : State) (p g : Nat) (b : Bucket) : (s.setShaper p g b).stf = s.stf := rfl
@[simp] theorem State.setShaper_tus (s : State) (p g : Nat) (b : Bucket) : (s.setShaper p g b).tus = s.tus := rfl
@[simp] theorem State.setShaper_channels (s : State) (p g : Nat) (b : Bucket) : (s.setShaper p g b).channels = s.channels := rfl
@[simp] theorem State.setShaper_leafHeld (s : State) (p g : Nat) (b : Bucket) : (s.setShaper p g b).leafHeld = s.leafHeld := rfl
@[simp] theorem State.setShaper_leafPrev (s : State) (p g : Nat) (b : Bucket) : (s.setShaper p g b).leafPrev = s.leafPrev := rfl
@[simp] theorem State.setShaper_frames (s : State) (p g : Nat) (b : Bucket) : (s.setShaper p g b).frames = s.frames := rfl
@[simp] theorem State.setShaper_cells (s : State) (p g : Nat) (b : Bucket) : (s.setShaper p g b).cells = s.cells := rfl
@[simp] theorem State.setShaper_cupboards (s : State) (p g : Nat) (b : Bucket) : (s.setShaper p g b).cupboards = s.cupboards := rfl
@[simp] theorem State.setShaper_quarantine (s : State) (p g : Nat) (b : Bucket) : (s.setShaper p g b).quarantine = s.quarantine := rfl
@[simp] theorem State.setShaper_cellLow (s : State) (p g : Nat) (b : Bucket) : (s.setShaper p g b).cellLow = s.cellLow := rfl
@[simp] theorem State.setShaper_minFree (s : State) (p g : Nat) (b : Bucket) : (s.setShaper p g b).minFree = s.minFree := rfl
@[simp] theorem State.setShaper_scrub (s : State) (p g : Nat) (b : Bucket) : (s.setShaper p g b).scrub = s.scrub := rfl
@[simp] theorem State.setShaper_ingressCells (s : State) (p g : Nat) (b : Bucket) : (s.setShaper p g b).ingressCells = s.ingressCells := rfl
@[simp] theorem State.setShaper_queues (s : State) (p g : Nat) (b : Bucket) : (s.setShaper p g b).queues = s.queues := rfl
@[simp] theorem State.setShaper_meters (s : State) (p g : Nat) (b : Bucket) : (s.setShaper p g b).meters = s.meters := rfl
@[simp] theorem State.setShaper_flows (s : State) (p g : Nat) (b : Bucket) : (s.setShaper p g b).flows = s.flows := rfl
@[simp] theorem State.setShaper_shapers (s : State) (p g : Nat) (b : Bucket) : (s.setShaper p g b).shapers = SMap.set Bucket.empty s.shapers (9 * p + g) b := rfl
@[simp] theorem State.setShaper_virtual (s : State) (p g : Nat) (b : Bucket) : (s.setShaper p g b).virtual = s.virtual := rfl
@[simp] theorem State.setShaper_mirrorCount (s : State) (p g : Nat) (b : Bucket) : (s.setShaper p g b).mirrorCount = s.mirrorCount := rfl
@[simp] theorem State.setShaper_nodes (s : State) (p g : Nat) (b : Bucket) : (s.setShaper p g b).nodes = s.nodes := rfl
@[simp] theorem State.setShaper_tcam (s : State) (p g : Nat) (b : Bucket) : (s.setShaper p g b).tcam = s.tcam := rfl
@[simp] theorem State.setShaper_patterns (s : State) (p g : Nat) (b : Bucket) : (s.setShaper p g b).patterns = s.patterns := rfl
@[simp] theorem State.setShaper_tcamClaims (s : State) (p g : Nat) (b : Bucket) : (s.setShaper p g b).tcamClaims = s.tcamClaims := rfl
@[simp] theorem State.setShaper_patClaims (s : State) (p g : Nat) (b : Bucket) : (s.setShaper p g b).patClaims = s.patClaims := rfl
@[simp] theorem State.setShaper_bankClaims (s : State) (p g : Nat) (b : Bucket) : (s.setShaper p g b).bankClaims = s.bankClaims := rfl
@[simp] theorem State.setShaper_slow (s : State) (p g : Nat) (b : Bucket) : (s.setShaper p g b).slow = s.slow := rfl
@[simp] theorem State.setShaper_scans (s : State) (p g : Nat) (b : Bucket) : (s.setShaper p g b).scans = s.scans := rfl
@[simp] theorem State.setShaper_table (s : State) (p g : Nat) (b : Bucket) : (s.setShaper p g b).table = s.table := rfl
@[simp] theorem State.setShaper_learnQ (s : State) (p g : Nat) (b : Bucket) : (s.setShaper p g b).learnQ = s.learnQ := rfl
@[simp] theorem State.setShaper_notices (s : State) (p g : Nat) (b : Bucket) : (s.setShaper p g b).notices = s.notices := rfl
@[simp] theorem State.setShaper_accepted (s : State) (p g : Nat) (b : Bucket) : (s.setShaper p g b).accepted = s.accepted := rfl
@[simp] theorem State.setShaper_sweep (s : State) (p g : Nat) (b : Bucket) : (s.setShaper p g b).sweep = s.sweep := rfl
@[simp] theorem State.setShaper_shadow (s : State) (p g : Nat) (b : Bucket) : (s.setShaper p g b).shadow = s.shadow := rfl
@[simp] theorem State.setShaper_hostRx (s : State) (p g : Nat) (b : Bucket) : (s.setShaper p g b).hostRx = s.hostRx := rfl
@[simp] theorem State.setShaper_host (s : State) (p g : Nat) (b : Bucket) : (s.setShaper p g b).host = s.host := rfl
@[simp] theorem State.setShaper_flash (s : State) (p g : Nat) (b : Bucket) : (s.setShaper p g b).flash = s.flash := rfl
@[simp] theorem State.setShaper_auth (s : State) (p g : Nat) (b : Bucket) : (s.setShaper p g b).auth = s.auth := rfl
@[simp] theorem State.setShaper_power (s : State) (p g : Nat) (b : Bucket) : (s.setShaper p g b).power = s.power := rfl
@[simp] theorem State.setShaper_pair (s : State) (p g : Nat) (b : Bucket) : (s.setShaper p g b).pair = s.pair := rfl

/-! `setVirtual` -/
@[simp] theorem State.setVirtual_pending (s : State) (p k v : Nat) : (s.setVirtual p k v).pending = s.pending := rfl
@[simp] theorem State.setVirtual_regs (s : State) (p k v : Nat) : (s.setVirtual p k v).regs = s.regs := rfl
@[simp] theorem State.setVirtual_evq (s : State) (p k v : Nat) : (s.setVirtual p k v).evq = s.evq := rfl
@[simp] theorem State.setVirtual_rseq (s : State) (p k v : Nat) : (s.setVirtual p k v).rseq = s.rseq := rfl
@[simp] theorem State.setVirtual_out (s : State) (p k v : Nat) : (s.setVirtual p k v).out = s.out := rfl
@[simp] theorem State.setVirtual_free (s : State) (p k v : Nat) : (s.setVirtual p k v).free = s.free := rfl
@[simp] theorem State.setVirtual_bureau (s : State) (p k v : Nat) : (s.setVirtual p k v).bureau = s.bureau := rfl
@[simp] theorem State.setVirtual_epoch (s : State) (p k v : Nat) : (s.setVirtual p k v).epoch = s.epoch := rfl
@[simp] theorem State.setVirtual_now (s : State) (p k v : Nat) : (s.setVirtual p k v).now = s.now := rfl
@[simp] theorem State.setVirtual_tb (s : State) (p k v : Nat) : (s.setVirtual p k v).tb = s.tb := rfl
@[simp] theorem State.setVirtual_otp (s : State) (p k v : Nat) : (s.setVirtual p k v).otp = s.otp := rfl
@[simp] theorem State.setVirtual_forced (s : State) (p k v : Nat) : (s.setVirtual p k v).forced = s.forced := rfl
@[simp] theorem State.setVirtual_servos (s : State) (p k v : Nat) : (s.setVirtual p k v).servos = s.servos := rfl
@[simp] theorem State.setVirtual_pulses (s : State) (p k v : Nat) : (s.setVirtual p k v).pulses = s.pulses := rfl
@[simp] theorem State.setVirtual_tins (s : State) (p k v : Nat) : (s.setVirtual p k v).tins = s.tins := rfl
@[simp] theorem State.setVirtual_lanes (s : State) (p k v : Nat) : (s.setVirtual p k v).lanes = s.lanes := rfl
@[simp] theorem State.setVirtual_refLost (s : State) (p k v : Nat) : (s.setVirtual p k v).refLost = s.refLost := rfl
@[simp] theorem State.setVirtual_ports (s : State) (p k v : Nat) : (s.setVirtual p k v).ports = s.ports := rfl
@[simp] theorem State.setVirtual_stf (s : State) (p k v : Nat) : (s.setVirtual p k v).stf = s.stf := rfl
@[simp] theorem State.setVirtual_tus (s : State) (p k v : Nat) : (s.setVirtual p k v).tus = s.tus := rfl
@[simp] theorem State.setVirtual_channels (s : State) (p k v : Nat) : (s.setVirtual p k v).channels = s.channels := rfl
@[simp] theorem State.setVirtual_leafHeld (s : State) (p k v : Nat) : (s.setVirtual p k v).leafHeld = s.leafHeld := rfl
@[simp] theorem State.setVirtual_leafPrev (s : State) (p k v : Nat) : (s.setVirtual p k v).leafPrev = s.leafPrev := rfl
@[simp] theorem State.setVirtual_frames (s : State) (p k v : Nat) : (s.setVirtual p k v).frames = s.frames := rfl
@[simp] theorem State.setVirtual_cells (s : State) (p k v : Nat) : (s.setVirtual p k v).cells = s.cells := rfl
@[simp] theorem State.setVirtual_cupboards (s : State) (p k v : Nat) : (s.setVirtual p k v).cupboards = s.cupboards := rfl
@[simp] theorem State.setVirtual_quarantine (s : State) (p k v : Nat) : (s.setVirtual p k v).quarantine = s.quarantine := rfl
@[simp] theorem State.setVirtual_cellLow (s : State) (p k v : Nat) : (s.setVirtual p k v).cellLow = s.cellLow := rfl
@[simp] theorem State.setVirtual_minFree (s : State) (p k v : Nat) : (s.setVirtual p k v).minFree = s.minFree := rfl
@[simp] theorem State.setVirtual_scrub (s : State) (p k v : Nat) : (s.setVirtual p k v).scrub = s.scrub := rfl
@[simp] theorem State.setVirtual_ingressCells (s : State) (p k v : Nat) : (s.setVirtual p k v).ingressCells = s.ingressCells := rfl
@[simp] theorem State.setVirtual_queues (s : State) (p k v : Nat) : (s.setVirtual p k v).queues = s.queues := rfl
@[simp] theorem State.setVirtual_meters (s : State) (p k v : Nat) : (s.setVirtual p k v).meters = s.meters := rfl
@[simp] theorem State.setVirtual_flows (s : State) (p k v : Nat) : (s.setVirtual p k v).flows = s.flows := rfl
@[simp] theorem State.setVirtual_shapers (s : State) (p k v : Nat) : (s.setVirtual p k v).shapers = s.shapers := rfl
@[simp] theorem State.setVirtual_virtual (s : State) (p k v : Nat) : (s.setVirtual p k v).virtual = SMap.set 0 s.virtual (4 * p + k) (v % 2 ^ 48) := rfl
@[simp] theorem State.setVirtual_mirrorCount (s : State) (p k v : Nat) : (s.setVirtual p k v).mirrorCount = s.mirrorCount := rfl
@[simp] theorem State.setVirtual_nodes (s : State) (p k v : Nat) : (s.setVirtual p k v).nodes = s.nodes := rfl
@[simp] theorem State.setVirtual_tcam (s : State) (p k v : Nat) : (s.setVirtual p k v).tcam = s.tcam := rfl
@[simp] theorem State.setVirtual_patterns (s : State) (p k v : Nat) : (s.setVirtual p k v).patterns = s.patterns := rfl
@[simp] theorem State.setVirtual_tcamClaims (s : State) (p k v : Nat) : (s.setVirtual p k v).tcamClaims = s.tcamClaims := rfl
@[simp] theorem State.setVirtual_patClaims (s : State) (p k v : Nat) : (s.setVirtual p k v).patClaims = s.patClaims := rfl
@[simp] theorem State.setVirtual_bankClaims (s : State) (p k v : Nat) : (s.setVirtual p k v).bankClaims = s.bankClaims := rfl
@[simp] theorem State.setVirtual_slow (s : State) (p k v : Nat) : (s.setVirtual p k v).slow = s.slow := rfl
@[simp] theorem State.setVirtual_scans (s : State) (p k v : Nat) : (s.setVirtual p k v).scans = s.scans := rfl
@[simp] theorem State.setVirtual_table (s : State) (p k v : Nat) : (s.setVirtual p k v).table = s.table := rfl
@[simp] theorem State.setVirtual_learnQ (s : State) (p k v : Nat) : (s.setVirtual p k v).learnQ = s.learnQ := rfl
@[simp] theorem State.setVirtual_notices (s : State) (p k v : Nat) : (s.setVirtual p k v).notices = s.notices := rfl
@[simp] theorem State.setVirtual_accepted (s : State) (p k v : Nat) : (s.setVirtual p k v).accepted = s.accepted := rfl
@[simp] theorem State.setVirtual_sweep (s : State) (p k v : Nat) : (s.setVirtual p k v).sweep = s.sweep := rfl
@[simp] theorem State.setVirtual_shadow (s : State) (p k v : Nat) : (s.setVirtual p k v).shadow = s.shadow := rfl
@[simp] theorem State.setVirtual_hostRx (s : State) (p k v : Nat) : (s.setVirtual p k v).hostRx = s.hostRx := rfl
@[simp] theorem State.setVirtual_host (s : State) (p k v : Nat) : (s.setVirtual p k v).host = s.host := rfl
@[simp] theorem State.setVirtual_flash (s : State) (p k v : Nat) : (s.setVirtual p k v).flash = s.flash := rfl
@[simp] theorem State.setVirtual_auth (s : State) (p k v : Nat) : (s.setVirtual p k v).auth = s.auth := rfl
@[simp] theorem State.setVirtual_power (s : State) (p k v : Nat) : (s.setVirtual p k v).power = s.power := rfl
@[simp] theorem State.setVirtual_pair (s : State) (p k v : Nat) : (s.setVirtual p k v).pair = s.pair := rfl

end Sys2Proof.Machine
end

