-- ==== Sys2Proof/Laws/Store.lean ====
section
/-! SUPPORT. The laws of sparse maps, of bit fields and of the register file: what a read gives after a write, that a write
leaves every other place alone, and that every write keeps the canonical form. -/

namespace Sys2Proof

variable {α : Type}

/-! ### Sparse maps -/

@[simp] theorem SMap.find_nil (k : Nat) : SMap.find ([] : SMap α) k = none := rfl

theorem SMap.find_put_same (m : SMap α) (k : Nat) (v : α) : SMap.find (SMap.put m k v) k = some v := by
  induction m with
  | nil => simp [SMap.put, SMap.find]
  | cons e m ih =>
    obtain ⟨i, w⟩ := e
    simp only [SMap.put]
    split_ifs with h1 h2 <;> simp_all [SMap.find]

theorem SMap.find_put_other (m : SMap α) {k j : Nat} (v : α) (h : j ≠ k) : SMap.find (SMap.put m k v) j = SMap.find m j := by
  induction m with
  | nil => simp [SMap.put, SMap.find, h]
  | cons e m ih =>
    obtain ⟨i, w⟩ := e
    simp only [SMap.put]
    split_ifs with h1 h2
    · subst h1; simp [SMap.find, h]
    · simp [SMap.find, h]
    · simp [SMap.find, ih]

theorem SMap.find_del_same (m : SMap α) (k : Nat) : SMap.find (SMap.del m k) k = none := by
  induction m with
  | nil => rfl
  | cons e m ih =>
    obtain ⟨i, w⟩ := e
    simp only [SMap.del]
    split_ifs with h <;> simp_all [SMap.find]

theorem SMap.find_del_other (m : SMap α) {k j : Nat} (h : j ≠ k) : SMap.find (SMap.del m k) j = SMap.find m j := by
  induction m with
  | nil => rfl
  | cons e m ih =>
    obtain ⟨i, w⟩ := e
    simp only [SMap.del]
    split_ifs with h1
    · subst h1; simp [SMap.find, h, ih]
    · simp [SMap.find, ih]

theorem SMap.get_put_same (d : α) (m : SMap α) (k : Nat) (v : α) : SMap.get d (SMap.put m k v) k = v := by
  simp [SMap.get, SMap.find_put_same]

theorem SMap.get_put_other (d : α) (m : SMap α) {k j : Nat} (v : α) (h : j ≠ k) :
    SMap.get d (SMap.put m k v) j = SMap.get d m j := by
  simp [SMap.get, SMap.find_put_other m v h]

/-- A read of the place written gives the value written. -/
theorem SMap.get_set_same [DecidableEq α] (d : α) (m : SMap α) (k : Nat) (v : α) : SMap.get d (SMap.set d m k v) k = v := by
  unfold SMap.set
  split_ifs with h
  · simp [SMap.get, SMap.find_del_same, h]
  · exact SMap.get_put_same d m k v

/-- A write leaves every other place alone. -/
theorem SMap.get_set_other [DecidableEq α] (d d' : α) (m : SMap α) {k j : Nat} (v : α) (h : j ≠ k) :
    SMap.get d (SMap.set d' m k v) j = SMap.get d m j := by
  unfold SMap.set
  split_ifs
  · simp [SMap.get, SMap.find_del_other m h]
  · exact SMap.get_put_other d m v h

theorem SMap.get_upd_same [DecidableEq α] (d : α) (m : SMap α) (k : Nat) (f : α → α) :
    SMap.get d (SMap.upd d m k f) k = f (SMap.get d m k) := SMap.get_set_same d m k _

theorem SMap.get_upd_other [DecidableEq α] (d : α) (m : SMap α) {k j : Nat} (f : α → α) (h : j ≠ k) :
    SMap.get d (SMap.upd d m k f) j = SMap.get d m j := SMap.get_set_other d d m _ h

/-! ### The canonical form -/

theorem SMap.risesFrom_weaken (m : SMap α) {j k : Nat} (h : j ≤ k) (hm : SMap.risesFrom (some k) m = true) :
    SMap.risesFrom (some j) m = true := by
  cases m with
  | nil => rfl
  | cons e m =>
    obtain ⟨i, w⟩ := e
    simp only [SMap.risesFrom, Bool.and_eq_true, decide_eq_true_eq] at hm ⊢
    exact ⟨by omega, hm.2⟩

theorem SMap.risesFrom_put (m : SMap α) (k : Nat) (v : α) (o : Option Nat) (ho : ∀ j ∈ o, j < k)
    (hm : SMap.risesFrom o m = true) : SMap.risesFrom o (SMap.put m k v) = true := by
  induction m generalizing o with
  | nil => cases o <;> simp_all [SMap.put, SMap.risesFrom]
  | cons e m ih =>
    obtain ⟨i, w⟩ := e
    have tail : SMap.risesFrom (some i) m = true := by
      cases o <;> simp_all [SMap.risesFrom]
    have head : ∀ j ∈ o, j < i := by
      cases o <;> simp_all [SMap.risesFrom]
    simp only [SMap.put]
    split_ifs with h1 h2
    · subst h1; cases o <;> simp_all [SMap.risesFrom]
    · cases o <;> simp_all [SMap.risesFrom]
    · have := ih (some i) (by simp; omega) tail
      cases o <;> simp_all [SMap.risesFrom]

theorem SMap.risesFrom_sublist {m n : SMap α} (h : m.Sublist n) (o : Option Nat) (hn : SMap.risesFrom o n = true) :
    SMap.risesFrom o m = true := by
  induction h generalizing o with
  | slnil => exact hn
  | cons e _ ih =>
    obtain ⟨i, w⟩ := e
    cases o with
    | none =>
      have := ih (some i) (by simpa [SMap.risesFrom] using hn)
      rename_i l₁ l₂ _
      cases l₁ with
      | nil => rfl
      | cons e l => obtain ⟨j, x⟩ := e; simp_all [SMap.risesFrom]
    | some k =>
      simp only [SMap.risesFrom, Bool.and_eq_true, decide_eq_true_eq] at hn
      exact SMap.risesFrom_weaken _ (Nat.le_of_lt hn.1) (ih (some i) hn.2)
  | cons_cons e _ ih =>
    obtain ⟨i, w⟩ := e
    cases o <;> simp_all [SMap.risesFrom]

theorem SMap.del_sublist (m : SMap α) (k : Nat) : (SMap.del m k).Sublist m := by
  induction m with
  | nil => exact List.Sublist.slnil
  | cons e m ih =>
    obtain ⟨i, w⟩ := e
    simp only [SMap.del]
    split_ifs
    · exact ih.cons _
    · exact ih.cons_cons _

theorem SMap.rises_put (m : SMap α) (k : Nat) (v : α) (h : SMap.rises m = true) : SMap.rises (SMap.put m k v) = true :=
  SMap.risesFrom_put m k v none (by simp) h

theorem SMap.rises_del (m : SMap α) (k : Nat) (h : SMap.rises m = true) : SMap.rises (SMap.del m k) = true :=
  SMap.risesFrom_sublist (SMap.del_sublist m k) none h

theorem SMap.rises_set [DecidableEq α] (d : α) (m : SMap α) (k : Nat) (v : α) (h : SMap.rises m = true) :
    SMap.rises (SMap.set d m k v) = true := by
  unfold SMap.set
  split_ifs
  · exact SMap.rises_del m k h
  · exact SMap.rises_put m k v h

theorem SMap.mem_put {m : SMap α} {k : Nat} {v : α} {e : Nat × α} (h : e ∈ SMap.put m k v) : e = (k, v) ∨ e ∈ m := by
  induction m with
  | nil => simpa [SMap.put] using h
  | cons x m ih =>
    obtain ⟨i, w⟩ := x
    simp only [SMap.put] at h
    split_ifs at h with h1 h2
    · simp only [List.mem_cons] at h ⊢
      tauto
    · simp only [List.mem_cons] at h ⊢
      tauto
    · simp only [List.mem_cons] at h ⊢
      rcases h with h | h
      · exact .inr (.inl h)
      · rcases ih h with h | h
        · exact .inl h
        · exact .inr (.inr h)

/-- A sublist of storage in canonical form is in canonical form. -/
theorem SMap.canon_sublist [DecidableEq α] (d : Nat → α) {m n : SMap α} (h : m.Sublist n) (hn : SMap.canon d n = true) :
    SMap.canon d m = true := by
  simp only [SMap.canon, Bool.and_eq_true, List.all_eq_true] at hn ⊢
  exact ⟨SMap.risesFrom_sublist h none hn.1, fun e he => hn.2 e (h.subset he)⟩

/-- A write keeps the canonical form. -/
theorem SMap.canon_set [DecidableEq α] (d : Nat → α) (m : SMap α) (k : Nat) (v : α) (h : SMap.canon d m = true) :
    SMap.canon d (SMap.set (d k) m k v) = true := by
  unfold SMap.set
  split_ifs with hv
  · exact SMap.canon_sublist d (SMap.del_sublist m k) h
  · simp only [SMap.canon, Bool.and_eq_true, List.all_eq_true] at h ⊢
    refine ⟨SMap.rises_put m k v h.1, fun e he => ?_⟩
    rcases SMap.mem_put he with rfl | he
    · simpa using hv
    · exact h.2 e he

namespace Machine

/-! ### Bit fields -/

theorem bits_lt (x hi lo : Nat) : bits x hi lo < 2 ^ (hi + 1 - lo) := Nat.mod_lt _ (by positivity)

theorem bits_testBit (x hi lo i : Nat) : (bits x hi lo).testBit i = (decide (i < hi + 1 - lo) && x.testBit (lo + i)) := by
  simp [bits, Nat.testBit_mod_two_pow, Nat.testBit_shiftRight]

/-- A word with a field replaced, from its upper part, the new value and its lower part. -/
theorem withBits_parts (x hi lo v : Nat) :
    withBits x hi lo v =
      2 ^ lo * (2 ^ (hi + 1 - lo) * (x / 2 ^ lo / 2 ^ (hi + 1 - lo)) + v % 2 ^ (hi + 1 - lo)) + x % 2 ^ lo := by
  have h1 := Nat.div_add_mod x (2 ^ lo)
  have h2 := Nat.div_add_mod (x / 2 ^ lo) (2 ^ (hi + 1 - lo))
  simp only [withBits, bits, Nat.shiftRight_eq_div_pow, Nat.shiftLeft_eq]
  generalize x / 2 ^ lo = q at *
  generalize x % 2 ^ lo = r at *
  generalize hA : q / 2 ^ (hi + 1 - lo) = a at *
  generalize hB : q % 2 ^ (hi + 1 - lo) = b at *
  subst h1 h2
  have : 2 ^ lo * (2 ^ (hi + 1 - lo) * a + b) + r - b * 2 ^ lo = 2 ^ lo * (2 ^ (hi + 1 - lo) * a) + r := by
    rw [Nat.mul_add, Nat.mul_comm b]
    omega
  rw [this, Nat.mul_add]
  ring

/-- The bits of a word with a field replaced. -/
theorem withBits_testBit (x hi lo v i : Nat) :
    (withBits x hi lo v).testBit i = if lo ≤ i ∧ i < hi + 1 then v.testBit (i - lo) else x.testBit i := by
  rw [withBits_parts, Nat.testBit_two_pow_mul_add _ (Nat.mod_lt _ (by positivity))]
  split_ifs with h1 h2 h2
  · omega
  · simp [Nat.testBit_mod_two_pow, h1]
  · rw [Nat.testBit_two_pow_mul_add _ (Nat.mod_lt _ (by positivity)), if_pos (by omega), Nat.testBit_mod_two_pow]
    simp; omega
  · rw [Nat.testBit_two_pow_mul_add _ (Nat.mod_lt _ (by positivity)), if_neg (by omega), Nat.testBit_div_two_pow,
      Nat.testBit_div_two_pow]
    congr 1; omega

/-- A field that was written reads as what was written, cut to its width. -/
theorem bits_withBits_same (x hi lo v : Nat) : bits (withBits x hi lo v) hi lo = v % 2 ^ (hi + 1 - lo) := by
  apply Nat.eq_of_testBit_eq
  intro i
  rw [bits_testBit, withBits_testBit, Nat.testBit_mod_two_pow]
  by_cases h : i < hi + 1 - lo
  · simp [h]; omega
  · simp [h]

/-- A field apart from the one written is unchanged. -/
theorem bits_withBits_other (x : Nat) {hi lo h l : Nat} (v : Nat) (d : h < lo ∨ hi < l) :
    bits (withBits x hi lo v) h l = bits x h l := by
  apply Nat.eq_of_testBit_eq
  intro i
  rw [bits_testBit, bits_testBit, withBits_testBit]
  by_cases hi' : i < h + 1 - l
  · rw [if_neg (by omega)]
  · simp [hi']

/-- A field of a word below bit 64 stays below it. -/
theorem withBits_lt {x hi lo : Nat} (v : Nat) (hx : x < 2 ^ 64) (h : hi < 64) : withBits x hi lo v < 2 ^ 64 := by
  apply Nat.lt_pow_two_of_testBit
  intro i hi'
  rw [withBits_testBit, if_neg (by omega)]
  exact Nat.testBit_lt_two_pow (lt_of_lt_of_le hx (Nat.pow_le_pow_right (by norm_num) hi'))

/-! ### The register file -/

theorem regAt_regPut_same (regs : SMap Word64) (off : Nat) (v : Word64) : regAt (regPut regs off v) off = v :=
  SMap.get_set_same _ _ _ _

theorem regAt_regPut_other (regs : SMap Word64) {off o : Nat} (v : Word64) (h : o ≠ off) :
    regAt (regPut regs off v) o = regAt regs o := SMap.get_set_other _ _ _ _ h

/-- A write of a register keeps the register file in canonical form. -/
theorem regPut_canon (regs : SMap Word64) (off : Nat) (v : Word64) (h : SMap.canon resetAt regs = true) :
    SMap.canon resetAt (regPut regs off v) = true := SMap.canon_set resetAt regs off v h

theorem State.reg_lt (s : State) (r : RegSpec) (n : Nat) : s.reg r n < 2 ^ 64 := (regAt s.regs (r.addr n)).isLt

theorem State.reg_setReg_same (s : State) (r : RegSpec) (n v : Nat) : (s.setReg r n v).reg r n = v % 2 ^ 64 := by
  simp [State.setReg, State.reg, regAt_regPut_same]

theorem State.reg_setReg_at (s : State) {r r' : RegSpec} {n n' : Nat} (v : Nat) (h : r'.addr n' = r.addr n) :
    (s.setReg r n v).reg r' n' = v % 2 ^ 64 := by
  simp [State.setReg, State.reg, h, regAt_regPut_same]

theorem State.reg_setReg_other (s : State) {r r' : RegSpec} {n n' : Nat} (v : Nat) (h : r'.addr n' ≠ r.addr n) :
    (s.setReg r n v).reg r' n' = s.reg r' n' := by
  simp [State.setReg, State.reg, regAt_regPut_other _ _ h]

theorem State.reg_setFld_same (s : State) (f : Fld) (n v : Nat) (h : f.hi < 64) :
    (s.setFld f n v).reg f.reg n = withBits (s.reg f.reg n) f.hi f.lo v := by
  rw [State.setFld, State.reg_setReg_same]
  exact Nat.mod_eq_of_lt (withBits_lt v (s.reg_lt _ _) h)

/-- A field that was written reads as what was written, cut to its width. -/
theorem State.fld_setFld_same (s : State) (f : Fld) (n v : Nat) (h : f.hi < 64) :
    (s.setFld f n v).fld f n = v % 2 ^ (f.hi + 1 - f.lo) := by
  rw [State.fld, State.reg_setFld_same s f n v h, bits_withBits_same]

/-- Another field of the register written is unchanged. -/
theorem State.fld_setFld_beside (s : State) (f g : Fld) (n v : Nat) (hr : g.reg = f.reg) (h : f.hi < 64)
    (d : g.hi < f.lo ∨ f.hi < g.lo) : (s.setFld f n v).fld g n = s.fld g n := by
  rw [State.fld, hr, State.reg_setFld_same s f n v h, bits_withBits_other _ v d, State.fld, hr]

/-- A field of another register is unchanged. -/
theorem State.fld_setFld_other (s : State) (f g : Fld) (n m v : Nat) (h : g.reg.addr m ≠ f.reg.addr n) :
    (s.setFld f n v).fld g m = s.fld g m := by
  simp only [State.fld, State.setFld, State.reg_setReg_other _ _ h]

end Machine
end Sys2Proof
end

