-- ==== Sys2Proof/Tests/Slice0.lean ====
section
/-! SUPPORT. Tests of the model on small states: operands that do not fit, words and numbers that the manual gives, and for every
statement with hypotheses a state and operands that meet them. -/

set_option maxRecDepth 20000

open Sys2Proof Sys2Proof.Machine

namespace Sys2Proof.Tests

/-! ### Helpers -/

/-- The state after reset, with fields of registers changed. -/
def with' (fs : List (Fld × Nat × Nat)) : State := fs.foldl (fun s f => s.setFld f.1 f.2.1 f.2.2) State.reset

/-- A running bundle whose next instruction is `i`. -/
def running (i : OrderInstr) : Bundle :=
  { Bundle.fresh [] 0 16 none with phase := .running, prog := [⟨20, 0, false, i⟩], executed := 1 }

/-- A running bundle with an open stage set whose next instruction is `i`. -/
def staging (i : OrderInstr) : Bundle := { running i with stage := some ⟨0, true, [], false⟩ }

/-- The state after reset with a bundle in the console's slot. -/
def holds (b : Bundle) : State := State.reset.setSlot .console b

/-- A console request in order. -/
def asked (op addr len : Nat) (payload : List Byte) : ConsoleRequest :=
  let r : ConsoleRequest := ⟨0xC3, op, 7, 0, addr, len, payload, 0⟩
  { r with crc := crc32c (requestBytes r) }

/-- A frozen device. -/
def frozen : State := { State.reset with power := { State.reset.power with frozen := some ⟨1, 0, 0, 0⟩ } }

theorem asked_crc (op addr len : Nat) (payload : List Byte) :
    crc32c (requestBytes (asked op addr len payload)) = (asked op addr len payload).crc := rfl

theorem reset_acts : State.reset.Acts := ⟨rfl, rfl⟩

theorem reset_runs : State.reset.Runs := ⟨reset_acts, by decide⟩

/-- Every instruction that the stage structure allows outside a stage block can come next. -/
theorem witness_comesNext (i : OrderInstr) (h : structureFault false false i = 0) :
    (holds (running i)).ComesNext .console (running i) ⟨20, 0, false, i⟩ i :=
  ⟨⟨rfl, rfl⟩, rfl, rfl, rfl, rfl, Or.inl rfl, h, Or.inr (Or.inl Nat.one_pos)⟩

/-- Every instruction that the stage structure allows in a stage block can come next there. -/
theorem witness_comesNext_staging (i : OrderInstr) (h : structureFault true true i = 0) :
    (holds (staging i)).ComesNext .console (staging i) ⟨20, 0, false, i⟩ i :=
  ⟨⟨rfl, rfl⟩, rfl, rfl, rfl, rfl, Or.inl rfl, h, Or.inr (Or.inl Nat.one_pos)⟩

/-! ### Numbers that the manual gives -/

/-- R248 gives the header CRC of a frame of 1,518 bytes and of an idle header. -/
theorem test_header_crc : headerCrc 1518 = 0xFE1A ∧ headerCrc 0 = 0x1D0F := by decide

/-- The example of FIPS 180-4 for SHA-384 of the three letters abc. -/
theorem test_sha384 : beNat (sha384 [0x61, 0x62, 0x63]) =
    0xCB00753F45A35E8BB5A03D699AC65007272C32AB0EDED1631A8B605A43FF5BED8086072BA1E7CC2358BAECA134C825A7 := by decide +kernel

/-! ### Witnesses: the machine, freeze, shared operations -/

theorem witness_step : ({ State.reset with pending := [.bypass] } : State).pending = .bypass :: [] ∧ State.reset.pending = [] ∧
    step State.reset = .next State.reset ∧ exec .bypass State.reset ≠ .next State.reset := by
  refine ⟨rfl, rfl, rfl, ?_⟩
  intro h
  have := congrArg (fun o => match o with | Host.Outcome.next t => t.power.jtag | _ => 0) h
  revert this; decide

theorem witness_register_file : State.reset.RegistersCanonical ∧ step State.reset = .next State.reset := ⟨rfl, rfl⟩

theorem witness_order_words : (OrderInstr.portUp 16 17 0 1 3 0).wf = true ∧ (3 : Nat) < 4 := by decide

theorem witness_held : frozen.power.frozen ≠ none ∧
    ({ State.reset with power := { State.reset.power with supplyFault := true } } : State).power.supplyFault = true := by decide

theorem witness_entry_validity : (255 : Nat) < 256 ∧ entryValid 3 0 0 = true ∧ entryValid 4 0 0 = false ∧ entryValid 2 0 3 = true ∧
    entryValid 3 0 3 = false ∧ entryValid 1 255 5 = true ∧ entryValid 1 255 6 = false := by decide

theorem witness_event : EV_ORD_RING.bit = some R.ORD_OQ_STAT_RING_ERR ∧ R.ORD_OQ_STAT_RING_ERR.hi < 24 ∧
    R.ORD_OQ_STAT_RING_ERR.lo = R.ORD_OQ_STAT_RING_ERR.hi ∧ R.ORD_OQ_STAT_RING_ERR.reg.addr 0 ≠ R.HDMA_EVR_SIZE.addr 0 ∧
    R.ORD_OQ_STAT_RING_ERR.reg.addr 0 ≠ R.DEV_EPOCH_NUM.addr 0 := by decide

theorem image_length (f : Frozen) : 8 ≤ f.image.length := by simp [Frozen.image, leBytes]

theorem witness_jtag : State.reset.power.frozen = none ∧ frozen.power.frozen = some ⟨1, 0, 0, 0⟩ ∧
    8 * frozen.power.imageWord + 8 ≤ (Frozen.image ⟨1, 0, 0, 0⟩).length :=
  ⟨rfl, rfl, image_length ⟨1, 0, 0, 0⟩⟩

/-! ### Witnesses: the console -/

theorem witness_console_store : State.reset.Acts ∧ (asked 1 0x1FFFFF 1 [0]).addr + (asked 1 0x1FFFFF 1 [0]).len ≤ 0x200000 ∧
    (asked 1 0x1FFFFF 1 [0]).payload.length = (asked 1 0x1FFFFF 1 [0]).len ∧ 0x200000 < 0x200000 + (asked 1 0x200000 1 [0]).len ∧
    (asked 2 0 4096 []).len ≤ 4096 ∧ (asked 2 0 4096 []).sync = 0xC3 ∧ (asked 2 0 4096 []).zero = 0 := ⟨reset_acts, by decide⟩

theorem witness_console_orders : (asked 3 0x1FFFF8 4 [0, 0, 0, 8]).len = 4 ∧ beNat (asked 3 0x1FFFF8 4 [0, 0, 0, 8]).payload = 8 ∧
    (with' [(R.PWR_STAT_BOOT_STEP, 0, 6)]).Acts ∧ (with' [(R.PWR_STAT_BOOT_STEP, 0, 6)]).fld R.PWR_STAT_BOOT_STEP 0 = 6 ∧
    (with' [(R.PWR_STAT_BOOT_STEP, 0, 6)]).bureau.lastSubmit ≠ some 7 ∧ (with' [(R.PWR_STAT_BOOT_STEP, 0, 6)]).consoleHeld < 4 ∧
    State.reset.fld R.PWR_STAT_BOOT_STEP 0 < 6 ∧ State.reset.bureau.consoleDone = [] ∧
    ({ State.reset with bureau := { State.reset.bureau with lastSubmit := some 7 } } : State).bureau.lastSubmit = some 7 ∧
    ({ State.reset with bureau := { State.reset.bureau with consoleDone := [[0]] } } : State).bureau.consoleDone = [0] :: [] ∧
    busCause false { off := R.DEV_VERSION.addr 0, len := 4, be := 15, value := 0, requester := 0xFFFF } = 0 := by
  refine ⟨by decide, by decide, ⟨rfl, rfl⟩, by decide⟩

theorem witness_console_frozen : frozen.power.frozen = some ⟨1, 0, 0, 0⟩ ∧ frozen.power.supplyFault = false ∧
    (∀ a, (asked 2 a 712 []).addr = a ∧ (asked 2 a 712 []).len = 712) ∧ 712 ≤ imageLen ∧ imageLen < imageLen + 1 :=
  ⟨rfl, rfl, fun _ => ⟨rfl, rfl⟩, by simp only [imageLen]; omega, Nat.lt_succ_self _⟩

/-! ### Witnesses: rings and host accesses -/

/-- The state of the ring's registers: SIZE, TAIL and HEAD of instance `n`. -/
def ring (size tail head : Fld) (n a b c : Nat) : State := with' [(size, n, a), (tail, n, b), (head, n, c)]

theorem witness_order_queue :
    (let s := ring R.ORD_OQ_SIZE_SIZE R.ORD_OQ_TAIL_TAIL R.ORD_OQ_HEAD_HEAD 3 16 65535 65535
     ¬ (s.fld R.ORD_OQ_SIZE_SIZE 3 < ((15 : Word32).toNat % 65536 + 65536 - s.fld R.ORD_OQ_HEAD_HEAD 3) % 65536) ∧
       s.fld R.ORD_OQ_SIZE_SIZE 3 < ((16 : Word32).toNat % 65536 + 65536 - s.fld R.ORD_OQ_HEAD_HEAD 3) % 65536 ∧
       s.fld R.ORD_OQ_TAIL_TAIL 3 = s.fld R.ORD_OQ_HEAD_HEAD 3 ∧ s.slot (.host 3) = none) ∧
    (let s := ring R.ORD_OQ_SIZE_SIZE R.ORD_OQ_TAIL_TAIL R.ORD_OQ_HEAD_HEAD 3 16 1 0
     s.fld R.ORD_OQ_TAIL_TAIL 3 ≠ s.fld R.ORD_OQ_HEAD_HEAD 3) ∧
    (0 : Word64).toNat % 8192 = 0 ∧ (16 : Word64).toNat % 8192 = 2 ^ 4 ∧ (4096 : Word64).toNat % 8192 = 2 ^ 12 ∧
    State.reset.fld R.ORD_OQ_SIZE_SIZE 3 = 0 := by decide

theorem witness_packet_ring :
    (let s := ring R.HDMA_RING_SIZE_SIZE R.HDMA_RING_TAIL_TAIL R.HDMA_RING_HEAD_HEAD 127 16 65535 65535
     ¬ (s.fld R.HDMA_RING_SIZE_SIZE 127 < ((15 : Word32).toNat % 65536 + 65536 - s.fld R.HDMA_RING_HEAD_HEAD 127) % 65536) ∧
       s.fld R.HDMA_RING_SIZE_SIZE 127 < ((16 : Word32).toNat % 65536 + 65536 - s.fld R.HDMA_RING_HEAD_HEAD 127) % 65536 ∧
       s.fld R.HDMA_RING_TAIL_TAIL 127 = s.fld R.HDMA_RING_HEAD_HEAD 127) ∧
    (let s := ring R.HDMA_RING_SIZE_SIZE R.HDMA_RING_TAIL_TAIL R.HDMA_RING_HEAD_HEAD 127 16 1 0
     s.fld R.HDMA_RING_TAIL_TAIL 127 ≠ s.fld R.HDMA_RING_HEAD_HEAD 127) := by decide

theorem witness_shadow_ring :
    (let s := ring R.TBL_SHADOW_SIZE_SIZE R.TBL_SHADOW_TAIL_TAIL R.TBL_SHADOW_HEAD_HEAD 0 16 65535 65535
     ¬ (s.fld R.TBL_SHADOW_SIZE_SIZE 0 < ((15 : Word32).toNat % 65536 + 65536 - s.fld R.TBL_SHADOW_HEAD_HEAD 0) % 65536) ∧
       s.fld R.TBL_SHADOW_SIZE_SIZE 0 < ((16 : Word32).toNat % 65536 + 65536 - s.fld R.TBL_SHADOW_HEAD_HEAD 0) % 65536 ∧
       s.fld R.TBL_SHADOW_TAIL_TAIL 0 = s.fld R.TBL_SHADOW_HEAD_HEAD 0) ∧
    (let s := ring R.TBL_SHADOW_SIZE_SIZE R.TBL_SHADOW_TAIL_TAIL R.TBL_SHADOW_HEAD_HEAD 0 16 1 0
     s.fld R.TBL_SHADOW_TAIL_TAIL 0 ≠ s.fld R.TBL_SHADOW_HEAD_HEAD 0) ∧ (256 : Word64).toNat % 512 = 2 ^ 8 := by decide

theorem witness_timestamp_ring :
    (let s := with' [(R.PORT_TSF_WR_WR, 1023, 3), (R.PORT_TSF_RD_RD, 1023, 65535)]
     ¬ ((s.fld R.PORT_TSF_WR_WR 1023 + 65536 - s.fld R.PORT_TSF_RD_RD 1023) % 65536 <
         ((3 : Word32).toNat % 65536 + 65536 - s.fld R.PORT_TSF_RD_RD 1023) % 65536) ∧
       (s.fld R.PORT_TSF_WR_WR 1023 + 65536 - s.fld R.PORT_TSF_RD_RD 1023) % 65536 <
         ((4 : Word32).toNat % 65536 + 65536 - s.fld R.PORT_TSF_RD_RD 1023) % 65536) := by decide

theorem witness_event_ring :
    State.reset.fld R.HDMA_EVR_SIZE_SIZE 0 = 0 ∧ (with' [(R.HDMA_EVR_SIZE_SIZE, 0, 256)]).fld R.HDMA_EVR_SIZE_SIZE 0 ≠ 0 ∧
    (256 : Word32).toNat % 32768 = 2 ^ 8 ∧ (16384 : Word32).toNat % 32768 = 2 ^ 14 ∧
    (∀ k : Nat, 8 ≤ k → k ≤ 14 → (128 : Word32).toNat % 32768 ≠ 2 ^ k) ∧
    (let s := with' [(R.HDMA_EVR_TAIL_TAIL, 0, 2), (R.HDMA_EVR_HEAD_HEAD, 0, 65535)]
     ((2 : Word32).toNat % 65536 + 65536 - s.fld R.HDMA_EVR_HEAD_HEAD 0) % 65536 ≤
       (s.fld R.HDMA_EVR_TAIL_TAIL 0 + 65536 - s.fld R.HDMA_EVR_HEAD_HEAD 0) % 65536 ∧
     (s.fld R.HDMA_EVR_TAIL_TAIL 0 + 65536 - s.fld R.HDMA_EVR_HEAD_HEAD 0) % 65536 <
       ((3 : Word32).toNat % 65536 + 65536 - s.fld R.HDMA_EVR_HEAD_HEAD 0) % 65536) ∧
    EV_LEARN.bit = some R.TBL_EVT_LEARN ∧ R.TBL_EVT_LEARN.reg.addr 0 ≠ R.HDMA_EVR_SIZE.addr 0 := by
  refine ⟨by decide, by decide, by decide, by decide, ?_, by decide⟩
  intro k h1 h2
  exact (by decide : ∀ k < 15, 8 ≤ k → (128 : Word32).toNat % 32768 ≠ 2 ^ k) k (by omega) h1

theorem witness_write_back : locate (R.ORD_OQ_STAT.addr 3) = some (R.ORD_OQ_STAT, 3) ∧ R.ORD_OQ_STAT.wide = false ∧
    R.ORD_OQ_STAT.fields.any (fun f => f.acc == .sq) = true ∧ R.ORD_OQ_STAT ≠ R.DEV_EVT ∧ R.ORD_OQ_STAT ≠ R.PORT_EVT ∧
    bits (0x01000000 : Word32).toNat 31 24 ≠ bits (State.reset.reg R.ORD_OQ_STAT 3) 31 24 ∧
    bits (0x00000001 : Word32).toNat 31 24 = bits (State.reset.reg R.ORD_OQ_STAT 3) 31 24 := by decide

/-- R437 and R438: a partial write, a misaligned read, a write of a read-only register and a snapshot of no unit. -/
theorem test_bus_causes : busCause true { off := 0x18, len := 2, be := 3, value := 0, requester := 0 } = 1 ∧
    busCause false { off := 0x1A, len := 4, be := 15, value := 0, requester := 0 } = 2 ∧
    busCause true { off := R.DEV_VERSION.addr 0, len := 4, be := 15, value := 0, requester := 0 } = 5 ∧
    busCause false { off := R.DEV_VERSION.addr 0, len := 8, be := 255, value := 0, requester := 0 } = 3 ∧
    snapOk (bits (0x00D00004 : Word32).toNat 23 16) (bits (0x00D00004 : Word32).toNat 11 0) = false := by decide

theorem witness_accesses : (33554431 : Nat) < 2 ^ 25 ∧ snapOk (bits (0x00D00003 : Word32).toNat 23 16) (bits (0x00D00003 : Word32).toNat 11 0) = true ∧
    State.reset.epoch.cutoffDone = false ∧ State.reset.epoch.snapNow.contains (0xD0, 3) = false ∧ State.reset.epoch.snapNow.length < 256 ∧
    ({ State.reset with epoch := { State.reset.epoch with cutoffDone := true } } : State).epoch.cutoffDone = true ∧
    State.reset.epoch.snapNext.contains (0xD0, 3) = false ∧ State.reset.epoch.snapNext.length < 256 ∧
    (let s : State := { State.reset with epoch := { State.reset.epoch with snapNow := [(0xD0, 3)] } }
     s.epoch.snapNow.contains (0xD0, 3) = true) ∧
    (let s : State := { State.reset with epoch := { State.reset.epoch with snapNow := List.replicate 256 (0xD0, 3) } }
     s.epoch.snapNow.contains (0xD0, 4) = false ∧ 256 ≤ s.epoch.snapNow.length) ∧
    State.reset.Acts ∧ State.reset.fld R.PWR_STAT_BOOT_STEP 0 < 6 ∧ 6 ≤ (with' [(R.PWR_STAT_BOOT_STEP, 0, 6)]).fld R.PWR_STAT_BOOT_STEP 0 := by
  refine ⟨by decide, by decide, by decide, by decide, by decide, by decide, by decide, by decide, by decide, by decide, ⟨rfl, rfl⟩,
    by decide, by decide⟩

theorem witness_read_rows : locate (R.CELL_FREE.addr 0) = some (R.CELL_FREE, 0) ∧ R.CELL_FREE.fields.any (fun f => f.acc == .lh) = true ∧
    busCause false { off := R.PORT_CFG.addr 1023, len := 4, be := 15, value := 0, requester := 0 } = 0 ∧
    busCause true { off := R.ORD_OQ_TAIL.addr 15, len := 4, be := 15, value := 0, requester := 0 } = 0 ∧
    isMsix (R.ORD_OQ_TAIL.addr 15) = false ∧ locate (R.ORD_OQ_TAIL.addr 15) = some (R.ORD_OQ_TAIL, 15) := by decide

theorem witness_interrupts :
    (let s : State := { with' [(R.HDMA_CFG_HOLDOFF_US, 0, 0)] with host := { State.reset.host with msixPending := [255], due := [255], msix := [(1023, 0)] } }
     s.fld R.HDMA_CFG_HOLDOFF_US 0 = 0 ∧ s.host.msixPending.contains 255 = true ∧ s.host.due.contains 255 = true ∧
       s.host.d3hot = false ∧ s.masked 255 = false) ∧
    (let s : State := { State.reset with host := { State.reset.host with due := [255], msix := [(1023, 1)], d3hot := true } }
     s.host.due.contains 255 = true ∧ s.masked 255 = true ∧ s.host.msixPending.contains 255 = false ∧ s.host.d3hot = true) ∧
    State.reset.host.due.contains 255 = false ∧ (0 : Word32).toNat % 2 = 0 ∧ (1 : Word32).toNat % 2 = 1 := by decide

/-! ### Witnesses: packet rings -/

/-- An event record of no consequence. -/
def record : EventRec := { seq := 1, code := 0, unit := 0, rseq := 0, epoch := 0, data0 := 0, data := [] }

/-- A host frame of 64 bytes. -/
def hostFrame : HostFrame := ⟨List.replicate 64 0, 0, 0, 0, 0, 0, 0, 0, 0, 0⟩

theorem witness_event_records :
    (let s : State := { with' [(R.HDMA_EVR_SIZE_SIZE, 0, 256), (R.HDMA_EVR_TAIL_TAIL, 0, 255)] with evq := [record] }
     s.evq = record :: [] ∧ s.host.d3hot = false ∧ s.host.lost = 0 ∧ s.fld R.HDMA_EVR_SIZE_SIZE 0 ≠ 0 ∧
       (s.fld R.HDMA_EVR_TAIL_TAIL 0 + 65536 - s.fld R.HDMA_EVR_HEAD_HEAD 0) % 65536 ≠ s.fld R.HDMA_EVR_SIZE_SIZE 0) ∧
    (let s := with' [(R.HDMA_EVR_SIZE_SIZE, 0, 256), (R.HDMA_EVR_TAIL_TAIL, 0, 256)]
     (s.fld R.HDMA_EVR_TAIL_TAIL 0 + 65536 - s.fld R.HDMA_EVR_HEAD_HEAD 0) % 65536 = s.fld R.HDMA_EVR_SIZE_SIZE 0) := by decide

theorem witness_packet_rings :
    (let s : State := { ring R.HDMA_RING_SIZE_SIZE R.HDMA_RING_TAIL_TAIL R.HDMA_RING_HEAD_HEAD 127 16 1 0 with hostRx := [(63, [hostFrame])] }
     s.ringReady 127 = true ∧ SMap.get [] s.hostRx 63 = hostFrame :: [] ∧ hostFrame.kind ≠ 2 ∧
       32 + hostFrame.bytes.length ≤ (96 : BitVec 16).toNat) ∧ State.reset.ringReady 127 = false := by decide

theorem witness_tx_descriptor :
    (let s := ring R.HDMA_RING_SIZE_SIZE R.HDMA_RING_TAIL_TAIL R.HDMA_RING_HEAD_HEAD 63 16 1 0
     s.Runs ∧ (s.advance 0).txTurn = some 63 ∧ s.ringReady 63 = true) ∧ (State.reset.advance 0).txTurn ≠ some 63 ∧
    -- a reserved bit set; and a management frame of 2,048 bytes for lane 511
    (bits (0x100000000 : Word64).toNat 32 32 ≠ 0 ∧ bits (0x100000000 : Word64).toNat 42 42 = 0) ∧
    (let w : Nat := (0x00000BFE00000800 : Word64).toNat
     bits w 43 43 = 1 ∧ bits w 46 46 = 0 ∧ bits w 45 45 = 0 ∧ bits w 44 44 = 0 ∧ bits w 32 32 = 0 ∧ bits w 15 14 = 0 ∧
       bits w 42 42 = 0 ∧ bits w 13 0 = 2048 ∧ bits w 41 33 = 511) ∧
    -- a frame for the host's ring of 13 bytes, and one that is both for management and segmented
    bits (0x000000000000000D : Word64).toNat 13 0 < 14 ∧
    (bits (0x0000480000000040 : Word64).toNat 43 43 = 1 ∧ bits (0x0000480000000040 : Word64).toNat 46 46 = 1) :=
  ⟨⟨⟨⟨rfl, rfl⟩, by decide⟩, by decide⟩, by decide⟩

/-! ### Witnesses: bundles -/

/-- A host queue that may fetch. -/
def fetching : State := with' [(R.PWR_STAT_BOOT_STEP, 0, 6), (R.ORD_OQ_SIZE_SIZE, 15, 16), (R.ORD_OQ_TAIL_TAIL, 15, 1)]

/-- The words of a Routine bundle of one NOP. -/
def nopWords : List Word64 := [0x01, 0, BitVec.ofNat 64 (State.reset.reg R.DEV_IF_VER 0 <<< 32), 0x4800000000, 0, 0, 0, 0, 0]

/-- That bundle, whose signature is to be checked. -/
def verifying : Bundle := { Bundle.fresh nopWords 0 16 none with phase := .verifying }

theorem witness_bundle_fetch : fetching.Acts ∧ fetching.fetches 15 = true ∧ (1 : Word64).toNat % 8 ≠ 0 ∧ (8 : Word64).toNat % 8 = 0 ∧
    8 * nopWords.length = (72 : Word32).toNat ∧ (Bundle.fresh nopWords 0 15 none).totalLen = (72 : Word32).toNat :=
  ⟨⟨rfl, rfl⟩, by decide⟩

theorem witness_acceptance : (holds verifying).Acts ∧ (holds verifying).slot .console = some verifying ∧ verifying.phase = .verifying ∧
    (holds verifying).sigCheck .console verifying = none ∧ (holds verifying).targetOk verifying = true ∧
    (∃ d, (holds verifying).decodeBundle .console [] verifying = .good d ∧ classCheck .console verifying.cls verifying.grant d.steps.reverse = none) ∧
    verifying.cls = 0 ∧ verifying.forward = none ∧ (holds verifying).role = 0 :=
  ⟨⟨rfl, rfl⟩, rfl, rfl, by decide, by decide, ⟨_, rfl, by decide⟩, by decide, rfl, by decide⟩

theorem witness_acceptance_refused :
    (let b := { verifying with words := 0x20001 :: nopWords.drop 1 }
     (holds b).sigCheck (.host 0) b = some (2, 2)) ∧
    (let b := { verifying with phase := .held }
     (holds b).slot .console = some b ∧ b.phase = .held ∧ b.applyAfter ≤ (holds b).epochNum) := by decide

/-- A host queue's finished bundle. -/
def finished : Bundle := { verifying with phase := .finished, ending := some ⟨0, 0x1FFF, 1, 0⟩ }

theorem witness_completion_record :
    (let s := fetching.setSlot (.host 15) finished
     s.Acts ∧ s.slot (.host 15) = some finished ∧ finished.ending = some ⟨0, 0x1FFF, 1, 0⟩ ∧ finished.orphan = false ∧
       finished.journalled = false ∧ s.recordRoom (.host 15) = true ∧ finished.forward = none) ∧
    (State.reset.setSlot (.host 15) finished).recordRoom (.host 15) = false ∧ (15 : Fin 16) ≠ 3 :=
  ⟨⟨⟨rfl, rfl⟩, by decide⟩, by decide⟩

theorem witness_journal :
    (let s : State := { State.reset with auth := { State.reset.auth with appends := [(7, 1, 0)] } }
     s.Acts ∧ s.auth.appends = (7, 1, 0) :: [] ∧ s.auth.failed = false) ∧
    (let s : State := { State.reset with auth := { State.reset.auth with appends := [(7, 1, 0)], failed := true } }
     s.auth.appends = (7, 1, 0) :: [] ∧ s.auth.failed = true) := ⟨⟨⟨rfl, rfl⟩, rfl, rfl⟩, rfl, rfl⟩

/-- The first bytes of an in-band segment: REASM_ID, INDEX, COUNT and TOTAL_LEN. -/
def segment (id index count total : Nat) : List Byte := leBytes 8 (id * 2 ^ 48 + index * 2 ^ 40 + count * 2 ^ 32 + total)

/-- A reassembly of two segments that holds the first. -/
def partial' : Reassembly := ⟨3, 9, 8, 64, [(0, [])]⟩

/-- A device with a segment of Charter number 3 and a reassembly. -/
def carrying (p : List Byte) (rs : List Reassembly) : State :=
  { State.reset with bureau := { State.reset.bureau with carried := [(3, 0x01000005, p)], reasm := rs } }

theorem witness_inband : (carrying (segment 9 7 8 64) []).Acts ∧
    (carrying (segment 9 7 8 64) []).bureau.carried = (3, 0x01000005, segment 9 7 8 64) :: [] ∧
    (let w := leNat ((segment 9 7 8 64).take 8)
     bits w 63 48 = 9 ∧ bits w 47 40 = 7 ∧ bits w 39 32 = 8 ∧ bits w 31 0 = 64) ∧
    (carrying [] []).bureau.reasm.find? (fun r => r.charter == 3 && r.id == 9) = none ∧
    (carrying [] [partial']).bureau.reasm.find? (fun r => r.charter == 3 && r.id == 9) = some partial' ∧
    (SMap.find partial'.segs 0).isSome = true ∧ partial'.count ≠ 2 ∧
    (carrying [] [partial']).bureau.reasm.any (fun r => r.charter == 3 && r.id == 9) = true ∧
    bits (leNat ((segment 9 8 8 64).take 8)) 39 32 ≤ bits (leNat ((segment 9 8 8 64).take 8)) 47 40 ∧
    bits (leNat ((segment 9 0 0 64).take 8)) 39 32 = 0 ∧ 8 < bits (leNat ((segment 9 0 9 64).take 8)) 39 32 ∧
    (carrying [] []).bureau.reasm.length < 4 ∧ (carrying [] []).role ≠ 3 ∧ partial'.total ≠ 65 ∧
    4 ≤ (carrying [] (List.replicate 4 { partial' with id := 8 })).bureau.reasm.length ∧
    (carrying [] (List.replicate 4 { partial' with id := 8 })).bureau.reasm.find? (fun r => r.charter == 3 && r.id == 9) = none :=
  ⟨⟨rfl, rfl⟩, by decide⟩

/-- A reassembly of two segments whose second one completes it with 16 bytes. -/
def halfDone : Reassembly := ⟨3, 9, 2, 16, [(0, List.replicate 8 0)]⟩

theorem witness_inband_complete :
    (let w := leNat ((segment 9 1 2 16).take 8)
     bits w 63 48 = 9 ∧ bits w 47 40 = 1 ∧ bits w 39 32 = halfDone.count ∧ bits w 31 0 = halfDone.total) ∧
    SMap.find halfDone.segs 1 = none ∧ 2 ≤ (SMap.put halfDone.segs 1 (List.replicate 8 0)).length ∧
    ((SMap.put halfDone.segs 1 (List.replicate 8 0)).flatMap (fun e => e.2)).length = 16 := by decide

/-! ### Witnesses: orders -/

/-- A bundle that is skipped, one behind its last instruction, and endings. -/
theorem witness_progress :
    (let b := { running .nop with prog := [⟨20, 1, false, .nop⟩, ⟨21, 2, false, .nop⟩] }
     (holds b).Acts ∧ (holds b).slot .console = some b ∧ b.phase = .running ∧ b.prog[b.next]? = some ⟨20, 1, false, .nop⟩ ∧
       b.c = false ∧ b.next + 1 < b.prog.length) ∧
    (running .nop).prog.length ≤ (running .nop).next + 1 ∧ (running .nop).stage = none ∧ (running .nop).late = none ∧
    ({ running .nop with late := some (20, 3) } : Bundle).late = some (20, 3) ∧ (staging .nop).stage ≠ none ∧
    (4 < (Ending.mk 9 0x1FFF 3 0).status) ∧ (Ending.mk 0 0x1FFF 3 0).status < 2 :=
  ⟨⟨⟨rfl, rfl⟩, rfl, rfl, rfl, rfl, by decide⟩, by decide⟩

theorem witness_control_orders : structureFault false false .nop = 0 ∧ structureFault false false (.get 15 0 false) = 0 ∧
    structureFault false false (.check 0 0 0 0) = 0 ∧ structureFault false false .stageBegin = 0 ∧ structureFault true true .stageEnd = 0 ∧
    structureFault true true .abort = 0 ∧ checkTest 0 0 0 = true ∧ checkTest 0 0 1 = false ∧
    ({ State.reset with bureau := { State.reset.bureau with slots := [] } } : State).Acts := ⟨by decide, by decide, by decide, by decide,
      by decide, by decide, by decide, by decide, ⟨rfl, rfl⟩⟩

theorem witness_waiting_orders : structureFault false false (.waitEpoch true 1) = 0 ∧ structureFault false false (.waitEvent 0x200 0xFFF 1) = 0 ∧
    structureFault false false (.fence true) = 0 ∧ (holds (running .nop)).epochNum + 0 ≤ (holds (running .nop)).epochNum ∧
    (holds (running .nop)).epochNum < (holds (running .nop)).epochNum + 1 ∧ (holds (running (.fence false))).settledBefore (queueUnit .console) (running (.fence false)) = true ∧
    (let b := { running .nop with seen := [(0x200, 3)] }
     (∃ e ∈ b.seen, e.1 = 0x200 ∧ (0xFFF = 0xFFF ∨ e.2 = 0xFFF)) ∧ (∀ e ∈ b.seen, e.1 = 0x200 → 4 ≠ 0xFFF ∧ e.2 ≠ 4) ∧
       b.saw 0x200 3 = true ∧ b.saw 0x200 4 = false) := by decide

/-- A FENCE that has to wait for a Leaf word which the bundle's queue has behind a copying quadrant. -/
theorem witness_fence_waits :
    (let b := { running (.fence false) with prog := [⟨20, 0, false, .leafWr 511 77 0 0 false⟩, ⟨21, 0, false, .fence false⟩], next := 1, acted := [0] }
     ({ State.reset with leafHeld := [(tuKey 511 77, 0, queueUnit .console)] } : State).settledBefore (queueUnit .console) b = false) := by decide

theorem witness_parked (ph : Phase) :
    (let b := { running (.waitEvent 0x200 4 1) with phase := ph }
     (holds b).Acts ∧ (holds b).slot .console = some b ∧ b.phase = ph ∧ b.prog[b.next]? = some ⟨20, 0, false, .waitEvent 0x200 4 1⟩) :=
  ⟨⟨rfl, rfl⟩, rfl, rfl, rfl⟩

theorem witness_writes :
    unversionedRow (.portDown .console 1023) = some (.console, .portDown 1023) ∧ structureFault true true (.portDown 1023) = 0 ∧
    structureFault false false (.portDown 1023) = 0 ∧ (staging (.portDown 1023)).stage = some ⟨0, true, [], false⟩ ∧
    (holds (staging (.portDown 1023)).ran).writeFault .console [] ((staging (.portDown 1023)).instrWord ⟨20, 0, false, .portDown 1023⟩)
      (.portDown 1023) = none ∧
    (let s := (holds (running .nop).ran).setSlot (.host 0) { staging .nop with stage := some ⟨1, true, [.leafWr 511 77 0 0 false], false⟩ }
     (s.writeFault .console [] 0 (.leafWr 511 77 1 1 false)).isSome = true) ∧
    structureFault true true (.set (R.PORT_CFG.addr 0) false true 0 0) = 0 :=
  ⟨rfl, by decide, by decide, rfl, by decide, by decide, by decide⟩

theorem witness_versioned_writes :
    versionedRow (.tcamWr .console 7 16383 false true []) = some (.console, .tcamWr 7 16383 false true []) ∧
    structureFault true true (.tcamWr 7 16383 false true []) = 0 ∧
    (∃ t, State.reset.claimPlaces 0 (.tcamWr 7 16383 false false []) = .inr t) ∧
    (∃ d, State.reset.claimPlaces 0 (.tcamWr 7 16383 false true []) = .inl d) ∧
    SMap.find State.reset.tcam (tcamKey 7 false 16383) = none ∧ SMap.find State.reset.tcamClaims (tcamKey 7 false 16383) = none ∧
    (let s : State := { State.reset with tcam := [(tcamKey 7 false 16383, ⟨[], 1, 1, .applied⟩)] }
     SMap.find s.tcam (tcamKey 7 false 16383) = some ⟨[], 1, 1, .applied⟩) :=
  ⟨rfl, by decide, ⟨_, rfl⟩, ⟨_, rfl⟩, rfl, rfl, by decide⟩

theorem witness_table_orders : structureFault true true (.tblIns 1 false false [0, 0]) = 0 ∧ structureFault true true (.tblDel 1 false false [0]) = 0 ∧
    structureFault true true (.tblMod 1 false [0, 0]) = 0 ∧ structureFault false false (.tblIns 1 false true [0, 0]) = 0 ∧
    structureFault false false (.tblDel 1 false true [0]) = 0 ∧ structureFault false false (.tblMod 1 false [0, 0]) = 0 ∧
    (∃ t, State.reset.insertDirect 1 [0] 0 0 = .ok t) ∧ (∃ f, State.reset.deleteDirect 1 [0] = .error f) ∧
    (∃ f, State.reset.modifyDirect 1 [0] 0 0 = .error f) ∧ (∃ f, State.reset.deleteStaged 0 1 [0] = .error f) ∧
    (∃ f, State.reset.modifyStaged 0 1 [0] 0 0 = .error f) :=
  ⟨by decide, by decide, by decide, by decide, by decide, by decide, ⟨_, rfl⟩, ⟨_, rfl⟩, ⟨_, rfl⟩, ⟨_, rfl⟩, ⟨_, rfl⟩⟩

theorem witness_commit_orders : structureFault true true (.commit 0) = 0 ∧ structureFault true true (.leafSwap 0) = 0 ∧
    structureFault false false (.leafSwap 0) = 0 ∧
    (∃ bounds, ((holds { running (.commit 0) with stage := none }).admission 0 [] false).1 = .admitted bounds ∧
      ((holds { running (.commit 0) with stage := none }).admission 0 [] false).2.meetsCommit [] false 0 = false) :=
  ⟨by decide, by decide, by decide, ⟨_, rfl, by decide⟩⟩

theorem witness_direct_leaf :
    (let s := holds (running (.leafWr 511 77 0 0 false)).ran
     ((s.otherSets .console).flatMap itemKeys).contains (1, tuKey 511 77) = false ∧ (∀ c ∈ s.bureau.commits, c.leafSwap = false) ∧
       s.flag R.TSI_Q_STAT_COPYING (leafQuadrant (tuKey 511 77)) = false) ∧
    (let s := (holds (running .nop)).setFlag R.TSI_Q_STAT_COPYING 3 true
     s.flag R.TSI_Q_STAT_COPYING (leafQuadrant (tuKey 511 77)) = true) ∧
    structureFault false false (.leafWr 511 77 0 0 false) = 0 ∧ structureFault true true (.leafWr 511 77 0 0 false) = 0 ∧
    (holds (staging .nop).ran).writeFault .console [] 0 (.leafWr 511 77 0 0 false) = none := by decide

theorem witness_direct_time :
    structureFault false false (.tbStep 7 false 0 0) = 0 ∧ structureFault false false (.tbRate 7 0) = 0 ∧
    structureFault false false (.tbRearm 7) = 0 ∧ structureFault false false (.snap 0xD0 3) = 0 ∧
    ((holds (running .nop)).setFld R.TIME_TB_STAT_STEP 7 1).stepCause 7 false 0 = 0 ∧
    ((holds (running .nop)).setFld R.TIME_TB_STAT_STEP 7 2).stepCause 7 false 0 = 2 ∧
    ((holds (running .nop)).setFld R.TIME_TB_STAT_STEP 7 2).fld R.TIME_TB_STAT_STEP 7 = 2 ∧
    (holds (running .nop)).epoch.cutoffDone = false ∧ (holds (running .nop)).epoch.snapNow.contains (0xD0, 3) = false ∧
    ({ State.reset with epoch := { State.reset.epoch with snapNow := [(0xD0, 3)] } } : State).epoch.snapNow.contains (0xD0, 3) = true := by
  decide

theorem witness_direct_power : structureFault false false (.sprintArm true) = 0 ∧ structureFault false false (.freezePermit 1) = 0 ∧
    (holds (running (.sprintArm true))).forcedOff R.PWR_SPRINT_STAT_LC 0 = false ∧
    (holds (running (.sprintArm true))).fld R.PWR_SPRINT_STAT_LC 0 = lifeBits .off none ∧
    (holds (running (.freezePermit 1))).otp.freeze = false ∧
    ({ State.reset with otp := { State.reset.otp with freeze := true } } : State).otp.freeze = true := by decide

theorem witness_pair_orders : structureFault false false (.pairRole true) = 0 ∧ structureFault false false (.pairSwap 1) = 0 ∧
    (with' [(R.PAIR_STAT_PEER_ROLE, 0, 1)]).peerRole = 1 ∧ State.reset.peerRole ≠ 1 ∧ (with' [(R.PAIR_STAT_ROLE, 0, 1)]).role = 1 ∧
    (with' [(R.PAIR_STAT_ROLE, 0, 4)]).role = 4 ∧ State.reset.role = 0 ∧ State.reset.linkUp = false ∧
    (let s : State := { with' [(R.PAIR_STAT_ROLE, 0, 1), (R.PAIR_STAT_PEER_ROLE, 0, 3), (R.PAIR_STAT_LINK_UP, 0, 1)] with
       pair := { State.reset.pair with peerReady := true } }
     s.role = 1 ∧ s.linkUp = true ∧ s.peerRole = 3 ∧ s.pair.peerReady = true) := by decide

/-- OTP with an enrolled slot 0, and with slots 0 and 7 enrolled. -/
def fused (n : Nat) : State :=
  { State.reset with otp := { State.reset.otp with slots := (if n = 7 then [(0, ⟨true, false, [], []⟩), (7, ⟨true, false, [], []⟩)] else [(0, ⟨true, false, [], []⟩)]) } }

theorem witness_security : structureFault false false (.fwLoad 0 0 0) = 0 ∧ structureFault false false (.keyEnrol 7 []) = 0 ∧
    structureFault false false (.keyRevoke 7) = 0 ∧ structureFault false false (.charterSet 0 0 0 0) = 0 ∧
    OrderQueue.host 0 ≠ .console ∧ ([] : List Byte).length = (0 : Word64).toNat ∧ State.reset.imageFault 0 [] = some (5, 6) ∧
    (State.reset.otp.slot 7).enrolled = false ∧ ((fused 7).otp.slot 7).enrolled = true ∧ ((fused 7).otp.slot 7).inUse = true ∧
    (∃ k, k < 8 ∧ k ≠ 7 ∧ ((fused 7).otp.slot k).inUse = true) ∧ (State.reset.otp.slot 7).inUse = false ∧
    (∀ k, k < 8 → k ≠ 0 → ((fused 0).otp.slot k).inUse = false) ∧
    charterBodyOk (charterIndex 0 0) (State.reset.charterSeq (charterIndex 0 0)) (running .nop).recordHere = false := by
  refine ⟨by decide, by decide, by decide, by decide, by decide, by decide, by decide, by decide, by decide, by decide,
    ⟨0, by decide⟩, by decide, by decide, by decide⟩

/-- The body of a Charter record for index 0, with CHARTER_SEQ 1. -/
def charterBody : List Byte := leBytes 8 (0x43485254 * 2 ^ 32 + 2 ^ 24 + (charterName 0).1 * 2 ^ 20 + (charterName 0).2 * 2 ^ 16) ++
  leBytes 8 1 ++ List.replicate 48 0

/-- That record with a signature block of zeros. -/
def charterRecord : List Byte := charterBody ++ List.replicate 17056 0

theorem word_of_body (k : Nat) (h : k + 8 ≤ 64) : wordAt charterRecord k = wordAt charterBody k := by
  have e : charterBody.length = 64 := by decide
  simp only [wordAt, charterRecord]
  rw [List.drop_append_of_le_length (by omega), List.take_append_of_le_length (by simp [e]; omega)]

theorem witness_charter_body : charterBodyOk 0 0 charterRecord = true := by
  have e : charterRecord.length = charterLen := by
    rw [charterRecord, List.length_append, List.length_replicate]; decide
  have h0 : wordAt charterRecord 0 = wordAt charterBody 0 := word_of_body 0 (by omega)
  have h8 : wordAt charterRecord 8 = wordAt charterBody 8 := word_of_body 8 (by omega)
  have h16 : wordAt charterRecord 16 = wordAt charterBody 16 := word_of_body 16 (by omega)
  have h24 : wordAt charterRecord 24 = wordAt charterBody 24 := word_of_body 24 (by omega)
  have h32 : wordAt charterRecord 32 = wordAt charterBody 32 := word_of_body 32 (by omega)
  have h40 : wordAt charterRecord 40 = wordAt charterBody 40 := word_of_body 40 (by omega)
  have h48 : wordAt charterRecord 48 = wordAt charterBody 48 := word_of_body 48 (by omega)
  have h56 : wordAt charterRecord 56 = wordAt charterBody 56 := word_of_body 56 (by omega)
  have hr : (List.range 5).all (fun k => wordAt charterRecord (24 + 8 * k) == 0) = true := by
    simp [List.range, List.range.loop, h24, h32, h40, h48, h56]; decide
  have hw : wordAt charterBody 16 = 0 := by decide
  simp only [charterBodyOk, e, h0, h8, h16, hr, hw]
  decide

theorem witness_attest : structureFault false false (.attest [0, 0, 0, 0] 0 0) = 0 ∧ State.reset.auth.signing = none ∧
    ({ State.reset with auth := { State.reset.auth with identity := true, signing := some 3 } } : State).auth.identity = true ∧
    ({ State.reset with auth := { State.reset.auth with identity := false } } : State).auth.identity = false ∧
    (let b := { running .nop with phase := .attesting, report := some ([], 0) }
     let s : State := { holds b with auth := { State.reset.auth with signing := some (queueUnit .console) } }
     s.Acts ∧ s.slot .console = some b ∧ b.report = some ([], 0) ∧ s.auth.signing = some (queueUnit .console) ∧
       (holds b).auth.signing ≠ some (queueUnit .console)) := by
  refine ⟨by decide, by decide, by decide, by decide, ⟨rfl, rfl⟩, rfl, rfl, rfl, by decide⟩

/-! ### Witnesses: commits and the edge -/

theorem witness_applied : setTarget 0x60018 false 0 0 = some (R.PWR_SPRINT_CFG, 0, 0, 0) ∧ R.PWR_SPRINT_CFG ≠ R.AUTH_OTP_CTL ∧
    R.PWR_SPRINT_CFG ≠ R.PWR_FREEZE_CTL ∧ bit (0x100 : Word64).toNat 8 = true ∧ bits (0x7F : Word64).toNat 6 0 = 127 ∧
    State.reset.otp.rollback < bits (64 : Word64).toNat 6 0 ∧ bits (0 : Word64).toNat 6 0 ≤ State.reset.otp.rollback ∧
    (1048575 : Nat) < 2 ^ 20 ∧ State.reset.portLife 1023 = .off ∧ (with' [(R.PORT_STAT_LC, 0, 2)]).portLife 0 ≠ .off ∧
    State.reset.portOfLane 511 = none ∧ State.reset.stfLane 511 = false ∧ State.reset.life R.TIME_TPO_STAT_LC 15 = .off ∧ (15 : Nat) < 16 := by
  decide

/-- A commit of the console's bundle that waits for islands. -/
def waitingCommit (outstanding attempt : Nat) (resend : Bool) : Commit :=
  { id := 0, queue := queueUnit .console, items := [], leafSwap := false, named := 0, outstanding := outstanding, lastAcks := 0,
    attempt := attempt, resend := resend, expired := none, edge := none, paired := none, peerReady := false, bounds := [] }

/-- The state after reset with a commit in progress. -/
def committing (c : Commit) : State := { State.reset with bureau := { State.reset.bureau with commits := [c] } }

theorem witness_acknowledgements : (committing (waitingCommit (2 ^ 39) 1 false)).Acts ∧
    (committing (waitingCommit (2 ^ 39) 1 false)).commitOf .console = some (waitingCommit (2 ^ 39) 1 false) ∧
    bit (waitingCommit (2 ^ 39) 1 false).outstanding 39 = true ∧ bit (waitingCommit (2 ^ 39) 1 false).outstanding 0 = false ∧
    (committing (waitingCommit (2 ^ 39) 1 false)).withholds 39 [] = false ∧ (waitingCommit 0 1 true).resend = true ∧
    (waitingCommit (2 ^ 39) 1 false).incomplete = true ∧ (waitingCommit 0 1 false).incomplete = false ∧
    onesOf 40 (waitingCommit (2 ^ 39) 2 false).outstanding = 39 :: [] ∧ (waitingCommit (2 ^ 39) 2 false).attempt ≠ 1 :=
  ⟨⟨rfl, rfl⟩, rfl, by decide⟩

theorem witness_edge : State.reset.Acts ∧ State.reset.epoch.cutoffDone = false ∧ State.reset.role = 0 ∧
    State.reset.fld R.DEV_VERSION_LIVE 0 < 4 ∧ (∀ c ∈ (committing (waitingCommit 0 1 false)).bureau.commits, c.leafSwap = false) ∧
    State.reset.pair.marker = none ∧ State.reset.linkUp = false := ⟨reset_acts, by decide⟩

/-! ### Witnesses: frames -/

/-- A frame of 64 bytes with a destination, a type, an opcode and a good FCS. -/
def frame (dest type op : Nat) : List Byte :=
  let d := beBytes 6 dest ++ beBytes 6 0 ++ beBytes 2 type ++ beBytes 2 op ++ List.replicate 44 0
  d ++ leBytes 4 (crc32 d)

/-- The state after reset with port `p` On and linked. -/
def linked (p : Nat) : State := with' [(R.PORT_STAT_LC, p, lifeBits .on none), (R.PORT_STAT_LINK_UP, p, 1)]

theorem witness_frame_reception : (linked 1023).Acts ∧ ((linked 1023).advance 0).receives 1023 = true ∧
    (((linked 1023).advance 0).port 1023).arriving = none ∧ (State.reset.advance 0).receives 1023 = false ∧
    ((State.reset.port 0).input.length < 64) ∧ ((linked 1023).advance 0).portNearLoop 1023 = false ∧
    ((linked 1023).advance 0).portFarLoop 1023 = false :=
  ⟨⟨rfl, rfl⟩, by decide⟩

/-- Port 0, On and linked, with its lane's loopback as given. -/
def loopedPort (mode : Nat) : State :=
  with' [(R.PORT_STAT_LC, 0, lifeBits .on none), (R.PORT_STAT_LINK_UP, 0, 1), (R.LANE_STAT_LC, 0, lifeBits .on none), (R.LANE_CFG_LOOPBACK, 0, mode)]

theorem witness_loopback : ((loopedPort 1).advance 0).portNearLoop 0 = true ∧ (((loopedPort 1).advance 0).port 0).looped = [] ∧
    ((loopedPort 3).advance 0).portNearLoop 0 = false ∧ ((loopedPort 3).advance 0).portFarLoop 0 = true ∧
    ((((loopedPort 1).updPort 0 (fun q => { q with looped := [[0]] })).advance 0).port 0).looped = [0] :: [] := by decide

/-- R162: the order of the checks, and the frames that pass them. -/
theorem test_receive_checks : rxFailure (frame 0 0x0800 0) 64 false false = none ∧ rxFailure (frame 0 0x0800 0) 63 false false = some 21 ∧
    rxFailure (frame 0 0x0800 0) 64 true true = some 23 ∧ rxFailure (frame 0 0x0800 0) 64 false true = some 24 ∧
    rxFailure ((frame 0 0x0800 0).drop 1) 64 false false = some 20 ∧ rxFailure ((frame 0 0x0800 0).set 0 1) 64 false false = some 18 := by
  decide

theorem witness_frame_kinds : be16At (frame 0 0x0800 0) (typeOffset (frame 0 0x0800 0)) ≠ 0x8808 ∧ lengthWrong (frame 0 0x0800 0) = false ∧
    be16At (frame 0 0x8808 1) (typeOffset (frame 0 0x8808 1)) = 0x8808 ∧ be16At (frame 0 0x8808 1) (typeOffset (frame 0 0x8808 1) + 2) = 0x0001 ∧
    be16At (frame 0x0180C2000001 0x8808 0x101) (typeOffset (frame 0x0180C2000001 0x8808 0x101) + 2) = 0x0101 ∧
    beNat ((frame 0x0180C2000001 0x8808 0x101).take 6) = 0x0180C2000001 ∧ rxFailure (frame 0 0x8808 1) 64 false false = none ∧
    rxFailure (frame 0 0x8808 2) 64 false false = none ∧
    be16At (frame 0 0x8808 2) (typeOffset (frame 0 0x8808 2) + 2) ≠ 0x0001 ∧ be16At (frame 0 0x8808 2) (typeOffset (frame 0 0x8808 2) + 2) ≠ 0x0101 := by
  decide

/-- What is known of a frame of 64 bytes. -/
def info : FrameInfo :=
  { inPort := 0, version := 0, arrived := 0, stampFree := [], stampValue := [], vector := ParseVector.start (frame 0 0x0800 0), edits := [],
    ruleId := 0, meter := none }

/-- A stored frame, a frame that arrives, a copy of a frame of one cell, and its sending. -/
def stored : Stored := ⟨frame 0 0x0800 0, 0, [], []⟩
@[inherit_doc stored] def arriving : Arriving := ⟨0, 256, 0, 1, 1, 0, false⟩
@[inherit_doc stored] def aCopy : Copy := Copy.fresh .plain 64 0 info
@[inherit_doc stored] def sending (tag : Option Nat) (cut : Option Nat) (cells : Nat) : Sending :=
  { copy := { aCopy with stamp := tag, frame := cut, cells := cells }, cell := 5, gen := 0, taken := 0, raw := [], counted := 0, correction := none,
    origin := none, cut := cut.isSome, started := true, stamped := false }

theorem witness_ingress : State.reset.Runs ∧ ((State.reset.advance 0).port 1023).input = [] ∧
    (let s := State.reset.updPort 0 (fun q => { q with input := [stored] })
     ((s.advance 0).port 0).input = stored :: [] ∧ (((s.updPort 0 (fun q => { q with input := [] })).pipeCount 0 0 1).classify 0 stored).2 = none) ∧
    (let s := State.reset.updPort 0 (fun q => { q with arriving := some arriving })
     ((s.advance 0).port 0).arriving = some arriving ∧ arriving.got < 512 ∧ 512 % 256 = 0 ∧ arriving.dead = false) ∧
    actionBits [0x1000000000000000, 0, 0, 0] 0 63 60 = 1 ∧ actionBits [0x1000000000000000, 0, 0, 0] 2 63 63 = 0 ∧
    actionBits [0x1000000000000000, 0, 0, 0] 0 59 59 = 0 :=
  ⟨reset_runs, by decide⟩

/-- An open TCAM entry of pipeline 0 that every frame matches. -/
def catchAll : State := { State.reset with tcam := [(tcamKey 0 false 0, ⟨List.replicate 20 0, 0, 0, .applied⟩)] }

theorem witness_classified : ((catchAll.pipeCount 0 0 1).classify 0 stored).2 = some (0, List.replicate 4 0) := by decide

theorem witness_patterns :
    (let s : State := { with' [(R.PIPE_PAT_STAT_LC, 7, lifeBits .on none)] with scans := [(14, [⟨4, frame 0 0x0800 0, info, 0, []⟩])] }
     s.Runs ∧ s.life R.PIPE_PAT_STAT_LC 7 = .on ∧ SMap.get [] s.scans (2 * 7) = ⟨4, frame 0 0x0800 0, info, 0, []⟩ :: []) ∧
    (let s : State := { with' [(R.PIPE_PAT_STAT_LC, 7, lifeBits .stopping none)] with scans := [(15, [⟨4, frame 0 0x0800 0, info, 0, []⟩])] }
     s.life R.PIPE_PAT_STAT_LC 7 = .stopping ∧ SMap.get [] s.scans (2 * 7) = [] ∧
       SMap.get [] s.scans (2 * 7 + 1) = ⟨4, frame 0 0x0800 0, info, 0, []⟩ :: []) ∧
    -- a reserved frame behind an earlier frame of its port
    (let r : Scan := ⟨5, frame 0 0x0800 0, info, 0, []⟩
     let s : State := { with' [(R.PIPE_PAT_STAT_LC, 7, lifeBits .on none)] with scans := [(14, [r]), (15, [⟨4, frame 0 0x0800 0, info, 0, []⟩])] }
     SMap.get [] s.scans (2 * 7) = [r] ∧
       (∃ g ∈ SMap.get [] s.scans (2 * 7 + 1), g.info.inPort = r.info.inPort ∧ g.order < r.order)) ∧
    State.reset.life R.PIPE_PAT_STAT_LC 7 = .off :=
  ⟨⟨⟨⟨rfl, rfl⟩, by decide⟩, by decide, by decide⟩, by decide, by decide⟩

/-- Port 0 On and linked, with a copy in its first queue. -/
def queued (c : Copy) : State := (linked 0).updQueue 0 (fun q => { q with port := some 0, life := lifeBits .on none, weight := 1, copies := [c] })

theorem witness_dequeue : (queued aCopy).Runs ∧ (((queued aCopy).advance 0).port 0).sending = none ∧
    (((queued aCopy).advance 0).choose 0).map (fun e => (e.1, e.2.1)) = some (0, aCopy) ∧
    ((((queued aCopy).advance 0).choose 0).map (fun e => (e.2.2.expired info, (e.2.2.egressAction 0 0 aCopy).isSome))) = some (false, false) ∧
    ((((queued aCopy).advance 0).choose 0).map (fun e => decide (aCopy.wireLen info.edits ≤ e.2.2.fld R.PORT_CFG_MAX_FRAME 0))) = some true ∧
    (((queued aCopy).advance 0).choose 0).map (fun e => ((e.2.2.cell aCopy.head).marked, (e.2.2.cell aCopy.head).lost)) = some (false, false) ∧
    ((State.reset.setCell 655359 { Cell.empty with marked := true }).cell 655359).marked = true ∧
    (queued aCopy).expired { info with version := 200 } = true ∧ State.reset.flag R.PORT_STAT_LINK_UP 0 = false ∧
    (with' [(R.PORT_CFG_MAX_FRAME, 0, 63)]).fld R.PORT_CFG_MAX_FRAME 0 < aCopy.wireLen info.edits ∧
    State.reset.portLife 0 ≠ .stopping :=
  ⟨⟨⟨rfl, rfl⟩, by decide⟩, by decide⟩

theorem witness_pfc_due : (((queued aCopy).advance 0).port 0).pfcDue = false ∧ (State.reset.advance 0).choose 0 = none ∧
    (((State.reset.updPort 0 (fun q => { q with pfcDue := true })).advance 0).port 0).pfcDue = true := by decide

theorem witness_egress_action :
    (let s : State := { queued aCopy with tcam := [(tcamKey 0 true 0, ⟨List.replicate 16 0 ++ [0x1000000000000000, 0, 0, 0], 0, 0, .applied⟩)] }
     (s.egressAction 0 0 aCopy) = some [0x1000000000000000, 0, 0, 0]) := by decide

theorem witness_timestamps :
    (let s := State.reset.updPort 511 (fun q => { q with sending := some (sending (some 7) none 1) })
     s.Acts ∧ ((s.advance 0).port 511).sending = some (sending (some 7) none 1) ∧ (sending (some 7) none 1).copy.stamp = some 7 ∧
       (sending (some 7) none 1).stamped = false ∧
       ((s.advance 0).fld R.PORT_TSF_WR_WR 511 + 65536 - (s.advance 0).fld R.PORT_TSF_RD_RD 511) % 65536 ≠ 64) ∧
    (let s := with' [(R.PORT_TSF_WR_WR, 511, 63), (R.PORT_TSF_RD_RD, 511, 65535)]
     (s.fld R.PORT_TSF_WR_WR 511 + 65536 - s.fld R.PORT_TSF_RD_RD 511) % 65536 = 64) ∧
    (sending none none 1).copy.stamp = none ∧ (State.reset.port 511).sending = none :=
  ⟨⟨⟨rfl, rfl⟩, by decide⟩, by decide⟩

/-- A cell with references. -/
def aCell (refs gen : Nat) (marked : Bool) : Cell := ⟨refs, gen, 0xFFFFF, [], marked, false⟩

theorem witness_cells :
    (let s := State.reset.setCell 655359 (aCell 2 15 false)
     s.Runs ∧ (s.port 1023).sending = none ∧ (s.cell 655359).gen = 15 ∧ 2 ≤ (s.cell 655359).refcnt ∧ (s.cell 655359).gen ≠ 14) ∧
    (let s := State.reset.setCell 655359 (aCell 1 15 false)
     (s.cell 655359).refcnt = 1 ∧ (s.cell 655359).marked = false) ∧
    (State.reset.setCell 655359 (aCell 0 15 false)).cell 655359 = aCell 0 15 false ∧
    (let s := State.reset.updPort 1023 (fun q => { q with sending := some (sending none (some 0) 2) })
     (s.port 1023).sending = some (sending none (some 0) 2) ∧ (sending none (some 0) 1).copy.frame ≠ none ∧
       (sending none (some 0) 1).taken + 1 = (sending none (some 0) 1).copy.cells ∧ (sending none (some 0) 2).taken + 1 ≠ (sending none (some 0) 2).copy.cells ∧
       (sending none none 1).copy.frame = none) ∧
    State.reset.fld R.PORT_CT_THRESH_THRESH 1023 < 8 ∧ State.reset.fld R.PORT_CT_THRESH_THRESH 1023 ≠ 7 ∧
    (with' [(R.PORT_CT_THRESH_THRESH, 1023, 8)]).fld R.PORT_CT_THRESH_THRESH 1023 = 8 ∧
    (let s := State.reset.setCupboard 3 ⟨[(0, 255)], [(300, 128)]⟩
     runsLen (s.cupboard 3).cache < 256 ∧ runsLen (s.cupboard 3).ring ≠ 0) ∧
    (let s := State.reset.setCupboard 3 ⟨[(0, 256)], []⟩
     256 ≤ runsLen (s.cupboard 3).cache) :=
  ⟨⟨⟨⟨rfl, rfl⟩, by decide⟩, by decide⟩, by decide⟩

theorem witness_flow_control :
    (let s := (with' [(R.PORT_CFG_PAUSE_RX_EN, 1023, 1)]).updPort 1023 (fun q => { q with control := [.pause 65535] })
     s.Acts ∧ (s.port 1023).control = .pause 65535 :: [] ∧ s.flag R.PORT_CFG_PAUSE_RX_EN 1023 = true) ∧
    (let s := State.reset.updPort 1023 (fun q => { q with control := [.pfc 255 [1, 2, 3, 4, 5, 6, 7, 65535]], pfcDue := true, resend := true })
     (s.port 1023).control = .pfc 255 [1, 2, 3, 4, 5, 6, 7, 65535] :: [] ∧ (s.port 1023).pfcDue = true ∧ (s.port 1023).resend = true ∧
       (s.port 1023).sending = none ∧ s.flag R.PORT_CFG_PAUSE_RX_EN 1023 = false) ∧
    (let s := State.reset.updPort 511 (fun q => { q with sending := some (sending none none 1), resend := true })
     (s.port 511).sending ≠ none ∧ (s.port 511).resend = true) ∧ isChannel 1023 = true ∧ isChannel 511 = false ∧
    (State.reset.txLanes 511).any (fun n => State.reset.fld R.LANE_TEST_GEN_PAT n != 0 || State.reset.fld R.LANE_CFG_LOOPBACK n == 3 ||
      (State.reset.lane n).outOfService) = false ∧
    (linked 1023).flag R.PORT_STAT_LINK_UP 1023 = true ∧ ((linked 1023).port 1023).pfcDue = false ∧
    (with' [(R.PORT_STAT_FEC, 511, 1), (R.PORT_STAT_LC, 511, lifeBits .on none)]).flag R.PORT_STAT_FEC 511 = true ∧
    (with' [(R.PORT_STAT_FEC, 511, 1), (R.PORT_STAT_LC, 511, lifeBits .on none)]).portLife 511 ≠ .off :=
  ⟨⟨⟨rfl, rfl⟩, by decide⟩, by decide⟩

theorem witness_queues :
    (let s := State.reset.updQueue 65535 (fun q => { q with moving := true, life := lifeBits .stopping none })
     s.Runs ∧ (s.queue 65535).moving = true ∧ (s.queue 65535).life = lifeBits .stopping none ∧ (s.queue 65535).copies = [] ∧
       (s.queue 65535).port = none) ∧ (State.reset.queue 65535).moving = false ∧
    (let s := State.reset.updQueue 65535 (fun q => { q with port := some 1023 })
     (s.queue 65535).port = some 1023 ∧ after (s.queue 65535).finish (s.tierV 1023 (s.queue 65535).tier) = false) ∧
    ((queued aCopy).queue 0).copies ≠ [] ∧ State.reset.scrub = [] ∧
    (let s : State := { State.reset with scrub := [655359], quarantine := [3, 655359] }
     s.scrub = 655359 :: [] ∧ 655359 ≠ 0xFFFFF ∧ s.quarantine.filter (fun c => c == 655359) = [655359] ∧ 4 ∉ s.quarantine) :=
  ⟨⟨⟨⟨rfl, rfl⟩, by decide⟩, by decide⟩, by decide⟩

/-! ### Witnesses: lanes, links, life cycles -/

/-- The state after reset with lane `n` in a life-cycle state. -/
def laneIn (n bits : Nat) : State := with' [(R.LANE_STAT_LC, n, bits), (R.LANE_STAT_TX_PWR, n, 0)]

theorem witness_lanes : State.reset.life R.LANE_STAT_LC 511 ≠ .starting ∧ State.reset.life R.LANE_STAT_LC 511 ≠ .stopping ∧
    (laneIn 511 (lifeBits .starting none)).life R.LANE_STAT_LC 511 = .starting ∧
    (laneIn 511 (lifeBits .stopping none)).life R.LANE_STAT_LC 511 = .stopping ∧
    (let f := ((laneIn 511 (lifeBits .starting none)).setFld R.LANE_STAT_LC 511 (lifeFail (lifeBits .starting none))).raiseOf EV_LANE_START_FAIL 511
     f.portOfLane 511 = none) ∧
    (let s := (with' [(R.LANE_STAT_LC, 511, lifeBits .starting none), (R.PORT_STAT_LC, 3, lifeBits .starting none)]).updLane 511
       (fun l => { l with port := some 3 })
     s.portOfLane 511 = some 3 ∧ s.portLife 3 = .starting) ∧
    R.LANE_STAT_LC.hi < 64 ∧ R.LANE_STAT_LC.hi = R.LANE_STAT_LC.lo + 3 := by decide

theorem witness_octets :
    (let s := with' [(R.LANE_OCT_REF_AUTO_BACKUP, 63, 1)]
     (s.raiseOf EV_OCT_REF 63).flag R.LANE_OCT_REF_AUTO_BACKUP 63 = true ∧ [15].contains (refclkOf 63 true) = false) ∧
    ((with' [(R.LANE_OCT_REF_AUTO_BACKUP, 63, 0)]).raiseOf EV_OCT_REF 63).flag R.LANE_OCT_REF_AUTO_BACKUP 63 = false ∧
    [14, 15].contains (refclkOf 63 true) = true := by decide

theorem witness_recalibration : (laneIn 511 (lifeBits .on none)).laneOn 511 = true ∧ (laneIn 511 (lifeBits .on none)).fld R.LANE_STAT_TX_PWR 511 ≤ 1 ∧
    State.reset.laneOn 511 = false ∧ (State.reset.lane 511).recalTx = false ∧ (State.reset.lane 511).recalRx = false ∧
    (let s := State.reset.updLane 511 (fun l => { l with recalTx := true, recalRx := true })
     (s.lane 511).recalTx = true ∧ (s.lane 511).recalRx = true) ∧
    (let s := State.reset.updLane 511 (fun l => { l with outOfService := true })
     (s.lane 511).recalTx = false ∧ (s.lane 511).recalRx = false ∧ (s.lane 511).outOfService = true) ∧
    (State.reset.lane 511).outOfService = false ∧
    (with' [(R.LANE_STAT_TX_PWR, 511, 2), (R.LANE_STAT_RX_PWR, 511, 2)]).fld R.LANE_STAT_RX_PWR 511 > 1 ∧
    (laneIn 511 (lifeBits .on none)).nearLoop 511 = false ∧
    (with' [(R.LANE_STAT_LC, 511, lifeBits .on none), (R.LANE_CFG_LOOPBACK, 511, 1), (R.LANE_TEST_GEN_PAT, 511, 5)]).nearLoop 511 = true ∧
    ((laneIn 511 (lifeBits .on none)).signalSeen 511).fld R.LANE_TEST_CHK_PAT 511 = 0 ∧
    ((with' [(R.LANE_STAT_LC, 511, lifeBits .on none), (R.LANE_TEST_CHK_PAT, 511, 5)]).signalSeen 511).fld R.LANE_TEST_CHK_PAT 511 ≠ 0 := by
  decide

/-- Lane 511 On and of port 3, which is an Ethernet port that is On. -/
def ofPort (am mode : Nat) : State :=
  (with' [(R.LANE_STAT_LC, 511, lifeBits .on none), (R.LANE_STAT_AM_LOCK, 511, am), (R.PORT_STAT_LC, 3, lifeBits .on none),
    (R.PORT_STAT_MODE, 3, mode)]).updLane 511 (fun l => { l with port := some 3 })

theorem witness_links : State.reset.laneOn 511 = false ∧ (laneIn 511 (lifeBits .on none)).laneOn 511 = true ∧ State.reset.stfLane 511 = false ∧
    State.reset.portOfLane 511 = none ∧ (ofPort 0 0).portOfLane 511 = some 3 ∧ (ofPort 0 0).portMode 3 = 0 ∧ (ofPort 0 0).laneOn 511 = true ∧
    (ofPort 0 0).flag R.LANE_STAT_AM_LOCK 511 = false ∧ (ofPort 1 0).flag R.LANE_STAT_AM_LOCK 511 = true ∧
    (((((ofPort 0 0).signalSeen 511).setAmLock 511 true).updPort 3 (fun r => { r with deskewed := true })).relink 3).portOfLane 511 = some 3 ∧
    ((((ofPort 1 0).setAmLock 511 false).updPort 3 (fun r => { r with deskewed := true })).relink 3).portOfLane 511 = some 3 ∧
    ((ofPort 0 0).lane 511).outOfService = false ∧
    (((ofPort 0 0).updLane 511 (fun l => { l with outOfService := true })).lane 511).outOfService = true ∧
    (ofPort 0 1).portMode 3 ≠ 0 ∧ State.reset.portLife 511 = .off ∧ (ofPort 0 0).portLife 3 = .on ∧ (1 : Nat) % 2 = 1 ∧ (0 : Nat) % 2 = 0 := by
  decide

theorem witness_thinning :
    (let s := (with' [(R.PORT_STAT_LC, 511, lifeBits .on none)]).updPort 511 (fun q => { q with own := some ⟨false, 1, 2, 1, true, false⟩ })
     s.portLife 511 = .on ∧ (s.port 511).own = some ⟨false, 1, 2, 1, true, false⟩ ∧ (s.port 511).peer = none ∧
       s.txHolds 511 ⟨false, 1, 2, 1, true, false⟩ = false) ∧
    (let s := (with' [(R.PORT_STAT_LC, 0, lifeBits .on none), (R.PORT_STAT_MODE, 0, 0), (R.PORT_STAT_LANES, 0, 3)]).updPort 0
       (fun q => { q with peer := some ⟨true, 3, 0, 1, true, false⟩, rxWidth := 1 }) |>.updLane 7 (fun l => { l with recalRx := true })
     (s.port 0).peer = some ⟨true, 3, 0, 1, true, false⟩ ∧ s.rxHolds 0 = true ∧ s.portMode 0 ≠ 1 ∧ (s.peerSwitch 0).portMode 0 = s.portMode 0) ∧
    -- an announcement that has not begun, a held one to widen, and a closed one
    (let s := (with' [(R.PORT_STAT_LC, 511, lifeBits .on none)]).updPort 511 (fun q => { q with own := some ⟨true, 1, 2, 9, false, false⟩ })
     s.rxHolds 511 = false ∧ (s.port 511).own = some ⟨true, 1, 2, 9, false, false⟩) ∧
    (let s := (with' [(R.PORT_STAT_LC, 511, lifeBits .on none)]).updPort 511 (fun q => { q with own := some ⟨true, 1, 2, 9, true, false⟩, held := true })
     s.rxHolds 511 = false ∧ s.txHolds 511 ⟨true, 1, 2, 9, true, false⟩ = true) ∧
    (let s := (with' [(R.PORT_STAT_LC, 511, lifeBits .on none)]).updPort 511 (fun q => { q with own := some ⟨false, 1, 2, 0, true, true⟩ })
     s.rxHolds 511 = false ∧ s.txHolds 511 ⟨false, 1, 2, 0, true, true⟩ = false) ∧
    (with' [(R.PORT_STAT_MODE, 511, 1)]).portMode 511 = 1 ∧
    (State.reset.port 511).own = none ∧ (State.reset.port 511).peer = none ∧ State.reset.portLife 511 ≠ .on ∧
    bits (BitVec.ofNat 24 (thinWordOf 1 3 7 1023)).toNat 4 0 = thinCheck (BitVec.ofNat 24 (thinWordOf 1 3 7 1023)).toNat ∧
    bits (BitVec.ofNat 24 (thinWordOf 1 3 7 1023)).toNat 23 20 = 1 ∧ bits (BitVec.ofNat 24 (thinWordOf 3 3 0 0)).toNat 23 20 = 3 ∧
    bits (BitVec.ofNat 24 (thinWordOf 3 3 0 0)).toNat 4 0 = thinCheck (BitVec.ofNat 24 (thinWordOf 3 3 0 0)).toNat ∧
    bits (0x100001 : BitVec 24).toNat 4 0 ≠ thinCheck (0x100001 : BitVec 24).toNat := by decide

theorem witness_transitions :
    (let s := with' [(R.PORT_STAT_LC, 511, lifeBits .starting none), (R.LANE_STAT_LC, 511, lifeBits .on none)]
     s.portLife 511 = .starting ∧ s.lanesOf 511 = [0] ∧ s.laneOn 0 = false) ∧
    (let s := with' [(R.PORT_STAT_LC, 0, lifeBits .starting none), (R.LANE_STAT_LC, 0, lifeBits .on none)]
     s.portLife 0 = .starting ∧ (∀ n ∈ s.lanesOf 0, s.laneOn n = true)) ∧
    (let s := with' [(R.PORT_STAT_LC, 511, lifeBits .stopping none)]
     s.portLife 511 = .stopping ∧ (s.port 511).draining = false ∧ (∀ n ∈ s.lanesOf 511, s.life R.LANE_STAT_LC n = .off)) ∧
    (with' [(R.PORT_STAT_LC, 1023, lifeBits .starting none)]).portLife (512 + 511) = .starting ∧
    (with' [(R.PORT_STAT_LC, 1023, lifeBits .stopping none)]).portLife (512 + 511) = .stopping ∧
    ((with' [(R.PORT_STAT_LC, 1023, lifeBits .stopping none)]).port 1023).draining = false ∧ (State.reset.channel 1023).tx = [] ∧
    ((State.reset.updChannel 1023 (fun c => { c with tx := [0] })).channel 1023).tx ≠ [] ∧
    ((State.reset.updPort 1023 (fun q => { q with draining := true })).port 1023).draining = true ∧ State.reset.portLife 1023 ≠ .stopping := by decide

theorem witness_unit_transitions :
    (with' [(R.TSI_Q_STAT_LC, 3, lifeBits .starting none)]).life R.TSI_Q_STAT_LC 3 = .starting ∧
    (with' [(R.TSI_Q_STAT_LC, 3, lifeBits .stopping none)]).life R.TSI_Q_STAT_LC 3 = .stopping ∧ State.reset.life R.TSI_Q_STAT_LC 3 = .off ∧
    State.reset.flag R.TSI_Q_STAT_COPYING 3 = false ∧ (with' [(R.TSI_Q_STAT_COPYING, 3, 1)]).flag R.TSI_Q_STAT_COPYING 3 = true ∧
    (with' [(R.PIPE_PAT_STAT_LC, 7, lifeBits .starting none)]).life R.PIPE_PAT_STAT_LC 7 = .starting ∧
    (let s := with' [(R.PIPE_PAT_STAT_LC, 7, lifeBits .stopping none)]
     s.life R.PIPE_PAT_STAT_LC 7 = .stopping ∧ SMap.get [] s.scans (2 * 7) = [] ∧ SMap.get [] s.scans (2 * 7 + 1) = [] ∧
       ((s.lifeEnd R.PIPE_PAT_STAT_LC 7 .off).raiseOf EV_PAT_STATE 7).life R.PIPE_PAT_STAT_LC 7 ≠ .starting) ∧
    (let s := (with' [(R.TIME_TPO_STAT_LC, 15, lifeBits .starting none)]).updPulse 15 (fun p => { p with next := some 5 })
     s.life R.TIME_TPO_STAT_LC 15 = .starting ∧ (s.pulse 15).stored = none ∧ (s.pulse 15).next ≠ none) ∧
    (let s := with' [(R.TIME_TPO_STAT_LC, 15, lifeBits .stopping none)]
     s.life R.TIME_TPO_STAT_LC 15 = .stopping ∧ (s.pulse 15).stored = none ∧ s.fld R.TIME_TPO_STAT_LC 15 = lifeBits .stopping none) := by decide

/-! ### Witnesses: STF lanes -/

/-- Lane 511 as an STF lane that is On, with fields changed. -/
def stfOn (fs : List (Fld × Nat × Nat)) : State := with' ([(R.LANE_STAT_LC, 511, lifeBits .on none), (R.LANE_STAT_CLASS, 511, 3),
  (R.LANE_STAT_TX_PWR, 511, 0), (R.LANE_STAT_RX_PWR, 511, 0)] ++ fs)

theorem witness_stf_blocks : State.reset.stfLane 511 = false ∧ (stfOn []).stfLane 511 = true ∧ (stfOn []).fld R.LANE_STAT_RX_PWR 511 = 0 ∧
    ((stfOn []).signalSeen 511).flag R.LANE_STAT_BLOCK_LOCK 511 = false ∧
    ((stfOn [(R.LANE_STAT_BLOCK_LOCK, 511, 1)]).signalSeen 511).flag R.LANE_STAT_BLOCK_LOCK 511 = true ∧ (0 : BitVec 2) ≠ 1 ∧
    ((((stfOn []).updLane 511 (fun l => { l with huntGood := 63 })).signalSeen 511).lane 511).huntGood = 63 ∧
    (((stfOn []).signalSeen 511).lane 511).huntGood ≠ 63 ∧
    ((((stfOn []).updLane 511 (fun l => { l with windowBad := 15 })).signalSeen 511).lane 511).windowBad = 15 ∧
    (((stfOn []).signalSeen 511).lane 511).windowSeen ≠ 63 ∧ (stfOn [(R.LANE_STAT_RX_PWR, 511, 2)]).fld R.LANE_STAT_RX_PWR 511 ≠ 0 := by decide

/-- The operations before a block or a frame start leave what these statements ask of a lane. -/
theorem witness_stf_due :
    (let u := ((stfOn []).advance 0).sendDue
     u.fld R.LANE_CFG_LOOPBACK 511 = 0 ∧ u.stfLane 511 = true ∧ u.fld R.LANE_STAT_RX_PWR 511 = 0 ∧ (u.lane 511).outOfService = false ∧
       u.fld R.LANE_STAT_TX_PWR 511 = 0 ∧ u.expressOf 511 = none ∧ (u.stfOf 511).due = false ∧ (u.stfOf 511).looped = [] ∧ u.laneOn 511 = true) ∧
    (let u := (((stfOn []).updStf 511 (fun x => { x with due := true, looped := [0] })).advance 0).sendDue
     (u.stfOf 511).due = true ∧ (u.stfOf 511).looped = 0 :: [] ∧ u.phaseChanges 511 = false) ∧
    (((stfOn [(R.LANE_CFG_LOOPBACK, 511, 1)]).advance 0).sendDue).fld R.LANE_CFG_LOOPBACK 511 = 1 ∧
    (((stfOn [(R.LANE_CFG_LOOPBACK, 511, 3)]).advance 0).sendDue).fld R.LANE_CFG_LOOPBACK 511 = 3 := by decide

/-- A frame that an STF lane sends, before its word `n`. -/
def txFrame (n : Nat) : TxFrame := ⟨n, 0, none, List.replicate 5 0, false, false, false, 1, 0⟩

theorem witness_stf_words :
    (let s := (stfOn []).updStf 511 (fun x => { x with frame := some (txFrame 4) })
     (s.stfOf 511).frame = some (txFrame 4) ∧ s.fld R.LANE_TEST_GEN_PAT 511 = 0 ∧ (s.lane 511).outOfService = false ∧
       s.fld R.LANE_CFG_LOOPBACK 511 = 0) ∧ (txFrame 1).words < 2 ∧ (txFrame 200000).words = 200000 ∧
    (let s := (stfOn [(R.STF_STAT_ALIGN, 511, 2)]).updStf 511 (fun x => { x with ready := true, framed := true })
     s.stfLane 511 = true ∧ s.fld R.STF_STAT_ALIGN 511 = 2 ∧ (s.stfOf 511).ready = true ∧ (s.stfOf 511).framed = true) ∧
    (let s := State.reset.updTu (tuKey 511 77) (fun u => { u with arrived := [(0x42, 7)], seen := true })
     (s.tu (tuKey 511 77)).arrived = (0x42, 7) :: [] ∧ (s.tu (tuKey 511 77)).seen = true) ∧ (State.reset.tu (tuKey 511 77)).arrived = [] ∧
    (let s := (with' [(R.STF_TU_PTR_RX_STATE, tuKey 511 77, 0)]).updTu (tuKey 511 77) (fun u => { u with span := { u.span with live := true } })
     s.tuLive (tuKey 511 77) = true ∧ s.chanOf 511 77 = none) := by decide

theorem witness_stf_frames : (stfOn [(R.STF_STAT_ALIGN, 511, 2)]).stfLane 511 = true ∧ (stfOn [(R.STF_STAT_ALIGN, 511, 2)]).fld R.STF_STAT_ALIGN 511 = 2 ∧
    (stfOn []).fld R.STF_STAT_ALIGN 511 ≠ 2 ∧ (((stfOn []).updStf 511 (fun x => { x with due := true })).stfOf 511).due = true ∧
    (((stfOn []).updStf 511 (fun x => { x with framed := true, masked := true })).stfOf 511).masked = true ∧
    (State.reset.stfOf 511).masked = false ∧ (State.reset.stfOf 511).due = false ∧ (stfOn []).expressOf 511 = none ∧
    (stfOn []).fld R.LANE_STAT_TX_PWR 511 = 0 := by decide

/-- R197, and the worked example of R205's step 7. -/
theorem test_stf_seed : stfSeed 0x003D097A 0x0C13 = 0x0634897A := by decide

theorem witness_delineation :
    headerCrc 1518 = bits (0x05EEFE1A : BitVec 32).toNat 15 0 ∧ bits (0x05EEFE1A : BitVec 32).toNat 31 16 = 1518 ∧
    headerCrc 0 = bits (0x00001D0F : BitVec 32).toNat 15 0 ∧ headerCrc 0 ≠ bits (0 : BitVec 32).toNat 15 0 ∧
    (let s := stfOn [(R.STF_STAT_ALIGN, 511, 2), (R.STF_CFG_MGMT_EN, 511, 1), (R.STF_STAT_AIS, 511, 0)]
     s.stfLane 511 = true ∧ s.fld R.STF_STAT_ALIGN 511 = 2 ∧ s.flag R.STF_CFG_MGMT_EN 511 = true ∧ s.flag R.STF_STAT_AIS 511 = false ∧
       (Delin.mk 2 0 0).header 1 2048 (0x05EEFE1A : BitVec 32).toNat = (⟨2, 0, 0⟩, 1)) ∧
    State.reset.portLife (512 + 511) = .off ∧ (with' [(R.PORT_STAT_LC, 1023, lifeBits .on none)]).portLife (512 + 511) ≠ .off ∧
    (with' [(R.PORT_CHAN_STAT_RX_FAIL, 511, 0)]).flag R.PORT_CHAN_STAT_RX_FAIL 511 = false ∧
    (with' [(R.PORT_CHAN_STAT_RX_FAIL, 511, 1)]).flag R.PORT_CHAN_STAT_RX_FAIL 511 = true ∧
    (Delin.mk 2 0 0).header 64 9216 0 = (⟨2, 0, 1⟩, 2) ∧ (Delin.mk 2 0 2).header 64 9216 0 = (⟨0, 0, 0⟩, 3) ∧
    ((State.reset.updStf 511 (fun x => { x with mgmt := ⟨1, 0, 0⟩ })).stfOf 511).mgmt.st = 1 ∧ (State.reset.stfOf 511).mgmt.st ≠ 1 ∧
    ((State.reset.updChannel 1023 (fun c => { c with delin := ⟨1, 0, 0⟩ })).channel (512 + 511)).delin.st = 1 := by decide

/-- A stream in SYNC with a frame of one byte, one in HUNT whose header is bad, and one too short for a header. -/
theorem test_streams : (Stream.mk ⟨2, 0, 0⟩ (headerBytes 1 ++ [0xAB, 0xCD]) 0).take 1 2048 = (⟨⟨2, 0, 0⟩, [0xCD], 0⟩, 1, [0xAB]) ∧
    (Stream.mk ⟨0, 0, 0⟩ [1, 2, 3, 4, 5] 0).take 1 2048 = (⟨⟨0, 0, 0⟩, [2, 3, 4, 5], 0⟩, 0, []) ∧
    (Stream.mk ⟨2, 0, 0⟩ [1, 2, 3] 0).take 1 2048 = (⟨⟨2, 0, 0⟩, [1, 2, 3], 0⟩, 0, []) := by decide

/-! ### Witnesses: time -/

/-- Time base 0 with source 6 and LOCK_N updates to lock. -/
def servoed : State := with' [(R.TIME_TB_CFG_SOURCE, 0, 6), (R.TIME_TB_CFG_LOCK_N, 0, 2), (R.STF_STAT_ALIGN, 0, 2)]

theorem witness_servo : State.reset.freqError 7 = none ∧ servoed.freqError 0 = some 0 ∧ servoed.tbState 0 ≠ tbHoldover ∧
    (State.reset.servo 7).armed = none ∧ ((State.reset.updServo 0 (fun r => { r with armed := some (5, -1) })).servo 0).armed = some (5, -1) ∧
    (with' [(R.TIME_TB_CFG_SOURCE, 1, 1), (R.TIME_TB_STAT_STEP, 1, 2)]).source 1 ≠ 6 ∧ ¬ (State.reset.epoch.target ≤ max 5 (State.reset.tbGet 0).value) ∧
    State.reset.epoch.target ≤ max State.reset.epoch.target (State.reset.tbGet 0).value := by decide

theorem witness_pulses :
    (let s := (with' [(R.TIME_TPO_STAT_LC, 15, lifeBits .on none)]).updPulse 15 (fun p => { p with next := some 0 })
     s.Acts ∧ s.life R.TIME_TPO_STAT_LC 15 = .on ∧ (s.pulse 15).next = some 0) ∧
    State.reset.life R.TIME_TPO_STAT_LC 15 ≠ .on ∧ (State.reset.pulse 15).next = none ∧
    State.reset.flag R.TIME_TPO_CFG_TRAIN 15 = false ∧ (with' [(R.TIME_TPO_CFG_TRAIN, 15, 1)]).flag R.TIME_TPO_CFG_TRAIN 15 = true :=
  ⟨⟨⟨rfl, rfl⟩, by decide⟩, by decide⟩

theorem witness_timing_inputs :
    ((State.reset.advance 0).fld R.TIME_TIN_CFG_EDGE 3 = 0 ↔ true = true) ∧ ¬ ((State.reset.advance 0).fld R.TIME_TIN_CFG_EDGE 3 = 0 ↔ false = true) ∧
    State.reset.fld R.TIME_TIN_CFG_MODE 3 = 0 ∧ (with' [(R.TIME_TIN_CFG_MODE, 3, 1)]).fld R.TIME_TIN_CFG_MODE 3 = 1 ∧
    (with' [(R.TIME_TIN_CFG_MODE, 3, 2)]).fld R.TIME_TIN_CFG_MODE 3 = 2 ∧ (State.reset.tin 3).edge = none ∧
    (let s : State := { State.reset with tins := [(3, { TimeIn.reset with edge := some 0 })], now := 999900000 * 65536 }
     (s.tin 3).edge = some 0 ∧ 999900000 * 65536 ≤ s.now - 0 ∧ s.now - 0 ≤ 1000100000 * 65536) ∧
    (1000100000 * 65536 < (1000100000 * 65536 + 1) - 0) ∧ ((999900000 * 65536 - 1) - 0 < 999900000 * 65536) := by decide

/-! ### Witnesses: tables -/

/-- A learn notice of pipeline 7. -/
def notice : Notice := ⟨1, 0, 7, false, 0, 0⟩

theorem witness_learning :
    (let s : State := { State.reset with learnQ := [(7, [notice])], notices := [notice] }
     s.Runs ∧ SMap.get [] s.learnQ 7 = notice :: [] ∧ s.role ≠ 3 ∧ s.notices.find? (fun n => n.key == 1 && n.pipe == 7) = some notice) ∧
    SMap.get [] State.reset.learnQ 7 = [] ∧ (with' [(R.PAIR_STAT_ROLE, 0, 3)]).role = 3 ∧
    (∀ n ∈ State.reset.notices, ¬ (n.key = 1 ∧ n.pipe = 7)) :=
  ⟨⟨⟨⟨rfl, rfl⟩, by decide⟩, by decide⟩, by decide⟩

/-- A device whose table holds one L2 entry that ages, with HIT and IDLE as given. -/
def aged (result0 : Nat) : State :=
  { with' [(R.TBL_AGE_CFG_AGE_EN, 0, 1)] with sweep := some ⟨0, 1, []⟩, table := [(placeKey 7 5, ⟨[1], result0, 0, 0, 0, none, false, false⟩)] }

theorem witness_ageing :
    (let e : TblEntry := ⟨[1], 2 ^ 42 + 2 ^ 32, 0, 0, 0, none, false, false⟩
     (aged (2 ^ 42 + 2 ^ 32)).Runs ∧ SMap.find (aged (2 ^ 42 + 2 ^ 32)).table (placeKey 7 5) = some e ∧ e.agable = true ∧
       (aged (2 ^ 42 + 2 ^ 32)).flag R.TBL_AGE_CFG_AGE_EN 0 = true ∧ (aged (2 ^ 42 + 2 ^ 32)).role ≠ 3 ∧ (aged (2 ^ 42 + 2 ^ 32)).sharedKey 7 e.key = false ∧
       (aged (2 ^ 42 + 2 ^ 32)).openEntry 7 e.key = some (placeKey 7 5, e) ∧ bits e.result0 42 42 = 1) ∧
    (let e : TblEntry := ⟨[1], 2 ^ 32, 0, 0, 0, none, false, false⟩
     (aged (2 ^ 32)).openEntry 7 e.key = some (placeKey 7 5, e) ∧ e.agable = true ∧ bits e.result0 42 42 = 0 ∧ bits e.result0 31 31 = 0) ∧
    (let e : TblEntry := ⟨[1], 2 ^ 32 + 2 ^ 31, 0, 0, 0, none, false, false⟩
     (aged (2 ^ 32 + 2 ^ 31)).openEntry 7 e.key = some (placeKey 7 5, e) ∧ e.agable = true ∧ bits e.result0 42 42 = 0 ∧ bits e.result0 31 31 = 1) ∧
    (aged 0).sweep = some ⟨0, 1, []⟩ ∧ placeKey 7 5 ∉ ((⟨0, 1, []⟩ : Sweep).at (aged 0).sweepLength (aged 0).now).visited ∧
    placeKey 7 5 ∈ ((⟨0, 1, [placeKey 7 5]⟩ : Sweep).at (aged 0).sweepLength (aged 0).now).visited ∧ State.reset.sweep = none ∧
    SMap.find State.reset.table (placeKey 7 5) = none ∧ (with' [(R.TBL_AGE_CFG_AGE_EN, 0, 0)]).flag R.TBL_AGE_CFG_AGE_EN 0 = false := by
  refine ⟨⟨⟨⟨rfl, rfl⟩, by decide⟩, by decide⟩, by decide⟩

/-- A shadow ring with a posted descriptor. -/
def posted : State := with' [(R.TBL_SHADOW_SIZE_SIZE, 0, 16), (R.TBL_SHADOW_TAIL_TAIL, 0, 1)]

theorem witness_shadow : State.reset.Runs ∧ State.reset.shadowPosted = false ∧ posted.Runs ∧ posted.shadowPosted = true ∧ posted.shadow = none ∧
    (64 : Word64).toNat % 64 = 0 ∧ (1 : Word64).toNat % 64 ≠ 0 ∧
    (let s : State := { posted with shadow := some ⟨true, 0⟩ }
     s.shadow = some ⟨true, 0⟩ ∧ (∀ e ∈ s.table, e.2.staged = true ∨ e.2.mark = true)) ∧
    (let s : State := { posted with shadow := some ⟨false, 0⟩ }
     s.shadow = some ⟨false, 0⟩ ∧ (∀ r, s.shadow = some r → r.last = false)) := by
  refine ⟨reset_runs, by decide, ⟨⟨rfl, rfl⟩, by decide⟩, by decide, by decide, by decide, by decide, by decide, rfl, ?_⟩
  intro r h; cases h; rfl

/-! ### Witnesses: the pair -/

/-- A device in a role with a link and a peer in a role. -/
def paired (role peer : Nat) : State :=
  with' [(R.PAIR_STAT_ROLE, 0, role), (R.PAIR_STAT_PEER_ROLE, 0, peer), (R.PAIR_STAT_LINK_UP, 0, 1)]

/-- A copy of no content for epoch 0. -/
def copy0 : Sideboard := ⟨0, [], [], [], [], [], [], [], [], [], 0, none, none⟩

theorem witness_pair_reception : (paired 3 1).Acts ∧ (paired 3 1).linkUp = true ∧ (paired 3 1).peerRole ≠ 7 ∧ (paired 3 1).role ≠ 1 ∧
    (paired 3 1).flag R.PAIR_STAT_FENCE_OUT 0 = false ∧ (⟨4, false, true, 0, 0, none, 0⟩ : Heartbeat).role < 5 ∧ (paired 3 1).role = 3 ∧
    (paired 3 1).epoch.cutoffDone = false ∧ (copy0.epoch : Int) = (paired 3 1).epochNum + (paired 3 1).pair.shift ∧ (paired 1 3).role = 1 ∧
    ((1 : Nat) : Int) ≠ (paired 3 1).epochNum + (paired 3 1).pair.shift ∧
    (let c := { waitingCommit 0 1 false with paired := some 9 }
     (∃ d ∈ (committing c).bureau.commits, d.paired = some 9 ∧ d.peerReady = false) ∧
       (∀ d ∈ (committing c).bureau.commits, d.paired = some 8 → d.peerReady = true)) ∧
    (let s : State := { paired 1 3 with pair := { State.reset.pair with ownRecords := [(9, [0, 0, 0, 0])] } }
     SMap.find s.pair.ownRecords 9 = some [0, 0, 0, 0] ∧ s.role = 1) ∧ SMap.find State.reset.pair.ownRecords 9 = none ∧
    recordCompared [0, 0, 0, 0] = recordCompared [0, 0, 0, 0] := ⟨⟨rfl, rfl⟩, by decide⟩

theorem witness_pair_failure : (paired 3 1).Acts ∧ (paired 3 1).role = 3 ∧ (paired 1 3).role = 1 ∧ (paired 2 1).role ≠ 3 ∧ (paired 2 1).role ≠ 1 ∧
    (with' [(R.PAIR_STAT_PEER_ROLE, 0, 7)]).peerRole = 7 ∧ (with' [(R.PAIR_STAT_PEER_ROLE, 0, 7)]).linkUp = false ∧
    (with' [(R.PAIR_CFG_TAKEOVER_EN, 0, 0)]).flag R.PAIR_CFG_TAKEOVER_EN 0 = false ∧ State.reset.pair.txOff = false ∧
    ({ State.reset with pair := { State.reset.pair with txOff := true } } : State).pair.txOff = true ∧
    (9 : Nat) < 10 ∧ (10 : Nat) ≤ 9 + 1 ∧ 4 ≤ popCount 8 0x0F ∧ popCount 8 0x07 < 4 ∧ 4 ≤ popCount 8 (withBits 0x07 3 3 1) ∧
    popCount 8 (withBits 0x0F 3 3 0) < 4 ∧ (true && !(paired 3 1).flag R.PAIR_STAT_FAIL_OUT 0) = true ∧
    (true && !(paired 1 3).flag R.PAIR_STAT_FENCE_OUT 0) = true := ⟨⟨rfl, rfl⟩, by decide⟩

/-! ### Witnesses: reset and power -/

theorem witness_boot : State.reset.Acts ∧ State.reset.fld R.PWR_STAT_BOOT_STEP 0 = 1 ∧ (with' [(R.PWR_STAT_BOOT_STEP, 0, 5)]).fld R.PWR_STAT_BOOT_STEP 0 = 5 ∧
    (with' [(R.PWR_STAT_BOOT_STEP, 0, 5)]).auth.entering = [] ∧ (with' [(R.PWR_STAT_BOOT_STEP, 0, 5)]).fld R.PWR_STAT_BOOT_STEP 0 ≠ 1 ∧
    State.reset.refLost = [] ∧
    ({ State.reset with flash := { State.reset.flash with directory := 5 } } : State).flash.directory = 5 := ⟨reset_acts, by decide⟩

theorem witness_samples : ((List.replicate 12 (some (400 : Int)) ++ List.replicate 12 none).take 24).filterMap id = List.replicate 12 400 ∧
    ((List.replicate 24 none).take 24 : List (Option Int)).filterMap id = [] ∧
    (let s := with' [(R.PWR_STAT_ALERT, 0, 1), (R.PWR_THERM_TJ_PEAK, 0, 1839)]
     s.sprinting = false ∧ s.flag R.PWR_STAT_ALERT 0 = true ∧ ((((s.fld R.PWR_THERM_CFG_ALERT_C 0 : Nat) : Int) - 3) * 16 < 1839) ∧
       s.sfld R.PWR_THERM_TJ_PEAK 0 ≥ 1839) ∧
    (let s := with' [(R.PWR_ICORE_I_PEAK, 0, 1023)]
     s.fld R.PWR_ICORE_I_PEAK 0 ≥ 559 ∧ s.fld R.PWR_ICORE_I_PEAK 0 ≥ min 1023 560 ∧ s.sprinting = false ∧ s.fld R.PWR_SPRINT_STAT_CLOCK 0 = 0 ∧
       s.power.surge ≠ 999) := by decide

theorem witness_power : State.reset.Runs ∧ (State.reset.advance 0).power.credit ≠ 0 ∧
    ({ State.reset with power := { State.reset.power with credit := 0 } } : State).power.credit = 0 ∧
    (State.reset.advance 0).fld R.PWR_SPRINT_STAT_CLOCK 0 = (State.reset.advance 0).power.target ∧
    (let s : State := { State.reset with power := { State.reset.power with target := 2 }, tb := [(0, ⟨20000 * nsUnits, 20000 * nsUnits⟩)] }
     s.fld R.PWR_SPRINT_STAT_CLOCK 0 ≠ s.power.target ∧ s.mayStep = true ∧ s.power.target ≠ 0) ∧ State.reset.power.target = 0 ∧
    (with' [(R.PWR_STAT_TRIPPED, 0, 1)]).flag R.PWR_STAT_TRIPPED 0 = true := ⟨reset_runs, by decide⟩

theorem witness_freeze :
    (let s : State := { State.reset with otp := { State.reset.otp with freeze := true }, power := { State.reset.power with permitted := true } }
     s.Acts ∧ s.otp.freeze = true ∧ s.power.permitted = true) ∧ State.reset.otp.freeze = false ∧ State.reset.power.permitted = false :=
  ⟨⟨⟨rfl, rfl⟩, rfl, rfl⟩, rfl, rfl⟩

/-! ### Worked examples of the manual -/

/-- The example of R80: the staged state of its set goes to IS00, IS08, IS20 and IS28. -/
theorem test_example_islands : (State.reset.setIslandMap [.portUp 16 16 3 4 1 0, .qCfg 128 16 0 0 0 0] false) = 2 ^ 0 + 2 ^ 8 + 2 ^ 20 + 2 ^ 28 := by
  decide

/-- The words of the same example. -/
theorem test_example_words : orderInstr 0x40 0x400004021C400000 [] = .portUp 16 16 3 4 1 0 ∧ orderWord (.portUp 16 16 3 4 1 0) 0 false = 0x400004021C400000 ∧
    orderWord (.commit 4000120) 0 false = 0x12000000003D0978 := by decide

/-- The device of the example "clearing a status that moves": SEQ 0x40, RSEQ 0x9C40. -/
def erring : State := { with' [(⟨R.DEV_EVT, 31, 24⟩, 0, 0x40), (R.HDMA_EVR_SIZE_SIZE, 0, 256)] with rseq := 0x9C40 }

/-- Its first access, and its second. -/
def firstError : State := erring.busError true 1 { off := 0x100CC, len := 2, be := 3, value := 0, requester := 0x300 }
@[inherit_doc firstError] def secondError : State := firstError.busError false 4 { off := 0x10600, len := 4, be := 15, value := 0, requester := 0x300 }

theorem test_bus_error_example : busCause true { off := 0x100CC, len := 2, be := 3, value := 0, requester := 0x300 } = 1 ∧
    busCause false { off := 0x10600, len := 4, be := 15, value := 0, requester := 0x300 } = 4 ∧
    firstError.reg R.DEV_BUSERR_ADDR 0 = 0x100CC ∧ firstError.reg R.DEV_BUSERR_INFO 0 = 0x03000193 ∧ firstError.reg R.DEV_EVT 0 = 0x41000001 ∧
    secondError.reg R.DEV_BUSERR_ADDR 0 = 0x10600 ∧ secondError.reg R.DEV_BUSERR_INFO 0 = 0x0300024F ∧ secondError.reg R.DEV_EVT 0 = 0x42000001 := by
  decide

theorem test_bus_error_records : (secondError.evq.map (fun e => e.words.getD 0 0)) = [0x4101000000009C40, 0x4201000000009C41] := by decide

/-- The example's write-backs: with a SEQ that has moved nothing clears; with the current one BUSERR clears and COUNT is 0. -/
theorem test_write_back_example : (match exec (.sequenceWriteBack 8 0x41000001) secondError with
      | .next t => t.reg R.DEV_EVT 0 = 0x42000001 ∧ t.fld R.DEV_BUSERR_INFO_COUNT 0 = 2
      | _ => False) ∧
    (match exec (.sequenceWriteBack 8 0x42000001) secondError with
      | .next t => t.reg R.DEV_EVT 0 = 0x42000000 ∧ t.fld R.DEV_BUSERR_INFO_COUNT 0 = 0
      | _ => False) := by
  constructor <;> (show _ ∧ _) <;> decide


/-! ### Operands that do not fit -/

theorem test_wf_set : (Instr.set .console 33554431 false false 0 0).wf = true ∧
    (Instr.set .console 33554432 false false 0 0).wf = false := by decide
theorem test_wf_get : (Instr.get .console 15 33554431 true).wf = true ∧
    (Instr.get .console 16 33554431 true).wf = false ∧
    (Instr.get .console 15 33554432 true).wf = false := by decide
theorem test_wf_check : (Instr.check .console 15 15 0 0).wf = true ∧
    (Instr.check .console 16 15 0 0).wf = false ∧
    (Instr.check .console 15 16 0 0).wf = false := by decide
theorem test_wf_waitEpoch : (Instr.waitEpoch .console false 281474976710655).wf = true ∧
    (Instr.waitEpoch .console false 281474976710656).wf = false := by decide
theorem test_wf_waitEvent : (Instr.waitEvent .console 4095 4095 16777215).wf = true ∧
    (Instr.waitEvent .console 4096 4095 16777215).wf = false ∧
    (Instr.waitEvent .console 4095 4096 16777215).wf = false ∧
    (Instr.waitEvent .console 4095 4095 16777216).wf = false := by decide
theorem test_wf_commit : (Instr.commit .console 281474976710655).wf = true ∧
    (Instr.commit .console 281474976710656).wf = false := by decide
theorem test_wf_tblIns : (Instr.tblIns .console 255 false false (List.replicate 2 0) []).wf = true ∧
    (Instr.tblIns .console 256 false false (List.replicate 2 0) []).wf = false ∧
    (Instr.tblIns .console 255 false false (List.replicate 7 0) []).wf = false ∧
    (Instr.tblIns .console 255 false false (List.replicate 1 0) []).wf = false := by decide
theorem test_wf_tblIns_2 : (Instr.tblIns .console 255 true false (List.replicate 7 0) []).wf = true ∧
    (Instr.tblIns .console 255 true false (List.replicate 2 0) []).wf = false ∧
    (Instr.tblIns .console 255 false false (List.replicate 2 0) [(7, 1048575, true)]).wf = true ∧
    (Instr.tblIns .console 255 false false (List.replicate 2 0) [(7, 1048576, true)]).wf = false := by decide
theorem test_wf_tblDel : (Instr.tblDel .console 255 false false (List.replicate 1 0) []).wf = true ∧
    (Instr.tblDel .console 256 false false (List.replicate 1 0) []).wf = false ∧
    (Instr.tblDel .console 255 false false (List.replicate 5 0) []).wf = false := by decide
theorem test_wf_tblDel_2 : (Instr.tblDel .console 255 true false (List.replicate 5 0) []).wf = true ∧
    (Instr.tblDel .console 255 true false (List.replicate 1 0) []).wf = false := by decide
theorem test_wf_tblMod : (Instr.tblMod .console 255 false (List.replicate 2 0) []).wf = true ∧
    (Instr.tblMod .console 256 false (List.replicate 2 0) []).wf = false ∧
    (Instr.tblMod .console 255 false (List.replicate 7 0) []).wf = false := by decide
theorem test_wf_tblMod_2 : (Instr.tblMod .console 255 true (List.replicate 7 0) []).wf = true ∧
    (Instr.tblMod .console 255 true (List.replicate 2 0) []).wf = false := by decide
theorem test_wf_tcamWr : (Instr.tcamWr .console 7 16383 true false (List.replicate 20 0)).wf = true ∧
    (Instr.tcamWr .console 8 16383 true false (List.replicate 20 0)).wf = false ∧
    (Instr.tcamWr .console 7 16384 true false (List.replicate 20 0)).wf = false ∧
    (Instr.tcamWr .console 7 16383 true false (List.replicate 19 0)).wf = false ∧
    (Instr.tcamWr .console 7 16383 true true (List.replicate 20 0)).wf = false := by decide
theorem test_wf_tcamWr_2 : (Instr.tcamWr .console 7 16383 false true []).wf = true ∧
    (Instr.tcamWr .console 7 16383 false true (List.replicate 20 0)).wf = false := by decide
theorem test_wf_parseLoad : (Instr.parseLoad .console 255 255 (List.replicate 4 0)).wf = true ∧
    (Instr.parseLoad .console 256 255 (List.replicate 4 0)).wf = false ∧
    (Instr.parseLoad .console 255 256 (List.replicate 4 0)).wf = false ∧
    (Instr.parseLoad .console 255 255 (List.replicate 6 0)).wf = false ∧
    (Instr.parseLoad .console 255 255 []).wf = false ∧
    (Instr.parseLoad .console 255 255 (List.replicate 1028 0)).wf = false := by decide
theorem test_wf_patLoad : (Instr.patLoad .console 255 4095 (List.replicate 9 0)).wf = true ∧
    (Instr.patLoad .console 256 4095 (List.replicate 9 0)).wf = false ∧
    (Instr.patLoad .console 255 4096 (List.replicate 9 0)).wf = false ∧
    (Instr.patLoad .console 255 4095 (List.replicate 10 0)).wf = false ∧
    (Instr.patLoad .console 255 4095 []).wf = false ∧
    (Instr.patLoad .console 255 4095 (List.replicate 2313 0)).wf = false := by decide
theorem test_wf_leafWr : (Instr.leafWr .console 511 127 511 127 false).wf = true ∧
    (Instr.leafWr .console 512 127 511 127 false).wf = false ∧
    (Instr.leafWr .console 511 128 511 127 false).wf = false ∧
    (Instr.leafWr .console 511 127 512 127 false).wf = false ∧
    (Instr.leafWr .console 511 127 511 128 false).wf = false := by decide
theorem test_wf_leafSwap : (Instr.leafSwap .console 281474976710655).wf = true ∧
    (Instr.leafSwap .console 281474976710656).wf = false := by decide
theorem test_wf_tuMap : (Instr.tuMap .console 511 127 255).wf = true ∧
    (Instr.tuMap .console 512 127 255).wf = false ∧
    (Instr.tuMap .console 511 128 255).wf = false ∧
    (Instr.tuMap .console 511 127 256).wf = false := by decide
theorem test_wf_chanBind : (Instr.chanBind .console 1023 511 false 0 0).wf = true ∧
    (Instr.chanBind .console 1024 511 false 0 0).wf = false ∧
    (Instr.chanBind .console 1023 512 false 0 0).wf = false := by decide
theorem test_wf_portUp : (Instr.portUp .console 1023 511 3 7 3 3).wf = true ∧
    (Instr.portUp .console 1024 511 3 7 3 3).wf = false ∧
    (Instr.portUp .console 1023 512 3 7 3 3).wf = false ∧
    (Instr.portUp .console 1023 511 4 7 3 3).wf = false ∧
    (Instr.portUp .console 1023 511 3 8 3 3).wf = false ∧
    (Instr.portUp .console 1023 511 3 7 4 3).wf = false ∧
    (Instr.portUp .console 1023 511 3 7 3 4).wf = false := by decide
theorem test_wf_portDown : (Instr.portDown .console 1023).wf = true ∧
    (Instr.portDown .console 1024).wf = false := by decide
theorem test_wf_laneCfg : (Instr.laneCfg .console 511 127 4294967295).wf = true ∧
    (Instr.laneCfg .console 512 127 4294967295).wf = false ∧
    (Instr.laneCfg .console 511 128 4294967295).wf = false ∧
    (Instr.laneCfg .console 511 127 4294967296).wf = false := by decide
theorem test_wf_recal : (Instr.recal .console 511).wf = true ∧
    (Instr.recal .console 512).wf = false := by decide
theorem test_wf_testEn : (Instr.testEn .console 511 1).wf = true ∧
    (Instr.testEn .console 512 1).wf = false := by decide
theorem test_wf_gen : (Instr.gen .console 511 1).wf = true ∧
    (Instr.gen .console 512 1).wf = false := by decide
theorem test_wf_injFire : (Instr.injFire .console 511).wf = true ∧
    (Instr.injFire .console 512).wf = false := by decide
theorem test_wf_chkClear : (Instr.chkClear .console 511).wf = true ∧
    (Instr.chkClear .console 512).wf = false := by decide
theorem test_wf_qCfg : (Instr.qCfg .console 65535 1023 3 7 0 0).wf = true ∧
    (Instr.qCfg .console 65536 1023 3 7 0 0).wf = false ∧
    (Instr.qCfg .console 65535 1024 3 7 0 0).wf = false ∧
    (Instr.qCfg .console 65535 1023 4 7 0 0).wf = false ∧
    (Instr.qCfg .console 65535 1023 3 8 0 0).wf = false := by decide
theorem test_wf_meterCfg : (Instr.meterCfg .console 131071 3 false 0 0).wf = true ∧
    (Instr.meterCfg .console 131072 3 false 0 0).wf = false ∧
    (Instr.meterCfg .console 131071 4 false 0 0).wf = false := by decide
theorem test_wf_rsvDecl : (Instr.rsvDecl .console 16383 131071 65535 false 0 0).wf = true ∧
    (Instr.rsvDecl .console 16384 131071 65535 false 0 0).wf = false ∧
    (Instr.rsvDecl .console 16383 131072 65535 false 0 0).wf = false ∧
    (Instr.rsvDecl .console 16383 131071 65536 false 0 0).wf = false := by decide
theorem test_wf_tbStep : (Instr.tbStep .console 7 false 0 0).wf = true ∧
    (Instr.tbStep .console 8 false 0 0).wf = false := by decide
theorem test_wf_tbRate : (Instr.tbRate .console 7 1099511627775).wf = true ∧
    (Instr.tbRate .console 8 1099511627775).wf = false ∧
    (Instr.tbRate .console 7 1099511627776).wf = false := by decide
theorem test_wf_tbRearm : (Instr.tbRearm .console 7).wf = true ∧
    (Instr.tbRearm .console 8).wf = false := by decide
theorem test_wf_pulseSet : (Instr.pulseSet .console 15 7 true true 0 0 0).wf = true ∧
    (Instr.pulseSet .console 16 7 true true 0 0 0).wf = false ∧
    (Instr.pulseSet .console 15 8 true true 0 0 0).wf = false := by decide
theorem test_wf_snap : (Instr.snap .console 255 4095).wf = true ∧
    (Instr.snap .console 256 4095).wf = false ∧
    (Instr.snap .console 255 4096).wf = false := by decide
theorem test_wf_pairSwap : (Instr.pairSwap .console 281474976710655).wf = true ∧
    (Instr.pairSwap .console 281474976710656).wf = false := by decide
theorem test_wf_freezePermit : (Instr.freezePermit .console 4294967295).wf = true ∧
    (Instr.freezePermit .console 4294967296).wf = false := by decide
theorem test_wf_fwLoad : (Instr.fwLoad .console 15 0 0 none).wf = true ∧
    (Instr.fwLoad .console 16 0 0 none).wf = false := by decide
theorem test_wf_keyEnrol : (Instr.keyEnrol .console 7 (List.replicate 12 0)).wf = true ∧
    (Instr.keyEnrol .console 8 (List.replicate 12 0)).wf = false ∧
    (Instr.keyEnrol .console 7 (List.replicate 11 0)).wf = false := by decide
theorem test_wf_keyRevoke : (Instr.keyRevoke .console 7).wf = true ∧
    (Instr.keyRevoke .console 8).wf = false := by decide
theorem test_wf_charterSet : (Instr.charterSet .console 15 15 0 0).wf = true ∧
    (Instr.charterSet .console 16 15 0 0).wf = false ∧
    (Instr.charterSet .console 15 16 0 0).wf = false := by decide
theorem test_wf_attest : (Instr.attest .console (List.replicate 4 0) 0 0).wf = true ∧
    (Instr.attest .console (List.replicate 3 0) 0 0).wf = false := by decide
theorem test_wf_patEn : (Instr.patEn .console 7 0 0).wf = true ∧
    (Instr.patEn .console 8 0 0).wf = false := by decide
theorem test_wf_tsiXp : (Instr.tsiXp .console 255 0 0).wf = true ∧
    (Instr.tsiXp .console 256 0 0).wf = false := by decide
theorem test_wf_source : (Instr.source .console 7 0 0).wf = true ∧
    (Instr.source .console 8 0 0).wf = false := by decide
theorem test_wf_lockDecl : (Instr.lockDecl .console 7 0 0).wf = true ∧
    (Instr.lockDecl .console 8 0 0).wf = false := by decide
theorem test_wf_sequenceWriteBack : (Instr.sequenceWriteBack 33554431 0).wf = true ∧
    (Instr.sequenceWriteBack 33554432 0).wf = false := by decide
theorem test_wf_lhLowWordRead : (Instr.lhLowWordRead 33554431 false).wf = true ∧
    (Instr.lhLowWordRead 33554432 false).wf = false := by decide
theorem test_wf_devSnapTrig : (Instr.devSnapTrig 0 65535).wf = true ∧
    (Instr.devSnapTrig 0 65536).wf = false := by decide
theorem test_wf_hostRegisterWrite : (Instr.hostRegisterWrite ⟨33554431, 8, 255, 0, 65535⟩).wf = true ∧
    (Instr.hostRegisterWrite ⟨33554432, 8, 255, 0, 65535⟩).wf = false ∧
    (Instr.hostRegisterWrite ⟨33554431, 0, 15, 0, 65535⟩).wf = false ∧
    (Instr.hostRegisterWrite ⟨33554431, 9, 15, 0, 65535⟩).wf = false ∧
    (Instr.hostRegisterWrite ⟨33554431, 8, 256, 0, 65535⟩).wf = false ∧
    (Instr.hostRegisterWrite ⟨33554431, 8, 255, 0, 65536⟩).wf = false := by decide
theorem test_wf_unsupportedRequest : (Instr.unsupportedRequest ⟨33554431, 8, 15, 0, 65535⟩).wf = true ∧
    (Instr.unsupportedRequest ⟨33554432, 8, 15, 0, 65535⟩).wf = false := by decide
theorem test_wf_storeWrite : (Instr.storeWrite ⟨255, 255, 255, 255, 4294967295, 65535, [], 4294967295⟩).wf = true ∧
    (Instr.storeWrite ⟨256, 255, 255, 255, 4294967295, 65535, [], 4294967295⟩).wf = false ∧
    (Instr.storeWrite ⟨255, 256, 255, 255, 4294967295, 65535, [], 4294967295⟩).wf = false ∧
    (Instr.storeWrite ⟨255, 255, 256, 255, 4294967295, 65535, [], 4294967295⟩).wf = false ∧
    (Instr.storeWrite ⟨255, 255, 255, 256, 4294967295, 65535, [], 4294967295⟩).wf = false ∧
    (Instr.storeWrite ⟨255, 255, 255, 255, 4294967296, 65535, [], 4294967295⟩).wf = false ∧
    (Instr.storeWrite ⟨255, 255, 255, 255, 4294967295, 65536, [], 4294967295⟩).wf = false ∧
    (Instr.storeWrite ⟨255, 255, 255, 255, 4294967295, 65535, [], 4294967296⟩).wf = false := by decide
theorem test_wf_storeRead : (Instr.storeRead ⟨255, 255, 255, 255, 4294967295, 65535, [], 4294967295⟩).wf = true ∧
    (Instr.storeRead ⟨255, 255, 256, 255, 4294967295, 65535, [], 4294967295⟩).wf = false := by decide
theorem test_wf_submit : (Instr.submit ⟨255, 255, 255, 255, 4294967295, 65535, [], 4294967295⟩).wf = true ∧
    (Instr.submit ⟨255, 255, 256, 255, 4294967295, 65535, [], 4294967295⟩).wf = false := by decide
theorem test_wf_cplRead : (Instr.cplRead ⟨255, 255, 255, 255, 4294967295, 65535, [], 4294967295⟩).wf = true ∧
    (Instr.cplRead ⟨255, 255, 256, 255, 4294967295, 65535, [], 4294967295⟩).wf = false := by decide
theorem test_wf_regRead : (Instr.regRead ⟨255, 255, 255, 255, 4294967295, 65535, [], 4294967295⟩).wf = true ∧
    (Instr.regRead ⟨255, 255, 256, 255, 4294967295, 65535, [], 4294967295⟩).wf = false := by decide
theorem test_wf_dustsheetReadOut : (Instr.dustsheetReadOut ⟨255, 255, 255, 255, 4294967295, 65535, [], 4294967295⟩).wf = true ∧
    (Instr.dustsheetReadOut ⟨255, 255, 256, 255, 4294967295, 65535, [], 4294967295⟩).wf = false := by decide
theorem test_wf_inbandReassemblyTimeout : (Instr.inbandReassemblyTimeout 15 65535).wf = true ∧
    (Instr.inbandReassemblyTimeout 16 65535).wf = false ∧
    (Instr.inbandReassemblyTimeout 15 65536).wf = false := by decide
theorem test_wf_frameReceive : (Instr.frameReceive 0 [0] false false 0 0).wf = true ∧
    (Instr.frameReceive 0 [] false false 0 0).wf = false := by decide
theorem test_wf_cellRelease : (Instr.cellRelease 0 1048575 15 none).wf = true ∧
    (Instr.cellRelease 0 1048576 15 none).wf = false ∧
    (Instr.cellRelease 0 1048575 16 none).wf = false := by decide
theorem test_wf_fecCodeword : (Instr.fecCodeword 0 544).wf = true ∧
    (Instr.fecCodeword 0 545).wf = false := by decide
theorem test_wf_txDescriptor : (Instr.txDescriptor 0 (List.replicate 8 0) [] [] 0).wf = true ∧
    (Instr.txDescriptor 0 (List.replicate 7 0) [] [] 0).wf = false := by decide
theorem test_wf_ageSweepVisit : (Instr.ageSweepVisit 0 1048575 none [(0, 1048575, true)]).wf = true ∧
    (Instr.ageSweepVisit 0 1048576 none []).wf = false ∧ (Instr.ageSweepVisit 0 0 none [(0, 1048576, true)]).wf = false := by decide
theorem test_wf_heartbeatReceive : (Instr.heartbeatReceive ⟨4, true, true, 0, 281474976710655, none, 3⟩).wf = true ∧
    (Instr.heartbeatReceive ⟨5, true, true, 0, 281474976710655, none, 3⟩).wf = false ∧
    (Instr.heartbeatReceive ⟨4, true, true, 0, 281474976710656, none, 3⟩).wf = false ∧
    (Instr.heartbeatReceive ⟨4, true, true, 0, 281474976710655, none, 4⟩).wf = false := by decide
theorem test_wf_forwardedBundle : (Instr.forwardedBundle 0 [] 281474976710655).wf = true ∧
    (Instr.forwardedBundle 0 [] 281474976710656).wf = false := by decide
theorem test_wf_tjSample : (Instr.tjSample (List.replicate 24 none)).wf = true ∧
    (Instr.tjSample (List.replicate 23 none)).wf = false := by decide

end Sys2Proof.Tests
end

section
/-! PROOFS. When commands act, the life cycle, the validity test and the state after reset (R21, R33, R34, R37, R466, R485, R488). -/

namespace Sys2Proof.Machine

/-! ### When commands act (R466, R485, R488) -/

theorem State.awake_of_acts {s : State} (h : s.Acts) (f : State → State) : s.awake f = f s := by
  simp [State.awake, h.1, h.2]

theorem State.bureauAct_of_acts {s : State} (h : s.Acts) (f : State → State) : s.bureauAct f = State.startReady 24 (f s) :=
  State.awake_of_acts h _

theorem State.clocked_of_runs {s : State} (h : s.Runs) (f : State → State) : s.clocked f = f s := by
  rw [State.clocked, State.awake_of_acts h.1, h.2]; rfl

/-! ### The life cycle (R33 to R37) -/

@[simp] theorem lifeOf_lifeBits (l : Life) (p : Option Bool) : lifeOf (lifeBits l p) = l := by
  cases l <;> rcases p with _ | _ | _ <;> rfl

@[simp] theorem pendingOf_lifeBits (l : Life) (p : Option Bool) : pendingOf (lifeBits l p) = p := by
  cases l <;> rcases p with _ | _ | _ <;> rfl

theorem lifeBits_lt (l : Life) (p : Option Bool) : lifeBits l p < 16 := by
  cases l <;> rcases p with _ | _ | _ <;> decide

/-- In a transition a request is recorded, in place of an earlier one. -/
theorem lifeRequest_lifeBits_moving {l : Life} (h : l = .starting ∨ l = .stopping) (p : Option Bool) (e : Bool) :
    lifeRequest (lifeBits l p) e = lifeBits l (some e) := by
  rcases h with rfl | rfl <;> simp [lifeRequest]

@[simp] theorem lifeArrive_lifeBits_none (l r : Life) : lifeArrive (lifeBits l none) r = lifeBits r none := by
  simp [lifeArrive]

@[simp] theorem lifeArrive_lifeBits_some (l r : Life) (e : Bool) :
    lifeArrive (lifeBits l (some e)) r = lifeRequest (lifeBits r none) e := by
  simp [lifeArrive]

@[simp] theorem lifeFail_lifeBits (l : Life) (p : Option Bool) : lifeFail (lifeBits l p) = lifeBits .stopping p := by
  simp [lifeFail]

/-- Settles O12: life-cycle bits give back their state and their pending request, so each case reads off the table of R33. -/
theorem pendingRequests : Obligations.PendingRequests :=
  ⟨fun _ p e h => lifeRequest_lifeBits_moving h p e, fun l _ r => lifeArrive_lifeBits_none l r,
    fun l _ e r => lifeArrive_lifeBits_some l r e, rfl, rfl, rfl, rfl, fun e => lifeFail_lifeBits .starting (some e),
    lifeFail_lifeBits .starting none⟩

/-! ### The validity test (R21) -/

theorem vdist_of_lt {b : Nat} (a : Nat) (h : b < 256) : vdist a b = (a + 256 - b) % 256 := by
  rw [vdist, Nat.mod_eq_of_lt h]

/-- Settles O11: both distances of the test are differences of numbers of 8 bits. -/
theorem entryValidity : Obligations.EntryValidity := by
  intro v f u hv hf _
  rw [entryValid, vdist_of_lt v hf, vdist_of_lt u hv]
  split_ifs with stale entry
  · simp; omega
  · simp [entry]; omega
  · simp [entry]; omega

/-! ### The state after reset (R37, R468, R481) -/

theorem portStat_addr (p : Nat) : R.PORT_STAT.addr p = 0x200000 + 0x1000 * p := by
  simp [RegSpec.addr, R.PORT_STAT]; omega

theorem laneStat_addr (n : Nat) : R.LANE_STAT.addr n = 0x100000 + n / 8 * 0x4000 + n % 8 * 0x400 := rfl

theorem RegSpec.instanceAt_before {r : RegSpec} {off : Nat} (h : off < r.base) : r.instanceAt off = none := if_pos h

theorem RegSpec.instanceAt_behind {r : RegSpec} {off : Nat} (hs : 0 < r.s1) (h : r.base + r.n1 * r.s1 ≤ off) :
    r.instanceAt off = none := by
  have beyond : r.n1 ≤ (off - r.base) / r.s1 := by rw [Nat.le_div_iff_mul_le hs]; omega
  have notBefore : ¬ off < r.base := by omega
  have notWithin : ¬ (off - r.base) / r.s1 < r.n1 := by omega
  simp [RegSpec.instanceAt, notBefore, notWithin]

theorem RegSpec.instanceAt_beside {r : RegSpec} {off : Nat} (hs : 0 < r.s2)
    (h : r.base ≤ off → r.n2 * r.s2 ≤ (off - r.base) % r.s1) : r.instanceAt off = none := by
  by_cases before : off < r.base
  · exact RegSpec.instanceAt_before before
  · have beside : r.n2 ≤ (off - r.base) % r.s1 / r.s2 := by
      rw [Nat.le_div_iff_mul_le hs]; exact h (by omega)
    simp [RegSpec.instanceAt, before, Nat.not_lt.mpr beside]

/-- The address of number `n` is covered by number `n`. -/
theorem RegSpec.instanceAt_addr {r : RegSpec} {n : Nat} (hn : n < r.n1 * r.n2) (hs : 0 < r.s2) (hr : r.n2 * r.s2 ≤ r.s1) :
    r.instanceAt (r.addr n) = some n := by
  have positive : 0 < r.n2 := by by_contra h; simp_all
  have column : n % r.n2 * r.s2 < r.s1 :=
    lt_of_lt_of_le ((Nat.mul_lt_mul_right hs).mpr (Nat.mod_lt n positive)) hr
  have offset : r.addr n - r.base = n % r.n2 * r.s2 + r.s1 * (n / r.n2) := by rw [RegSpec.addr, Nat.mul_comm r.s1]; omega
  have notBefore : ¬ r.addr n < r.base := by rw [RegSpec.addr]; omega
  have row : n / r.n2 < r.n1 := Nat.div_lt_of_lt_mul (Nat.mul_comm r.n1 r.n2 ▸ hn)
  have width : 0 < if r.wide = true then 8 else 4 := by split <;> decide
  simp only [RegSpec.instanceAt, if_neg notBefore, offset, Nat.add_mul_mod_self_left, Nat.mod_eq_of_lt column,
    Nat.add_mul_div_left _ _ (Nat.zero_lt_of_lt column), Nat.div_eq_of_lt column, Nat.mul_div_cancel _ hs, Nat.mul_mod_left]
  simp [row, Nat.mod_lt n positive, width, Nat.div_add_mod']

/-- Between the blocks of the time bases and those of the STF lanes the reset value is the one that the list of the block gives. -/
theorem resetAt_of_listed {off : Nat} (h : 0x40418 ≤ off) (h' : off < 0x60000C) :
    resetAt off = BitVec.ofNat 64 (resetIn off (resetList off)) := by
  rw [resetAt, RegSpec.instanceAt_before (r := R.STF_ID) h', RegSpec.instanceAt_behind (r := R.TIME_TB_CFG) (by decide) h]

/-- The registers of ports with a stated reset value. -/
theorem resetList_of_port {off : Nat} (h : 0x200000 ≤ off) (h' : off < 0x600000) : resetList off =
    [(R.PORT_CFG, 0x24000010), (R.PORT_PFC, 0xFFFF0000), (R.PORT_CT_THRESH, 0x10000)] := by
  have block : off / 0x100000 = 2 ∨ off / 0x100000 = 3 ∨ off / 0x100000 = 4 ∨ off / 0x100000 = 5 := by omega
  unfold resetList
  rcases block with hb | hb | hb | hb <;> rw [hb] <;> rfl

/-- PORT_STAT has no stated reset value: none of the listed registers lies at its offset. -/
theorem resetAt_portStat {p : Nat} (h : p < 1024) : resetAt (R.PORT_STAT.addr p) = 0 := by
  rw [portStat_addr, resetAt_of_listed (by omega) (by omega), resetList_of_port (by omega) (by omega)]
  have cfg : R.PORT_CFG.instanceAt (0x200000 + 0x1000 * p) = none :=
    RegSpec.instanceAt_beside (by decide) (by simp only [R.PORT_CFG]; omega)
  have pfc : R.PORT_PFC.instanceAt (0x200000 + 0x1000 * p) = none :=
    RegSpec.instanceAt_beside (by decide) (by simp only [R.PORT_PFC]; omega)
  have thresh : R.PORT_CT_THRESH.instanceAt (0x200000 + 0x1000 * p) = none :=
    RegSpec.instanceAt_beside (by decide) (by simp only [R.PORT_CT_THRESH]; omega)
  simp only [resetIn, cfg, pfc, thresh, Option.isSome_none, Bool.false_eq_true, if_false]
  rfl

/-- Both directions of a lane are Dark at reset, and its life-cycle bits are 0. -/
theorem resetAt_laneStat {n : Nat} (h : n < 512) : resetAt (R.LANE_STAT.addr n) = 0x90000000 := by
  have here : R.LANE_STAT.instanceAt (R.LANE_STAT.addr n) = some n := RegSpec.instanceAt_addr h (by decide) (by decide)
  have block : R.LANE_STAT.addr n / 0x100000 = 1 := by rw [laneStat_addr]; omega
  rw [resetAt_of_listed (by rw [laneStat_addr]; omega) (by rw [laneStat_addr]; omega), resetList, block]
  simp only [resetIn, here, Option.isSome_some, if_true]
  rfl

/-- At reset a register reads its reset value: the register file lists nothing. -/
theorem reset_reg (r : RegSpec) (n : Nat) : State.reset.reg r n = (resetAt (r.addr n)).toNat := rfl

/-- Settles O2: the register file lists nothing, so every field is read off the stated reset values. -/
theorem resetState : Obligations.ResetState := by
  refine ⟨reset_reg, by decide, by decide, by decide, fun p => ?_, fun n => ?_, by decide, rfl, rfl, rfl, rfl⟩
  · rw [State.portLife, State.life, State.fld, reset_reg, R.PORT_STAT_LC, resetAt_portStat p.isLt]; rfl
  · rw [State.life, State.fld, reset_reg, R.LANE_STAT_LC, resetAt_laneStat n.isLt]; rfl

end Sys2Proof.Machine
end

section
/-! PROOFS. Orders that write and commit (R27, R31, R64, R66, R72, R74), and the acknowledgements of commits (R27, R29). -/

namespace Sys2Proof

/-- A place that is written twice holds what was written last. -/
theorem SMap.put_put {α : Type} (m : SMap α) (k : Nat) (v w : α) : SMap.put (SMap.put m k v) k w = SMap.put m k w := by
  induction m with
  | nil => simp [SMap.put]
  | cons e m ih =>
    obtain ⟨i, x⟩ := e
    simp only [SMap.put]
    split_ifs with same below
    · simp [SMap.put]
    · simp [SMap.put]
    · simp [SMap.put, same, below, ih]

namespace Machine

/-! ### The bundle of a queue -/

/-- A bundle stored twice is the one stored last. -/
@[simp] theorem State.setSlot_setSlot (s : State) (q : OrderQueue) (b c : Bundle) : (s.setSlot q b).setSlot q c = s.setSlot q c := by
  simp [State.setSlot, State.updBureau, SMap.put_put]

/-- The claims of a set and the bundle of a queue do not touch each other. -/
theorem State.setSlot_dropClaims (s : State) (q : OrderQueue) (b : Bundle) (id : Nat) :
    (s.setSlot q b).dropClaims id = (s.dropClaims id).setSlot q b := rfl

@[simp] theorem State.setSlot_epochNum (s : State) (q : OrderQueue) (b : Bundle) : (s.setSlot q b).epochNum = s.epochNum := by
  unfold State.epochNum State.fld State.reg
  rfl

/-- The instruction that comes next is executed, with its bundle counted as having run it. -/
theorem State.order_of_comesNext {s : State} {q : OrderQueue} {b : Bundle} {p : ProgStep} {i : OrderInstr}
    (h : s.ComesNext q b p i) (run : Bundle → ProgStep → State → State) :
    s.order q i run = State.startReady 24 (run b.ran p (s.setSlot q b.ran)) := by
  obtain ⟨acts, slot, running, next, instr, cond, structured, clock⟩ := h
  have taken : ¬ ((p.cond = 1 ∧ b.c = false) ∨ (p.cond = 2 ∧ b.c = true)) := by
    rcases cond with hc | ⟨hc, hb⟩ | ⟨hc, hb⟩ <;> simp [*]
  have untripped : ¬ (b.cls ≠ 0 ∧ b.executed + 1 = 1 ∧ (s.setSlot q b.ran).flag R.PWR_STAT_TRIPPED 0 = true) := by
    rintro ⟨policy, first, tripped⟩
    rcases clock with hc | hc | hc
    · exact policy hc
    · omega
    · exact Bool.false_ne_true (hc.symm.trans tripped)
  rw [State.order, State.bureauAct_of_acts acts, slot]
  dsimp only
  split
  case h_1 step _ found =>
    cases next.symm.trans found
    rw [if_neg (not_not.mpr instr), if_neg taken]
    simp only [structured]
    exact congrArg _ (if_neg untripped)
  case h_2 no => exact absurd next (no p running)

/-- A pair from its first part. -/
theorem eq_mk_of_fst_eq {α β : Type} {x : α × β} {a : α} (h : x.1 = a) : x = (a, x.2) := Prod.ext h rfl

/-! ### Commits that begin (R25, R72 to R74) -/

/-- The commit with which a set begins, in the state that its admission left. -/
def State.firstCommit (s : State) (q : OrderQueue) (b : Bundle) (id : Nat) (items : List OrderInstr) (swap : Bool) (named : Nat)
    (bounds : List (Nat × Nat × Bool)) : Commit :=
  { id := id, queue := queueUnit q, items := items, leafSwap := swap, named := named, outstanding := s.setIslandMap items swap
    lastAcks := 0, attempt := 1, resend := false, expired := none, edge := none, paired := s.pairOf b
    peerReady := b.forward.any (fun f => f.early), bounds := bounds }

section
variable {s t : State} {q : OrderQueue} {b : Bundle} {p : ProgStep} {id : Nat} {items : List OrderInstr} {swap : Bool} {named : Nat}

theorem State.beginCommit_past (h : named ≠ 0) (past : named ≤ s.epochNum) :
    s.beginCommit q b p id items swap named =
      ((s.setSlot q { b with stage := none }).dropClaims id).failStep q p 8 1 s.epochNum :=
  if_pos ⟨h, past⟩

variable (due : named = 0 ∨ s.epochNum < named)
include due

theorem due_after_past : ¬ (named ≠ 0 ∧ named ≤ s.epochNum) := by omega

theorem State.beginCommit_refused {d0 d1 : Nat}
    (judged : (s.setSlot q { b with stage := none }).admission named items swap = (.refused d0 d1, t)) :
    s.beginCommit q b p id items swap named = (t.dropClaims id).failStep q p 1 d0 d1 := by
  refine (if_neg (due_after_past due)).trans ?_
  rw [judged]

theorem State.beginCommit_breach {d1 : Nat}
    (judged : (s.setSlot q { b with stage := none }).admission named items swap = (.breach d1, t)) :
    s.beginCommit q b p id items swap named = (t.dropClaims id).failStep q p 6 4 d1 := by
  refine (if_neg (due_after_past due)).trans ?_
  rw [judged]

theorem State.beginCommit_meets {bounds : List (Nat × Nat × Bool)}
    (judged : (s.setSlot q { b with stage := none }).admission named items swap = (.admitted bounds, t))
    (meets : t.meetsCommit items swap named = true) :
    s.beginCommit q b p id items swap named = (t.dropClaims id).failStep q p 6 1 0 := by
  refine (if_neg (due_after_past due)).trans ?_
  rw [judged]
  exact if_pos meets

/-- A set that is admitted and meets no commit in progress begins its commit, and its bundle waits for it. -/
theorem State.beginCommit_admitted {bounds : List (Nat × Nat × Bool)}
    (judged : (s.setSlot q { b with stage := none }).admission named items swap = (.admitted bounds, t))
    (apart : t.meetsCommit items swap named = false) (alone : b.forward = none) :
    let u := t.setSlot q { b with stage := none, phase := .committing id }
    let c := t.firstCommit q b id items swap named bounds
    s.beginCommit q b p id items swap named =
      State.sendCommit { u with bureau := { u.bureau with commits := t.bureau.commits ++ [c] } } c := by
  intro u c
  have waiting : { b with stage := none, phase := .committing id, forward := b.forward.map (fun f => { f with early := false }) } =
      { b with stage := none, phase := .committing id } := by rw [alone]; rfl
  refine (if_neg (due_after_past due)).trans ?_
  rw [judged]
  refine (if_neg (by rw [apart]; exact Bool.false_ne_true)).trans ?_
  rw [waiting]
  rfl

end

/-! ### COMMIT and LEAF.SWAP (R66, R72, R74) -/

/-- A COMMIT that comes next begins the commit of the bundle's set. -/
theorem exec_commit_of_comesNext {s t : State} {q : OrderQueue} {b : Bundle} {p : ProgStep} {epoch : Nat} {st : StageSet}
    (h : s.ComesNext q b p (.commit epoch)) (stage : b.stage = some st)
    (begun : (s.setSlot q b.ran).beginCommit q b.ran p st.id st.items st.leafSwap (if epoch = 0 then 0 else s.ownEpoch b epoch) = t) :
    exec (.commit q epoch) s = .next (State.startReady 24 t) := by
  have ran : b.ran.stage = some st := stage
  change execCommit q epoch s = _
  rw [execCommit, State.order_of_comesNext h, ← begun]
  simp only [ran]
  rfl

/-- LEAF.SWAP marks the open set of its bundle. -/
theorem exec_leafSwap_open {s : State} {q : OrderQueue} {b : Bundle} {p : ProgStep} {epoch : Nat} {st : StageSet}
    (h : s.ComesNext q b p (.leafSwap epoch)) (stage : b.stage = some st) (opened : st.opened = true) :
    exec (.leafSwap q epoch) s = .next (s.goesOn q { b.ran with stage := some { st with leafSwap := true } }) := by
  change execLeafSwap q epoch s = _
  rw [execLeafSwap, State.order_of_comesNext h]
  have ran : b.ran.stage = some st := stage
  simp only [ran, opened, if_true, State.setSlot_setSlot]
  rfl

/-- LEAF.SWAP without a set is a commit without writes. -/
theorem exec_leafSwap_alone {s : State} {q : OrderQueue} {b : Bundle} {p : ProgStep} {epoch : Nat}
    (h : s.ComesNext q b p (.leafSwap epoch)) (stage : b.stage = none) :
    exec (.leafSwap q epoch) s = .next (State.startReady 24 ((s.setSlot q b.ran).newSet.2.beginCommit q b.ran p s.bureau.nextSet [] true
      (if epoch = 0 then 0 else s.ownEpoch b epoch))) := by
  change execLeafSwap q epoch s = _
  rw [execLeafSwap, State.order_of_comesNext h]
  have ran : b.ran.stage = none := stage
  simp only [ran]
  rfl

/-- LEAF.SWAP beside a closed set is a commit without writes, and the set stays held unless the bundle has ended. -/
theorem exec_leafSwap_closed {s : State} {q : OrderQueue} {b b' : Bundle} {p : ProgStep} {epoch : Nat} {st : StageSet}
    (h : s.ComesNext q b p (.leafSwap epoch)) (stage : b.stage = some st) (closed : st.opened = false)
    (slot : ((s.setSlot q b.ran).newSet.2.beginCommit q b.ran p s.bureau.nextSet [] true
      (if epoch = 0 then 0 else s.ownEpoch b epoch)).slot q = some b') :
    let u := (s.setSlot q b.ran).newSet.2.beginCommit q b.ran p s.bureau.nextSet [] true (if epoch = 0 then 0 else s.ownEpoch b epoch)
    exec (.leafSwap q epoch) s = .next (State.startReady 24
      (if b'.phase = .finished then u.dropClaims st.id else u.setSlot q { b' with stage := some st })) := by
  intro u
  change execLeafSwap q epoch s = _
  rw [execLeafSwap, State.order_of_comesNext h]
  have ran : b.ran.stage = some st := stage
  simp only [ran, closed, Bool.false_eq_true, if_false]
  split
  case h_1 found => cases slot.symm.trans found; rfl
  case h_2 none => cases slot.symm.trans none

/-- Settles O34: COMMIT and LEAF.SWAP begin the commit of their set, and `beginCommit` ends by its named epoch, by the verdict of
admission and by the commits in progress. -/
theorem commitOrders : Obligations.CommitOrders := by
  intro s q b p epoch named
  refine ⟨?_, fun h => ⟨fun st stage opened => exec_leafSwap_open h stage opened, fun stage => exec_leafSwap_alone h stage,
    fun st stage closed => fun b' slot => exec_leafSwap_closed h stage closed slot⟩⟩
  intro st h stage bare r
  have judged (v : Verdict) (verdict : r.1 = v) :
      ((s.setSlot q b.ran).setSlot q { b.ran with stage := none }).admission named st.items st.leafSwap = (v, r.2) := by
    rw [State.setSlot_setSlot]
    exact eq_mk_of_fst_eq (x := r) verdict
  have ahead (due : named = 0 ∨ s.epochNum < named) : named = 0 ∨ (s.setSlot q b.ran).epochNum < named := by
    rwa [State.setSlot_epochNum]
  refine ⟨fun h0 past => ?_, fun due => ⟨fun d0 d1 verdict => ?_, fun d1 verdict => ?_, fun bounds verdict meets => ?_,
    fun bounds verdict apart alone => ⟨r.2.firstCommit q b.ran st.id st.items st.leafSwap named bounds, ?_⟩⟩⟩
  · rw [← State.setSlot_epochNum s q b.ran] at past
    refine (exec_commit_of_comesNext h stage (State.beginCommit_past h0 past)).trans ?_
    rw [State.setSlot_setSlot, State.setSlot_dropClaims, State.setSlot_epochNum]
    rfl
  · exact exec_commit_of_comesNext h stage (State.beginCommit_refused (ahead due) (judged _ verdict))
  · exact exec_commit_of_comesNext h stage (State.beginCommit_breach (ahead due) (judged _ verdict))
  · exact exec_commit_of_comesNext h stage (State.beginCommit_meets (ahead due) (judged _ verdict) meets)
  · exact ⟨exec_commit_of_comesNext h stage (State.beginCommit_admitted (ahead due) (judged _ verdict) apart alone),
      rfl, rfl, rfl, rfl, rfl, rfl, rfl, rfl⟩

/-! ### Unversioned writes (R64, R66, R69) -/

/-- A row of kind U executes its instruction as an unversioned write. -/
theorem exec_of_unversionedRow {c : Instr} {q : OrderQueue} {i : OrderInstr} (row : unversionedRow c = some (q, i)) (s : State) :
    exec c s = .next (s.order q i (State.runWrite i q)) := by
  unfold unversionedRow at row
  split at row <;> cases row <;> rfl

section
variable {s : State} {q : OrderQueue} {b : Bundle} {p : ProgStep} {i : OrderInstr}

/-- The open set of a bundle, which an unversioned write joins. -/
def Bundle.openSet (b : Bundle) : Option StageSet := b.stage.filter (fun t => t.opened)

theorem Bundle.openSet_of_open {st : StageSet} (stage : b.stage = some st) (opened : st.opened = true) : b.openSet = some st := by
  simp [Bundle.openSet, stage, opened]

theorem Bundle.openSet_of_closed {st : StageSet} (stage : b.stage = some st) (closed : st.opened = false) : b.openSet = none := by
  simp [Bundle.openSet, stage, closed]

theorem Bundle.openSet_of_none (stage : b.stage = none) : b.openSet = none := by
  simp [Bundle.openSet, stage]

/-- What speaks against a write that would join the open set ends the bundle. -/
theorem State.runWrite_open_fault {st : StageSet} (set : b.openSet = some st) {f : Nat × Nat × Nat}
    (fault : s.writeFault q st.items (b.instrWord p) i = some f) : s.runWrite i q b p = s.failStep q p f.1 f.2.1 f.2.2 := by
  rw [Bundle.openSet] at set
  simp only [State.runWrite, set, Option.map_some, Option.getD_some, fault]

theorem State.runWrite_open {st : StageSet} (set : b.openSet = some st)
    (sound : s.writeFault q st.items (b.instrWord p) i = none) : s.runWrite i q b p = s.stageItem q b st i := by
  rw [Bundle.openSet] at set
  simp only [State.runWrite, set, Option.map_some, Option.getD_some, sound]

/-- What speaks against a write that would commit alone ends the bundle. -/
theorem State.runWrite_alone_fault (set : b.openSet = none) {f : Nat × Nat × Nat}
    (fault : s.writeFault q [] (b.instrWord p) i = some f) : s.runWrite i q b p = s.failStep q p f.1 f.2.1 f.2.2 := by
  rw [Bundle.openSet] at set
  simp only [State.runWrite, set, Option.map_none, Option.getD_none, fault]

theorem State.runWrite_alone (stage : b.stage = none) (sound : s.writeFault q [] (b.instrWord p) i = none) :
    s.runWrite i q b p = s.newSet.2.beginCommit q b p s.bureau.nextSet [i] false 0 := by
  simp only [State.runWrite, stage, Option.filter_none, Option.map_none, Option.getD_none, sound]
  rfl

/-- Beside a closed set a write commits alone, and the set stays held unless the bundle has ended. -/
theorem State.runWrite_closed {st : StageSet} {b' : Bundle} (stage : b.stage = some st) (closed : st.opened = false)
    (sound : s.writeFault q [] (b.instrWord p) i = none)
    (slot : (s.newSet.2.beginCommit q b p s.bureau.nextSet [i] false 0).slot q = some b') :
    let u := s.newSet.2.beginCommit q b p s.bureau.nextSet [i] false 0
    s.runWrite i q b p = if b'.phase = .finished then u.dropClaims st.id else u.setSlot q { b' with stage := some st } := by
  intro u
  have set := Bundle.openSet_of_closed stage closed
  rw [Bundle.openSet] at set
  simp only [State.runWrite, set, Option.map_none, Option.getD_none, sound]
  split
  case h_1 held found => cases stage.symm.trans held; cases slot.symm.trans found; rfl
  case h_2 no => exact (no st b' stage slot).elim

end

/-- A write that joins the open set lets the bundle go on. -/
theorem State.stageItem_setSlot (s : State) (q : OrderQueue) (c b : Bundle) (st : StageSet) (i : OrderInstr) :
    (s.setSlot q c).stageItem q b st i = (s.setSlot q (b.joined st i)).proceed q := by
  rw [State.stageItem, State.setSlot_setSlot]
  rfl

/-- A SET whose value comes from a G register is the SET of the value that the register holds. -/
theorem exec_set_fromG {s : State} {q : OrderQueue} {b : Bundle} {p : ProgStep} {off : Nat} {w64 : Bool} {value mask : Word64}
    (h : s.ComesNext q b p (.set off w64 true value mask)) :
    exec (.set q off w64 true value mask) s =
      .next (State.startReady 24 ((s.setSlot q b.ran).runWrite (.set off w64 false (b.reg (value.toNat % 16)) mask) q b.ran p)) := by
  change execSet q off w64 true value mask s = _
  rw [execSet, State.order_of_comesNext h]
  rfl

/-- Settles O31: a row of kind U, and a SET from a G register, is an unversioned write, whose cases are those of `runWrite`. -/
theorem unversionedWrites : Obligations.UnversionedWrites := by
  refine ⟨fun c s q b p i row h => ?_, fun s q b p off w64 value mask h => ?_⟩
  · have run {t : State} (ran : (s.setSlot q b.ran).runWrite i q b.ran p = t) : exec c s = .next (State.startReady 24 t) := by
      rw [exec_of_unversionedRow row, State.order_of_comesNext h, ran]
    refine ⟨fun st stage opened => ?_, fun stage => ?_, fun st stage closed => ?_⟩
    · have set : b.ran.openSet = some st := Bundle.openSet_of_open stage opened
      exact ⟨fun sound => run ((State.runWrite_open set sound).trans (State.stageItem_setSlot ..)),
        fun f fault => run (State.runWrite_open_fault set fault)⟩
    · have set : b.ran.openSet = none := Bundle.openSet_of_none stage
      have stage' : b.ran.stage = none := stage
      exact ⟨fun sound => run (State.runWrite_alone stage' sound), fun f fault => run (State.runWrite_alone_fault set fault)⟩
    · have set : b.ran.openSet = none := Bundle.openSet_of_closed stage closed
      have stage' : b.ran.stage = some st := stage
      refine ⟨fun sound => ?_, fun f fault => run (State.runWrite_alone_fault set fault)⟩
      intro u b' slot
      exact run (State.runWrite_closed stage' closed sound slot)
  · intro i
    have run {t : State} (ran : (s.setSlot q b.ran).runWrite i q b.ran p = t) :
        exec (.set q off w64 true value mask) s = .next (State.startReady 24 t) := by
      rw [exec_set_fromG h, ran]
    refine ⟨fun st stage opened sound => ?_, fun stage sound => ?_⟩
    · have set : b.ran.openSet = some st := Bundle.openSet_of_open stage opened
      exact run ((State.runWrite_open set sound).trans (State.stageItem_setSlot ..))
    · have stage' : b.ran.stage = none := stage
      exact run (State.runWrite_alone stage' sound)

/-! ### Acknowledgements (R27, R29, R145, R152) -/

theorem bit_withBits_same (x i : Nat) (b : Bool) : bit (withBits x i i (ofFlag b)) i = b := by
  cases b <;> simp [bit, withBits_testBit, ofFlag]

theorem bit_withBits_other (x v : Nat) {i j : Nat} (h : j ≠ i) : bit (withBits x i i v) j = bit x j := by
  rw [bit, withBits_testBit, if_neg (by omega), bit]

section
variable {s : State} {q : OrderQueue} {c : Commit}

theorem exec_islandAck_taken {i : Fin 40} (acts : s.Acts) (commit : s.commitOf q = some c) (sent : c.resend = false)
    (waits : bit c.outstanding i.val = true) (free : s.withholds i.val c.items = false) (alone : c.paired = none) :
    exec (.islandAck q i) s =
      .next (s.setCommit { c with outstanding := withBits c.outstanding i.val i.val 0, lastAcks := 2 ^ i.val }) := by
  change execIslandAck q i s = _
  rw [execIslandAck, State.awake_of_acts acts]
  simp [commit, sent, waits, free, alone]

theorem exec_islandAck_ignored {i : Fin 40} (acts : s.Acts) (commit : s.commitOf q = some c)
    (ignored : c.resend = true ∨ bit c.outstanding i.val = false ∨ s.withholds i.val c.items = true) :
    exec (.islandAck q i) s = .next s := by
  have ignored' : (c.resend || !bit c.outstanding i.val || s.withholds i.val c.items) = true := by
    rcases ignored with h | h | h <;> simp [h]
  change execIslandAck q i s = _
  rw [execIslandAck, State.awake_of_acts acts]
  simp only [commit, ignored', if_true]

theorem exec_ackWindowExpiry (acts : s.Acts) (commit : s.commitOf q = some c) :
    exec (.ackWindowExpiry q) s = .next (State.startReady 24 (s.windowExpired c)) := by
  change execAckWindowExpiry q s = _
  rw [execAckWindowExpiry, State.bureauAct_of_acts acts]
  simp only [commit]

theorem State.windowExpired_settled (settled : c.resend = true ∨ c.incomplete = false) : s.windowExpired c = s :=
  if_pos (by rcases settled with h | h <;> simp [h])

/-- A window that expires with an island outstanding names the lowest one. -/
theorem State.windowExpired_named {island : Nat} {others : List Nat} (sent : c.resend = false) (missing : c.incomplete = true)
    (lowest : onesOf 40 c.outstanding = island :: others) :
    let named := s.setFld R.DEV_EPOCH_STAT_ISLAND 0 island
    s.windowExpired c = if c.attempt = 1 then
      (((named.raiseAt EV_COMMIT_INCOMPLETE 0 0 [island]).leafRestore c.id).unstage c.id).setCommit
        { c with outstanding := 0, resend := true, expired := some island, edge := none, peerReady := false }
      else (named.raiseAt EV_COMMIT_ABORT 0 0 [island]).failCommit c 9 2 island := by
  have found : s.namedIsland c.outstanding = (island, s) := by rw [State.namedIsland, lowest]
  refine (if_neg (by simp [sent, missing])).trans ?_
  rw [found]

end

/-- Settles O39: what an acknowledgement and the expiry of a window do, by the commit in progress of the queue. -/
theorem acknowledgements : Obligations.Acknowledgements := by
  refine ⟨fun s q i c acts commit => ⟨fun sent waits free alone => ⟨?_, ?_, fun j other => ?_⟩, fun ignored => ?_⟩,
    fun s q c acts commit => ⟨fun settled => ?_, fun island others sent missing lowest => ?_⟩⟩
  · exact exec_islandAck_taken acts commit sent waits free alone
  · exact bit_withBits_same c.outstanding i.val false
  · exact bit_withBits_other c.outstanding 0 other
  · exact exec_islandAck_ignored acts commit ignored
  · rw [exec_ackWindowExpiry acts commit, State.windowExpired_settled settled]
  · intro named
    rw [exec_ackWindowExpiry acts commit, State.windowExpired_named sent missing lowest]
    refine ⟨fun first => ?_, fun second => ?_⟩
    · rw [if_pos first]; rfl
    · rw [if_neg second]

end Machine
end Sys2Proof
end

section
/-! PROOFS. The egress side of a port: the dequeue of copies (R24, R272, R356) and the timestamp FIFO (R397, R398). -/

namespace Sys2Proof.Machine

/-! ### Fields within a field that was written -/

/-- A field that lies within the one written reads the same bits of what was written. -/
theorem bits_withBits_within (x v : Nat) {hi lo h l : Nat} (hl : lo ≤ l) (hlh : l ≤ h) (hh : h ≤ hi) :
    bits (withBits x hi lo v) h l = bits v (h - lo) (l - lo) := by
  apply Nat.eq_of_testBit_eq
  intro i
  rw [bits_testBit, bits_testBit, withBits_testBit]
  by_cases inside : i < h + 1 - l
  · rw [if_pos (by omega), show l + i - lo = l - lo + i by omega]
    simp [inside]; omega
  · have outside : ¬ i < h - lo + 1 - (l - lo) := by omega
    simp [inside, outside]

/-! ### Registers that a write leaves alone -/

theorem State.regAt_setFld_other (s : State) (f : Fld) {n o : Nat} (v : Nat) (h : o ≠ f.reg.addr n) :
    regAt (s.setFld f n v).regs o = regAt s.regs o := regAt_regPut_other s.regs _ h

/-! ### Dequeue (R24, R272, R356) -/

section
variable {s t : State} {p q point : Nat} {c : Copy} {fault : Option CellFault}

theorem exec_frameDequeue {port : Fin 1024} {time : Nat} (runs : s.Runs) : exec (.frameDequeue port fault time point) s =
    .next (((s.advance time).frameDequeue port.val point fault).settlePort port.val) := by
  change execFrameDequeue port fault time point s = _
  rw [execFrameDequeue, State.clocked_of_runs runs]

theorem State.choose_of_linkDown (down : s.flag R.PORT_STAT_LINK_UP p = false) : s.choose p = none :=
  if_pos (by rw [down]; rfl)

/-- Nothing starts while a frame is on the wire or a PFC frame is due, nor without a copy to take. -/
theorem State.frameDequeue_idle (idle : (s.port p).sending ≠ none ∨ (s.port p).pfcDue = true ∨ s.choose p = none) :
    s.frameDequeue p point fault = s := by
  by_cases busy : ((s.port p).sending.isSome || (s.port p).pfcDue) = true
  · exact if_pos busy
  · have empty : s.choose p = none := by
      rcases idle with h | h | h
      · exact absurd (by simp [Option.isSome_iff_ne_none.mpr h]) busy
      · exact absurd (by simp [h]) busy
      · exact h
    refine (if_neg busy).trans ?_
    rw [empty]

theorem State.frameDequeue_expired (quiet : (s.port p).sending = none) (free : (s.port p).pfcDue = false)
    (taken : s.choose p = some (q, c, t)) (old : t.expired c.info = true) :
    s.frameDequeue p point fault = ((t.readLink c.head fault).2.discardHead p q c).bump R.DEV_LIFETIME_DROPS_COUNT 0 1 := by
  refine (if_neg (by simp [quiet, free])).trans ?_
  rw [taken]
  exact if_pos old

/-- The edits of a copy with those of its egress action behind them. -/
def Copy.leaving (c : Copy) (a : Option (List Word64)) : List Word64 := c.info.edits ++ (a.map (fun w => w.getD 1 0)).toList

/-- The state once an egress action has made its mirror copy, if it asks for one. -/
def State.mirrored (s : State) (c : Copy) (a : Option (List Word64)) : State :=
  if actionBits (a.getD []) 2 63 63 = 1 then s.egressMirror (actionBits (a.getD []) 2 62 59) c (c.leaving a) else s

/-- A copy that is neither too old nor of a retired version is mirrored, its head is read, and the action and the length decide. -/
theorem State.frameDequeue_live (quiet : (s.port p).sending = none) (free : (s.port p).pfcDue = false)
    (taken : s.choose p = some (q, c, t)) (live : t.expired c.info = false)
    {a : Option (List Word64)} (action : t.egressAction p q c = a) :
    let read := (t.mirrored c a).readCell c.head fault
    s.frameDequeue p point fault =
      if !read.1 then read.2.discardHead p q c
      else if actionBits (a.getD []) 0 63 60 = 1 then (read.2.discardHead p q c).pipeCount (read.2.pipeOf p) 3 1
      else if read.2.fld R.PORT_CFG_MAX_FRAME p < c.wireLen (c.leaving a) then (read.2.discardHead p q c).portCount p 52 1
      else read.2.startCopy p q point c (c.leaving a) := by
  intro read
  refine (if_neg (by simp [quiet, free])).trans ?_
  rw [taken]
  refine (if_neg (by simp [live])).trans ?_
  rw [action]
  cases a <;> rfl

end

theorem State.readCell_sound (s : State) (c : Nat) : s.readCell c none = (!(s.cell c).lost && !(s.cell c).marked, s) := by
  cases lost : (s.cell c).lost <;> simp only [State.readCell, State.readLink, lost, if_true, if_false, Bool.false_eq_true] <;> rfl

theorem State.port_updPort_same (s : State) (p : Nat) (f : Port → Port) : (s.updPort p f).port p = f (s.port p) :=
  SMap.get_upd_same _ _ _ _

@[simp] theorem State.fld_updPort (s : State) (p : Nat) (f : Port → Port) (g : Fld) (n : Nat) : (s.updPort p f).fld g n = s.fld g n := by
  unfold State.fld State.reg
  rfl

/-- A copy that starts has its head cell read next, and nothing of it is read. -/
theorem State.startCopy_sending (s : State) (p q point : Nat) (c : Copy) (edits : List Word64) : ∃ snd,
    ((s.startCopy p q point c edits).port p).sending = some snd ∧ snd.cell = c.head ∧ snd.gen = c.gen ∧ snd.taken = 0 ∧ snd.raw = [] ∧
      snd.cut = c.frame.isSome ∧ snd.started = c.frame.isNone ∧ snd.stamped = false := by
  rw [State.startCopy, State.port_updPort_same]
  exact ⟨_, rfl, rfl, rfl, rfl, rfl, rfl, Option.not_isSome _, rfl⟩

theorem State.settlePort_of_not_stopping {s : State} {p : Nat} (h : s.portLife p ≠ .stopping) : s.settlePort p = s :=
  if_pos (by simp [h])

/-! ### The timestamp FIFO (R397, R398) -/

theorem tsfRec_addr (p k : Nat) :
    R.PORT_TSF_REC.addr (128 * p + k) = 0x200C00 + (128 * p + k) / 128 * 0x1000 + (128 * p + k) % 128 * 8 := rfl

theorem tsfWr_addr (p : Nat) : R.PORT_TSF_WR.addr p = 0x200B14 + 0x1000 * p := by
  simp [RegSpec.addr, R.PORT_TSF_WR]; omega

/-- The low half word of a timestamp record is its tag. -/
theorem stampRecord_tag (bs : List Byte) (tb tag lost value : Nat) : (stampRecord bs tb tag lost value).1 % 65536 = tag % 65536 := by
  simp only [stampRecord, Nat.shiftLeft_eq]
  cases ptpEvent bs with
  | none => simp only [Nat.reducePow, Nat.reduceMul]; omega
  | some m => simp only []; omega

section
variable {s : State} {p : Nat} {t : Sending}

theorem exec_timestampPoint {port : Fin 512} {time : Nat} (acts : s.Acts) :
    exec (.timestampPoint port time) s = .next ((s.advance time).timestampPoint port.val) := by
  change execTimestampPoint port time s = _
  rw [execTimestampPoint, State.awake_of_acts acts]

theorem State.timestampPoint_idle (idle : (s.port p).sending = none) : s.timestampPoint p = s := by
  rw [State.timestampPoint, idle]

/-- A frame without a tag, or one whose timestamp point has passed, writes no record. -/
theorem State.timestampPoint_done (sending : (s.port p).sending = some t) (done : t.copy.stamp = none ∨ t.stamped = true) :
    s.timestampPoint p = s := by
  rw [State.timestampPoint, sending]
  rcases done with h | h
  · simp only [h]
  · simp only [h, if_true]; split <;> rfl

/-- The frame that a port sends has passed its timestamp point. -/
def State.stampPassed (s : State) (p : Nat) (t : Sending) : State :=
  s.updPort p (fun u => { u with sending := some { t with stamped := true } })

/-- How many records of the timestamp FIFO of a port are unread. -/
def State.tsfUnread (s : State) (p : Nat) : Nat := (s.fld R.PORT_TSF_WR_WR p + 65536 - s.fld R.PORT_TSF_RD_RD p) % 65536

/-- With 64 records unread the record is lost. -/
theorem State.timestampPoint_full {tag : Nat} (sending : (s.port p).sending = some t) (stamp : t.copy.stamp = some tag)
    (first : t.stamped = false) (full : s.tsfUnread p = 64) :
    s.timestampPoint p = (((s.stampPassed p t).bump R.PORT_TSF_OVF_COUNT p 1).updPort p
      (fun u => { u with lost := min 65535 (u.lost + 1) })).raiseOnce EV_TSF_OVF p p p [] := by
  rw [State.timestampPoint, sending]
  rw [State.tsfUnread] at full
  simp only [stamp, first, State.fld_updPort, full, if_true, Bool.false_eq_true, if_false]
  rfl

/-- The words of the record that the timestamp point of a frame writes. -/
def State.tsfRecord (s : State) (p : Nat) (t : Sending) (tag : Nat) : Nat × Nat :=
  stampRecord t.copy.info.vector.bytes (s.fld R.PORT_TS_CFG_PTP_TB p) tag ((s.stampPassed p t).port p).lost
    ((s.stampPassed p t).txStamp p (s.fld R.PORT_TS_CFG_PTP_TB p) s.now).2

/-- The record is written at WR, and WR advances. -/
theorem State.timestampPoint_record {tag : Nat} (sending : (s.port p).sending = some t) (stamp : t.copy.stamp = some tag)
    (first : t.stamped = false) (room : s.tsfUnread p ≠ 64) :
    let wr := s.fld R.PORT_TSF_WR_WR p
    let i := 128 * p + 2 * (wr % 64)
    s.timestampPoint p = (((((s.stampPassed p t).setFld R.PORT_TSF_REC_WORD i (s.tsfRecord p t tag).1).setFld R.PORT_TSF_REC_WORD (i + 1)
      (s.tsfRecord p t tag).2).setFld R.PORT_TSF_WR_WR p (wr + 1)).updPort p (fun u => { u with lost := 0 })) := by
  intro wr i
  rw [State.timestampPoint, sending]
  rw [State.tsfUnread] at room
  simp only [stamp, first, State.fld_updPort, room, Bool.false_eq_true, if_false]
  rfl

end

theorem State.reg_updPort (s : State) (p : Nat) (f : Port → Port) (r : RegSpec) (n : Nat) : (s.updPort p f).reg r n = s.reg r n := by
  unfold State.reg
  rfl

theorem State.port_setFld (s : State) (f : Fld) (n v p : Nat) : (s.setFld f n v).port p = s.port p := rfl

/-- A register word written as a whole reads its low bits back. -/
theorem State.bits_tsfRec_setFld (s : State) (i v : Nat) :
    bits ((s.setFld R.PORT_TSF_REC_WORD i v).reg R.PORT_TSF_REC i) 15 0 = v % 65536 := by
  have written := State.reg_setFld_same s R.PORT_TSF_REC_WORD i v (by decide)
  rw [show R.PORT_TSF_REC_WORD.reg = R.PORT_TSF_REC from rfl] at written
  rw [written, bits_withBits_within _ _ (by decide) (by decide) (by decide)]
  simp [bits, R.PORT_TSF_REC_WORD]

theorem State.reg_setFld_other (s : State) (f : Fld) {r : RegSpec} {n m : Nat} (v : Nat) (h : r.addr m ≠ f.reg.addr n) :
    (s.setFld f n v).reg r m = s.reg r m := State.reg_setReg_other s _ h

/-- What the state holds once a record has been written at WR: WR has advanced, the frame has passed its timestamp point, no record is lost,
the record carries the tag, and no other register has changed. -/
theorem State.timestampPoint_recorded {s : State} {p : Nat} {t : Sending} {tag : Nat} (sending : (s.port p).sending = some t)
    (stamp : t.copy.stamp = some tag) (first : t.stamped = false) (room : s.tsfUnread p ≠ 64) :
    let wr := s.fld R.PORT_TSF_WR_WR p
    let i := 128 * p + 2 * (wr % 64)
    let u := s.timestampPoint p
    u.fld R.PORT_TSF_WR_WR p = (wr + 1) % 65536 ∧ (u.port p).sending = some { t with stamped := true } ∧ (u.port p).lost = 0 ∧
      bits (u.reg R.PORT_TSF_REC i) 15 0 = tag % 65536 ∧
      RegistersBut [R.PORT_TSF_REC.addr i, R.PORT_TSF_REC.addr (i + 1), R.PORT_TSF_WR.addr p] s u := by
  intro wr i u
  have hu : u = _ := State.timestampPoint_record sending stamp first room
  rw [hu]
  have apart : R.PORT_TSF_REC.addr i ≠ R.PORT_TSF_WR.addr p := by
    rw [tsfRec_addr, tsfWr_addr]; omega
  have next : R.PORT_TSF_REC.addr i ≠ R.PORT_TSF_REC.addr (i + 1) := by
    rw [tsfRec_addr, show i + 1 = 128 * p + (2 * (wr % 64) + 1) by omega, tsfRec_addr]; omega
  refine ⟨?_, ?_, ?_, ?_, ?_⟩
  · rw [State.fld_updPort]
    exact State.fld_setFld_same _ R.PORT_TSF_WR_WR p (wr + 1) (by decide)
  · rw [State.port_updPort_same]
    simp only [State.port_setFld, State.stampPassed, State.port_updPort_same]
  · rw [State.port_updPort_same]
  · rw [State.reg_updPort, State.reg_setFld_other _ _ _ apart, State.reg_setFld_other _ _ _ next, State.bits_tsfRec_setFld]
    exact stampRecord_tag ..
  · intro o outside
    simp only [List.mem_cons, List.not_mem_nil, or_false, not_or] at outside
    obtain ⟨h1, h2, h3⟩ := outside
    rw [State.updPort_regs, State.regAt_setFld_other _ R.PORT_TSF_WR_WR _ h3, State.regAt_setFld_other _ R.PORT_TSF_REC_WORD _ h2,
      State.regAt_setFld_other _ R.PORT_TSF_REC_WORD _ h1, State.stampPassed, State.updPort_regs]

/-- Settles O43: the cases of the dequeue are those of `frameDequeue`, and those of the timestamp FIFO those of `timestampPoint`. -/
theorem egressPort : Obligations.EgressPort := by
  refine ⟨⟨?_, State.readCell_sound, State.startCopy_sending, fun s p => State.settlePort_of_not_stopping⟩, ?_⟩
  · intro s p fault time point runs s' settled
    have run {t : State} (h : s'.frameDequeue p.val point fault = t) : settled t :=
      (exec_frameDequeue runs).trans (by rw [h])
    refine ⟨fun idle => run (State.frameDequeue_idle ?_), fun q c t quiet free taken => ⟨fun old => ?_, ?_⟩⟩
    · rcases idle with h | h | h | h
      · exact .inl h
      · exact .inr (.inl h)
      · exact .inr (.inr (State.choose_of_linkDown h))
      · exact .inr (.inr h)
    · exact run (State.frameDequeue_expired quiet free taken old)
    · intro a live action edits mirrored read
      have dequeued := State.frameDequeue_live (point := point) (fault := fault) quiet free taken live action
      have unsound (bad : read.1 = false) : (!read.1) = true := by simp [bad]
      have sound (good : read.1 = true) : ¬ (!read.1) = true := by simp [good]
      refine ⟨fun bad => ?_, fun good => ⟨fun drop => ?_, fun keep fits => ?_, fun keep long => ?_⟩⟩
      · exact run (dequeued.trans (if_pos (unsound bad)))
      · exact run (dequeued.trans ((if_neg (sound good)).trans (if_pos drop)))
      · exact run (dequeued.trans ((if_neg (sound good)).trans ((if_neg keep).trans (if_neg (Nat.not_lt.mpr fits)))))
      · exact run (dequeued.trans ((if_neg (sound good)).trans ((if_neg keep).trans (if_pos long))))
  · intro s p time acts s' wr unread
    have run {t : State} (h : s'.timestampPoint p.val = t) : exec (.timestampPoint p time) s = .next t :=
      (exec_timestampPoint acts).trans (by rw [h])
    refine ⟨fun t sending done => run (State.timestampPoint_done sending done), fun idle => run (State.timestampPoint_idle idle),
      fun t tag sending stamp first room => ⟨s'.timestampPoint p.val, run rfl, ?_⟩, fun t tag sending stamp first full => ?_⟩
    · exact State.timestampPoint_recorded sending stamp first room
    · exact run (State.timestampPoint_full sending stamp first full)

end Sys2Proof.Machine
end

section
/-! PROOFS. Lanes: the ends of their transitions, reference clocks, recalibration and the checker (R33, R121, R128 to R131, R138, R140). -/

namespace Sys2Proof.Machine

/-! ### The ends of transitions (R33, R34, R128) -/

theorem State.markEvent_refLost (s : State) (e : EvSpec) (n : Nat) : (s.markEvent e n).refLost = s.refLost := by
  rw [State.markEvent]
  split <;> simp only [State.setReg]

theorem State.raiseOf_refLost (s : State) (e : EvSpec) (n : Nat) : (s.raiseOf e n).refLost = s.refLost := by
  rw [State.raiseOf, State.raiseAt]
  exact s.markEvent_refLost e n

theorem State.lane_updLane_same (s : State) (n : Nat) (f : Lane → Lane) : (s.updLane n f).lane n = f (s.lane n) :=
  SMap.get_upd_same _ _ _ _

theorem State.lane_updLane_other (s : State) {n m : Nat} (f : Lane → Lane) (h : m ≠ n) : (s.updLane n f).lane m = s.lane m :=
  SMap.get_upd_other _ _ _ h

theorem State.flag_setFlag_same (s : State) (f : Fld) (n : Nat) (b : Bool) (bit : f.hi = f.lo) (h : f.hi < 64) :
    (s.setFlag f n b).flag f n = b := by
  rw [State.flag, State.setFlag, State.fld_setFld_same _ _ _ _ h, bit]
  cases b <;> simp [ofFlag]

/-- A flag of the same register apart from the one written is unchanged. -/
theorem State.flag_setFlag_beside (s : State) (f g : Fld) (n : Nat) (b : Bool) (reg : g.reg = f.reg) (h : f.hi < 64)
    (apart : g.hi < f.lo ∨ f.hi < g.lo) : (s.setFlag f n b).flag g n = s.flag g n := by
  rw [State.flag, State.setFlag, State.fld_setFld_beside _ _ _ _ _ reg h apart, State.flag]

theorem lifeRequest_lt {lc : Nat} (h : lc < 16) (e : Bool) : lifeRequest lc e < 16 := by
  unfold lifeRequest
  split
  · exact lifeBits_lt _ _
  · exact h
  · exact lifeBits_lt _ _
  · exact h
  · exact lifeBits_lt _ _
  · exact lifeBits_lt _ _

/-- What the end of a transition leaves fits the four life-cycle bits. -/
theorem lifeArrive_lt (lc : Nat) (l : Life) : lifeArrive lc l < 16 := by
  unfold lifeArrive
  split
  · exact lifeBits_lt l none
  · exact lifeRequest_lt (lifeBits_lt l none) _

theorem State.lifeEnd_fld (s : State) (f : Fld) (n : Nat) (l : Life) (h : f.hi < 64) (width : f.hi = f.lo + 3) :
    (s.lifeEnd f n l).fld f n = lifeArrive (s.fld f n) l := by
  have four : f.hi + 1 - f.lo = 4 := by omega
  refine (State.fld_setFld_same s f n _ h).trans ?_
  rw [four]
  exact Nat.mod_eq_of_lt (lifeArrive_lt _ l)

theorem State.lifeEnd_forced (s : State) (f : Fld) (n : Nat) (l : Life) : (s.lifeEnd f n l).forced.contains (f.reg.addr n) = false := by
  simp [State.lifeEnd]

theorem State.lifeEnd_registersBut (s : State) (f : Fld) (n : Nat) (l : Life) : RegistersBut [f.reg.addr n] s (s.lifeEnd f n l) :=
  fun _ ho => State.regAt_setFld_other s f _ (fun h => ho (List.mem_singleton.mpr h))

section
variable {s : State} {n : Fin 512}

theorem exec_laneStartingEnd (acts : s.Acts) (ok : Bool) : exec (.laneStartingEnd n ok) s = .next (s.laneStarted n.val ok) := by
  change execLaneStartingEnd n ok s = _
  rw [execLaneStartingEnd, State.awake_of_acts acts]

theorem exec_laneStoppingEnd (acts : s.Acts) : exec (.laneStoppingEnd n) s = .next (s.laneStopped n.val) := by
  change execLaneStoppingEnd n s = _
  rw [execLaneStoppingEnd, State.awake_of_acts acts]

end

section
variable {s : State} {n : Nat}

theorem State.laneStarted_of_not_starting (h : s.life R.LANE_STAT_LC n ≠ .starting) (ok : Bool) : s.laneStarted n ok = s :=
  if_pos (by simp [h])

theorem State.laneStarted_up (h : s.life R.LANE_STAT_LC n = .starting) : s.laneStarted n true =
    (((s.laneUp n).lifeEnd R.LANE_STAT_LC n .on).raiseOf EV_LANE_STATE n).evalLane n :=
  (if_neg (by simp [h])).trans (if_pos rfl)

/-- A lane whose start has failed: it goes to Stopping, with its event. -/
def State.laneFailed (s : State) (n : Nat) : State :=
  (s.setFld R.LANE_STAT_LC n (lifeFail (s.fld R.LANE_STAT_LC n))).raiseOf EV_LANE_START_FAIL n

theorem State.laneStarted_failed_alone (h : s.life R.LANE_STAT_LC n = .starting) (alone : (s.laneFailed n).portOfLane n = none) :
    s.laneStarted n false = s.laneFailed n := by
  rw [State.laneFailed] at alone ⊢
  simp [State.laneStarted, h, alone]

/-- A Starting port fails with its lane. -/
theorem State.laneStarted_failed_port {p : Nat} (h : s.life R.LANE_STAT_LC n = .starting)
    (port : (s.laneFailed n).portOfLane n = some p) (starting : (s.laneFailed n).portLife p = .starting) :
    let t := (s.laneFailed n).raiseOf EV_PORT_START_FAIL p
    s.laneStarted n false = (t.setFld R.PORT_STAT_LC p (lifeFail (t.fld R.PORT_STAT_LC p))).portStop p := by
  rw [State.laneFailed] at port starting ⊢
  simp [State.laneStarted, h, port, starting]

theorem State.laneStopped_of_not_stopping (h : s.life R.LANE_STAT_LC n ≠ .stopping) : s.laneStopped n = s :=
  if_pos (by simp [h])

theorem State.laneStopped_dark (h : s.life R.LANE_STAT_LC n = .stopping) : s.laneStopped n =
    ((s.laneOut n).lifeEnd R.LANE_STAT_LC n .off).raiseOf EV_LANE_STATE n :=
  if_neg (by simp [h])

end

/-! ### Reference clocks (R121) -/

theorem State.takeRef_onNeighbour (s : State) (o : Nat) (b : Bool) : (s.takeRef o b).flag R.LANE_OCT_STAT_ON_NEIGHBOUR o = b := by
  rw [State.takeRef,
    State.flag_setFlag_beside _ R.LANE_OCT_STAT_PLL_LOCK R.LANE_OCT_STAT_ON_NEIGHBOUR _ _ rfl (by decide) (by decide),
    State.flag_setFlag_beside _ R.LANE_OCT_STAT_REF_PRESENT R.LANE_OCT_STAT_ON_NEIGHBOUR _ _ rfl (by decide) (by decide),
    State.flag_setFlag_same _ _ _ _ rfl (by decide)]

theorem State.takeRef_pllLock (s : State) (o : Nat) (b : Bool) :
    (s.takeRef o b).flag R.LANE_OCT_STAT_PLL_LOCK o = !s.refLost.contains (refclkOf o b) :=
  State.flag_setFlag_same _ _ _ _ rfl (by decide)

theorem exec_refclkLoss {s : State} {o : Fin 64} (acts : s.Acts) : exec (.refclkLoss o) s = .next (s.refLoss o.val) := by
  change execRefclkLoss o s = _
  rw [execRefclkLoss, State.awake_of_acts acts]

/-- The references that have been lost, with the one that an octet uses. -/
def State.refNoted (s : State) (o : Nat) : List Nat :=
  let k := refclkOf o (s.flag R.LANE_OCT_STAT_ON_NEIGHBOUR o)
  if s.refLost.contains k then s.refLost else insertRising k s.refLost

/-- An octet that loses its reference switches where AUTO_BACKUP allows it and the other one is there. -/
theorem State.refLoss_eq (s : State) (o : Nat) :
    let on := s.flag R.LANE_OCT_STAT_ON_NEIGHBOUR o
    let t := ({ s with refLost := s.refNoted o } : State).raiseOf EV_OCT_REF o
    s.refLoss o = if t.flag R.LANE_OCT_REF_AUTO_BACKUP o && !(s.refNoted o).contains (refclkOf o (!on)) then t.takeRef o (!on)
      else t.takeRef o on := by
  intro on t
  have lost : t.refLost = s.refNoted o := State.raiseOf_refLost _ _ _
  rw [← lost]
  rfl

/-! ### Recalibration (R130, R131) -/

theorem exec_backgroundRecal {s : State} {n : Fin 512} (acts : s.Acts) : exec (.backgroundRecal n) s =
    .next (if s.laneOn n.val && (decide (s.fld R.LANE_STAT_TX_PWR n.val ≤ 1) || decide (s.fld R.LANE_STAT_RX_PWR n.val ≤ 1)) then
      s.calibrate n.val else s) := by
  change execBackgroundRecal n s = _
  rw [execBackgroundRecal, State.awake_of_acts acts]

theorem State.calibrate_lane (s : State) (n : Nat) : (s.calibrate n).lane n = { s.lane n with calTemp := s.junction } :=
  State.lane_updLane_same s n _

/-- A lane with a direction in Active or Quiet is recalibrated. -/
theorem exec_backgroundRecal_on {s : State} {n : Fin 512} (acts : s.Acts) (on : s.laneOn n.val = true)
    (awake : s.fld R.LANE_STAT_TX_PWR n.val ≤ 1 ∨ s.fld R.LANE_STAT_RX_PWR n.val ≤ 1) :
    exec (.backgroundRecal n) s = .next (s.calibrate n.val) := by
  rw [exec_backgroundRecal acts, if_pos (by simpa [on] using awake)]

theorem exec_backgroundRecal_off {s : State} {n : Fin 512} (acts : s.Acts)
    (off : s.laneOn n.val = false ∨ (1 < s.fld R.LANE_STAT_TX_PWR n.val ∧ 1 < s.fld R.LANE_STAT_RX_PWR n.val)) :
    exec (.backgroundRecal n) s = .next s := by
  rw [exec_backgroundRecal acts, if_neg]
  rcases off with h | ⟨tx, rx⟩
  · simp [h]
  · simp [Nat.not_le.mpr tx, Nat.not_le.mpr rx]

theorem exec_recalDone {s : State} {n : Fin 512} (acts : s.Acts) : exec (.recalDone n) s = .next (s.recalDone n.val) := by
  change execRecalDone n s = _
  rw [execRecalDone, State.awake_of_acts acts]

/-- A lane whose recalibration is done: its directions recalibrate no more, and it is in service. -/
def Lane.recalibrated (l : Lane) : Lane := { l with recalTx := false, recalRx := false, outOfService := false }

theorem Lane.recalibrated_of_still {l : Lane} (tx : l.recalTx = false) (rx : l.recalRx = false) :
    l.recalibrated = { l with outOfService := false } := by
  rw [Lane.recalibrated, tx, rx]

/-- A lane of which both directions are Active again, calibrated and in service. -/
def State.recalBoth (s : State) (n : Nat) : State :=
  (((s.setFld R.LANE_STAT_TX_PWR n 0).setFld R.LANE_STAT_RX_PWR n 0).calibrate n).updLane n Lane.recalibrated

section
variable {s : State} {n : Nat}

theorem State.recalDone_none (tx : (s.lane n).recalTx = false) (rx : (s.lane n).recalRx = false)
    (service : (s.lane n).outOfService = false) : s.recalDone n = s :=
  if_pos (by simp [tx, rx, service])

theorem State.recalDone_service (tx : (s.lane n).recalTx = false) (rx : (s.lane n).recalRx = false)
    (out : (s.lane n).outOfService = true) : s.recalDone n = (s.calibrate n).updLane n Lane.recalibrated := by
  simp only [State.recalDone, tx, rx, out, Bool.not_false, Bool.not_true, Bool.and_true, Bool.true_and, Bool.false_eq_true, if_false]
  rfl

theorem State.recalDone_both (tx : (s.lane n).recalTx = true) (rx : (s.lane n).recalRx = true) :
    s.recalDone n = s.recalBoth n := by
  simp only [State.recalDone, tx, rx, Bool.not_true, Bool.and_false, Bool.false_and, Bool.false_eq_true, if_false, if_true]
  rfl

theorem State.lane_setFld (s : State) (f : Fld) (k v m : Nat) : (s.setFld f k v).lane m = s.lane m := by
  unfold State.lane
  rfl

@[simp] theorem State.fld_updLane (s : State) (m : Nat) (f : Lane → Lane) (g : Fld) (k : Nat) : (s.updLane m f).fld g k = s.fld g k := by
  unfold State.fld State.reg
  rfl

/-- The temperature is not among the registers of lanes. -/
theorem State.junction_setFld_lane (s : State) (f : Fld) (lane : f.reg = R.LANE_STAT) (v : Nat) :
    (s.setFld f n v).junction = s.junction := by
  rw [State.junction, State.junction, State.sfld, State.sfld, State.fld_setFld_other]
  rw [lane, laneStat_addr]
  simp only [R.PWR_THERM_TJ, RegSpec.addr, R.PWR_THERM]
  omega

theorem State.recalBoth_txPwr (s : State) (n : Nat) : (s.recalBoth n).fld R.LANE_STAT_TX_PWR n = 0 := by
  rw [State.recalBoth, State.calibrate, State.fld_updLane, State.fld_updLane,
    State.fld_setFld_beside _ R.LANE_STAT_RX_PWR R.LANE_STAT_TX_PWR _ _ rfl (by decide) (by decide),
    State.fld_setFld_same _ R.LANE_STAT_TX_PWR _ _ (by decide), Nat.zero_mod]

theorem State.recalBoth_rxPwr (s : State) (n : Nat) : (s.recalBoth n).fld R.LANE_STAT_RX_PWR n = 0 := by
  rw [State.recalBoth, State.calibrate, State.fld_updLane, State.fld_updLane,
    State.fld_setFld_same _ R.LANE_STAT_RX_PWR _ _ (by decide), Nat.zero_mod]

theorem State.recalBoth_lane (s : State) (n : Nat) : (s.recalBoth n).lane n =
    { s.lane n with calTemp := s.junction, recalTx := false, recalRx := false, outOfService := false } := by
  rw [State.recalBoth, State.lane_updLane_same, State.calibrate_lane, State.lane_setFld, State.lane_setFld,
    State.junction_setFld_lane _ R.LANE_STAT_RX_PWR rfl, State.junction_setFld_lane _ R.LANE_STAT_TX_PWR rfl]
  rfl

/-- Only registers and what lanes hold change. -/
theorem State.recalBoth_frame (s : State) (n : Nat) :
    s.recalBoth n = { s with regs := (s.recalBoth n).regs, lanes := (s.recalBoth n).lanes } := by
  simp only [State.recalBoth, State.calibrate, State.updLane, State.setFld, State.setReg]

end

/-! ### The checker (R138, R140) -/

theorem exec_checkerSample {s : State} {n : Fin 512} {received : List Bool} (acts : s.Acts) :
    exec (.checkerSample n received) s = .next (s.checkerSample n.val received) := by
  change execCheckerSample n received s = _
  rw [execCheckerSample, State.awake_of_acts acts]

section
variable {s : State} {n : Nat} {received : List Bool}

/-- How often the generator of a lane injects an error: never but in rate injection. -/
def State.injectEvery (s : State) (n : Nat) : Nat :=
  if s.fld R.LANE_TEST_INJ_MODE n = 3 then s.fld R.LANE_INJ_INTERVAL_INTERVAL n * 1024 else 0

/-- The next bits of a lane's own generator, with the lane after them. -/
def State.ownBits (s : State) (n count : Nat) : List Bool × Lane :=
  genBits (s.fld R.LANE_TEST_GEN_PAT n) (s.flag R.LANE_TEST_GEN_INV n) (s.fld R.LANE_USER_PAT_PATTERN n) (s.injectEvery n) count (s.lane n)

/-- The state in which a checker takes its bits: its own generator has moved on under a near-end loopback, else the signal is seen. -/
def State.checkerSeen (s : State) (n count : Nat) : State :=
  if s.nearLoop n = true then
    (if s.fld R.LANE_TEST_GEN_PAT n ≠ 0 then s.updLane n (fun _ => (s.ownBits n count).2) else s) else s.signalSeen n

/-- The bits that a checker takes. -/
def State.checkedBits (s : State) (n : Nat) (received : List Bool) : List Bool :=
  if s.nearLoop n = true ∧ s.fld R.LANE_TEST_GEN_PAT n ≠ 0 then (s.ownBits n received.length).1 else received

theorem State.checkerSample_off (off : s.laneOn n = false) : s.checkerSample n received = s :=
  if_pos (by simp [off])

/-- A running checker takes bits: it counts what it has seen and the errors among them, and shows its lock with an event per change. -/
def State.checked (s : State) (n user : Nat) (taken : List Bool) : State :=
  let r := taken.foldl (checkBit (s.fld R.LANE_TEST_CHK_PAT n) (s.flag R.LANE_TEST_CHK_INV n) user)
    ⟨(s.lane n).chk, s.flag R.LANE_STAT_CHK_LOCK n, 0, 0, 0⟩
  (List.range r.changes).foldl (fun s _ => s.raiseOf EV_LANE_CHK n)
    (((((s.updLane n (fun l => { l with chk := r.chk })).bump R.LANE_CHK_BITS_COUNT n r.seen).bump R.LANE_CHK_ERRS_COUNT n r.errs)).setFlag
      R.LANE_STAT_CHK_LOCK n r.locked)

/-- The checker of a lane that is On takes bits unless it is off: by whether its receive path is looped, and whether its generator runs. -/
theorem State.checkerSample_on (on : s.laneOn n = true) :
    let seen := s.checkerSeen n received.length
    s.checkerSample n received = if seen.fld R.LANE_TEST_CHK_PAT n = 0 then seen
      else seen.checked n (s.fld R.LANE_USER_PAT_PATTERN n) (s.checkedBits n received) := by
  cases near : s.nearLoop n
  · simp only [State.checkerSample, State.checkerSeen, State.checkedBits, on, near, Bool.not_true, Bool.false_and, Bool.false_eq_true,
      if_false, false_and]
    rfl
  · by_cases gen : s.fld R.LANE_TEST_GEN_PAT n = 0
    · simp only [State.checkerSample, State.checkerSeen, State.checkedBits, on, near, gen, Bool.not_true, bne_self_eq_false, Bool.and_false,
        Bool.false_eq_true, if_false, if_true, ne_eq, not_true_eq_false, and_false]
      rfl
    · have runs : (s.fld R.LANE_TEST_GEN_PAT n != 0) = true := by simp [gen]
      simp only [State.checkerSample, State.checkerSeen, State.checkedBits, on, near, gen, runs, Bool.not_true, Bool.and_true,
        Bool.false_eq_true, if_false, if_true, ne_eq, not_false_eq_true, and_self]
      rfl

end

/-- Settles O47: the rows of lanes, case by case. -/
theorem laneCommands : Obligations.LaneCommands := by
  refine ⟨fun s n acts => ?_, fun s f n l h width => ⟨State.lifeEnd_fld s f n l h width, State.lifeEnd_forced s f n l,
    State.lifeEnd_registersBut s f n l⟩, ?_, fun s o b => ⟨State.takeRef_onNeighbour s o b, State.takeRef_pllLock s o b⟩,
    fun s n acts => ?_, fun s n received acts => ⟨fun off => ?_, fun on => ?_⟩⟩
  · have started {ok : Bool} {t : State} (h : s.laneStarted n.val ok = t) : exec (.laneStartingEnd n ok) s = .next t :=
      (exec_laneStartingEnd acts ok).trans (by rw [h])
    have stopped {t : State} (h : s.laneStopped n.val = t) : exec (.laneStoppingEnd n) s = .next t :=
      (exec_laneStoppingEnd acts).trans (by rw [h])
    refine ⟨fun other ok => started (State.laneStarted_of_not_starting other ok),
      fun other => stopped (State.laneStopped_of_not_stopping other),
      fun starting => started (State.laneStarted_up starting), ?_, fun stopping => stopped (State.laneStopped_dark stopping)⟩
    intro starting failed
    exact ⟨fun alone => started (State.laneStarted_failed_alone starting alone),
      fun p port portStarting => started (State.laneStarted_failed_port starting port portStarting)⟩
  · intro s o acts on lost t
    have run {u : State} (h : s.refLoss o.val = u) : exec (.refclkLoss o) s = .next u := (exec_refclkLoss acts).trans (by rw [h])
    have switched := State.refLoss_eq s o.val
    refine ⟨fun auto there => run (switched.trans (if_pos ?_)), fun stays => run (switched.trans (if_neg fun both => ?_))⟩
    · exact (Bool.and_eq_true _ _).mpr ⟨auto, (Bool.not_eq_true' _).mpr there⟩
    · obtain ⟨auto, there⟩ := (Bool.and_eq_true _ _).mp both
      rcases stays with off | gone
      · exact Bool.false_ne_true (off.symm.trans auto)
      · exact Bool.false_ne_true (((Bool.not_eq_true' _).mp there).symm.trans gone)
  · refine ⟨fun on awake => ⟨s.calibrate n.val, exec_backgroundRecal_on acts on awake, State.calibrate_lane s n.val,
      fun m other => State.lane_updLane_other s _ other, rfl⟩, exec_backgroundRecal_off acts, ?_, ?_, ?_⟩
    · intro tx rx service
      rw [exec_recalDone acts, State.recalDone_none tx rx service]
    · intro tx rx out
      refine ⟨(s.calibrate n.val).updLane n.val Lane.recalibrated, by rw [exec_recalDone acts, State.recalDone_service tx rx out], ?_, rfl⟩
      rw [State.lane_updLane_same, State.calibrate_lane]
      exact Lane.recalibrated_of_still tx rx
    · intro tx rx
      exact ⟨s.recalBoth n.val, by rw [exec_recalDone acts, State.recalDone_both tx rx], s.recalBoth_txPwr n.val, s.recalBoth_rxPwr n.val,
        s.recalBoth_lane n.val, s.recalBoth_frame n.val⟩
  · rw [exec_checkerSample acts, State.checkerSample_off off]
  · intro user gen every own looped seen pat
    have taken := State.checkerSample_on (received := received) on
    have run {u : State} (h : s.checkerSample n.val received = u) : exec (.checkerSample n received) s = .next u :=
      (exec_checkerSample acts).trans (by rw [h])
    exact ⟨fun idle => run (taken.trans (if_pos idle)), fun running => run (taken.trans (if_neg running))⟩

end Sys2Proof.Machine
end

section
/-! PROOFS. Instruction words are read back (R61, R63, R68): an instruction word is a row of fields, each of which reads as what it holds. -/

namespace Sys2Proof.Machine

/-! ### Words made of fields -/

/-- A field of a word with what it holds: its bits `[hi:lo]` and their value. -/
structure WordPart where
  hi : Nat
  lo : Nat
  value : Nat

/-- Whether a value fits its field. -/
def WordPart.Fits (p : WordPart) : Prop := p.lo ≤ p.hi ∧ p.value < 2 ^ (p.hi + 1 - p.lo)

/-- Whether bit `i` of a word is a 1 of the field. -/
def WordPart.sets (p : WordPart) (i : Nat) : Bool := decide (p.lo ≤ i) && p.value.testBit (i - p.lo)

/-- The word that fields make up. -/
def packed (ps : List WordPart) : Nat := (ps.map (fun p => p.value * 2 ^ p.lo)).sum

/-- Fields that lie apart, the lowest first, each with a value that fits it. -/
def PartsFit (ps : List WordPart) : Prop := ps.Pairwise (fun p r => p.hi < r.lo) ∧ ∀ p ∈ ps, p.Fits

/-- What a word's field with the bits `[hi:lo]` holds. -/
def partAt (ps : List WordPart) (hi lo : Nat) : Option Nat :=
  (ps.find? (fun p => p.hi == hi && p.lo == lo)).map WordPart.value

theorem WordPart.Fits.below {p : WordPart} (h : p.Fits) : p.value * 2 ^ p.lo < 2 ^ (p.hi + 1) := by
  obtain ⟨rises, fits⟩ := h
  calc p.value * 2 ^ p.lo < 2 ^ (p.hi + 1 - p.lo) * 2 ^ p.lo := (Nat.mul_lt_mul_right (by positivity)).mpr fits
    _ = 2 ^ (p.hi + 1) := by rw [← pow_add]; congr 1; omega

/-- Fields from bit `k` on make up a multiple of `2 ^ k`. -/
theorem dvd_packed {ps : List WordPart} {k : Nat} (h : ∀ p ∈ ps, k ≤ p.lo) : 2 ^ k ∣ packed ps := by
  refine List.dvd_sum fun x member => ?_
  obtain ⟨p, hp, rfl⟩ := List.mem_map.mp member
  exact Dvd.dvd.mul_left (pow_dvd_pow 2 (h p hp)) _

theorem PartsFit.tail {p : WordPart} {ps : List WordPart} (h : PartsFit (p :: ps)) : PartsFit ps :=
  ⟨(List.pairwise_cons.mp h.1).2, fun r hr => h.2 r (List.mem_cons_of_mem p hr)⟩

/-- Up to its upper end the lowest field gives the bits of a word, and above it the others do. -/
theorem testBit_packed_cons {p : WordPart} {ps : List WordPart} (h : PartsFit (p :: ps)) (i : Nat) :
    (packed (p :: ps)).testBit i = if i ≤ p.hi then p.sets i else (packed ps).testBit i := by
  obtain ⟨apart, fit⟩ := h
  obtain ⟨m, hm⟩ : 2 ^ (p.hi + 1) ∣ packed ps := dvd_packed fun r hr => (List.pairwise_cons.mp apart).1 r hr
  have word : packed (p :: ps) = 2 ^ (p.hi + 1) * m + p.value * 2 ^ p.lo := by
    rw [← hm]; simp [packed, Nat.add_comm]
  have head : p.Fits := fit p List.mem_cons_self
  rw [word, Nat.testBit_two_pow_mul_add _ head.below, hm]
  by_cases inside : i ≤ p.hi
  · rw [if_pos (by omega), if_pos inside, Nat.testBit_mul_two_pow, WordPart.sets]
  · rw [if_neg (by omega), if_neg inside, Nat.testBit_two_pow_mul, decide_eq_true (by omega), Bool.true_and]

/-- A bit of a word is a bit of one of its fields. -/
theorem exists_part_of_testBit {ps : List WordPart} (h : PartsFit ps) {i : Nat} (set : (packed ps).testBit i = true) :
    ∃ p ∈ ps, p.lo ≤ i ∧ i ≤ p.hi := by
  induction ps with
  | nil => simp [packed] at set
  | cons p ps ih =>
    rw [testBit_packed_cons h] at set
    split_ifs at set with inside
    · exact ⟨p, List.mem_cons_self, of_decide_eq_true (Bool.and_eq_true _ _ ▸ set).1, inside⟩
    · obtain ⟨r, hr, within⟩ := ih h.tail set
      exact ⟨r, List.mem_cons_of_mem p hr, within⟩

/-- A field of a word reads as what it holds. -/
theorem bits_packed_of_mem {ps : List WordPart} (h : PartsFit ps) {p : WordPart} (hp : p ∈ ps) :
    bits (packed ps) p.hi p.lo = p.value := by
  induction ps with
  | nil => cases hp
  | cons r ps ih =>
    apply Nat.eq_of_testBit_eq
    intro i
    have fit : p.Fits := h.2 p hp
    rw [bits_testBit, testBit_packed_cons h]
    rcases List.mem_cons.mp hp with rfl | later
    · by_cases inside : i < p.hi + 1 - p.lo
      · rw [if_pos (by omega)]
        simp [inside, WordPart.sets]
      · have high : p.value.testBit i = false :=
          Nat.testBit_lt_two_pow (lt_of_lt_of_le fit.2 (Nat.pow_le_pow_right (by decide) (by omega)))
        simp [inside, high]
    · have above : r.hi < p.lo := (List.pairwise_cons.mp h.1).1 p later
      rw [if_neg (by omega), ← bits_testBit, ih h.tail later]

theorem bits_packed {ps : List WordPart} (h : PartsFit ps) {hi lo : Nat} (there : (partAt ps hi lo).isSome = true) :
    bits (packed ps) hi lo = (partAt ps hi lo).getD 0 := by
  rw [partAt] at there ⊢
  cases found : ps.find? (fun p => p.hi == hi && p.lo == lo) with
  | none => simp [found] at there
  | some p =>
    obtain ⟨rfl, rfl⟩ : p.hi = hi ∧ p.lo = lo := by simpa using List.find?_some found
    exact bits_packed_of_mem h (List.mem_of_find?_eq_some found)

theorem bit_eq_bits (x i : Nat) : bit x i = (bits x i i == 1) := by
  rw [bit, bits, Nat.testBit_eq_decide_div_mod_eq, Nat.shiftRight_eq_div_pow, show i + 1 - i = 1 by omega, pow_one]
  rfl

@[simp] theorem ofFlag_beq_one (b : Bool) : (ofFlag b == 1) = b := by cases b <;> rfl

@[simp] theorem ofFlag_le_one (b : Bool) : ofFlag b ≤ 1 := by cases b <;> decide

/-! ### The fields of an instruction word (R61, R68) -/

/-- The fields of OPERAND and IFLAGS of an instruction, the lowest first. -/
def operandParts (i : OrderInstr) : List WordPart :=
  match i with
  | .set off w64 fromG _ _ => [⟨24, 0, off⟩, ⟨25, 25, ofFlag w64⟩, ⟨48, 48, ofFlag fromG⟩]
  | .get g off w64 => [⟨24, 0, off⟩, ⟨25, 25, ofFlag w64⟩, ⟨29, 26, g⟩]
  | .check g test _ _ => [⟨43, 40, test⟩, ⟨47, 44, g⟩]
  | .waitEpoch rel epoch => [⟨47, 0, epoch⟩, ⟨48, 48, ofFlag rel⟩]
  | .waitEvent code unit timeout => [⟨23, 0, timeout⟩, ⟨35, 24, unit⟩, ⟨47, 36, code⟩]
  | .fence edge => [⟨48, 48, ofFlag edge⟩]
  | .commit epoch => [⟨47, 0, epoch⟩]
  | .tblIns pipes wide learned _ => [⟨47, 40, pipes⟩, ⟨48, 48, ofFlag learned⟩, ⟨49, 49, ofFlag wide⟩]
  | .tblDel pipes wide learned _ => [⟨47, 40, pipes⟩, ⟨48, 48, ofFlag learned⟩, ⟨49, 49, ofFlag wide⟩]
  | .tblMod pipes wide _ => [⟨47, 40, pipes⟩, ⟨49, 49, ofFlag wide⟩]
  | .tcamWr pipe index egress invalidate _ =>
    [⟨43, 30, index⟩, ⟨47, 45, pipe⟩, ⟨48, 48, ofFlag egress⟩, ⟨49, 49, ofFlag invalidate⟩]
  | .parseLoad pipes first words => [⟨31, 24, words.length / 4 - 1⟩, ⟨39, 32, first⟩, ⟨47, 40, pipes⟩]
  | .patLoad pipes first words => [⟨27, 20, words.length / 9 - 1⟩, ⟨39, 28, first⟩, ⟨47, 40, pipes⟩]
  | .leafWr outLane outTu inLane inTu unequipped =>
    [⟨22, 16, inTu⟩, ⟨31, 23, inLane⟩, ⟨38, 32, outTu⟩, ⟨47, 39, outLane⟩, ⟨48, 48, ofFlag unequipped⟩]
  | .leafSwap epoch => [⟨47, 0, epoch⟩]
  | .tuMap lane tu label => [⟨31, 24, label⟩, ⟨38, 32, tu⟩, ⟨47, 39, lane⟩]
  | .chanBind port lane unbind _ _ => [⟨37, 29, lane⟩, ⟨47, 38, port⟩, ⟨48, 48, ofFlag unbind⟩]
  | .portUp port lane lanes speed fec mode =>
    [⟨21, 20, mode⟩, ⟨23, 22, fec⟩, ⟨26, 24, speed⟩, ⟨28, 27, lanes⟩, ⟨37, 29, lane⟩, ⟨47, 38, port⟩]
  | .portDown port => [⟨47, 38, port⟩]
  | .laneCfg lane param value => [⟨31, 0, value⟩, ⟨38, 32, param⟩, ⟨47, 39, lane⟩]
  | .qCfg queue port tier group _ _ => [⟨19, 17, group⟩, ⟨21, 20, tier⟩, ⟨31, 22, port⟩, ⟨47, 32, queue⟩]
  | .meterCfg meter alg colourAware _ _ => [⟨30, 29, alg⟩, ⟨47, 31, meter⟩, ⟨48, 48, ofFlag colourAware⟩]
  | .rsvDecl flow meter queue withdraw _ _ => [⟨16, 1, queue⟩, ⟨33, 17, meter⟩, ⟨47, 34, flow⟩, ⟨48, 48, ofFlag withdraw⟩]
  | .tbStep tb abs _ _ => [⟨42, 40, tb⟩, ⟨48, 48, ofFlag abs⟩]
  | .tbRate tb rate => [⟨39, 0, rate⟩, ⟨42, 40, tb⟩]
  | .tbRearm tb => [⟨42, 40, tb⟩]
  | .pulseSet tpo tb enable train _ _ _ => [⟨42, 40, tb⟩, ⟨47, 44, tpo⟩, ⟨48, 48, ofFlag enable⟩, ⟨49, 49, ofFlag train⟩]
  | .snap block unit => [⟨39, 28, unit⟩, ⟨47, 40, block⟩]
  | .pairRole active => [⟨0, 0, ofFlag active⟩]
  | .pairSwap epoch => [⟨47, 0, epoch⟩]
  | .sprintArm arm => [⟨48, 48, ofFlag arm⟩]
  | .freezePermit duration => [⟨31, 0, duration⟩]
  | .fwLoad slot _ _ => [⟨47, 44, slot⟩]
  | .keyEnrol slot _ => [⟨2, 0, slot⟩]
  | .keyRevoke slot => [⟨2, 0, slot⟩]
  | .charterSet source number _ _ => [⟨43, 40, number⟩, ⟨47, 44, source⟩]
  | .nop | .stageBegin | .stageEnd | .abort | .attest .. => []

/-- The fields of an instruction word above its OPERAND and IFLAGS: HALT, COND and OPCODE. -/
def headParts (i : OrderInstr) (cond : Nat) (halt : Bool) : List WordPart := [⟨53, 53, ofFlag halt⟩, ⟨55, 54, cond⟩, ⟨63, 56, opcodeOf i⟩]

/-- The fields of an instruction word. -/
def wordParts (i : OrderInstr) (cond : Nat) (halt : Bool) : List WordPart := operandParts i ++ headParts i cond halt

@[simp] theorem packed_nil : packed [] = 0 := List.sum_nil

@[simp] theorem packed_cons (hi lo v : Nat) (ps : List WordPart) : packed (⟨hi, lo, v⟩ :: ps) = v * 2 ^ lo + packed ps := by
  rw [packed, List.map_cons, List.sum_cons, packed]

theorem operandOf_eq_packed (i : OrderInstr) : operandOf i = packed (operandParts i) := by
  cases i <;> simp only [operandOf, operandParts, packed_nil, packed_cons, pow_zero, pow_one, mul_one, add_zero, add_assoc]

theorem packed_append (ps qs : List WordPart) : packed (ps ++ qs) = packed ps + packed qs := by
  simp only [packed, List.map_append, List.sum_append]

theorem orderWord_eq_packed (i : OrderInstr) (cond : Nat) (halt : Bool) : orderWord i cond halt = packed (wordParts i cond halt) := by
  rw [wordParts, packed_append, ← operandOf_eq_packed, orderWord, headParts, packed_cons, packed_cons, packed_cons, packed_nil, add_zero,
    add_comm (opcodeOf i * 2 ^ 56), add_comm _ (ofFlag halt * 2 ^ 53), add_comm (operandOf i)]

theorem opcodeOf_lt (i : OrderInstr) : opcodeOf i < 256 := by
  cases i <;> simp only [opcodeOf] <;> decide

/-- The fields of OPERAND and IFLAGS lie apart below bit 50. -/
theorem operandParts_apart (i : OrderInstr) :
    (operandParts i).Pairwise (fun p r => p.hi < r.lo) ∧ ∀ p ∈ operandParts i, p.lo ≤ p.hi ∧ p.hi < 50 := by
  cases i <;> simp [operandParts]

/-- What a well-formed instruction puts into its fields fits them. -/
theorem operandParts_fit {i : OrderInstr} (wf : i.wf = true) : ∀ p ∈ operandParts i, p.value < 2 ^ (p.hi + 1 - p.lo) := by
  cases i <;> simp_all [operandParts, OrderInstr.wf, fits]
  case parseLoad => omega
  case patLoad => omega


theorem mem_headParts {i : OrderInstr} {cond : Nat} {halt : Bool} {p : WordPart} (h : p ∈ headParts i cond halt) :
    p = ⟨53, 53, ofFlag halt⟩ ∨ p = ⟨55, 54, cond⟩ ∨ p = ⟨63, 56, opcodeOf i⟩ := by
  simpa [headParts] using h

theorem wordParts_fit {i : OrderInstr} (wf : i.wf = true) {cond : Nat} (hc : cond < 4) (halt : Bool) : PartsFit (wordParts i cond halt) := by
  obtain ⟨apart, low⟩ := operandParts_apart i
  refine ⟨List.pairwise_append.mpr ⟨apart, by simp [headParts], fun p hp r hr => ?_⟩, fun p hp => ?_⟩
  · have operand := low p hp
    rcases mem_headParts hr with rfl | rfl | rfl <;> simp only <;> omega
  · rcases List.mem_append.mp hp with hp | hp
    · exact ⟨(low p hp).1, operandParts_fit wf p hp⟩
    · rcases mem_headParts hp with rfl | rfl | rfl
      · simp [WordPart.Fits]
      · simpa [WordPart.Fits] using hc
      · simpa [WordPart.Fits] using opcodeOf_lt i

section
variable {i : OrderInstr} {cond : Nat} {halt : Bool} (wf : i.wf = true) (hc : cond < 4)
include wf hc

/-- A field of an instruction word reads as what it holds. -/
theorem bits_orderWord {hi lo : Nat} (there : (partAt (wordParts i cond halt) hi lo).isSome = true) :
    bits (orderWord i cond halt) hi lo = (partAt (wordParts i cond halt) hi lo).getD 0 := by
  rw [orderWord_eq_packed]
  exact bits_packed (wordParts_fit wf hc halt) there

theorem bit_orderWord {k : Nat} (there : (partAt (wordParts i cond halt) k k).isSome = true) :
    bit (orderWord i cond halt) k = ((partAt (wordParts i cond halt) k k).getD 0 == 1) := by
  rw [bit_eq_bits, bits_orderWord wf hc there]

theorem bits_orderWord_of_mem {p : WordPart} (hp : p ∈ wordParts i cond halt) : bits (orderWord i cond halt) p.hi p.lo = p.value := by
  rw [orderWord_eq_packed]
  exact bits_packed_of_mem (wordParts_fit wf hc halt) hp

/-- A bit of an instruction word lies in one of its fields. -/
theorem part_of_testBit_orderWord {k : Nat} (set : (orderWord i cond halt).testBit k = true) :
    (∃ p ∈ operandParts i, p.lo ≤ k ∧ k ≤ p.hi) ∨ (53 ≤ k ∧ k < 64) := by
  rw [orderWord_eq_packed] at set
  obtain ⟨p, hp, within⟩ := exists_part_of_testBit (wordParts_fit wf hc halt) set
  rcases List.mem_append.mp hp with hp | hp
  · exact .inl ⟨p, hp, within⟩
  · refine .inr ?_
    rcases mem_headParts hp with rfl | rfl | rfl <;> simp only at within <;> omega

/-- The 1 bits of an instruction word lie below bit 50 or from bit 53 to bit 63. -/
theorem place_of_testBit_orderWord {k : Nat} (set : (orderWord i cond halt).testBit k = true) : k < 50 ∨ (53 ≤ k ∧ k < 64) := by
  rcases part_of_testBit_orderWord wf hc set with ⟨p, hp, within⟩ | head
  · have := (operandParts_apart i).2 p hp
    omega
  · exact .inr head

theorem orderWord_lt : orderWord i cond halt < 2 ^ 64 := by
  refine Nat.lt_pow_two_of_testBit _ fun k hk => Bool.eq_false_iff.mpr fun set => ?_
  have := place_of_testBit_orderWord wf hc set
  omega

/-- Bit 52 is reserved. -/
theorem orderWord_reserved : bit (orderWord i cond halt) 52 = false := by
  refine Bool.eq_false_iff.mpr fun set => ?_
  have := place_of_testBit_orderWord wf hc set
  omega

/-- An instruction has as many extra words as its word says. -/
theorem extraWords_orderWord : extraWords (opcodeOf i) (orderWord i cond halt) = (extraOf i).length := by
  have operands := wf
  cases i <;> simp [OrderInstr.wf, fits] at operands <;>
    simp [extraWords, opcodeOf, extraOf, bit_orderWord wf hc, bits_orderWord wf hc, wordParts, operandParts, headParts, partAt, operands]
  case parseLoad => omega
  case patLoad => omega

/-- The fields of its word and its extra words give an instruction back. -/
theorem orderInstr_orderWord : orderInstr (opcodeOf i) (orderWord i cond halt) (extraOf i) = i := by
  cases i <;> simp [orderInstr, opcodeOf, extraOf, bit_orderWord wf hc, bits_orderWord wf hc, wordParts, operandParts, headParts, partAt]
  case attest nonce addr limit =>
    have four : nonce.length = 4 := by simpa [OrderInstr.wf] using wf
    simp [four]

end

/-! ### The fields that decoding covers (R61) -/

/-- A bit of the cover of fields is a bit of one of them. -/
theorem testBit_coverOf (fs : List (Nat × Nat)) (k : Nat) :
    (coverOf fs).testBit k = fs.any (fun f => decide (f.2 ≤ k) && decide (k < f.2 + (f.1 + 1 - f.2))) := by
  suffices h : ∀ m, (fs.foldl (fun m f => m ||| (2 ^ (f.1 + 1 - f.2) - 1) <<< f.2) m).testBit k =
      (m.testBit k || fs.any (fun f => decide (f.2 ≤ k) && decide (k < f.2 + (f.1 + 1 - f.2)))) by
    simpa [coverOf] using h 0
  induction fs with
  | nil => simp
  | cons f fs ih =>
    intro m
    have place : decide (k - f.2 < f.1 + 1 - f.2 ∧ f.2 ≤ k) = (decide (f.2 ≤ k) && decide (k < f.2 + (f.1 + 1 - f.2))) := by
      rw [← Bool.decide_and]; congr 1; apply propext; omega
    rw [List.foldl_cons, ih, Nat.testBit_or, Nat.testBit_shiftLeft, Nat.testBit_two_pow_sub_one, List.any_cons, ← place]
    simp [Bool.or_assoc, Bool.and_comm]

/-- The fields of an opcode cover those that encoding sets. -/
theorem opFields_cover (i : OrderInstr) : ∃ fs, opFields (opcodeOf i) = some fs ∧
    ∀ p ∈ operandParts i, ∃ f ∈ fs, f.2 ≤ p.lo ∧ p.hi ≤ f.1 := by
  cases i <;> exact ⟨_, rfl, by simp [operandParts]⟩

/-- Fields that hold those that encoding sets cover the word below bit 53. -/
theorem orderWord_covered {i : OrderInstr} {cond : Nat} {halt : Bool} (wf : i.wf = true) (hc : cond < 4) {fs : List (Nat × Nat)}
    (covered : ∀ p ∈ operandParts i, ∃ f ∈ fs, f.2 ≤ p.lo ∧ p.hi ≤ f.1) :
    bits (orderWord i cond halt) 52 0 &&& coverOf fs = bits (orderWord i cond halt) 52 0 := by
  refine Nat.eq_of_testBit_eq fun k => ?_
  rw [Nat.testBit_and, bits_testBit, testBit_coverOf, Nat.zero_add]
  by_cases low : k < 53
  · cases set : (orderWord i cond halt).testBit k with
    | false => simp
    | true =>
      rcases part_of_testBit_orderWord wf hc set with ⟨p, hp, within⟩ | head
      · obtain ⟨f, hf, inside⟩ := covered p hp
        have there : fs.any (fun f => decide (f.2 ≤ k) && decide (k < f.2 + (f.1 + 1 - f.2))) = true :=
          List.any_eq_true.mpr ⟨f, hf, by simp; omega⟩
        rw [there, Bool.and_true]
      · omega
  · simp [low]

/-- Settles O8: an instruction word is made of fields that lie apart, and each of them reads as what it holds. -/
theorem orderWordsRoundTrip : Obligations.OrderWordsRoundTrip := by
  intro i cond halt wf hc w
  have part {p : WordPart} (hp : p ∈ headParts i cond halt) : bits w p.hi p.lo = p.value :=
    bits_orderWord_of_mem wf hc (List.mem_append_right _ hp)
  have halts : bits w 53 53 = ofFlag halt := part (p := ⟨53, 53, ofFlag halt⟩) (by simp [headParts])
  have conds : bits w 55 54 = cond := part (p := ⟨55, 54, cond⟩) (by simp [headParts])
  have opcode : bits w 63 56 = opcodeOf i := part (p := ⟨63, 56, opcodeOf i⟩) (by simp [headParts])
  obtain ⟨fs, valid, covered⟩ := opFields_cover i
  refine ⟨orderWord_lt wf hc, opcode, conds, ?_, orderWord_reserved wf hc, ⟨fs, valid, orderWord_covered wf hc covered⟩,
    extraWords_orderWord wf hc, orderInstr_orderWord wf hc⟩
  rw [bit_eq_bits, halts, ofFlag_beq_one]

/-- Settles O9: each word is computed on its own. -/
theorem orderWordsDecode : Obligations.OrderWordsDecode :=
  ⟨by decide, by decide, by decide, by decide, by decide, by decide⟩

end Sys2Proof.Machine
end

section
/-! PROOFS. How a bundle goes on, and the instructions of control (R62, R63, R71, R75), those that wait (R76 to R78) and the writes under
claims (R265, R270, R274). -/

namespace Sys2Proof.Machine

/-! ### The bundle of a queue -/

@[simp] theorem State.slot_setSlot (s : State) (q : OrderQueue) (b : Bundle) : (s.setSlot q b).slot q = some b :=
  SMap.find_put_same _ _ _

theorem State.setSlot_newSet (s : State) (q : OrderQueue) (b c : Bundle) :
    (s.setSlot q b).newSet.2.setSlot q c =
      ({ s with bureau := { s.bureau with nextSet := s.bureau.nextSet + 1 } } : State).setSlot q c := by
  simp only [State.newSet, State.setSlot, State.updBureau, SMap.put_put]

/-- An instruction that comes next runs as its row says, and then bundles that are ready start. -/
theorem exec_of_comesNext {c : Instr} {s t : State} {q : OrderQueue} {b : Bundle} {p : ProgStep} {i : OrderInstr}
    {run : Bundle → ProgStep → State → State} (h : s.ComesNext q b p i) (row : exec c s = .next (s.order q i run))
    (ran : run b.ran p (s.setSlot q b.ran) = t) : exec c s = .next (State.startReady 24 t) := by
  rw [row, State.order_of_comesNext h, ran]

/-! ### How a bundle goes on (R62, R71, R80) -/

section
variable {s : State} {q : OrderQueue} {b : Bundle} {p : ProgStep} {i : OrderInstr}

theorem State.order_skipped {run : Bundle → ProgStep → State → State} (acts : s.Acts) (slot : s.slot q = some b)
    (running : b.phase = .running) (next : b.prog[b.next]? = some p) (instr : p.instr = i)
    (skipped : (p.cond = 1 ∧ b.c = false) ∨ (p.cond = 2 ∧ b.c = true)) : s.order q i run = State.startReady 24 (s.proceed q) := by
  rw [State.order, State.bureauAct_of_acts acts, slot]
  simp only [running, next, instr, ne_eq, not_true_eq_false, if_false, if_pos skipped]

/-- A bundle that has gone on to the step behind its current one. -/
def Bundle.onward (b : Bundle) : Bundle := { b with next := b.next + 1, phase := .running }

theorem State.proceed_setSlot : (s.setSlot q b).proceed q = (s.setSlot q b.onward).settle q := by
  rw [State.proceed, State.slot_setSlot]
  exact congrArg (State.settle · q) (State.setSlot_setSlot ..)

theorem State.settle_more (more : b.next < b.prog.length) : (s.setSlot q b).settle q = s.setSlot q b := by
  simp only [State.settle, State.slot_setSlot, if_pos more]

variable (last : b.prog.length ≤ b.next)
include last

theorem State.settle_held (stage : b.stage ≠ none) : (s.setSlot q b).settle q = (s.setSlot q b).endBundle q ⟨9, 0x1FFF, 3, 0⟩ := by
  simp only [State.settle, State.slot_setSlot, if_neg (Nat.not_lt.mpr last), if_pos (Option.isSome_iff_ne_none.mpr stage)]

theorem State.settle_late {l : Nat × Nat} (stage : b.stage = none) (late : b.late = some l) :
    (s.setSlot q b).settle q = (s.setSlot q b).endBundle q ⟨7, l.1, l.2, 0⟩ := by
  simp only [State.settle, State.slot_setSlot, if_neg (Nat.not_lt.mpr last), stage, late, Option.isSome_none, Bool.false_eq_true, if_false]

theorem State.settle_done (stage : b.stage = none) (late : b.late = none) :
    (s.setSlot q b).settle q = (s.setSlot q b).endBundle q ⟨0, 0x1FFF, b.executed, 0⟩ := by
  simp only [State.settle, State.slot_setSlot, if_neg (Nat.not_lt.mpr last), stage, late, Option.isSome_none, Bool.false_eq_true, if_false]

end

/-- A bundle without a stage set that ends, but for the refusals that are reported, keeps only its ending. -/
theorem State.endBundle_unreported {s : State} {q : OrderQueue} {b : Bundle} {e : Ending} (stage : b.stage = none)
    (silent : e.status < 2 ∨ 4 < e.status) : (s.setSlot q b).endBundle q e = s.setSlot q { b with phase := .finished, ending := some e } := by
  have unreported : ¬ (2 ≤ e.status ∧ e.status ≤ 4) := by omega
  simp only [State.endBundle, State.slot_setSlot, stage, if_neg unreported, State.setSlot_setSlot]

/-! ### NOP, GET, CHECK and the stage block (R63, R66, R71) -/

section
variable {s : State} {q : OrderQueue} {b : Bundle} {p : ProgStep}

theorem exec_nop_of_comesNext (h : s.ComesNext q b p .nop) : exec (.nop q) s = .next (s.goesOn q b.ran) :=
  exec_of_comesNext h rfl rfl

theorem exec_get_of_comesNext {g off : Nat} {w64 : Bool} (h : s.ComesNext q b p (.get g off w64)) : exec (.get q g off w64) s =
    .next (s.goesOn q { b.ran with g := SMap.set 0 b.g g (BitVec.ofNat 64 ((s.setSlot q b.ran).peek off w64)) }) :=
  exec_of_comesNext h rfl (by rw [State.setSlot_setSlot]; rfl)

section
variable {g test : Nat} {mask value : Word64} (h : s.ComesNext q b p (.check g test mask value))
include h

theorem exec_check_goesOn {ok : Bool} (tested : checkTest test (b.reg g &&& mask).toNat value.toNat = ok) (on : ok = true ∨ p.halt = false) :
    exec (.check q g test mask value) s = .next (s.goesOn q { b.ran with c := ok }) := by
  have stays : (p.halt && !ok) = false := by rcases on with h | h <;> simp [h]
  refine exec_of_comesNext h rfl ?_
  have tested' : checkTest test (b.ran.reg g &&& mask).toNat value.toNat = ok := tested
  simp only [tested', stays, Bool.false_eq_true, if_false, State.setSlot_setSlot]

theorem exec_check_fails (tested : checkTest test (b.reg g &&& mask).toNat value.toNat = false) (halt : p.halt = true) :
    exec (.check q g test mask value) s = .next (s.failsAt q { b.ran with c := false } p 9 1 (b.reg g).toNat) := by
  refine exec_of_comesNext h rfl ?_
  have tested' : checkTest test (b.ran.reg g &&& mask).toNat value.toNat = false := tested
  simp only [tested', halt, Bool.not_false, Bool.and_self, if_true, State.setSlot_setSlot]
  rfl

end

theorem exec_stageBegin_of_comesNext (h : s.ComesNext q b p .stageBegin) : exec (.stageBegin q) s =
    .next (({ s with bureau := { s.bureau with nextSet := s.bureau.nextSet + 1 } } : State).goesOn q
      { b.ran with stage := some { id := s.bureau.nextSet, opened := true, items := [], leafSwap := false } }) :=
  exec_of_comesNext h rfl (congrArg (State.proceed · q) (State.setSlot_newSet ..))

theorem exec_stageEnd_of_comesNext {st : StageSet} (h : s.ComesNext q b p .stageEnd) (stage : b.stage = some st) :
    exec (.stageEnd q) s = .next (s.goesOn q { b.ran with stage := some { st with opened := false } }) := by
  have ran : b.ran.stage = some st := stage
  refine exec_of_comesNext h rfl ?_
  simp only [State.setSlot_setSlot, ran, Option.map_some]

theorem exec_abort_of_comesNext {st : StageSet} (h : s.ComesNext q b p .abort) (stage : b.stage = some st) :
    exec (.abort q) s = .next ((s.dropClaims st.id).goesOn q { b.ran with stage := none }) := by
  have ran : b.ran.stage = some st := stage
  refine exec_of_comesNext h rfl ?_
  simp only [ran, State.setSlot_dropClaims, State.setSlot_setSlot]

end

/-- Settles O29: how a bundle goes on, by its position, its stage set and its late commits, and what each control instruction does. -/
theorem controlOrders : Obligations.ControlOrders := by
  refine ⟨⟨fun s q b p i run acts slot running next instr => State.order_skipped acts slot running next instr,
    fun s q b => ⟨fun more => ?_, fun last => ⟨fun stage late => ?_, fun l stage late => ?_, fun stage => ?_⟩⟩,
    fun s q b e stage silent => State.endBundle_unreported stage silent⟩,
    fun s q b p => ⟨exec_nop_of_comesNext, fun g off w64 => exec_get_of_comesNext,
      fun g test mask value h => ⟨exec_check_goesOn h rfl, exec_check_fails h⟩, exec_stageBegin_of_comesNext,
      fun st => exec_stageEnd_of_comesNext, fun st => exec_abort_of_comesNext⟩⟩
  · exact State.proceed_setSlot.trans (State.settle_more (b := b.onward) more)
  · exact State.proceed_setSlot.trans (State.settle_done (b := b.onward) last stage late)
  · exact State.proceed_setSlot.trans (State.settle_late (b := b.onward) last stage late)
  · exact State.proceed_setSlot.trans (State.settle_held (b := b.onward) last stage)

/-! ### Instructions that wait, and what resumes them (R76 to R78) -/

section
variable {s : State} {q : OrderQueue} {b : Bundle} {p : ProgStep}

theorem State.effectDone_setSlot (s : State) (q : OrderQueue) (c : Bundle) (n : Nat) (i : OrderInstr) :
    (s.setSlot q c).effectDone n i = s.effectDone n i := by
  cases i <;> rfl

/-- Counting an instruction as executed does not make it one of the earlier ones. -/
theorem State.settledBefore_ran (s : State) (q : OrderQueue) (b : Bundle) (n : Nat) :
    (s.setSlot q b.ran).settledBefore n b.ran = s.settledBefore n b := by
  simp only [State.settledBefore, Bundle.ran, State.effectDone_setSlot, List.filterMap_append, List.filterMap_cons, lt_self_iff_false,
    if_false, List.filterMap_nil, List.append_nil] <;> rfl

theorem Bundle.saw_iff (b : Bundle) (code unit : Nat) :
    b.saw code unit = true ↔ ∃ e ∈ b.seen, e.1 = code ∧ (unit = 0xFFF ∨ e.2 = unit) := by
  simp [Bundle.saw]

section
variable {rel : Bool} {epoch : Nat} (h : s.ComesNext q b p (.waitEpoch rel epoch))
include h

theorem exec_waitEpoch_come (come : (if rel then s.epochNum + epoch else s.ownEpoch b epoch) ≤ s.epochNum) :
    exec (.waitEpoch q rel epoch) s = .next (s.goesOn q b.ran) :=
  exec_of_comesNext h rfl (if_pos come)

theorem exec_waitEpoch_parks (ahead : s.epochNum < (if rel then s.epochNum + epoch else s.ownEpoch b epoch)) :
    exec (.waitEpoch q rel epoch) s = .next (State.startReady 24
      (s.setSlot q { b.ran with phase := .waitEpoch (if rel then s.epochNum + epoch else s.ownEpoch b epoch) })) :=
  exec_of_comesNext h rfl ((if_neg (Nat.not_le.mpr ahead)).trans (State.setSlot_setSlot ..))

end

section
variable {code unit timeout : Nat} (h : s.ComesNext q b p (.waitEvent code unit timeout))
include h

theorem exec_waitEvent_saw (saw : b.saw code unit = true) :
    exec (.waitEvent q code unit timeout) s = .next (s.goesOn q { b.ran with c := true }) :=
  exec_of_comesNext h rfl ((if_pos saw).trans (congrArg (State.proceed · q) (State.setSlot_setSlot ..)))

theorem exec_waitEvent_parks (unseen : b.saw code unit = false) : exec (.waitEvent q code unit timeout) s =
    .next (State.startReady 24 (s.setSlot q { b.ran with phase := .waitEvent code unit p.halt })) :=
  exec_of_comesNext h rfl ((if_neg (Bool.eq_false_iff.mp unseen)).trans (State.setSlot_setSlot ..))

end

section
variable {edge : Bool} (h : s.ComesNext q b p (.fence edge))
include h

theorem exec_fence_passes (plain : edge = false) (settled : s.settledBefore (queueUnit q) b = true) :
    exec (.fence q edge) s = .next (s.goesOn q b.ran) := by
  refine exec_of_comesNext h rfl (if_pos ?_)
  rw [State.settledBefore_ran, plain, settled]
  rfl

theorem exec_fence_parks (waits : edge = true ∨ s.settledBefore (queueUnit q) b = false) :
    exec (.fence q edge) s = .next (State.startReady 24 (s.setSlot q { b.ran with phase := .fence edge })) := by
  refine exec_of_comesNext h rfl ((if_neg ?_).trans (State.setSlot_setSlot ..))
  rw [State.settledBefore_ran]
  rcases waits with h | h <;> simp [h]

end

/-! What resumes a parked bundle -/

variable (acts : s.Acts) (slot : s.slot q = some b)
include slot

theorem State.resume_ready {ready : Bundle → Bool} (yes : ready b = true) : s.resume q ready = s.proceed q := by
  simp only [State.resume, slot, yes, if_true]

theorem State.resume_not_ready {ready : Bundle → Bool} (no : ready b = false) : s.resume q ready = s := by
  simp only [State.resume, slot, no, Bool.false_eq_true, if_false]

include acts

theorem exec_waitEpochResume_come {target : Nat} (phase : b.phase = .waitEpoch target) (come : target ≤ s.epochNum) :
    exec (.waitEpochResume q) s = .next (State.startReady 24 (s.proceed q)) := by
  change execWaitEpochResume q s = _
  rw [execWaitEpochResume, State.bureauAct_of_acts acts, State.resume_ready slot]
  simp only [phase, come, decide_true]

theorem exec_waitEpochResume_ahead {target : Nat} (phase : b.phase = .waitEpoch target) (ahead : s.epochNum < target) :
    exec (.waitEpochResume q) s = .next (State.startReady 24 s) := by
  change execWaitEpochResume q s = _
  rw [execWaitEpochResume, State.bureauAct_of_acts acts, State.resume_not_ready slot]
  simp only [phase, Nat.not_le.mpr ahead, decide_false]

theorem exec_fenceRelease_settled (phase : b.phase = .fence false) (settled : s.settledBefore (queueUnit q) b = true) :
    exec (.fenceRelease q) s = .next (State.startReady 24 (s.proceed q)) := by
  change execFenceRelease q s = _
  rw [execFenceRelease, State.bureauAct_of_acts acts, State.resume_ready slot]
  rw [phase, settled]
  rfl

theorem exec_fenceRelease_waits
    (waits : b.phase = .fence true ∨ (b.phase = .fence false ∧ s.settledBefore (queueUnit q) b = false)) :
    exec (.fenceRelease q) s = .next (State.startReady 24 s) := by
  change execFenceRelease q s = _
  rw [execFenceRelease, State.bureauAct_of_acts acts, State.resume_not_ready slot]
  rcases waits with phase | ⟨-, unsettled⟩
  · rw [phase]; rfl
  · rw [unsettled, Bool.and_false]

section
variable {code unit : Nat} {halt : Bool} (phase : b.phase = .waitEvent code unit halt)
include phase

theorem exec_waitEventArrival_saw (saw : b.saw code unit = true) :
    exec (.waitEventArrival q) s = .next (s.goesOn q { b with c := true }) := by
  change execWaitEventArrival q s = _
  rw [execWaitEventArrival, State.bureauAct_of_acts acts, slot]
  simp only [phase, State.eventArrived, saw, if_true]
  rfl

variable (next : b.prog[b.next]? = some p)
include next

theorem exec_waitEventTimeout_saw (saw : b.saw code unit = true) :
    exec (.waitEventTimeout q) s = .next (s.goesOn q { b with c := true }) := by
  change execWaitEventTimeout q s = _
  rw [execWaitEventTimeout, State.bureauAct_of_acts acts, slot]
  simp only [phase, next, State.eventArrived, saw, if_true]
  rfl

theorem exec_waitEventTimeout_goesOn (unseen : b.saw code unit = false) (stays : halt = false) :
    exec (.waitEventTimeout q) s = .next (s.goesOn q { b with c := false }) := by
  change execWaitEventTimeout q s = _
  rw [execWaitEventTimeout, State.bureauAct_of_acts acts, slot]
  simp only [phase, next, unseen, stays, Bool.false_eq_true, if_false]
  rfl

theorem exec_waitEventTimeout_fails (unseen : b.saw code unit = false) (halts : halt = true) :
    exec (.waitEventTimeout q) s = .next (s.failsAt q { b with c := false } p 8 2 0) := by
  change execWaitEventTimeout q s = _
  rw [execWaitEventTimeout, State.bureauAct_of_acts acts, slot]
  simp only [phase, next, unseen, halts, Bool.false_eq_true, if_false, if_true]
  rfl

end
end

/-- Settles O30: what each instruction that waits does where it comes next, and what each command that resumes does, by the phase. -/
theorem waitingOrders : Obligations.WaitingOrders := by
  intro s q b p
  refine ⟨fun rel epoch h => ⟨exec_waitEpoch_come h, exec_waitEpoch_parks h⟩, fun code unit timeout h => ⟨fun saw => ?_, fun unseen => ?_⟩,
    fun edge h => ⟨exec_fence_passes h, exec_fence_parks h⟩, fun acts slot => ⟨fun target phase =>
      ⟨exec_waitEpochResume_come acts slot phase, exec_waitEpochResume_ahead acts slot phase⟩, fun code unit halt phase next =>
      ⟨fun saw => ⟨exec_waitEventArrival_saw acts slot phase saw, exec_waitEventTimeout_saw acts slot phase next saw⟩,
        exec_waitEventTimeout_goesOn acts slot phase next, exec_waitEventTimeout_fails acts slot phase next⟩,
      exec_fenceRelease_settled acts slot, exec_fenceRelease_waits acts slot⟩⟩
  · exact exec_waitEvent_saw h ((b.saw_iff code unit).mpr saw)
  · refine exec_waitEvent_parks h (Bool.eq_false_iff.mpr fun saw => ?_)
    obtain ⟨e, he, same, any⟩ := (b.saw_iff code unit).mp saw
    obtain ⟨some_unit, other⟩ := unseen e he same
    exact any.elim some_unit other

/-! ### Writes under claims (R64, R265, R270, R274) -/

/-- A row of kind S executes its instruction as a versioned write. -/
theorem exec_of_versionedRow {c : Instr} {q : OrderQueue} {i : OrderInstr} (row : versionedRow c = some (q, i)) (s : State) :
    exec c s = .next (s.order q i (State.runVersioned i q)) := by
  unfold versionedRow at row
  split at row <;> cases row <;> rfl

section
variable {s t : State} {q : OrderQueue} {b : Bundle} {p : ProgStep} {i : OrderInstr} {st : StageSet} (stage : b.stage = some st)
include stage

theorem State.runVersioned_claimed (claimed : s.claimPlaces st.id i = .inr t) : s.runVersioned i q b p = t.stageItem q b st i := by
  simp only [State.runVersioned, stage, claimed]

theorem State.runVersioned_conflict {d1 : Nat} (taken : s.claimPlaces st.id i = .inl d1) :
    s.runVersioned i q b p = s.failStep q p 6 4 d1 := by
  simp only [State.runVersioned, stage, taken]

end

section
variable {s : State} {id pipe index : Nat} {egress : Bool} {words : List Word64}

theorem State.claimPlaces_tcam_free (unlisted : SMap.find s.tcam (tcamKey pipe egress index) = none)
    (unclaimed : SMap.find s.tcamClaims (tcamKey pipe egress index) = none) :
    s.claimPlaces id (.tcamWr pipe index egress false words) =
      .inr { s with tcamClaims := SMap.put s.tcamClaims (tcamKey pipe egress index) id } := by
  simp [State.claimPlaces, placeFree, unlisted, unclaimed]

theorem State.claimPlaces_tcam_open {e : Entry} (listed : SMap.find s.tcam (tcamKey pipe egress index) = some e) (still : e.since = e.until')
    (unclaimed : SMap.find s.tcamClaims (tcamKey pipe egress index) = none) :
    s.claimPlaces id (.tcamWr pipe index egress true words) =
      .inr { s with tcamClaims := SMap.put s.tcamClaims (tcamKey pipe egress index) id } := by
  simp [State.claimPlaces, placeOpen, listed, still, unclaimed]

theorem State.claimPlaces_tcam_taken
    (taken : SMap.find s.tcam (tcamKey pipe egress index) ≠ none ∨ SMap.find s.tcamClaims (tcamKey pipe egress index) ≠ none) :
    s.claimPlaces id (.tcamWr pipe index egress false words) = .inl (pipe * 2 ^ 48 + index * 2 ^ 32 + 0x0101) := by
  have occupied : placeFree s.tcam s.tcamClaims (tcamKey pipe egress index) = false := by
    refine Bool.eq_false_iff.mpr fun free => ?_
    rw [placeFree, Bool.and_eq_true, Option.isNone_iff_eq_none, Option.isNone_iff_eq_none] at free
    exact taken.elim (· free.1) (· free.2)
  simp only [State.claimPlaces, occupied, Bool.false_eq_true, if_false, pipeCode, Nat.shiftLeft_eq]

end

/-- Settles O32: a row of kind S claims its places; the claim of a TCAM place looks at its entry and its claim. -/
theorem versionedWrites : Obligations.VersionedWrites := by
  refine ⟨fun c s q b p i st row h stage => ⟨fun t claimed => ?_, fun d1 taken => ?_⟩,
    fun s id pipe index egress words => ⟨State.claimPlaces_tcam_free, fun e => State.claimPlaces_tcam_open, State.claimPlaces_tcam_taken⟩,
    fun s v pipe index egress words => SMap.find_put_same _ _ _, fun s id unit pipe index egress words => SMap.find_put_same _ _ _⟩
  · have ran : b.ran.stage = some st := stage
    exact exec_of_comesNext h (exec_of_versionedRow row s) (State.runVersioned_claimed ran claimed)
  · have ran : b.ran.stage = some st := stage
    exact exec_of_comesNext h (exec_of_versionedRow row s) (State.runVersioned_conflict ran taken)

end Sys2Proof.Machine
end

section
/-! PROOFS. The registers of rings and their doorbells (R52, R54, R312, R399, R448). -/

namespace Sys2Proof.Machine

/-! ### Writes of one field -/

section
variable {c : Instr} {s : State} {f g : Fld} {n v w : Nat}

theorem State.setFld_registersBut (s : State) (f : Fld) (n v : Nat) : RegistersBut [f.reg.addr n] s (s.setFld f n v) :=
  fun _ ho => State.regAt_setFld_other s f v (fun h => ho (List.mem_singleton.mpr h))

/-- A command that writes a field changes nothing else. -/
theorem taken_of_setFld (written : exec c s = .next (s.setFld f n v)) (h : f.hi < 64) (cut : v % 2 ^ (f.hi + 1 - f.lo) = w) :
    ∃ t, exec c s = .next t ∧ t.fld f n = w ∧ OnlyRegisters s t ∧ RegistersBut [f.reg.addr n] s t :=
  ⟨_, written, (State.fld_setFld_same s f n v h).trans cut, rfl, State.setFld_registersBut s f n v⟩

/-- A command that writes an index of 16 bits and clears a flag changes nothing else. -/
theorem taken_of_doorbell (written : exec c s = .next ((s.setFld f n v).setFlag g n false)) (index : f.hi = 15 ∧ f.lo = 0) (h : g.hi < 64)
    (apart : f.reg.addr n ≠ g.reg.addr n) :
    ∃ t, exec c s = .next t ∧ t.fld f n = v % 65536 ∧ t.fld g n = 0 ∧ OnlyRegisters s t ∧
      RegistersBut [f.reg.addr n, g.reg.addr n] s t := by
  obtain ⟨hi, lo⟩ := index
  refine ⟨_, written, ?_, ?_, rfl, fun o outside => ?_⟩
  · rw [State.setFlag, State.fld_setFld_other _ _ _ _ _ _ apart, State.fld_setFld_same _ _ _ _ (by omega), hi, lo,
      show 15 + 1 - 0 = 16 from rfl, show 2 ^ 16 = 65536 from rfl]
  · rw [State.setFlag, State.fld_setFld_same _ _ _ _ h]
    exact Nat.zero_mod _
  · obtain ⟨other, otherFlag⟩ : o ≠ f.reg.addr n ∧ o ≠ g.reg.addr n := by simpa using outside
    rw [State.setFlag, State.regAt_setFld_other _ g _ otherFlag, State.regAt_setFld_other _ f _ other]

end

/-- The base address of a ring with entries of `2 ^ k` bytes fits the field above bit `k`. -/
theorem base_cut (v : Word64) {k : Nat} (hk : k ≤ 64) : v.toNat / 2 ^ k % 2 ^ (64 - k) = v.toNat / 2 ^ k := by
  refine Nat.mod_eq_of_lt (Nat.div_lt_of_lt_mul ?_)
  rw [← pow_add, show k + (64 - k) = 64 by omega]
  exact v.isLt

theorem ringSizeOk_zero (lo hi : Nat) : ringSizeOk lo hi 0 = true := rfl

theorem ringSizeOk_two_pow {a b k : Nat} (low : a ≤ k) (high : k ≤ b) : ringSizeOk (2 ^ a) (2 ^ b) (2 ^ k) = true := by
  simp [ringSizeOk, Nat.log2_two_pow, Nat.pow_le_pow_right, low, high]

/-! ### Order queues (R52, R54) -/

section
variable {s : State} {n : Fin 16} (acts : s.Acts)
include acts

theorem exec_ordOqTail (v : Word32) : exec (.ordOqTail n v) s = .next (s.oqTail n.val v.toNat) := by
  change execOrdOqTail n v s = _
  rw [execOrdOqTail, State.awake_of_acts acts]

theorem exec_ordOqSize (reg : RingReg) (v : Word64) : exec (.ordOqSize n reg v) s = .next (s.oqSetup n.val reg v.toNat) := by
  change execOrdOqSize n reg v s = _
  rw [execOrdOqSize, State.awake_of_acts acts]

theorem exec_ordOqCplHead (v : Word32) : exec (.ordOqCplHead n v) s = .next (s.setFld R.ORD_OQ_CPL_HEAD_CPL_HEAD n.val v.toNat) := by
  change execOrdOqCplHead n v s = _
  rw [execOrdOqCplHead, State.awake_of_acts acts, State.oqCplHead]

end

section
variable {s : State} {n : Fin 16}

theorem ordOqTail_apart (n : Nat) : R.ORD_OQ_TAIL.addr n ≠ R.ORD_OQ_STAT.addr n := by
  simp only [RegSpec.addr, R.ORD_OQ_TAIL, R.ORD_OQ_STAT]; omega

theorem State.oqIdle_iff : s.oqIdle n.val = true ↔
    s.fld R.ORD_OQ_TAIL_TAIL n.val = s.fld R.ORD_OQ_HEAD_HEAD n.val ∧ s.slot (.host n) = none := by
  rw [State.oqIdle, Bool.and_eq_true, beq_iff_eq, Option.isNone_iff_eq_none]
  rfl

theorem State.oqSetup_busy (busy : s.oqIdle n.val = false) (reg : RingReg) (v : Nat) :
    s.oqSetup n.val reg v = s.raiseOf EV_ORD_RING n.val := by
  simp [State.oqSetup, busy]

theorem State.oqSetup_idle (idle : s.oqIdle n.val = true) (v : Nat) :
    s.oqSetup n.val .base v = s.setFld R.ORD_OQ_BASE_BASE n.val (v / 2 ^ 4) ∧
    s.oqSetup n.val .cplBase v = s.setFld R.ORD_OQ_CPL_BASE_BASE n.val (v / 2 ^ 5) ∧
    (ringSizeOk (2 ^ 4) (2 ^ 12) (v % 2 ^ 13) = true → s.oqSetup n.val .size v = s.setFld R.ORD_OQ_SIZE_SIZE n.val v) := by
  refine ⟨?_, ?_, fun size => ?_⟩
  · simp [State.oqSetup, idle]
  · simp [State.oqSetup, idle]
  · simp only [State.oqSetup, idle, Bool.not_true, Bool.false_eq_true, if_false]
    exact if_pos size

end

/-- Settles O17: the tests of `oqTail` and of `oqSetup` decide between a write of one field and the event. -/
theorem orderQueueRegisters : Obligations.OrderQueueRegisters := by
  refine ⟨fun s n v acts => ⟨fun fits => ?_, fun full => ?_⟩, fun s n v acts => ⟨fun idle => ?_, fun busy reg => ?_⟩, fun s n off => ?_⟩
  · exact taken_of_doorbell ((exec_ordOqTail acts v).trans (congrArg _ (if_neg fits))) ⟨rfl, rfl⟩ (by decide) (ordOqTail_apart n.val)
  · exact (exec_ordOqTail acts v).trans (congrArg _ (if_pos full))
  · obtain ⟨base, cplBase, size⟩ := State.oqSetup_idle (State.oqIdle_iff.mpr idle) v.toNat
    refine ⟨taken_of_setFld ((exec_ordOqSize acts _ v).trans (congrArg _ base)) (by decide) (base_cut v (by decide)),
      taken_of_setFld ((exec_ordOqSize acts _ v).trans (congrArg _ cplBase)) (by decide) (base_cut v (by decide)), fun k sized => ?_⟩
    have ok : ringSizeOk (2 ^ 4) (2 ^ 12) (v.toNat % 2 ^ 13) = true := by
      rcases sized with zero | ⟨low, high, power⟩
      · exact zero ▸ ringSizeOk_zero _ _
      · exact power ▸ ringSizeOk_two_pow low high
    exact taken_of_setFld ((exec_ordOqSize acts _ v).trans (congrArg _ (size ok))) (by decide) rfl
  · have held : s.oqIdle n.val = false := Bool.eq_false_iff.mpr fun h => busy (State.oqIdle_iff.mp h)
    exact (exec_ordOqSize acts reg v).trans (congrArg _ (State.oqSetup_busy held reg v.toNat))
  · simp [State.fetches, off]

/-! ### The other rings (R312, R399, R448) -/

section
variable {s : State} (acts : s.Acts)
include acts

theorem exec_hdmaRingTail {n : Fin 128} (v : Word32) : exec (.hdmaRingTail n v) s = .next (s.ringTail n.val v.toNat) := by
  change execHdmaRingTail n v s = _
  rw [execHdmaRingTail, State.awake_of_acts acts]

theorem exec_hdmaRingSize {n : Fin 128} (reg : RingReg) (v : Word64) :
    exec (.hdmaRingSize n reg v) s = .next (s.ringSetup n.val reg v.toNat) := by
  change execHdmaRingSize n reg v s = _
  rw [execHdmaRingSize, State.awake_of_acts acts]

theorem exec_tblShadowTail (v : Word32) : exec (.tblShadowTail v) s = .next (s.shadowTail v.toNat) := by
  change execTblShadowTail v s = _
  rw [execTblShadowTail, State.awake_of_acts acts]

theorem exec_tblShadowSize (reg : RingReg) (v : Word64) : exec (.tblShadowSize reg v) s = .next (s.shadowSetup reg v.toNat) := by
  change execTblShadowSize reg v s = _
  rw [execTblShadowSize, State.awake_of_acts acts]

theorem exec_portTsfRd {p : Fin 1024} (v : Word32) : exec (.portTsfRd p v) s = .next (s.tsfRead p.val v.toNat) := by
  change execPortTsfRd p v s = _
  rw [execPortTsfRd, State.awake_of_acts acts]

end

section
variable {s : State} {n : Nat}

theorem hdmaRingTail_apart (n : Nat) : R.HDMA_RING_TAIL.addr n ≠ R.HDMA_RING_STAT.addr n := by
  simp only [RegSpec.addr, R.HDMA_RING_TAIL, R.HDMA_RING_STAT]; omega

theorem State.ringSetup_busy (busy : s.fld R.HDMA_RING_TAIL_TAIL n ≠ s.fld R.HDMA_RING_HEAD_HEAD n) (reg : RingReg) (v : Nat) :
    s.ringSetup n reg v = s.raiseOf EV_HDMA_RING n := by
  simp [State.ringSetup, busy]

theorem State.ringSetup_idle (idle : s.fld R.HDMA_RING_TAIL_TAIL n = s.fld R.HDMA_RING_HEAD_HEAD n) (v : Nat) :
    s.ringSetup n .base v = s.setFld R.HDMA_RING_BASE_BASE n (v / 2 ^ 6) ∧
    (ringSizeOk (2 ^ 4) (2 ^ 12) (v % 2 ^ 13) = true → s.ringSetup n .size v = s.setFld R.HDMA_RING_SIZE_SIZE n v) := by
  refine ⟨?_, fun size => ?_⟩
  · simp [State.ringSetup, idle]
  · simp only [State.ringSetup, idle, bne_self_eq_false, Bool.false_eq_true, if_false]
    exact if_pos size

theorem State.shadowSetup_busy (busy : s.fld R.TBL_SHADOW_TAIL_TAIL 0 ≠ s.fld R.TBL_SHADOW_HEAD_HEAD 0) (reg : RingReg) (v : Nat) :
    s.shadowSetup reg v = s.raise EV_SHADOW_RING 0 := by
  simp [State.shadowSetup, busy]

theorem State.shadowSetup_idle (idle : s.fld R.TBL_SHADOW_TAIL_TAIL 0 = s.fld R.TBL_SHADOW_HEAD_HEAD 0) (v : Nat) :
    s.shadowSetup .base v = s.setFld R.TBL_SHADOW_BASE_BASE 0 (v / 2 ^ 4) ∧
    (ringSizeOk (2 ^ 4) (2 ^ 8) (v % 2 ^ 9) = true → s.shadowSetup .size v = s.setFld R.TBL_SHADOW_SIZE_SIZE 0 v) := by
  refine ⟨?_, fun size => ?_⟩
  · simp [State.shadowSetup, idle]
  · simp only [State.shadowSetup, idle, bne_self_eq_false, Bool.false_eq_true, if_false]
    exact if_pos size

end

/-- Settles O18: as for order queues, the tests of each ring decide between a write of one field and the event. -/
theorem ringRegisters : Obligations.RingRegisters := by
  refine ⟨⟨fun s n v acts => ⟨fun fits => ?_, fun full => ?_⟩, fun s n v acts => ⟨fun idle => ?_, fun busy reg => ?_⟩,
    fun s v acts => ⟨fun fits => ?_, fun full => ?_⟩, fun s v acts => ⟨fun idle => ?_, fun busy reg => ?_⟩,
    fun s p v acts => ⟨fun within => ?_, fun past => ?_⟩⟩, fun s n v acts => ?_⟩
  · exact taken_of_doorbell ((exec_hdmaRingTail acts v).trans (congrArg _ (if_neg fits))) ⟨rfl, rfl⟩ (by decide) (hdmaRingTail_apart n.val)
  · exact (exec_hdmaRingTail acts v).trans (congrArg _ (if_pos full))
  · obtain ⟨base, size⟩ := State.ringSetup_idle idle v.toNat
    refine ⟨taken_of_setFld ((exec_hdmaRingSize acts _ v).trans (congrArg _ base)) (by decide) (base_cut v (by decide)),
      fun k low high power => ?_⟩
    have ok : ringSizeOk (2 ^ 4) (2 ^ 12) (v.toNat % 2 ^ 13) = true := power ▸ ringSizeOk_two_pow low high
    exact taken_of_setFld ((exec_hdmaRingSize acts _ v).trans (congrArg _ (size ok))) (by decide) power
  · exact (exec_hdmaRingSize acts reg v).trans (congrArg _ (State.ringSetup_busy busy reg v.toNat))
  · exact taken_of_setFld ((exec_tblShadowTail acts v).trans (congrArg _ (if_neg fits))) (by decide) rfl
  · exact (exec_tblShadowTail acts v).trans (congrArg _ (if_pos full))
  · obtain ⟨base, size⟩ := State.shadowSetup_idle idle v.toNat
    refine ⟨taken_of_setFld ((exec_tblShadowSize acts _ v).trans (congrArg _ base)) (by decide) (base_cut v (by decide)),
      fun k low high power => ?_⟩
    have ok : ringSizeOk (2 ^ 4) (2 ^ 8) (v.toNat % 2 ^ 9) = true := power ▸ ringSizeOk_two_pow low high
    exact taken_of_setFld ((exec_tblShadowSize acts _ v).trans (congrArg _ (size ok))) (by decide) power
  · exact (exec_tblShadowSize acts reg v).trans (congrArg _ (State.shadowSetup_busy busy reg v.toNat))
  · exact taken_of_setFld ((exec_portTsfRd acts v).trans (congrArg _ (if_neg within))) (by decide) rfl
  · exact (exec_portTsfRd acts v).trans (congrArg _ (if_pos past))
  · exact taken_of_setFld (exec_ordOqCplHead acts v) (by decide) rfl

end Sys2Proof.Machine
end

section
/-! PROOFS. How a bundle begins: descriptors and their fetch (R53), and acceptance (R58, R59, R98, R99). -/

namespace Sys2Proof.Machine

/-! ### What an event leaves in the register file (R439) -/

section
variable {s : State} {e : EvSpec} {f g : Fld} {n m : Nat}

theorem State.fld_raiseAt (s : State) (e : EvSpec) (n unit : Nat) (data : List Nat) (g : Fld) (m : Nat) :
    (s.raiseAt e n unit data).fld g m = (s.markEvent e n).fld g m := by
  unfold State.fld State.reg
  rfl

/-- A field of another register than that of the event's bit is unchanged. -/
theorem State.fld_raiseAt_other (bit : e.bit = some f) (apart : g.reg.addr m ≠ f.reg.addr n) (unit : Nat) (data : List Nat) :
    (s.raiseAt e n unit data).fld g m = s.fld g m := by
  rw [State.fld_raiseAt, State.markEvent, bit]
  simp only [State.fld, State.reg_setReg_other _ _ apart]

/-- A field of the event's register beside its bit and SEQ is unchanged. -/
theorem State.fld_raiseAt_beside (bit : e.bit = some f) (reg : g.reg = f.reg) (low : g.hi < 24) (width : f.hi < 64)
    (apart : g.hi < f.lo ∨ f.hi < g.lo) (unit : Nat) (data : List Nat) : (s.raiseAt e n unit data).fld g n = s.fld g n := by
  have word := withBits_lt 1 (s.reg_lt f.reg n) (lo := f.lo) width
  rw [State.fld_raiseAt, State.markEvent, bit, State.fld, State.fld, reg]
  simp only [State.reg_setReg_same]
  rw [Nat.mod_eq_of_lt (withBits_lt _ word (by decide)), bits_withBits_other _ _ (.inl low), bits_withBits_other _ _ apart]

end

/-! ### Descriptors and bundles that are fetched (R53) -/

section
variable {s : State} {n : Fin 16}

theorem exec_bundleFetch (acts : s.Acts) (addr : Word64) (len rsv : Word32) (words : Option (List Word64)) :
    exec (.bundleFetch n addr len rsv words) s = .next (State.startReady 24 (s.bundleFetched n addr len.toNat rsv.toNat words)) := by
  change execBundleFetch n addr len rsv words s = _
  rw [execBundleFetch, State.bureauAct_of_acts acts]

theorem exec_ordFetchTimeout (acts : s.Acts) : exec (.ordFetchTimeout n) s = .next (State.startReady 24 (s.fetchFailed n)) := by
  change execOrdFetchTimeout n s = _
  rw [execOrdFetchTimeout, State.bureauAct_of_acts acts]

theorem State.bundleFetched_off (off : s.fetches n = false) (addr : Word64) (len rsv : Nat) (words : Option (List Word64)) :
    s.bundleFetched n addr len rsv words = s := by
  simp [State.bundleFetched, off]

theorem State.fetchFailed_off (off : s.fetches n = false) : s.fetchFailed n = s := by
  simp [State.fetchFailed, off]

/-- The index of the descriptor at HEAD in its ring. -/
def State.headIndex (s : State) (n : Fin 16) : Nat := s.fld R.ORD_OQ_HEAD_HEAD n.val % s.fld R.ORD_OQ_SIZE_SIZE n.val

/-- Words by their index are the list that holds them. -/
theorem map_getD_range (ws : List Word64) : (List.range ws.length).map (fun i => ws.getD i 0) = ws := by
  refine List.ext_getElem (by simp) fun i h h' => ?_
  simp [h']

/-- A queue whose fetch has failed or taken too long. -/
def State.fetchHalted (s : State) (n : Fin 16) : State := (s.setFlag R.ORD_OQ_STAT_HALTED n.val true).raiseOf EV_ORD_FETCH n.val

theorem ordOqHead_apart (n : Nat) : R.ORD_OQ_HEAD.addr n ≠ R.ORD_OQ_STAT.addr n := by
  simp only [RegSpec.addr, R.ORD_OQ_HEAD, R.ORD_OQ_STAT]; omega

theorem State.fetchHalted_halted (s : State) (n : Fin 16) : (s.fetchHalted n).fld R.ORD_OQ_STAT_HALTED n.val = 1 := by
  rw [State.fetchHalted, State.raiseOf,
    State.fld_raiseAt_beside (f := R.ORD_OQ_STAT_FETCH_ERR) (g := R.ORD_OQ_STAT_HALTED) rfl rfl (by decide) (by decide) (by decide), State.setFlag,
    State.fld_setFld_same _ _ _ _ (by decide)]
  rfl

theorem State.fetchHalted_head (s : State) (n : Fin 16) :
    (s.fetchHalted n).fld R.ORD_OQ_HEAD_HEAD n.val = s.fld R.ORD_OQ_HEAD_HEAD n.val := by
  rw [State.fetchHalted, State.raiseOf, State.fld_raiseAt_other (f := R.ORD_OQ_STAT_FETCH_ERR) rfl (ordOqHead_apart n.val), State.setFlag,
    State.fld_setFld_other _ _ _ _ _ _ (ordOqHead_apart n.val)]

variable (on : s.fetches n = true)
include on

theorem State.fetchFailed_on : s.fetchFailed n = s.fetchHalted n := if_pos on

section
variable {addr : Word64} {len rsv : Nat} {words : Option (List Word64)}

theorem State.bundleFetched_misaligned (misaligned : addr.toNat % 8 ≠ 0) : s.bundleFetched n addr len rsv words =
    s.setSlot (.host n) (Bundle.fresh [] (s.headIndex n) n.val (some addr)) := by
  simp only [State.bundleFetched, on, Bool.not_true, Bool.false_eq_true, if_false, if_pos misaligned]
  rfl

variable (aligned : addr.toNat % 8 = 0)
include aligned

theorem State.bundleFetched_reserved (reserved : rsv ≠ 0) : s.bundleFetched n addr len rsv words =
    s.setSlot (.host n) (Bundle.fresh [] (s.headIndex n) n.val (some (BitVec.ofNat 64 (rsv * 2 ^ 32 + len)))) := by
  simp only [State.bundleFetched, on, Bool.not_true, Bool.false_eq_true, if_false, aligned, ne_eq, not_true_eq_false, if_pos reserved,
    Nat.shiftLeft_eq]
  rfl

theorem State.bundleFetched_failed : s.bundleFetched n addr len 0 none = s.fetchHalted n := by
  simp only [State.bundleFetched, on, Bool.not_true, Bool.false_eq_true, if_false, aligned, ne_eq, not_true_eq_false]
  exact State.fetchFailed_on on

theorem State.bundleFetched_arrived {ws : List Word64} (whole : ws.length = ceilDiv len 8) : s.bundleFetched n addr len 0 (some ws) =
    s.setSlot (.host n) (Bundle.fresh ws (s.headIndex n) n.val
      (if (Bundle.fresh ws (s.headIndex n) n.val none).totalLen = len then none else some (ws.getD 3 0))) := by
  simp only [State.bundleFetched, on, Bool.not_true, Bool.false_eq_true, if_false, aligned, ne_eq, not_true_eq_false, ← whole,
    map_getD_range]
  rfl

theorem State.bundleFetched_whole {ws : List Word64} (whole : ws.length = ceilDiv len 8)
    (same : (Bundle.fresh ws (s.headIndex n) n.val none).totalLen = len) :
    s.bundleFetched n addr len 0 (some ws) = s.setSlot (.host n) (Bundle.fresh ws (s.headIndex n) n.val none) := by
  rw [State.bundleFetched_arrived on aligned whole, if_pos same]

theorem State.bundleFetched_mismatched {ws : List Word64} (whole : ws.length = ceilDiv len 8)
    (other : (Bundle.fresh ws (s.headIndex n) n.val none).totalLen ≠ len) :
    s.bundleFetched n addr len 0 (some ws) = s.setSlot (.host n) (Bundle.fresh ws (s.headIndex n) n.val (some (ws.getD 3 0))) := by
  rw [State.bundleFetched_arrived on aligned whole, if_neg other]

end
end

/-- Settles O25: what `bundleFetched` tests decides between a bundle that is bound to end, one that waits, and a halted queue. -/
theorem bundleFetch : Obligations.BundleFetch := by
  intro s n acts
  have fetched {addr : Word64} {len rsv : Word32} {words : Option (List Word64)} {t : State}
      (h : s.bundleFetched n addr len.toNat rsv.toNat words = t) :
      exec (.bundleFetch n addr len rsv words) s = .next (State.startReady 24 t) := by
    rw [exec_bundleFetch acts, h]
  refine ⟨fun off => ⟨fun addr len rsv words => fetched (State.bundleFetched_off off ..), ?_⟩, fun on => ?_⟩
  · rw [exec_ordFetchTimeout acts, State.fetchFailed_off off]
  · refine ⟨fun addr len rsv words misaligned => fetched (State.bundleFetched_misaligned on misaligned),
      fun addr len rsv words aligned reserved => fetched (State.bundleFetched_reserved on aligned ?_),
      fun addr len ws aligned whole => ⟨fun same => fetched (State.bundleFetched_whole on aligned whole same),
        fun other => fetched (State.bundleFetched_mismatched on aligned whole other)⟩,
      fun addr len aligned => fetched (State.bundleFetched_failed on aligned), ?_, s.fetchHalted_halted n, s.fetchHalted_head n⟩
    · exact fun zero => reserved (BitVec.eq_of_toNat_eq zero)
    · rw [exec_ordFetchTimeout acts, State.fetchFailed_on on]
      rfl

/-! ### Acceptance (R58, R59, R98, R99) -/

section
variable {s : State} {q : OrderQueue} {b : Bundle}

theorem exec_signatureVerified (acts : s.Acts) (slot : s.slot q = some b) (verifying : b.phase = .verifying)
    (reads : List (Option (List Byte))) : exec (.signatureVerified q reads) s = .next (State.startReady 24 (s.verify q reads b)) := by
  change execSignatureVerified q reads s = _
  rw [execSignatureVerified, State.bureauAct_of_acts acts, slot]
  simp only [verifying, if_true]

theorem State.verify_badSig {reads : List (Option (List Byte))} {f : Nat × Nat} (bad : s.sigCheck q b = some f) :
    s.verify q reads b = s.refuse q f.1 0x1FFF f.2 0 := by
  rw [State.verify, bad]

/-- A bundle with its program and the records that check 6 read for it. -/
def Bundle.checked (b : Bundle) (d : Decoding) : Bundle := { b with prog := d.steps.reverse, reads := d.records }

/-- A bundle whose checks 4 to 7 pass is accepted with its program and the records that were read for it. -/
theorem State.verify_passed {reads : List (Option (List Byte))} {d : Decoding} (sig : s.sigCheck q b = none) (target : s.targetOk b = true)
    (decoded : s.decodeBundle q reads b = .good d) (classed : classCheck q b.cls b.grant d.steps.reverse = none) :
    s.verify q reads b = s.accept q (b.checked d) := by
  simp only [State.verify, sig, target, Bool.not_true, Bool.false_eq_true, if_false, decoded, classed, Bundle.checked]

/-- A device that is not ACTIVE forwards nothing: a bundle runs, or is held until its APPLY_AFTER epoch. -/
theorem State.launch_alone (own : b.forward = none) (role : s.role ≠ 1) :
    s.launch q b = s.setSlot q { b with phase := if s.epochNum < b.applyAfter then .held else .running } := by
  simp [State.launch, own, role]

theorem State.accept_routine (routine : b.cls = 0) : s.accept q b = s.launch q b := if_pos routine

theorem State.accept_stale (signed : b.cls ≠ 0) (stale : b.orderSeq ≤ s.highSeq b.keySlot) :
    s.accept q b = s.refuse q 2 0x1FFF 4 (s.highSeq b.keySlot) := (if_neg signed).trans (if_pos stale)

/-- HIGH_SEQ takes the sequence number of a bundle, and its append to the journal is queued (R98, R99). -/
def State.noteSeq (s : State) (q : OrderQueue) (b : Bundle) : State :=
  { s.setFld R.AUTH_SEQ_HIGH_HIGH_SEQ b.keySlot b.orderSeq with
    auth := { s.auth with appends := s.auth.appends ++ [(b.keySlot, b.orderSeq, queueUnit q)] } }

/-- The registers of HIGH_SEQ are neither the pair role nor the epoch number. -/
theorem keySlot_apart (b : Bundle) :
    R.PAIR_STAT.addr 0 ≠ R.AUTH_SEQ_HIGH.addr b.keySlot ∧ R.DEV_EPOCH_NUM.addr 0 ≠ R.AUTH_SEQ_HIGH.addr b.keySlot := by
  have small : b.keySlot < 256 := bits_lt _ 7 0
  simp only [RegSpec.addr, R.PAIR_STAT, R.DEV_EPOCH_NUM, R.AUTH_SEQ_HIGH]
  omega

theorem State.noteSeq_role (s : State) (q : OrderQueue) (b : Bundle) : (s.noteSeq q b).role = s.role :=
  State.fld_setFld_other s R.AUTH_SEQ_HIGH_HIGH_SEQ R.PAIR_STAT_ROLE _ _ _ (keySlot_apart b).1

theorem State.noteSeq_epochNum (s : State) (q : OrderQueue) (b : Bundle) : (s.noteSeq q b).epochNum = s.epochNum :=
  State.fld_setFld_other s R.AUTH_SEQ_HIGH_HIGH_SEQ R.DEV_EPOCH_NUM_EPOCH _ _ _ (keySlot_apart b).2

theorem State.accept_fresh (signed : b.cls ≠ 0) (fresh : s.highSeq b.keySlot < b.orderSeq) (own : b.forward = none) (role : s.role ≠ 1) :
    s.accept q b = (s.noteSeq q b).setSlot q
      { b with journalled := true, phase := if s.epochNum < b.applyAfter then .held else .running } := by
  have launched := State.launch_alone (s := s.noteSeq q b) (q := q) (b := { b with journalled := true }) own (by rwa [State.noteSeq_role])
  rw [State.noteSeq_epochNum] at launched
  exact (if_neg signed).trans ((if_neg (Nat.not_le.mpr fresh)).trans launched)

section
variable (acts : s.Acts) (slot : s.slot q = some b)
include acts slot

theorem exec_applyAfterRelease_come (held : b.phase = .held) (come : b.applyAfter ≤ s.epochNum) :
    exec (.applyAfterRelease q) s = .next (State.startReady 24 (s.setSlot q { b with phase := .running })) := by
  change execApplyAfterRelease q s = _
  rw [execApplyAfterRelease, State.bureauAct_of_acts acts, slot]
  simp only [held, come, and_self, if_true]

theorem exec_applyAfterRelease_ahead (ahead : s.epochNum < b.applyAfter) :
    exec (.applyAfterRelease q) s = .next (State.startReady 24 s) := by
  change execApplyAfterRelease q s = _
  rw [execApplyAfterRelease, State.bureauAct_of_acts acts, slot]
  simp only [Nat.not_le.mpr ahead, and_false, if_false]

end
end

/-- Settles O26: `verify` refuses a bad signature or accepts, `accept` notes the sequence number, and `launch` runs or holds. -/
theorem acceptance : Obligations.Acceptance := by
  refine ⟨fun s q b reads acts slot verifying => ?_, fun s q b acts slot held =>
    ⟨exec_applyAfterRelease_come acts slot held, exec_applyAfterRelease_ahead acts slot⟩⟩
  have run {t : State} (h : s.verify q reads b = t) : exec (.signatureVerified q reads) s = .next (State.startReady 24 t) := by
    rw [exec_signatureVerified acts slot verifying, h]
  refine ⟨fun f bad => run (State.verify_badSig bad), fun d sig target decoded classed own role => ?_⟩
  have passed := State.verify_passed sig target decoded classed
  refine ⟨fun routine => ?_, fun signed fresh => ?_, fun signed stale => ?_⟩
  · exact run (passed.trans ((State.accept_routine (b := b.checked d) routine).trans (State.launch_alone own role)))
  · exact run (passed.trans (State.accept_fresh (b := b.checked d) signed fresh own role))
  · exact run (passed.trans (State.accept_stale (b := b.checked d) signed stale))

end Sys2Proof.Machine
end

section
/-! PROOFS. How a bundle is reported: completion records (R54, R79, R114) and the sequence journal (R99). -/

namespace Sys2Proof.Machine

/-! ### Completion records (R54, R79, R114) -/

/-- A state with the same register file reads the same fields. -/
theorem State.fld_of_regs {s t : State} (same : t.regs = s.regs) (g : Fld) (m : Nat) : t.fld g m = s.fld g m := by
  rw [State.fld, State.fld, State.reg, State.reg, same]

theorem State.message_regs (s : State) (v : Nat) : (s.message v).regs = s.regs := by
  unfold State.message
  split
  · rfl
  · dsimp only; split <;> rfl

theorem State.message_out (s : State) (v : Nat) : s.out <+: (s.message v).out := by
  unfold State.message
  split
  · exact List.prefix_rfl
  · dsimp only; split <;> exact List.prefix_append _ _

theorem State.announce_regs (s : State) (v : Nat) : (s.announce v).regs = s.regs := by
  unfold State.announce
  split
  · rfl
  · exact s.message_regs v

theorem State.announce_out (s : State) (v : Nat) : s.out <+: (s.announce v).out := by
  unfold State.announce
  split
  · exact List.prefix_rfl
  · exact s.message_out v

theorem State.markEvent_out (s : State) (e : EvSpec) (n : Nat) : (s.markEvent e n).out = s.out := by
  rw [State.markEvent]
  split <;> simp only [State.setReg]

theorem State.raiseOf_out (s : State) (e : EvSpec) (n : Nat) : (s.raiseOf e n).out = s.out := by
  rw [State.raiseOf, State.raiseAt]
  exact s.markEvent_out e n

theorem State.setFld_out (s : State) (f : Fld) (n v : Nat) : (s.setFld f n v).out = s.out := by
  rw [State.setFld, State.setReg]

/-- A host queue reports a record: its last STATUS, the event and the message. -/
def State.reported (s : State) (i : Nat) (ws : List Word64) : State :=
  ((s.setFld R.ORD_OQ_STAT_LAST_STATUS i (recordStatus ws)).raiseOf EV_ORD_DONE i).announce (16 + i)

theorem State.fld_reported {s : State} {i m : Nat} {ws : List Word64} {g : Fld} (apart : g.reg.addr m ≠ R.ORD_OQ_STAT.addr i) :
    (s.reported i ws).fld g m = s.fld g m := by
  rw [State.reported, State.fld_of_regs (State.announce_regs _ _), State.raiseOf,
    State.fld_raiseAt_other (f := R.ORD_OQ_STAT_DONE) rfl apart, State.fld_setFld_other _ _ _ _ _ _ apart]

theorem State.reported_out (s : State) (i : Nat) (ws : List Word64) : s.out <+: (s.reported i ws).out := by
  have out := ((s.setFld R.ORD_OQ_STAT_LAST_STATUS i (recordStatus ws)).raiseOf EV_ORD_DONE i).announce_out (16 + i)
  rwa [State.raiseOf_out, State.setFld_out] at out

/-- The registers that a record writes lie apart. -/
theorem ordOqRecord_apart (n m : Fin 16) :
    R.ORD_OQ_CPL_TAIL.addr n.val ≠ R.ORD_OQ_STAT.addr n.val ∧ R.ORD_OQ_HEAD.addr m.val ≠ R.ORD_OQ_STAT.addr n.val ∧
      R.ORD_OQ_CPL_TAIL.addr n.val ≠ R.ORD_OQ_HEAD.addr n.val ∧ R.ORD_OQ_HEAD.addr m.val ≠ R.ORD_OQ_CPL_TAIL.addr n.val ∧
      (m ≠ n → R.ORD_OQ_HEAD.addr m.val ≠ R.ORD_OQ_HEAD.addr n.val) := by
  have hn := n.isLt
  have hm := m.isLt
  simp only [RegSpec.addr, R.ORD_OQ_CPL_TAIL, R.ORD_OQ_HEAD, R.ORD_OQ_STAT, ne_eq, Fin.ext_iff]
  omega

section
variable (s : State) (n : Fin 16) (b : Bundle) (ws : List Word64)

/-- Where the next record of a host queue goes. -/
def State.recordPlace (s : State) (n : Fin 16) : Nat :=
  s.reg R.ORD_OQ_CPL_BASE n.val + 32 * (s.fld R.ORD_OQ_CPL_TAIL_CPL_TAIL n.val % s.fld R.ORD_OQ_SIZE_SIZE n.val)

theorem State.sendRecord_host : s.sendRecord (.host n) b ws =
    ((((s.emit (.hostWrite (s.recordPlace n) ws)).bump R.ORD_OQ_CPL_TAIL_CPL_TAIL n.val 1).bump R.ORD_OQ_HEAD_HEAD n.val 1).reported
      n.val ws) := rfl

theorem State.sendRecord_host_out : s.out ++ [.hostWrite (s.recordPlace n) ws] <+: (s.sendRecord (.host n) b ws).out := by
  have out := State.reported_out (((s.emit (.hostWrite (s.recordPlace n) ws)).bump R.ORD_OQ_CPL_TAIL_CPL_TAIL n.val 1).bump
    R.ORD_OQ_HEAD_HEAD n.val 1) n.val ws
  rwa [State.bump, State.bump, State.setFld_out, State.setFld_out, State.emit] at out

theorem State.sendRecord_host_cplTail : (s.sendRecord (.host n) b ws).fld R.ORD_OQ_CPL_TAIL_CPL_TAIL n.val =
    (s.fld R.ORD_OQ_CPL_TAIL_CPL_TAIL n.val + 1) % 65536 := by
  obtain ⟨stat, -, head, -, -⟩ := ordOqRecord_apart n n
  rw [State.sendRecord_host, State.fld_reported stat, State.bump, State.fld_setFld_other _ _ _ _ _ _ head, State.bump,
    State.fld_setFld_same _ _ _ _ (by decide)]
  rfl

theorem State.sendRecord_host_head : (s.sendRecord (.host n) b ws).fld R.ORD_OQ_HEAD_HEAD n.val =
    (s.fld R.ORD_OQ_HEAD_HEAD n.val + 1) % 65536 := by
  obtain ⟨-, stat, -, tail, -⟩ := ordOqRecord_apart n n
  rw [State.sendRecord_host, State.fld_reported stat, State.bump, State.fld_setFld_same _ _ _ _ (by decide), State.bump,
    State.fld_setFld_other _ _ _ _ _ _ tail]
  rfl

theorem State.sendRecord_host_head_other {m : Fin 16} (other : m ≠ n) :
    (s.sendRecord (.host n) b ws).fld R.ORD_OQ_HEAD_HEAD m.val = s.fld R.ORD_OQ_HEAD_HEAD m.val := by
  obtain ⟨-, stat, -, tail, head⟩ := ordOqRecord_apart n m
  rw [State.sendRecord_host, State.fld_reported stat, State.bump, State.fld_setFld_other _ _ _ _ _ _ (head other), State.bump,
    State.fld_setFld_other _ _ _ _ _ _ tail]
  rfl

end

/-- The committed-version digest takes a bundle that needed a signature and executed something (R114). -/
def State.digested (s : State) (b : Bundle) (ws : List Word64) : State :=
  if b.cls ≠ 0 ∧ b.executed ≠ 0 then
    { s with auth := { s.auth with digest := extendDigest s.auth.digest (b.bytes.take (b.sigOffset + 448)) (wordsToBytes ws) } }
  else s

theorem State.digested_regs (s : State) (b : Bundle) (ws : List Word64) : (s.digested b ws).regs = s.regs := by
  unfold State.digested
  split <;> rfl

theorem State.digested_out (s : State) (b : Bundle) (ws : List Word64) : (s.digested b ws).out = s.out := by
  unfold State.digested
  split <;> rfl

theorem State.digested_bureau (s : State) (b : Bundle) (ws : List Word64) : (s.digested b ws).bureau = s.bureau := by
  unfold State.digested
  split <;> rfl

theorem State.digested_recordPlace (s : State) (b : Bundle) (ws : List Word64) (n : Fin 16) :
    (s.digested b ws).recordPlace n = s.recordPlace n := by
  have same := s.digested_regs b ws
  rw [State.recordPlace, State.recordPlace, State.fld_of_regs same, State.fld_of_regs same, State.reg, State.reg, same]

@[simp] theorem State.slot_freeSlot (s : State) (q : OrderQueue) : (s.freeSlot q).slot q = none := SMap.find_del_same _ _

section
variable {s : State} {q : OrderQueue} {b : Bundle} {e : Ending}

theorem exec_completionRecordWrite (acts : s.Acts) (slot : s.slot q = some b) (finished : b.phase = .finished)
    (ending : b.ending = some e) : exec (.completionRecordWrite q) s = .next (State.startReady 24 (s.complete q b e)) := by
  change execCompletionRecordWrite q s = _
  rw [execCompletionRecordWrite, State.bureauAct_of_acts acts, slot]
  simp only [finished, ending]

theorem State.ownRecord_unforwarded (own : b.forward = none) (ws : List Word64) : s.ownRecord b ws = s := by
  simp only [State.ownRecord, own]

theorem State.complete_orphan (orphan : b.orphan = true) : s.complete q b e = s.freeSlot q := if_pos orphan

variable (owned : b.orphan = false)
include owned

theorem State.complete_waits (waits : b.journalled = true ∨ s.recordRoom q = false) : s.complete q b e = s := by
  have holds : (b.journalled || !s.recordRoom q) = true := by rcases waits with h | h <;> simp [h]
  exact (if_neg (Bool.eq_false_iff.mp owned)).trans (if_pos holds)

theorem State.complete_recorded (durable : b.journalled = false) (room : s.recordRoom q = true) (own : b.forward = none) :
    s.complete q b e = ((s.digested b (s.recordOf q b e)).sendRecord q b (s.recordOf q b e)).freeSlot q := by
  have goes : (b.journalled || !s.recordRoom q) = false := by simp [durable, room]
  refine (if_neg (Bool.eq_false_iff.mp owned)).trans ((if_neg (Bool.eq_false_iff.mp goes)).trans ?_)
  exact congrArg (fun t => (State.sendRecord t q b (s.recordOf q b e)).freeSlot q)
    (State.ownRecord_unforwarded (s := s.digested b (s.recordOf q b e)) own _)

end

/-! ### The sequence journal (R99) -/

section
variable {s : State}

theorem exec_journalAppend (acts : s.Acts) (ok : Bool) : exec (.journalAppend ok) s =
    .next (State.startReady 24 (if s.auth.failed then s else s.journalEnd ok)) := by
  change execJournalAppend ok s = _
  rw [execJournalAppend, State.bureauAct_of_acts acts]

theorem exec_journalRetry (acts : s.Acts) (ok : Bool) : exec (.journalRetry ok) s =
    .next (State.startReady 24 (if s.auth.failed then s.journalEnd ok else s)) := by
  change execJournalRetry ok s = _
  rw [execJournalRetry, State.bureauAct_of_acts acts]

variable {n seq u : Nat} {rest : List (Nat × Nat × Nat)} (appends : s.auth.appends = (n, seq, u) :: rest)
include appends

theorem State.journalEnd_durable : s.journalEnd true = { s with
    flash := s.flash.append n seq
    auth := { s.auth with appends := rest, failed := false }
    bureau := { s.bureau with slots := s.bureau.slots.map (fun e =>
      if e.1 = u ∧ e.2.orderSeq = seq then (e.1, { e.2 with journalled := false }) else e) } } := by
  simp only [State.journalEnd, appends, if_true, State.updAuth, State.updBureau]

theorem State.journalEnd_failed :
    s.journalEnd false = State.raise { s with auth := { s.auth with failed := true } } EV_AUTH_JOURNAL n := by
  simp only [State.journalEnd, appends, Bool.false_eq_true, if_false, State.updAuth]

end

/-- Settles O27: what `complete` tests decides between an orphan, a record that waits and one that is sent; the journal goes by
`journalEnd`. -/
theorem recordsAndJournal : Obligations.RecordsAndJournal := by
  refine ⟨fun s n b e acts slot finished ending owned => ?_, fun s q b e acts slot finished ending => ?_,
    fun s n seq u rest acts appends => ?_⟩
  · have run {t : State} (h : s.complete (.host n) b e = t) :
        exec (.completionRecordWrite (.host n)) s = .next (State.startReady 24 t) := by
      rw [exec_completionRecordWrite acts slot finished ending, h]
    refine ⟨fun waits => run (State.complete_waits owned waits), fun durable room own =>
      ⟨_, run (State.complete_recorded owned durable room own), State.slot_freeSlot _ _, ?_, ?_, ?_, fun m other => ?_⟩⟩
    · have out := State.sendRecord_host_out (s.digested b (s.recordOf (.host n) b e)) n b (s.recordOf (.host n) b e)
      rwa [State.digested_out, State.digested_recordPlace] at out
    · exact (State.sendRecord_host_cplTail ..).trans (by rw [State.fld_of_regs (State.digested_regs ..)])
    · exact (State.sendRecord_host_head ..).trans (by rw [State.fld_of_regs (State.digested_regs ..)])
    · exact (State.sendRecord_host_head_other _ n b _ other).trans (State.fld_of_regs (State.digested_regs ..) _ _)
  · have run {t : State} (h : s.complete q b e = t) : exec (.completionRecordWrite q) s = .next (State.startReady 24 t) := by
      rw [exec_completionRecordWrite acts slot finished ending, h]
    refine ⟨fun orphan => run (State.complete_orphan orphan), fun owned durable room own =>
      ⟨run (State.complete_recorded owned durable room own), fun console => ?_⟩⟩
    subst console
    exact congrArg (fun u => u.consoleDone ++ [_]) (State.digested_bureau s b _)
  · have durable := State.journalEnd_durable appends
    refine ⟨fun sound => ⟨?_, ?_, fun ok => ?_⟩, fun failed => ⟨?_, fun ok => ?_⟩⟩
    · rw [exec_journalAppend acts, sound, if_neg Bool.false_ne_true, durable]
    · rw [exec_journalAppend acts, sound, if_neg Bool.false_ne_true, State.journalEnd_failed appends]
    · rw [exec_journalRetry acts, sound, if_neg Bool.false_ne_true]
    · rw [exec_journalRetry acts, failed, if_pos rfl, durable]
    · rw [exec_journalAppend acts, failed, if_pos rfl]

end Sys2Proof.Machine
end

section
/-! PROOFS. Bundles that arrive in-band (R55). -/

namespace Sys2Proof.Machine

/-! ### In-band segments (R55) -/

/-- The fields of a segment's header. -/
def segId (payload : List Byte) : Nat := bits (leNat (payload.take 8)) 63 48
@[inherit_doc segId] def segIndex (payload : List Byte) : Nat := bits (leNat (payload.take 8)) 47 40
@[inherit_doc segId] def segCount (payload : List Byte) : Nat := bits (leNat (payload.take 8)) 39 32
@[inherit_doc segId] def segTotal (payload : List Byte) : Nat := bits (leNat (payload.take 8)) 31 0

/-- The reassembly of a Charter and a REASM_ID. -/
def State.reasmOf (s : State) (charter id : Nat) : Option Reassembly := s.bureau.reasm.find? (fun r => r.charter == charter && r.id == id)

/-- The reassemblies of every other Charter and REASM_ID. -/
def State.reasmBut (s : State) (charter id : Nat) : List Reassembly :=
  s.bureau.reasm.filter (fun o => !(o.charter == charter && o.id == id))

/-- The state without the oldest frame of the Carry-to-Bureau rule. -/
def State.carriedOn (s : State) (rest : List (Nat × Nat × List Byte)) : State := { s with bureau := { s.bureau with carried := rest } }

theorem exec_inbandSegment {s : State} {charter rule : Nat} {payload : List Byte} {rest : List (Nat × Nat × List Byte)} (acts : s.Acts)
    (carried : s.bureau.carried = (charter, rule, payload) :: rest) :
    exec .inbandSegment s = .next (State.startReady 24 ((s.carriedOn rest).segment charter payload)) := by
  change execInbandSegment s = _
  rw [execInbandSegment, State.bureauAct_of_acts acts, carried]
  rfl

theorem exec_inbandReassemblyTimeout {s : State} {charter id : Nat} (acts : s.Acts)
    (there : s.bureau.reasm.any (fun r => r.charter == charter && r.id == id) = true) :
    exec (.inbandReassemblyTimeout charter id) s = .next (State.startReady 24 (s.dropReasm charter id)) := by
  change execInbandReassemblyTimeout charter id s = _
  rw [execInbandReassemblyTimeout, State.bureauAct_of_acts acts, if_pos there]

theorem State.dropReasm_reasm (s : State) (charter id : Nat) : (s.dropReasm charter id).bureau.reasm = s.reasmBut charter id := rfl

section
variable {s : State} {r : Reassembly}

theorem State.reassemble_more (more : r.segs.length < r.count) :
    s.reassemble r = s.updBureau (fun u => { u with reasm := s.reasmBut r.charter r.id ++ [r] }) := if_pos more

/-- The bundle that a reassembly's bytes make. -/
def inbandBundleOf (charter : Nat) (bytes : List Byte) : Bundle :=
  { Bundle.fresh (bytesToWords (ceilDiv bytes.length 8) bytes) 0 (17 + charter) none with delivered := bytes.length }

theorem State.inbandBundle_waits (serves : s.role ≠ 3) (charter : Nat) (bytes : List Byte) : s.inbandBundle charter bytes =
    s.updBureau (fun u => { u with inbandWaiting := u.inbandWaiting ++ [inbandBundleOf charter bytes] }) :=
  if_neg (by simpa using serves)

/-- A reassembly that has all its segments hands their bytes on, in the order of their INDEX. -/
theorem State.reassemble_whole (whole : r.count ≤ r.segs.length) (total : (r.segs.flatMap (fun e => e.2)).length = r.total)
    (serves : s.role ≠ 3) : s.reassemble r = s.updBureau (fun u => { u with
      reasm := s.reasmBut r.charter r.id, inbandWaiting := u.inbandWaiting ++ [inbandBundleOf r.charter (r.segs.flatMap (fun e => e.2))] }) :=
  (if_neg (Nat.not_lt.mpr whole)).trans ((if_pos total).trans
    (State.inbandBundle_waits (s := s.updBureau (fun u => { u with reasm := s.reasmBut r.charter r.id })) serves _ _))

end

section
variable {s : State} {charter : Nat} {payload : List Byte}

/-- A segment whose header is out of range, that finds no room, or that disagrees with the first one drops its reassembly. -/
theorem State.segment_dropped (bad : segCount payload = 0 ∨ 8 < segCount payload ∨ segCount payload ≤ segIndex payload ∨
      (s.reasmOf charter (segId payload) = none ∧ 4 ≤ s.bureau.reasm.length) ∨
      (∃ r, s.reasmOf charter (segId payload) = some r ∧ (r.count ≠ segCount payload ∨ r.total ≠ segTotal payload))) :
    s.segment charter payload = s.dropReasm charter (segId payload) := by
  cases found : s.reasmOf charter (segId payload) with
  | none =>
    simp only [State.reasmOf, segId] at found
    simp only [State.segment, found]
    refine if_pos ?_
    rcases bad with h | h | h | ⟨-, h⟩ | ⟨r, h, -⟩
    · exact .inl h
    · exact .inr (.inl h)
    · exact .inr (.inr (.inl h))
    · exact .inr (.inr (.inr h))
    · exact absurd (h.symm.trans found) (Option.some_ne_none r)
  | some r =>
    simp only [State.reasmOf, segId] at found
    simp only [State.segment, found]
    refine if_pos ?_
    rcases bad with h | h | h | ⟨h, -⟩ | ⟨r', h, other⟩
    · exact .inl h
    · exact .inr (.inl h)
    · exact .inr (.inr (.inl h))
    · exact absurd (found.symm.trans h) (Option.some_ne_none r)
    · cases found.symm.trans h
      exact .inr (.inr (.inr other))

theorem State.segment_first (found : s.reasmOf charter (segId payload) = none) (most : segCount payload ≤ 8)
    (within : segIndex payload < segCount payload) (room : s.bureau.reasm.length < 4) :
    s.segment charter payload = s.reassemble { charter := charter, id := segId payload, count := segCount payload, total := segTotal payload
                                               segs := [(segIndex payload, payload.drop 8)] } := by
  simp only [State.reasmOf, segId] at found
  simp only [State.segment, found]
  rw [segCount, segIndex] at within
  rw [segCount] at most
  exact if_neg (by omega)

variable {r : Reassembly} (found : s.reasmOf charter (segId payload) = some r) (count : r.count = segCount payload)
  (total : r.total = segTotal payload) (most : segCount payload ≤ 8)
  (within : segIndex payload < segCount payload)
include found count total most within

/-- A segment in order that belongs to a reassembly is ignored if its INDEX has come, and joins it otherwise. -/
theorem State.segment_next : s.segment charter payload =
    if (SMap.find r.segs (segIndex payload)).isSome then s
    else s.reassemble { r with segs := SMap.put r.segs (segIndex payload) (payload.drop 8) } := by
  simp only [State.reasmOf, segId] at found
  simp only [State.segment, found]
  rw [segCount, segIndex] at within
  rw [segCount] at most count
  rw [segTotal] at total
  exact if_neg (by omega)

theorem State.segment_joins (new : SMap.find r.segs (segIndex payload) = none) : s.segment charter payload =
    s.reassemble { r with segs := SMap.put r.segs (segIndex payload) (payload.drop 8) } := by
  rw [State.segment_next found count total most within, new]
  exact if_neg Bool.false_ne_true

end

/-- Settles O28: `segment` drops, ignores or takes what arrives, and `reassemble` holds what is not whole. -/
theorem inbandReassembly : Obligations.InbandReassembly := by
  refine ⟨fun s charter rule payload rest acts carried => ?_, fun s charter id acts there => exec_inbandReassemblyTimeout acts there,
    fun s charter id => ⟨_, State.dropReasm_reasm s charter id, fun r member => ?_⟩⟩
  · have run {t : State} (h : (s.carriedOn rest).segment charter payload = t) : exec .inbandSegment s = .next (State.startReady 24 t) := by
      rw [exec_inbandSegment acts carried, h]
    refine ⟨fun found two most within room => ?_, fun r found count total one most within => ?_, fun bad => run (State.segment_dropped bad)⟩
    · exact run ((State.segment_first (s := s.carriedOn rest) found most within room).trans (State.reassemble_more two))
    · refine ⟨fun again => run ((State.segment_next (s := s.carriedOn rest) found count total most within).trans (if_pos again)),
        fun new => ?_⟩
      have joins := State.segment_joins (s := s.carriedOn rest) found count total most within new
      refine ⟨fun more => run (joins.trans (State.reassemble_more (count.symm ▸ more))), fun whole length serves =>
        ⟨_, run (joins.trans (State.reassemble_whole (s := s.carriedOn rest) (count.symm ▸ whole) (length.trans total.symm) serves)),
          rfl, rfl, rfl, rfl⟩⟩
  · rintro ⟨rfl, rfl⟩
    simpa using (List.mem_filter.mp member).2

end Sys2Proof.Machine
end

section
/-! PROOFS. What every command keeps (R101, R109, R487): the states that follow a state, and the operations that lead from one of them
to another. For an operation `State.op` of the model the lemma `State.Follows.op` says that it does; its proof is the operation's own
shape. Few operations write a part that `State.Follows` speaks of (`setReg`, `emit`, `drawn`, `freeBytes`, `burnOtp`, `keyEnrol`,
`keyRevoke`, `toReset` and three that forget registers); the others change the rest (`State.Follows.beside`) or are built of operations. -/

namespace Sys2Proof.Machine

-- One lemma after another: hundreds at once would each hold a thread with its stack.
set_option Elab.async false

variable {o p o' : Otp} {n : Nat}

/-! ### Fuses burn (R101, R102, R104, R109, R487) -/

theorem OwnerSlot.BurnsTo.refl (a : OwnerSlot) : a.BurnsTo a := ⟨fun enrolled => ⟨enrolled, rfl, rfl⟩, id⟩

theorem OwnerSlot.BurnsTo.trans {a b c : OwnerSlot} (h : a.BurnsTo b) (k : b.BurnsTo c) : a.BurnsTo c := by
  refine ⟨fun enrolled => ?_, fun revoked => k.2 (h.2 revoked)⟩
  obtain ⟨still, rsa, slh⟩ := h.1 enrolled
  obtain ⟨last, rsa', slh'⟩ := k.1 still
  exact ⟨last, rsa'.trans rsa, slh'.trans slh⟩

theorem Otp.BurnsTo.refl (o : Otp) : o.BurnsTo o := ⟨fun _ => .refl _, Nat.le_refl _, id⟩

theorem Otp.BurnsTo.trans {a b c : Otp} (h : a.BurnsTo b) (k : b.BurnsTo c) : a.BurnsTo c := by
  obtain ⟨slots, counter, fuse⟩ := h
  obtain ⟨slots', counter', fuse'⟩ := k
  exact ⟨fun n => (slots n).trans (slots' n), counter.trans counter', fun burned => fuse' (fuse burned)⟩

/-- A change of one slot burns fuses if the slot's change does. -/
theorem Otp.burnsTo_slot (o : Otp) (n : Nat) {k : OwnerSlot} (h : (o.slot n).BurnsTo k) :
    o.BurnsTo { o with slots := SMap.set OwnerSlot.blank o.slots n k } := by
  refine ⟨fun m => ?_, Nat.le_refl _, id⟩
  by_cases same : m = n
  · subst same
    simpa only [Otp.slot, SMap.get_set_same] using h
  · simpa only [Otp.slot, SMap.get_set_other _ _ _ _ same] using .refl _

theorem Otp.burnsTo_enrol {rsa slh : List Byte} (empty : (o.slot n).enrolled = false) : o.BurnsTo (o.enrol n rsa slh) :=
  o.burnsTo_slot n ⟨fun enrolled => absurd (empty.symm.trans enrolled) Bool.false_ne_true, id⟩

theorem Otp.burnsTo_revoke (o : Otp) (n : Nat) : o.BurnsTo (o.revoke n) :=
  o.burnsTo_slot n ⟨fun enrolled => ⟨enrolled, rfl, rfl⟩, fun _ => rfl⟩

theorem Otp.burnsTo_frozen (o : Otp) : o.BurnsTo { o with freeze := true } := ⟨fun _ => .refl _, Nat.le_refl _, fun _ => rfl⟩

theorem Otp.burnsTo_rollback {v : Nat} (higher : o.rollback ≤ v) : o.BurnsTo { o with rollback := v } := ⟨fun _ => .refl _, higher, id⟩

/-! ### States that follow a state -/

variable {r s t : State}

theorem State.Follows.refl (s : State) : s.Follows s := ⟨rfl, List.prefix_refl _, Nat.le_refl _, .refl _, id⟩

/-- A change of the other parts of a state. -/
theorem State.Follows.beside (h : r.Follows s) (pending : t.pending = s.pending := by with_reducible rfl)
    (out : t.out = s.out := by with_reducible rfl) (free : t.free = s.free := by with_reducible rfl)
    (otp : t.otp = s.otp := by with_reducible rfl) (regs : t.regs = s.regs := by with_reducible rfl) : r.Follows t := by
  obtain ⟨queue, outputs, draws, fuses, registers⟩ := h
  exact ⟨pending ▸ queue, out ▸ outputs, free ▸ draws, otp ▸ fuses, regs ▸ registers⟩

theorem State.Follows.withRegs {m : SMap Word64} (h : r.Follows s)
    (keeps : SMap.canon resetAt s.regs = true → SMap.canon resetAt m = true) : r.Follows { s with regs := m } :=
  ⟨h.queue, h.outputs, h.draws, h.fuses, fun canon => keeps (h.registers canon)⟩

theorem State.Follows.drawing (h : r.Follows s) : r.Follows { s with free := s.free + n } :=
  ⟨h.queue, h.outputs, h.draws.trans (Nat.le_add_right _ _), h.fuses, h.registers⟩

theorem State.Follows.burning (h : r.Follows s) (burns : s.otp.BurnsTo o) : r.Follows { s with otp := o } :=
  ⟨h.queue, h.outputs, h.draws, h.fuses.trans burns, h.registers⟩

theorem State.Follows.ite {c : Prop} [Decidable c] (a : r.Follows s) (b : r.Follows t) : r.Follows (if c then s else t) := by
  split
  · exact a
  · exact b

section
variable {α β : Type}

theorem State.Follows.ite_snd {c : Prop} [Decidable c] {x y : α × State} (a : r.Follows x.2) (b : r.Follows y.2) :
    r.Follows (if c then x else y).2 := by
  split
  · exact a
  · exact b

theorem State.Follows.of_pair {x : α × State} {a : α} (h : r.Follows x.2) (e : x = (a, s)) : r.Follows s := by
  subst e
  exact h

theorem State.Follows.foldl {f : State → β → State} {l : List β} (h : r.Follows s) (go : ∀ t b, r.Follows t → r.Follows (f t b)) :
    r.Follows (l.foldl f s) := by
  induction l generalizing s with
  | nil => exact h
  | cons b l ih => exact ih (go s b h)

theorem State.Follows.foldl_snd {f : α × State → β → α × State} {l : List β} {x : α × State} (h : r.Follows x.2)
    (go : ∀ x b, r.Follows x.2 → r.Follows (f x b).2) : r.Follows (l.foldl f x).2 := by
  induction l generalizing x with
  | nil => exact h
  | cons b l ih => exact ih (go x b h)

end

end Sys2Proof.Machine
end

section
/-! PROOFS. Events, the life cycle, ports, the cell buffer, meters and queues (chapters 01, 05, 10, 11):
each operation leads to a state that follows. -/

namespace Sys2Proof.Machine

-- One lemma after another: hundreds at once would each hold a thread with its stack.
set_option Elab.async false

variable {r s t : State} {n p pl q k v w b i m a c x off value mask len unit id port ring code old count : Nat} {bytes : List Byte} {f : Fld}
  {enable : Bool} {info : FrameInfo}

theorem State.Follows.setReg {x : RegSpec} (h : r.Follows s) : r.Follows (s.setReg x n v) := h.withRegs (regPut_canon _ _ _)

theorem State.Follows.setFld (h : r.Follows s) : r.Follows (s.setFld f n v) := h.setReg

theorem State.Follows.setFlag {b : Bool} (h : r.Follows s) : r.Follows (s.setFlag f n b) := h.setFld

theorem State.Follows.bump (h : r.Follows s) : r.Follows (s.bump f n k) := h.setFld

theorem State.Follows.resetReg {x : RegSpec} (h : r.Follows s) : r.Follows (s.resetReg x n) := h.setReg

theorem State.Follows.emit {o : Out} (h : r.Follows s) : r.Follows (s.emit o) :=
  ⟨h.queue, h.outputs.trans (List.prefix_append _ _), h.draws, h.fuses, h.registers⟩

theorem State.Follows.drawn (h : r.Follows s) : r.Follows s.drawn := h.drawing

theorem State.Follows.tbSet {t : TimeBase} (h : r.Follows s) : r.Follows (s.tbSet b t) := by unfold State.tbSet; exact h.beside

theorem State.Follows.tbRun {dt : Nat} (h : r.Follows s) : r.Follows (State.tbRun dt s b) := h.tbSet

theorem State.Follows.advance {t : Nat} (h : r.Follows s) : r.Follows (s.advance t) := by
  unfold State.advance
  refine .ite h ?_
  extract_lets _ s₁
  have h₁ : r.Follows s₁ := h.foldl fun _ _ h => h.tbRun
  exact h₁.beside

theorem State.Follows.markEvent {e : EvSpec} (h : r.Follows s) : r.Follows (s.markEvent e n) := by
  unfold State.markEvent
  split
  · exact h
  · exact h.setReg

theorem State.Follows.raiseAt {e : EvSpec} {data : List Nat} (h : r.Follows s) : r.Follows (s.raiseAt e n unit data) := by
  unfold State.raiseAt
  extract_lets s₁
  have h₁ : r.Follows s₁ := h.markEvent
  exact h₁.beside

theorem State.Follows.raise {e : EvSpec} (h : r.Follows s) : r.Follows (s.raise e unit) := h.raiseAt

theorem State.Follows.raiseOf {e : EvSpec} (h : r.Follows s) : r.Follows (s.raiseOf e unit) := h.raiseAt

theorem State.Follows.raiseOnce {e : EvSpec} {key : Nat} {data : List Nat} (h : r.Follows s) :
    r.Follows (s.raiseOnce e n unit key data) := by
  unfold State.raiseOnce
  refine .ite h ?_
  extract_lets s₁
  have h₁ : r.Follows s₁ := h.raiseAt
  exact h₁.beside

theorem State.Follows.lifeAsk (h : r.Follows s) : r.Follows (s.lifeAsk f n enable) := .ite h h.setFld

theorem State.Follows.lifeForce (h : r.Follows s) : r.Follows (s.lifeForce f n) := by
  unfold State.lifeForce
  extract_lets s₁
  have h₁ : r.Follows s₁ := h.lifeAsk
  exact .ite h₁.beside h₁

theorem State.Follows.lifeEnd {l : Life} (h : r.Follows s) : r.Follows (s.lifeEnd f n l) := by
  unfold State.lifeEnd
  extract_lets s₁
  have h₁ : r.Follows s₁ := h.setFld
  exact h₁.beside

theorem State.Follows.updPower {f : Power → Power} (h : r.Follows s) : r.Follows (s.updPower f) := by unfold State.updPower; exact h.beside

theorem State.Follows.updPair {f : Pair → Pair} (h : r.Follows s) : r.Follows (s.updPair f) := by unfold State.updPair; exact h.beside

theorem State.Follows.awake {f : State → State} (h : r.Follows s) (go : ∀ t, r.Follows t → r.Follows (f t)) : r.Follows (s.awake f) :=
  .ite h (go _ h)

theorem State.Follows.clocked {f : State → State} (h : r.Follows s) (go : ∀ t, r.Follows t → r.Follows (f t)) : r.Follows (s.clocked f) :=
  h.awake fun _ h => .ite h (go _ h)

theorem State.Follows.noteChange {c : TableChange} (h : r.Follows s) : r.Follows (s.noteChange c) := .ite h.updPair h

theorem State.Follows.updLane {f : Lane → Lane} (h : r.Follows s) : r.Follows (s.updLane n f) := by unfold State.updLane; exact h.beside

theorem State.Follows.updPort {f : Port → Port} (h : r.Follows s) : r.Follows (s.updPort p f) := by unfold State.updPort; exact h.beside

theorem State.Follows.halfReached (h : r.Follows s) : r.Follows (s.halfReached old p i) := .ite h.setFld.raiseAt h

theorem State.Follows.portCount (h : r.Follows s) : r.Follows (s.portCount p i k) := h.bump.halfReached

theorem State.Follows.setLinkUp {up : Bool} (h : r.Follows s) : r.Follows (s.setLinkUp p up) := .ite h h.setFlag.raiseOf.updPort

theorem State.Follows.signalFault (h : r.Follows s) : r.Follows (s.signalFault p) := .ite h (.ite h.updPort.emit h.updPort)

theorem State.Follows.relink (h : r.Follows s) : r.Follows (s.relink p) := h.setLinkUp.signalFault

theorem State.Follows.setCupboard {c : Cupboard} (h : r.Follows s) : r.Follows (s.setCupboard q c) := by
  unfold State.setCupboard; exact h.beside

theorem State.Follows.cellCount (h : r.Follows s) : r.Follows (s.cellCount i k) := h.bump

theorem State.Follows.refill (h : r.Follows s) : r.Follows (s.refill q) :=
  .ite h.setCupboard (.ite h.setCupboard.setCupboard.cellCount (.ite h h.setCupboard.setCupboard.cellCount))

theorem State.Follows.cupboardRefill (h : r.Follows s) : r.Follows (s.cupboardRefill q) := .ite h.refill h

theorem State.Follows.watchFree (h : r.Follows s) : r.Follows s.watchFree := by
  unfold State.watchFree
  extract_lets _ s₁ _ s₂
  have h₁ : r.Follows s₁ := h.beside
  have h₂ : r.Follows s₂ := h₁.raise
  exact .ite h₁.beside (.ite h₂.beside h₁)

theorem State.Follows.setCell {v : Cell} (h : r.Follows s) : r.Follows (s.setCell c v) := by unfold State.setCell; exact h.beside

theorem State.Follows.takeCell (h : r.Follows s) (e : s.takeCell q = some (c, t)) : r.Follows t := by
  unfold State.takeCell at e
  extract_lets s₁ at e
  have h₁ : r.Follows s₁ := .ite h.refill h
  split at e
  · cases e
    exact h₁.setCupboard.watchFree
  · cases e

theorem State.Follows.writeCell {prev : Option Nat} (h : r.Follows s) (e : s.writeCell q n prev bytes = some (c, t)) : r.Follows t := by
  unfold State.writeCell at e
  split at e
  · cases e
  · next taken =>
      cases e
      split
      · exact (h.takeCell taken).setCell.cellCount
      · exact (h.takeCell taken).setCell.cellCount.setCell

theorem State.Follows.writeCells : ∀ {prev : Option Nat} {bs : List (List Byte)} {done : List Nat} {s : State}, r.Follows s →
    r.Follows (State.writeCells q n prev bs done s).2.2
  | _, [], _, _, h => h
  | _, _ :: _, _, _, h => by
    unfold State.writeCells
    split
    · exact h
    · next e => exact (h.writeCell e).writeCells

theorem State.Follows.giveCell (h : r.Follows s) : r.Follows (s.giveCell c) := h.setCupboard.cellCount.watchFree

theorem State.Follows.quarantineCell (h : r.Follows s) : r.Follows (s.quarantineCell c) := by
  unfold State.quarantineCell; exact .ite h h.beside.setFld.cellCount.raiseAt

theorem State.Follows.readLink {fault : Option CellFault} (h : r.Follows s) : r.Follows (s.readLink c fault).2 := by
  unfold State.readLink
  refine .ite_snd h ?_
  split
  · exact h.cellCount
  · exact h.cellCount.raiseAt.setCell.quarantineCell
  · exact h

theorem State.Follows.readCell {fault : Option CellFault} (h : r.Follows s) : r.Follows (s.readCell c fault).2 := by
  unfold State.readCell
  dsimp only
  split
  · exact h.readLink.cellCount
  · exact .ite_snd h.readLink h.readLink.cellCount.setCell
  · exact h.readLink

theorem State.Follows.releaseCell {g : Nat} (h : r.Follows s) : r.Follows (s.releaseCell c g).2 :=
  .ite_snd h.cellCount.raiseOnce (.ite_snd h.cellCount.raiseOnce (.ite_snd h.setCell (.ite_snd h.setCell.setCell.quarantineCell h.setCell.giveCell)))

theorem State.Follows.updQueue {f : Queue → Queue} (h : r.Follows s) : r.Follows (s.updQueue q f) := by
  unfold State.updQueue; exact h.beside

theorem State.Follows.setHeadroom (h : r.Follows s) : r.Follows (s.setHeadroom p k v) := h.setFld

theorem State.Follows.xoffCheck (h : r.Follows s) : r.Follows (s.xoffCheck p k) := .ite h (.ite h (.ite h.setFld.updPort h.setFld))

theorem State.Follows.charge {c : Copy} (h : r.Follows s) : r.Follows (s.charge c k) := by
  unfold State.charge
  extract_lets _ s₁
  have h₁ : r.Follows s₁ := by
    unfold s₁
    split
    · exact h.updQueue
    · exact h.updQueue.setFld
    · exact h.updQueue.setHeadroom
  exact .ite h₁.beside.xoffCheck h₁

theorem State.Follows.uncharge {c : Copy} (h : r.Follows s) : r.Follows (s.uncharge c k) := by
  unfold State.uncharge
  extract_lets _ s₁
  have h₁ : r.Follows s₁ := by
    unfold s₁
    split
    · exact h.updQueue
    · exact h.updQueue.setFld
    · exact h.updQueue.setHeadroom
  exact .ite h₁.beside.xoffCheck h₁

theorem State.Follows.walk {copy : Copy} {whole : Bool} : ∀ {k c g : Nat} {s : State}, r.Follows s → r.Follows (State.walk copy whole k c g s)
  | 0, _, _, _, h => .ite h.cellCount h
  | _ + 1, _, _, _, h => .ite h (.ite h.releaseCell (.ite h.releaseCell.uncharge h.releaseCell.uncharge.walk))

theorem State.Follows.giveUp {c : Copy} (h : r.Follows s) : r.Follows (s.giveUp c) := .ite h h.updPort

theorem State.Follows.dropCopy {c : Copy} (h : r.Follows s) : r.Follows (s.dropCopy c) := .giveUp (.ite h h.walk)

theorem State.Follows.scrubCell {failed : List Nat} (h : r.Follows s) : r.Follows (State.scrubCell failed s c) := by
  unfold State.scrubCell
  extract_lets s₁
  have h₁ : r.Follows s₁ := h.setCell
  exact .ite h₁.cellCount h₁.beside.setFld.cellCount.giveCell

theorem State.Follows.scrubEnd {failed : List Nat} (h : r.Follows s) : r.Follows (s.scrubEnd failed) := by
  unfold State.scrubEnd
  split
  · exact h
  · exact (h.beside.foldl fun _ _ h => h.scrubCell).setFld.raise

theorem State.Follows.setMeter {v : Meter} (h : r.Follows s) : r.Follows (s.setMeter m v) := by unfold State.setMeter; exact h.beside

theorem State.Follows.applyMeter {alg : Nat} {aware : Bool} {w0 w1 : Word64} (h : r.Follows s) :
    r.Follows (s.applyMeter m alg aware w0 w1) :=
  h.setMeter

theorem State.Follows.setShaper {g : Nat} {b : Bucket} (h : r.Follows s) : r.Follows (s.setShaper p g b) := by
  unfold State.setShaper; exact h.beside

theorem State.Follows.reshape {g : Nat} {old : Nat × Nat} (h : r.Follows s) : r.Follows (s.reshape p g old) := .ite h h.setShaper

theorem State.Follows.setVirtual (h : r.Follows s) : r.Follows (s.setVirtual p k v) := by unfold State.setVirtual; exact h.beside

theorem State.Follows.newHead {wasEmpty : Bool} (h : r.Follows s) : r.Follows (s.newHead p q len wasEmpty) := h.updQueue

theorem State.Follows.visitEmpty (h : r.Follows s) : r.Follows (s.visitEmpty q) := by
  unfold State.visitEmpty
  split
  · exact h
  · exact .ite h h.updQueue

theorem State.Follows.beginQueue (h : r.Follows s) : r.Follows (s.beginQueue q) := by unfold State.beginQueue; exact h.updQueue

theorem State.Follows.askQueue {moving : Bool} (h : r.Follows s) : r.Follows (s.askQueue q enable moving) :=
  .ite h.updQueue.beginQueue h.updQueue

theorem State.Follows.endQueue (h : r.Follows s) : r.Follows (s.endQueue q) := .ite h.updQueue.beginQueue h.updQueue

theorem State.Follows.flushQueue (h : r.Follows s) : r.Follows (s.flushQueue q).2 := h.updQueue.foldl fun _ _ h => h.dropCopy

theorem State.Follows.flushPort (h : r.Follows s) : r.Follows (s.flushPort p) :=
  h.foldl fun _ _ h => .ite h.flushQueue h.flushQueue.portCount

theorem State.Follows.tmCount (h : r.Follows s) : r.Follows (s.tmCount i k) := h.bump

theorem State.Follows.queueStopped (h : r.Follows s) : r.Follows (s.queueStopped q) := by
  unfold State.queueStopped
  extract_lets _ _ _ s₁
  have h₁ : r.Follows s₁ := .endQueue (.ite h.flushQueue h.flushQueue.tmCount.raiseOnce)
  refine .ite h ?_
  split
  · exact h₁
  · exact .ite h₁.askQueue h₁

theorem State.Follows.applyQueue {tier group : Nat} {w0 w1 : Word64} (h : r.Follows s) :
    r.Follows (s.applyQueue q port tier group w0 w1) := by
  unfold State.applyQueue
  dsimp only
  refine .ite ?_ ?_
  · split
    · exact h.updQueue.askQueue
    · exact .ite h.updQueue.askQueue.askQueue h.updQueue.askQueue
  · refine .ite ?_ h.updQueue
    split
    · exact h.updQueue.updQueue
    · exact h.updQueue.updQueue.newHead

theorem State.Follows.select (h : r.Follows s) : ∀ {tiers : List Nat}, s.select p tiers = some (q, t) → r.Follows t
  | [], e => nomatch e
  | _ :: _, e => by
    unfold State.select at e
    extract_lets able due s₁ at e
    have h₁ : r.Follows s₁ := .ite h.setVirtual h
    split at e
    · exact h.select e
    · split at e
      · cases e
      · exact (Prod.mk.inj (Option.some.inj e)).2 ▸ h₁

theorem State.Follows.tierStart (h : r.Follows s) : r.Follows (s.tierStart p k len) := h.setVirtual

theorem State.Follows.choose {c : Copy} (h : r.Follows s) (e : s.choose p = some (q, c, t)) : r.Follows t := by
  unfold State.choose at e
  split at e
  · cases e
  · split at e
    · cases e
    · next selected =>
        split at e
        · cases e
        · cases e
          exact h.select selected

theorem State.Follows.popHead (h : r.Follows s) : r.Follows (s.popHead p q) := by
  unfold State.popHead
  dsimp only
  split
  · exact h.updQueue
  · exact h.updQueue.newHead

theorem State.Follows.startHead (h : r.Follows s) : r.Follows (s.startHead p q len) := by
  unfold State.startHead; exact h.tierStart.setShaper.setShaper.updQueue

theorem State.Follows.queueDrop (h : r.Follows s) : r.Follows (s.queueDrop q) := h.updQueue

theorem State.Follows.refuseCopy {colour : Nat} {meter : Option Nat} {mirror : Bool} (h : r.Follows s)
    (e : s.refuseCopy p q colour len meter mirror = some t) : r.Follows t := by
  unfold State.refuseCopy at e
  split at e
  · cases e
    exact h.portCount.queueDrop
  · dsimp only at e
    split at e
    · cases e
    · cases e
      exact h.tmCount.queueDrop.raiseOnce

theorem State.Follows.enqueue {c : Copy} (h : r.Follows s) : r.Follows (s.enqueue p c) := .ite h.updQueue.newHead h.updQueue

end Sys2Proof.Machine
end

section
/-! PROOFS. Lanes, thinning and time bases (chapters 04 and 12):
each operation leads to a state that follows. -/

namespace Sys2Proof.Machine

-- One lemma after another: hundreds at once would each hold a thread with its stack.
set_option Elab.async false

variable {r s t : State} {n p pl q k v w b i m a c x off value mask len unit id port ring code old count : Nat} {bytes : List Byte} {f : Fld}
  {enable : Bool} {info : FrameInfo}

theorem State.Follows.setLock {v : Bool} (h : r.Follows s) : r.Follows (s.setLock f n v) := .ite h (.ite h.setFlag h.setFlag.raiseOf)

theorem State.Follows.signalSeen (h : r.Follows s) : r.Follows (s.signalSeen n) := .ite h.setFlag.setFlag h

theorem State.Follows.setChkLock {v : Bool} (h : r.Follows s) : r.Follows (s.setChkLock n v) := .ite h h.setFlag.raiseOf

theorem State.Follows.setAmLock {v : Bool} (h : r.Follows s) : r.Follows (s.setAmLock n v) := by
  unfold State.setAmLock
  dsimp only
  split
  · exact .ite h.setLock.portCount h.setLock
  · exact h.setLock

theorem State.Follows.alignmentLock {locked deskewed : Bool} (h : r.Follows s) : r.Follows (s.alignmentLock n locked deskewed) := by
  unfold State.alignmentLock
  split
  · exact h
  · exact .ite h (.relink (.updPort (.setAmLock (.ite h.signalSeen h))))

theorem State.Follows.signalLost (h : r.Follows s) : r.Follows (s.signalLost n) := h.setFlag.setFlag

theorem State.Follows.takeRef {octet : Nat} {neighbour : Bool} (h : r.Follows s) : r.Follows (s.takeRef octet neighbour) :=
  h.setFlag.setFlag.setFlag

theorem State.Follows.refLoss {octet : Nat} (h : r.Follows s) : r.Follows (s.refLoss octet) := by
  unfold State.refLoss; exact .ite h.beside.raiseOf.takeRef h.beside.raiseOf.takeRef

theorem State.Follows.calibrate (h : r.Follows s) : r.Follows (s.calibrate n) := h.updLane

theorem State.Follows.setTaps (h : r.Follows s) : r.Follows (s.setTaps n) := .ite h.setFld h.setFld.drawn

theorem State.Follows.adapt (h : r.Follows s) : r.Follows (s.adapt n) := .ite h.drawn.setFld.setFld h.drawn.setFld.setFld.setFld.setFld

theorem State.Follows.checkerSample {received : List Bool} (h : r.Follows s) : r.Follows (s.checkerSample n received) := by
  unfold State.checkerSample
  extract_lets _ _ _ _ _ s₁ s₂
  have h₁ : r.Follows s₁ := .ite h.updLane h
  have h₂ : r.Follows s₂ := .ite h₁ h₁.signalSeen
  exact .ite h (.ite h₂ (h₂.updLane.bump.bump.setFlag.foldl fun _ _ h => h.raiseOf))

theorem State.Follows.injectFire (h : r.Follows s) : r.Follows (s.injectFire n) := .ite h (.ite h.bump.emit.updLane h.bump.emit)

theorem State.Follows.injectRate (h : r.Follows s) : r.Follows (s.injectRate n) := by
  unfold State.injectRate
  refine .ite h ?_
  extract_lets _ _ s₁
  have h₁ : r.Follows s₁ := .ite h.drawn h
  exact .updLane (.bump (.ite h₁ h₁.emit))

theorem State.Follows.askLane (h : r.Follows s) : r.Follows (s.askLane n enable) := h.lifeAsk

theorem State.Follows.laneUp (h : r.Follows s) : r.Follows (s.laneUp n) :=
  .adapt (.setTaps (.setFld (.setFld (.ite h.takeRef.calibrate h.takeRef))))

theorem State.Follows.laneDark (h : r.Follows s) : r.Follows (s.laneDark n) := h.setFld.setFld.signalLost.setAmLock.setChkLock.updLane

theorem State.Follows.labelChannel {label : Nat} (h : r.Follows s) : r.Follows (s.labelChannel p label) :=
  h.foldl fun _ _ h => h.setFld.setFld

theorem State.Follows.settlePort (h : r.Follows s) : r.Follows (s.settlePort p) := by
  unfold State.settlePort
  refine .ite h ?_
  extract_lets s₁ _ s₂
  have h₁ : r.Follows s₁ := .ite h h.flushPort
  have h₂ : r.Follows s₂ := h₁.updPort.foldl fun _ _ h => .ite h.endQueue h
  exact .ite h₁ (.ite h₂.labelChannel (h₂.foldl fun _ _ h => h.askLane))

theorem State.Follows.applyTaps (h : r.Follows s) : r.Follows (s.applyTaps n w) := .ite h.setReg.setFld h.setReg

theorem State.Follows.applyTestEn (h : r.Follows s) : r.Follows (s.applyTestEn n v) := by
  unfold State.applyTestEn
  split
  · exact h.raiseOf
  · exact h.setFld.askLane

theorem State.Follows.applyGen (h : r.Follows s) : r.Follows (s.applyGen n v) := .ite h.raiseOf h.setFld.setFld.updLane

theorem State.Follows.applyChk (h : r.Follows s) : r.Follows (s.applyChk n v) := h.setFld.setFld.setChkLock.updLane

theorem State.Follows.applyLaneCfg {param : Nat} (h : r.Follows s) : r.Follows (s.applyLaneCfg n param v) := by
  unfold State.applyLaneCfg
  split
  · exact h.setFld
  · exact h.setFld
  · exact h.applyTaps
  · exact h.applyTaps
  · exact .ite h.setFld.setFld h.setFld
  · exact .ite (.ite h.setFld.adapt h.setFld) h.setFld
  · exact .ite h h.calibrate
  · exact h.applyTestEn
  · exact h.setFld.updLane
  · exact h.applyGen
  · exact h.applyChk
  · exact h.setReg
  · exact h.setReg
  · exact h.setFld.setFld.updLane
  · exact h.setFld.updLane
  · exact h.injectFire
  · exact h.setFld.setFld
  · exact h.setFld
  · exact h.setFld
  · exact h.setFld
  · exact h.setFld
  · exact h.setFld
  · exact h.setFld
  · exact h.setFld
  · exact h.setFld
  · exact h.setFld.setFld.takeRef
  · exact h

theorem State.Follows.showPartner (h : r.Follows s) : r.Follows (s.showPartner p) := h.setFlag

theorem State.Follows.startWiden (h : r.Follows s) : r.Follows (s.startWiden p) := by
  unfold State.startWiden
  refine .ite h ?_
  split
  · exact .ite h h.updPort
  · exact .ite h h.updPort

theorem State.Follows.startNarrow (h : r.Follows s) : r.Follows (s.startNarrow p) := .ite h h.updPort

theorem State.Follows.wakeTx (h : r.Follows s) : r.Follows (s.wakeTx n) := .ite h.updLane h.setFld

theorem State.Follows.wakeRx (h : r.Follows s) : r.Follows (s.wakeRx n) := .ite h.updLane h.setFld

theorem State.Follows.sendThin (h : r.Follows s) : r.Follows (s.sendThin p w) := by
  unfold State.sendThin
  extract_lets s₁
  have h₁ : r.Follows s₁ := .ite h h.portCount
  exact .ite h₁.updPort h₁.emit

theorem State.Follows.thinSlot (h : r.Follows s) : r.Follows (s.thinSlot p) := by
  unfold State.thinSlot
  refine .ite ?_ ?_
  · split
    · exact h.sendThin
    · exact h
  · split
    · exact h
    · exact .ite (.sendThin (.updPort (.ite (h.foldl fun _ _ h => h.wakeTx) h))) (.ite h.sendThin (.ite h h.updPort.sendThin))

theorem State.Follows.thinReceive (h : r.Follows s) : r.Follows (s.thinReceive p w) := by
  unfold State.thinReceive
  refine .ite h (.ite ?_ (.ite (.updPort (.ite (h.foldl fun _ _ h => h.wakeRx) h)) h))
  split
  · exact .ite h.updPort h
  · exact h

theorem State.Follows.parkRx (h : r.Follows s) : r.Follows (State.parkRx p s n) := .ite h h.setFld.setAmLock.setLock.signalLost

theorem State.Follows.parkTx (h : r.Follows s) : r.Follows (State.parkTx p s n) := h.setFld

theorem State.Follows.thinWake (h : r.Follows s) : r.Follows (s.thinWake p) := .ite h (.ite h.startWiden h)

theorem State.Follows.ownSwitch (h : r.Follows s) : r.Follows (s.ownSwitch p) := by
  unfold State.ownSwitch
  split
  · exact h
  · refine .ite h ?_
    extract_lets _ _ s₁
    have h₁ : r.Follows s₁ := .raiseOf (.updPort (.setFld (.ite h (h.foldl fun _ _ h => h.parkTx))))
    exact .thinWake (.ite h₁.startWiden h₁)

theorem State.Follows.peerSwitch (h : r.Follows s) : r.Follows (s.peerSwitch p) := by
  unfold State.peerSwitch
  split
  · exact h
  · exact .ite h (.relink (.ite h.updPort (h.updPort.foldl fun _ _ h => h.parkRx)))

theorem State.Follows.recalDone (h : r.Follows s) : r.Follows (s.recalDone n) := by
  unfold State.recalDone
  extract_lets _ s₁
  have h₁ : r.Follows s₁ := .ite h.setFld h
  exact .ite h (.updLane (.calibrate (.ite h₁.setFld h₁)))

theorem State.Follows.repark (h : r.Follows s) : r.Follows (s.repark p) := by
  unfold State.repark
  refine .ite h (.foldl h fun _ _ h => .ite h ?_)
  extract_lets s₁
  have h₁ : r.Follows s₁ := .ite h (.ite h.wakeTx.startWiden h.setFld)
  exact .ite h₁ (.ite h₁.wakeRx h₁.setFld)

theorem State.Follows.thinLoad (h : r.Follows s) : r.Follows (s.thinLoad p) :=
  .ite h.updPort.startWiden (.ite h.updPort.updPort (.ite (.ite h.updPort.updPort.startNarrow h.updPort.updPort) h.updPort.updPort))

theorem State.Follows.thinIdle {idle : Nat → Bool} (h : r.Follows s) : r.Follows (s.thinIdle idle p) :=
  .ite h.startWiden (.ite h.startNarrow h)

theorem State.Follows.thinEdge {idle : Nat → Bool} (h : r.Follows s) : r.Follows (State.thinEdge idle s p) :=
  .ite h (.ite h.thinIdle h.thinLoad)

theorem State.Follows.updServo {f : Servo → Servo} (h : r.Follows s) : r.Follows (s.updServo b f) := by
  unfold State.updServo; exact h.beside

theorem State.Follows.updPulse {f : Pulse → Pulse} (h : r.Follows s) : r.Follows (s.updPulse n f) := by
  unfold State.updPulse; exact h.beside

theorem State.Follows.updTin {f : TimeIn → TimeIn} (h : r.Follows s) : r.Follows (s.updTin n f) := by unfold State.updTin; exact h.beside

theorem State.Follows.advanceUntil {target : Nat} (h : r.Follows s) : r.Follows (s.advanceUntil b target) := .ite h.advance h

theorem State.Follows.setRate {a : Int} (h : r.Follows s) : r.Follows (s.setRate b a) := h.setFld

theorem State.Follows.rateOf (h : r.Follows s) : r.Follows (s.rateOf b) := .ite h.setRate (.ite h.setRate h.setRate)

theorem State.Follows.ratesFrom (h : r.Follows s) : r.Follows (s.ratesFrom b) := .ite (h.rateOf.foldl fun _ _ h => .ite h.rateOf h) h.rateOf

theorem State.Follows.enterTb {new : Nat} (h : r.Follows s) : r.Follows (s.enterTb b new) := by
  unfold State.enterTb
  refine .ite h ?_
  extract_lets _ s₁
  have h₁ : r.Follows s₁ := .ite h.setFld.setFld h.setFld
  exact .raiseOf (.updServo (.ite h₁.setRate h₁))

theorem State.Follows.toTb {new : Nat} (h : r.Follows s) : r.Follows (s.toTb b new) :=
  .ratesFrom (.ite (h.enterTb.foldl fun _ _ h => .ite h.enterTb h) h.enterTb)

theorem State.Follows.holdTb (h : r.Follows s) : r.Follows (s.holdTb b) := .ite h.toTb h

theorem State.Follows.holdLane (h : r.Follows s) : r.Follows (s.holdLane n) := h.foldl fun _ _ h => .ite h.holdTb h

theorem State.Follows.tbCfgChanged (h : r.Follows s) : r.Follows (s.tbCfgChanged b old) := by
  unfold State.tbCfgChanged
  extract_lets _ _ _ _ _ _ _ _ s₁
  have h₁ : r.Follows s₁ := .ratesFrom (.ite h.updServo.toTb (.ite (.ite h.toTb h.holdTb) h))
  exact .ite h₁.raiseOf h₁

theorem State.Follows.tbRateSet {rate : Nat} (h : r.Follows s) : r.Follows (s.tbRateSet b rate) :=
  .ite h.setFld.ratesFrom.raiseOf h.setFld.ratesFrom

theorem State.Follows.tbRearm (h : r.Follows s) : r.Follows (s.tbRearm b) := .raiseOf (.ite h.setFld h)

theorem State.Follows.tbStep {abs : Bool} {w0 w1 : Word64} (h : r.Follows s) : r.Follows (s.tbStep b abs w0 w1).2 :=
  .ite_snd h.setFld.raiseAt h.setFld.updServo

theorem State.Follows.retarget (h : r.Follows s) : r.Follows s.retarget := by unfold State.retarget; exact h.beside

theorem State.Follows.missPulses (h : r.Follows s) : r.Follows (s.missPulses n k) := .ite h h.bump.raiseOnce

theorem State.Follows.stepPulse {new : Nat} (h : r.Follows s) : r.Follows (State.stepPulse b old new s n) := by
  unfold State.stepPulse
  refine .ite h ?_
  split
  · exact h
  · exact .ite (.ite h.missPulses.updPulse.lifeForce h.missPulses.updPulse) h.updPulse

theorem State.Follows.applyStep (h : r.Follows s) : r.Follows (s.applyStep b) := by
  unfold State.applyStep
  split
  · exact h
  · refine .ite h ?_
    extract_lets _ _ _ _ _ _ _ _ s₁
    have h₁ : r.Follows s₁ := h.advanceUntil.tbSet.updServo.setFld.setFld.raiseOf
    exact .foldl (.ite h₁.retarget h₁) fun _ _ h => h.stepPulse

theorem State.Follows.steerPhase (h : r.Follows s) : r.Follows (s.steerPhase b) := h.updServo.setRate

theorem State.Follows.steerFrequency {err : Int} (h : r.Follows s) : r.Follows (s.steerFrequency b err) := h.setRate

theorem State.Follows.servoUpdate (h : r.Follows s) : r.Follows (s.servoUpdate b) := by
  unfold State.servoUpdate
  split
  · exact h
  · extract_lets _ _ s₁ s₂ _ s₃ _ s₄
    have h₁ : r.Follows s₁ := .ite h.setFld.setFld h.setFld
    have h₂ : r.Follows s₂ := .ite h₁.updTin h₁
    have h₃ : r.Follows s₃ := .ite h₂ (.ite h₂.steerPhase h₂.steerFrequency)
    have h₄ : r.Follows s₄ := .updServo (.ite h₃.ratesFrom h₃)
    exact .ite h₄.toTb h₄

theorem State.Follows.setLost {lost : Bool} (h : r.Follows s) : r.Follows (s.setLost n lost) :=
  .ite h (.ite (h.setFlag.raiseOf.foldl fun _ _ h => .ite h.holdTb h) h.setFlag.raiseOf)

theorem State.Follows.acceptEdge (h : r.Follows s) : r.Follows (s.acceptEdge n) := by
  unfold State.acceptEdge
  extract_lets _ _ _ _ _ _ _ s₁
  have h₁ : r.Follows s₁ := h.bump.updTin.setLost.updTin
  exact .ite h.bump.updTin.setLost (.ite h₁.raiseOf h₁)

theorem State.Follows.tinEdge (h : r.Follows s) : r.Follows (s.tinEdge n) := by
  unfold State.tinEdge
  split
  · split
    · exact h.acceptEdge
    · exact .ite h.acceptEdge h.bump
  · exact h.acceptEdge
  · exact h

theorem State.Follows.tinLoss (h : r.Follows s) : r.Follows (s.tinLoss n) := .ite h h.updTin.setLost

theorem State.Follows.tinCfgChanged (h : r.Follows s) : r.Follows (s.tinCfgChanged n old) := .ite h (.ite h.updTin.setFlag h.updTin)

theorem State.Follows.putPulse {p : Nat × Bool × Nat × Nat × Nat} (h : r.Follows s) : r.Follows (s.putPulse n p) :=
  h.setFld.setFlag.setFld.setReg.setReg

theorem State.Follows.armPulse (h : r.Follows s) : r.Follows (s.armPulse n) := h.updPulse

theorem State.Follows.applyPulse {tb : Nat} {train : Bool} {sec ns period : Word64} (h : r.Follows s) :
    r.Follows (s.applyPulse n tb enable train sec ns period) := by
  unfold State.applyPulse
  dsimp only
  split
  · exact .ite h.putPulse.armPulse.lifeAsk h.putPulse
  · exact .ite h.putPulse.armPulse h.putPulse.lifeAsk
  · exact h.updPulse.lifeAsk

theorem State.Follows.takeStored (h : r.Follows s) : r.Follows (s.takeStored n) := by
  unfold State.takeStored
  split
  · exact h
  · exact h.putPulse.updPulse

theorem State.Follows.pulseEnd (h : r.Follows s) : r.Follows (s.pulseEnd n) := by
  unfold State.pulseEnd
  split
  · extract_lets _ _ s₁
    have h₁ : r.Follows s₁ := .ite h.lifeEnd.raiseOf.takeStored.armPulse h.lifeEnd.raiseOf
    exact .ite h₁.missPulses.lifeForce h₁
  · extract_lets _ _ s₁
    have h₁ : r.Follows s₁ := h.updPulse.lifeEnd.raiseOf.takeStored
    exact .ite h₁.armPulse h₁
  · exact h

theorem State.Follows.emitPulse (h : r.Follows s) : r.Follows (s.emitPulse n) := by
  unfold State.emitPulse
  refine .ite h ?_
  split
  · exact h
  · extract_lets _ _ _ s₁
    have h₁ : r.Follows s₁ := h.advanceUntil.emit.updPulse
    exact .ite h₁ h₁.lifeForce

end Sys2Proof.Machine
end

section
/-! PROOFS. STF lanes, the time-slot interchange and the life of lanes and ports (chapters 04 to 07):
each operation leads to a state that follows. -/

namespace Sys2Proof.Machine

-- One lemma after another: hundreds at once would each hold a thread with its stack.
set_option Elab.async false

variable {r s t : State} {n p pl q k v w b i m a c x off value mask len unit id port ring code old count : Nat} {bytes : List Byte} {f : Fld}
  {enable : Bool} {info : FrameInfo}

theorem State.Follows.updStf {f : Stf → Stf} (h : r.Follows s) : r.Follows (s.updStf n f) := by unfold State.updStf; exact h.beside

theorem State.Follows.updTu {f : Tu → Tu} (h : r.Follows s) : r.Follows (s.updTu k f) := by unfold State.updTu; exact h.beside

theorem State.Follows.updChannel {f : Channel → Channel} (h : r.Follows s) : r.Follows (s.updChannel p f) := by
  unfold State.updChannel; exact h.beside

theorem State.Follows.stfCount (h : r.Follows s) : r.Follows (s.stfCount n i k) := h.bump

theorem State.Follows.refreshPair (h : r.Follows s) : r.Follows (s.refreshPair i) := .ite h h.setFlag.setFlag.setFlag.raiseAt

theorem State.Follows.refreshPairs (h : r.Follows s) : r.Follows (s.refreshPairs n) := (h.foldl fun _ _ h => .ite h.refreshPair h).setFlag

theorem State.Follows.refreshChannel (h : r.Follows s) : r.Follows (s.refreshChannel p) :=
  .setLinkUp (.setFld (.ite h.setFlag.updChannel h.setFlag))

theorem State.Follows.evalTu {t : Nat} (h : r.Follows s) : r.Follows (s.evalTu n t) :=
  .ite h.updTu (.ite h.updTu.setReg.raiseAt h.updTu.setReg)

theorem State.Follows.evalTus (h : r.Follows s) : r.Follows (s.evalTus n) :=
  (h.foldl fun _ _ h => h.evalTu).foldl fun _ _ h => h.refreshChannel

theorem State.Follows.acquire (h : r.Follows s) : r.Follows (s.acquire n) := h.foldl fun _ _ h => h.setFld.updTu

theorem State.Follows.evalLane (h : r.Follows s) : r.Follows (s.evalLane n) := by
  unfold State.evalLane
  refine .ite h ?_
  extract_lets _ _ _ _ _ _ _ _ _ _ _ _ _ _ _ _ _ _ _ s₁
  have h₁ : r.Follows s₁ := .ite h.updStf.setReg.raiseAt h.updStf.setReg
  exact .ite h.updStf (.refreshPairs (.evalTus (.ite h₁.acquire h₁)))

theorem State.Follows.setAlign (h : r.Follows s) : r.Follows (s.setAlign n v) := by
  unfold State.setAlign
  extract_lets _ _ _ s₁ s₂ _ s₃
  have h₁ : r.Follows s₁ := .ite h.setFld.setFld.updStf h.setFld.setFld
  have h₂ : r.Follows s₂ := .ite h₁.raiseOf h₁
  have h₃ : r.Follows s₃ := .evalLane (.ite h₂.holdLane h₂)
  refine .ite h.setFld ?_
  split
  · exact h₃.relink
  · exact h₃

theorem State.Follows.huntAlign (h : r.Follows s) : r.Follows (s.huntAlign n) := h.setAlign

theorem State.Follows.startHunt (h : r.Follows s) : r.Follows (s.startHunt n) := .setAlign (.ite h.updStf.stfCount h.updStf)

theorem State.Follows.judge (h : r.Follows s) : r.Follows (s.judge n) := by
  unfold State.judge
  dsimp only
  split
  · exact h.huntAlign
  · exact .ite h.huntAlign h.updStf.setAlign
  · exact h.stfCount.raiseOf.startHunt

theorem State.Follows.sighting {pos fn : Nat} (h : r.Follows s) : r.Follows (s.sighting n pos fn) := by
  unfold State.sighting
  refine .ite h.updStf.huntAlign ?_
  split
  · exact h.updStf.huntAlign
  · exact h.stfCount.raiseOnce

theorem State.Follows.huntIdentity {pos fn : Nat} (h : r.Follows s) : r.Follows (s.huntIdentity n pos fn) := .ite h.updStf.judge h.sighting

theorem State.Follows.realign {pos fn : Nat} (h : r.Follows s) : r.Follows (s.realign n pos fn) := h.updStf.stfCount.raiseOf

theorem State.Follows.syncIdentity {pos : Nat} {expected : Bool} (h : r.Follows s) : r.Follows (s.syncIdentity n pos expected w) :=
  .ite h.updStf (.ite (.ite h.realign h.updStf) h)

theorem State.Follows.fawErrored (h : r.Follows s) : r.Follows (s.fawErrored n) := by
  unfold State.fawErrored
  dsimp only
  split
  · exact h.stfCount.realign.updStf
  · exact .ite h.stfCount.startHunt h.stfCount.updStf

theorem State.Follows.alignBlock (h : r.Follows s) : r.Follows (s.alignBlock n w) := by
  unfold State.alignBlock
  extract_lets _ _ _ s₁
  have h₁ : r.Follows s₁ := .ite h.updStf (.ite h.updStf.syncIdentity h.updStf.huntIdentity)
  exact .ite h₁.updStf (.ite h₁ (.ite h₁.fawErrored h₁.updStf.judge))

theorem State.Follows.pointer {t : Nat} (h : r.Follows s) : r.Follows (s.pointer n t w) := by
  unfold State.pointer
  dsimp only
  split
  · exact h.setFld.setFld.updTu.bump
  · exact h.setFld.setFld.updTu.bump
  · exact h.setFld.setFld.updTu.bump
  · exact h.setFld.setFld.updTu

theorem State.Follows.sectionTrace {ws : List Word64} (h : r.Follows s) : r.Follows (s.sectionTrace n ws) :=
  .ite h.updStf (.ite h.updStf.setFld.setFld h.updStf)

theorem State.Follows.laneId (h : r.Follows s) : r.Follows (s.laneId n id) := .ite h.updStf.setFld h.updStf

theorem State.Follows.stfOverhead {identity st parity : Nat} {phase : Int} (h : r.Follows s) :
    r.Follows (s.stfOverhead n identity st parity phase) := by
  unfold State.stfOverhead
  extract_lets _ s₁ _ _ _ _ s₂
  have h₁ : r.Follows s₁ := h.stfCount.setFld.setFld.setFld.laneId
  have h₂ : r.Follows s₂ := .setFld (.ite h₁.updStf (.ite h₁.setFld.updStf h₁.setFld.updStf.stfCount.stfCount))
  exact .updStf (.ite h₂ h₂.stfCount.stfCount)

theorem State.Follows.stfInner {st : Nat} {trace : List Word64} (h : r.Follows s) : r.Follows (s.stfInner n st trace) := by
  unfold State.stfInner
  dsimp only
  split
  · exact .ite h.sectionTrace.evalLane.thinReceive h.sectionTrace.evalLane
  · exact h.sectionTrace.evalLane

theorem State.Follows.stfFrame (h : r.Follows s) : r.Follows (s.stfFrame n) := .ite h h.updStf.stfOverhead.stfInner

theorem State.Follows.groupMember {t time : Nat} (h : r.Follows s) : r.Follows (s.groupMember p t time) :=
  .ite h.updTu.updChannel.setFlag.refreshChannel (.ite h.updTu.updChannel (.ite h.updTu.updChannel.setFlag.refreshChannel h.updTu.updChannel))

theorem State.Follows.channelBytes {bs : List Byte} (h : r.Follows s) : r.Follows (s.channelBytes p bs) := .ite h h.updChannel

theorem State.Follows.channelDrain : ∀ {k : Nat} {s : State}, r.Follows s → r.Follows (State.channelDrain p k s)
  | 0, _, h => h
  | _ + 1, _, h =>
    have member {s : State} {l : List Nat} {f : Nat → Tu → Tu} (h : r.Follows s) : r.Follows (l.foldl (fun s k => s.updTu k (f k)) s) :=
      h.foldl fun _ _ h => h.updTu
    .ite h (.channelDrain (.ite (member h).channelBytes (member h)))

theorem State.Follows.memberWord {w : Word64} (h : r.Follows s) : r.Follows (s.memberWord p k w) := h.updTu.channelDrain

theorem State.Follows.containerWord {t : Nat} {w : Word64} (h : r.Follows s) : r.Follows (s.containerWord n t w) := by
  unfold State.containerWord
  dsimp only
  split
  · exact h.updTu
  · exact .ite h.updTu.groupMember h.updTu.memberWord

theorem State.Follows.slotWord {t : Nat} {w : Word64} (h : r.Follows s) : r.Follows (s.slotWord n t i w) := by
  unfold State.slotWord
  extract_lets _ s₁
  have h₁ : r.Follows s₁ := .ite h.updTu h
  exact .ite h₁ h₁.containerWord

theorem State.Follows.stuffWord {t : Nat} {w : Word64} (h : r.Follows s) : r.Follows (s.stuffWord n t w) := .ite h.containerWord h

theorem State.Follows.container {t : Nat} (h : r.Follows s) : r.Follows (s.container n t) := by
  unfold State.container
  extract_lets
  split
  · exact h
  · extract_lets _ s₀ _ _ s₁ s₂ _ s₃ s₄ s₅
    have h₀ : r.Follows s₀ := h.updTu
    have h₁ : r.Follows s₁ := .ite h₀.updTu h₀.setFld.bump.updTu
    have h₃ : r.Follows s₃ := h₁.setFld.bump.updTu
    have h₅ : r.Follows s₅ := by
      refine .evalTu ?_
      unfold s₄
      split
      · exact h₃.setFld
      · exact h₃
    clear_value s₅
    split
    · exact h₅.refreshChannel
    · exact h₅

theorem State.Follows.mgmtBytes {bs : List Byte} (h : r.Follows s) : r.Follows (s.mgmtBytes n bs) := .ite h.updStf h.updStf

theorem State.Follows.frameWord {w : Word64} (h : r.Follows s) : r.Follows (s.frameWord n i x w) := by
  unfold State.frameWord
  refine .ite h.slotWord (.ite (.ite h.updStf h) (.ite (.ite ?_ h) (.ite (.ite h.stuffWord h) h.mgmtBytes)))
  extract_lets s₁
  have h₁ : r.Follows s₁ := h.foldl fun _ _ h => h.pointer
  exact .ite h₁.evalTus h₁

theorem State.Follows.frameBlock {pos : Nat} (h : r.Follows s) : r.Follows (s.frameBlock n pos w) := by
  unfold State.frameBlock
  extract_lets _ _ _ _ _ _ _ s₁
  have h₁ : r.Follows s₁ := h.updStf
  exact .ite h₁ (.ite h₁.updStf (.ite h₁.updStf h₁.updStf.frameWord))

theorem State.Follows.loseBlocks (h : r.Follows s) : r.Follows (s.loseBlocks n) := h.setLock.updLane.startHunt.evalLane

theorem State.Follows.gainBlocks (h : r.Follows s) : r.Follows (s.gainBlocks n) := h.setLock.updLane.updStf.evalLane

theorem State.Follows.stfBlock {header : Nat} (h : r.Follows s) : r.Follows (s.stfBlock n header w) := by
  have h₁ : r.Follows (s.signalSeen n) := h.signalSeen
  exact .ite h (.ite (.ite h₁.updLane (.ite h₁.gainBlocks h₁.updLane)) (.ite h₁.loseBlocks h₁.updLane.alignBlock.frameBlock))

theorem State.Follows.leafPut (h : r.Follows s) : r.Follows (s.leafPut unit k w) := by unfold State.leafPut; exact .ite h.beside h.setReg

theorem State.Follows.leafStage {set : Nat} (h : r.Follows s) : r.Follows (s.leafStage set unit k w) := by
  unfold State.leafStage; exact .leafPut (.ite h h.beside)

theorem State.Follows.leafRestore {set : Nat} (h : r.Follows s) : r.Follows (s.leafRestore set) := by
  unfold State.leafRestore
  extract_lets _ s₁
  have h₁ : r.Follows s₁ := h.foldl fun _ _ h => h.leafPut
  exact h₁.beside

theorem State.Follows.leafRelease {set : Nat} (h : r.Follows s) : r.Follows (s.leafRelease set) := by
  unfold State.leafRelease; exact h.beside

theorem State.Follows.leafCopied (h : r.Follows s) : r.Follows (s.leafCopied q) := by
  unfold State.leafCopied
  refine .ite h ?_
  extract_lets _ _ _ s₁
  have h₁ : r.Follows s₁ := ((h.foldl fun _ _ h => h.setReg).foldl fun _ _ h => h.setReg).setFlag
  exact h₁.beside.foldl fun _ _ h => h.leafPut

theorem State.Follows.leafSwap (h : r.Follows s) : r.Follows s.leafSwap :=
  ((h.foldl fun _ _ h => h.leafCopied).foldl fun _ _ h => h.setFld.setFlag).raiseAt

theorem State.Follows.quadrantEnd (h : r.Follows s) : r.Follows (s.quadrantEnd q) := by
  unfold State.quadrantEnd
  split
  · exact h.lifeEnd.raise
  · exact h.lifeEnd.raise
  · exact h

theorem State.Follows.genPointer {anew : Bool} {store : Store} (h : r.Follows s) : r.Follows (s.genPointer k anew store).2.2 := by
  unfold State.genPointer
  dsimp only
  split
  · exact h.setFld.setFld.updTu
  · split
    · exact h.setFld.setFld.bump.updTu
    · exact h.setFld.setFld.bump.updTu
    · exact h.setFld.setFld.updTu

theorem State.Follows.fixedPointer (h : r.Follows s) : r.Follows (s.fixedPointer k).2 := h.setFld.updTu

theorem State.Follows.storePointer {t : Nat} {again : Bool} (h : r.Follows s) : r.Follows (s.storePointer t k code again).2 :=
  h.genPointer.updTu

theorem State.Follows.txPointer {t : Nat} {f : TxFrame} (h : r.Follows s) : r.Follows (s.txPointer n t f).2 := by
  unfold State.txPointer
  extract_lets _ src _ _ s₁ ais
  have h₁ : r.Follows s₁ := h.setFld.setFlag.updTu
  have dark {s : State} (h : r.Follows s) : r.Follows (ais s).2 := h.updTu
  clear_value s₁ src
  split
  · split
    · exact dark h₁
    · exact .ite_snd (dark h₁.updTu) h₁.updTu.setFld.updTu
  · exact .ite_snd (dark h₁.updTu) h₁.storePointer
  · exact .ite_snd h₁.storePointer h₁.fixedPointer.updTu

theorem State.Follows.txOverhead {t : Nat} (h : r.Follows s) : r.Follows (s.txOverhead n t).2 := h.updTu

theorem State.Follows.originate {t place : Nat} (h : r.Follows s) : r.Follows (s.originate n t place).2 := by
  unfold State.originate
  refine .ite_snd h.txOverhead (.updTu ?_)
  split
  · exact h
  · exact h.updChannel

theorem State.Follows.generate : ∀ {k : Nat} {s : State}, r.Follows s → r.Follows (State.generate n k s)
  | 0, _, h => h
  | _ + 1, _, h => by
    unfold State.generate
    exact .generate (.updStf (h.foldl fun _ _ h => .ite h.originate.updTu h))

theorem State.Follows.slip {t : Nat} (h : r.Follows s) : r.Follows (s.slip n t code) := h.bump.raiseOnce.setFld.updTu

theorem State.Follows.readStore {t : Nat} (h : r.Follows s) : r.Follows (s.readStore n t code).2 := .updTu (.setFld (.ite h.slip h))

theorem State.Follows.switchedWord {t : Nat} (h : r.Follows s) : r.Follows (s.switchedWord n t code).2 :=
  .ite_snd h.updTu.updTu h.updTu.readStore

theorem State.Follows.dataWord {t : Nat} (h : r.Follows s) : r.Follows (s.dataWord n t).2 :=
  .ite_snd h.readStore (.ite_snd h.switchedWord (.ite_snd h h.originate.updTu))

theorem State.Follows.slotOut {t partner : Nat} (h : r.Follows s) : r.Follows (s.slotOut n t i partner).2 := by
  unfold State.slotOut
  extract_lets _ s₁
  have h₁ : r.Follows s₁ := .ite h.updTu h
  exact .ite_snd h₁ (.ite_snd h₁ (.ite_snd h₁ h₁.dataWord))

theorem State.Follows.stuffOut {t partner : Nat} (h : r.Follows s) : r.Follows (s.stuffOut n t partner).2 :=
  .ite_snd h (.ite_snd h (.ite_snd h.dataWord h))

theorem State.Follows.mgmtOut (h : r.Follows s) : r.Follows (s.mgmtOut n).2 := by
  unfold State.mgmtOut
  extract_lets _ s₁
  have h₁ : r.Follows s₁ := h.updStf
  split
  · exact h₁
  · exact h₁.stfCount

theorem State.Follows.pointersOut {x : Nat} {f : TxFrame} (h : r.Follows s) : r.Follows (s.pointersOut n x f).2 :=
  .foldl_snd h fun _ _ h => .ite_snd (.ite h.txPointer.updTu h.txPointer) h.txPointer

theorem State.Follows.wordOut {f : TxFrame} (h : r.Follows s) : r.Follows (s.wordOut n f q).2 :=
  .ite_snd h.slotOut (.ite_snd h (.ite_snd (.ite_snd h.pointersOut h) (.ite_snd (.ite_snd h.stuffOut h) (.ite_snd h h.mgmtOut))))

theorem State.Follows.putWord {f : TxFrame} {reg : Nat} (h : r.Follows s) : r.Follows (s.putWord n f w reg) := by
  unfold State.putWord
  refine .ite h.updStf ?_
  split
  · exact h.updStf.emit
  · exact h.updStf
  · exact h.updStf.updLane.emit.updStf

theorem State.Follows.sendWord (h : r.Follows s) : r.Follows (s.sendWord n) := by
  unfold State.sendWord
  split
  · exact h
  · extract_lets s₁
    have h₁ : r.Follows s₁.2 := .ite_snd h.wordOut h
    exact .ite h₁.putWord h₁.putWord

theorem State.Follows.sendWords : ∀ {k : Nat} {s : State}, r.Follows s → r.Follows (State.sendWords n k s)
  | 0, _, h => h
  | _ + 1, _, h => h.sendWord.sendWords

theorem State.Follows.sendTo (h : r.Follows s) : r.Follows (s.sendTo n count) := by
  unfold State.sendTo
  split
  · exact h
  · exact h.sendWords

theorem State.Follows.sendDue (h : r.Follows s) : r.Follows s.sendDue := by
  unfold State.sendDue
  refine .foldl h fun _ _ h => ?_
  split
  · exact h
  · exact .ite h h.generate.sendTo

theorem State.Follows.epochPhase (h : r.Follows s) : r.Follows (s.epochPhase n).2 := h.updStf

theorem State.Follows.slavedPhase {isB : Bool} (h : r.Follows s) : r.Follows (s.slavedPhase n i m isB).2 :=
  .updStf (.ite h h.setFlag.raiseAt)

theorem State.Follows.endFrame {jump : Bool} (h : r.Follows s) : r.Follows (s.endFrame n jump) := by
  unfold State.endFrame
  split
  · exact h
  · exact h.sendTo.updStf

theorem State.Follows.beginFrame {x : FrameStart} {express : Option Nat} (h : r.Follows s) : r.Follows (s.beginFrame n x express) := by
  unfold State.beginFrame
  extract_lets _ _ s₁ s₂
  have h₁ : r.Follows s₁ := by
    unfold s₁
    split
    · exact .ite h.updPort h
    · exact h
  have h₂ : r.Follows s₂ := by
    unfold s₂
    split
    · exact h₁
    · exact h₁.foldl fun _ _ h => h.updTu
  exact h₂.updStf

theorem State.Follows.startFrame (h : r.Follows s) : r.Follows (s.startFrame n) := by
  unfold State.startFrame
  dsimp only
  split
  · exact h
  · split
    · exact h.slavedPhase.endFrame.beginFrame
    · exact h.epochPhase.endFrame.beginFrame

theorem State.Follows.stfEdge {irregular : Bool} (h : r.Follows s) : r.Follows (State.stfEdge irregular s n) :=
  .ite h (.updStf (.ite h.stfCount h))

theorem State.Follows.followers (h : r.Follows s) : r.Follows (s.followers m) := by
  unfold State.followers
  refine .foldl h fun _ _ h => ?_
  split
  · exact h
  · exact .ite h.sendTo h

theorem State.Follows.blockIn {header : Nat} (h : r.Follows s) : r.Follows (s.blockIn n header w).2 := by
  unfold State.blockIn
  split
  · split
    · exact h
    · exact h.updStf
  · split
    · exact h
    · exact h.updStf
  · exact h

theorem State.Follows.receiveBlock {header : Nat} (h : r.Follows s) : r.Follows (s.receiveBlock n header w) := by
  unfold State.receiveBlock
  extract_lets _ s₁
  have h₁ : r.Follows s₁.2 := .blockIn (.ite h.emit h)
  split
  · exact h₁
  · exact h₁.stfBlock.followers

theorem State.Follows.stfForget (h : r.Follows s) : r.Follows (s.stfForget n) := by
  unfold State.stfForget
  exact (h.withRegs (SMap.canon_sublist resetAt List.filter_sublist)).beside

/-- The definition is replaced as a function: at its equation the kernel would run the lane that goes dark. -/
theorem State.Follows.laneOut (h : r.Follows s) : r.Follows (s.laneOut n) := by
  generalize e : State.laneOut = f
  delta State.laneOut at e
  subst e
  beta_reduce
  extract_lets s₀ s₁
  have h₀ : r.Follows s₀ := .ite (h.loseBlocks.acquire.foldl fun _ _ h => h.refreshChannel) h
  have h₁ : r.Follows s₁ := h₀.laneDark
  clear_value s₀ s₁
  split
  · exact h₁.relink
  · exact h₁

theorem State.Follows.laneJoin {cls : Nat} (h : r.Follows s) : r.Follows (s.laneJoin p cls n) := by
  unfold State.laneJoin
  extract_lets s₁
  have h₁ : r.Follows s₁ := .ite h.setFlag.askLane h
  exact .askLane (.updLane (.setFld (.ite h₁.stfForget h₁)))

theorem State.Follows.laneLeave (h : r.Follows s) : r.Follows (s.laneLeave n) :=
  .refreshPairs (.ite (h.setFld.updLane.stfForget.foldl fun _ _ h => h.refreshChannel) h.setFld.updLane)

theorem State.Follows.recalLane (h : r.Follows s) : r.Follows (s.recalLane n) := by
  unfold State.recalLane
  refine .ite h ?_
  extract_lets _ _ s₁
  have h₁ : r.Follows s₁ := .setFlag (.ite h.updLane.loseBlocks h.updLane.setAmLock)
  split
  · exact h₁.relink
  · exact h₁

theorem State.Follows.portFresh (h : r.Follows s) : r.Follows (s.portFresh p) := by
  unfold State.portFresh
  extract_lets _ _ _ s₁
  have h₁ : r.Follows s₁ := (h.foldl fun _ _ h => h.setFld).resetReg.setFld.setFlag.setFlag
  exact .foldl (.updPort (.ite h₁.setFld.setFld h₁)) fun _ _ h => h.askQueue

theorem State.Follows.portStop (h : r.Follows s) : r.Follows (s.portStop p) := by
  unfold State.portStop
  extract_lets _ s₁
  have h₁ : r.Follows s₁ := h.updPort.foldl fun _ _ h => h.askQueue
  exact .settlePort (.ite h₁ (h₁.foldl fun _ _ h => h.refreshPairs))

theorem State.Follows.portBegin (h : r.Follows s) : r.Follows (s.portBegin p) :=
  (h.portFresh.foldl fun _ _ h => h.laneJoin).setFld.showPartner

theorem State.Follows.chanBegin (h : r.Follows s) : r.Follows (s.chanBegin p) := by
  unfold State.chanBegin
  extract_lets _ _ s₁
  have h₁ : r.Follows s₁ := h.portFresh.updChannel.setReg
  exact .ite h₁.labelChannel.refreshChannel h₁.raiseOf.setFld.portStop

theorem State.Follows.portFollow {was : Life} (h : r.Follows s) : r.Follows (s.portFollow p was) := by
  unfold State.portFollow
  split
  · exact .ite h.chanBegin h.portBegin
  · exact h.portStop
  · exact h.portStop
  · exact h

theorem State.Follows.askPort (h : r.Follows s) : r.Follows (s.askPort p enable) := h.lifeAsk.portFollow

theorem State.Follows.forcePort (h : r.Follows s) : r.Follows (s.forcePort p) := h.lifeForce.portFollow

theorem State.Follows.portArrive (h : r.Follows s) : r.Follows (s.portArrive p) := by
  unfold State.portArrive
  extract_lets _ s₁ s₂
  have h₁ : r.Follows s₁ := .ite h.setFld.raiseOf.refreshChannel (h.setFld.raiseOf.relink.foldl fun _ _ h => h.refreshPairs)
  have h₂ : r.Follows s₂ := h₁.setFld
  split
  · exact h₁
  · exact h₂.beside.askPort

theorem State.Follows.portLeave (h : r.Follows s) : r.Follows (s.portLeave p) := by
  unfold State.portLeave
  extract_lets _ s₁ _ _ s₂ s₃
  have h₁ : r.Follows s₁ := h.setFld
  have h₂ : r.Follows s₂ := h₁.beside.setLinkUp.raiseOf.updPort
  have h₃ : r.Follows s₃ := .ite h₂ (h₂.foldl fun _ _ h => h.laneLeave)
  exact .ite h₃.askPort h₃

theorem State.Follows.applyPortUp {lane lanes speed fec mode : Nat} (h : r.Follows s) :
    r.Follows (s.applyPortUp p lane lanes speed fec mode) :=
  .askPort (.ite h h.setFld.setFld.setFld.setFld.setFld.updPort)

theorem State.Follows.applyPortDown (h : r.Follows s) : r.Follows (s.applyPortDown p) := h.askPort

theorem State.Follows.unbindChannel (h : r.Follows s) : r.Follows (s.unbindChannel p) := h.setFld.setFld.setFld.setFld.updChannel

theorem State.Follows.applyChanBind {lane : Nat} {unbind : Bool} {lo hi : Word64} (h : r.Follows s) :
    r.Follows (s.applyChanBind p lane unbind lo hi) := by
  unfold State.applyChanBind
  refine .ite (.ite h.unbindChannel h.updChannel.askPort) (.askPort (.ite h.updChannel (.updPort ?_)))
  exact h.updChannel.setFld.setFld.setFld.setFld.setFld.setFld.setFld.setFld.setFld

theorem State.Follows.laneStarted {ok : Bool} (h : r.Follows s) : r.Follows (s.laneStarted n ok) := by
  unfold State.laneStarted
  refine .ite h (.ite h.laneUp.lifeEnd.raiseOf.evalLane ?_)
  dsimp only
  split
  · exact h.setFld.raiseOf
  · exact .ite h.setFld.raiseOf h.setFld.raiseOf.raiseOf.setFld.portStop

theorem State.Follows.laneStopped (h : r.Follows s) : r.Follows (s.laneStopped n) := .ite h h.laneOut.lifeEnd.raiseOf

theorem State.Follows.portStarted (h : r.Follows s) : r.Follows (s.portStarted p) := .ite h h.portArrive

theorem State.Follows.drainExpired (h : r.Follows s) : r.Follows (s.drainExpired p) := .ite h.flushPort.settlePort h

theorem State.Follows.portStopped (h : r.Follows s) : r.Follows (s.portStopped p) := .ite h h.portLeave

theorem State.Follows.chanStarted (h : r.Follows s) : r.Follows (s.chanStarted p) := .ite h h.portArrive

theorem State.Follows.chanStopped (h : r.Follows s) : r.Follows (s.chanStopped p) := .ite h (.portLeave (.ite h.unbindChannel h))

theorem State.Follows.linkFaults {loc rem : Bool} (h : r.Follows s) : r.Follows (s.linkFaults p loc rem) :=
  .ite h h.setFlag.setFlag.relink.settlePort

theorem State.Follows.wantLane (h : r.Follows s) : r.Follows (s.wantLane n) := by
  unfold State.wantLane
  split
  · exact .ite h.startWiden h
  · exact h

theorem State.Follows.widenUsed (h : r.Follows s) : r.Follows (s.widenUsed p) := .ite h.startWiden h

theorem State.Follows.stfSwitched {new : Nat} (h : r.Follows s) : r.Follows (s.stfSwitched p old new) :=
  (h.foldl fun _ _ h => h.setFlag.startHunt.evalLane.evalTus).foldl fun _ _ h => h.setFlag.updStf.evalLane

theorem State.Follows.parkFrames (h : r.Follows s) : r.Follows (s.parkFrames p) := by
  unfold State.parkFrames
  split
  · exact h
  · exact .ite h (h.foldl fun _ _ h => h.sendTo.updStf)

theorem State.Follows.thinSwitch {received : Bool} (h : r.Follows s) : r.Follows (s.thinSwitch p received) :=
  .ite h (.ite (.ite h (.ite h.peerSwitch.stfSwitched h.peerSwitch)) h.parkFrames.ownSwitch.widenUsed)

theorem State.Follows.thinningEdge (h : r.Follows s) : r.Follows (s.thinningEdge p) := h.thinEdge.widenUsed

end Sys2Proof.Machine
end

section
/-! PROOFS. Parsing, tables and frames on their way in and out (chapters 05 and 08 to 12):
each operation leads to a state that follows. -/

namespace Sys2Proof.Machine

-- One lemma after another: hundreds at once would each hold a thread with its stack.
set_option Elab.async false

variable {r s t : State} {n p pl q k v w b i m a c x off value mask len unit id port ring code old count : Nat} {bytes : List Byte} {f : Fld}
  {enable : Bool} {info : FrameInfo}

theorem State.Follows.copyBank (h : r.Follows s) : r.Follows (s.copyBank pl) := by unfold State.copyBank; exact h.beside

theorem State.Follows.writeNodes (h : r.Follows s) : ∀ {i : Nat} {ws : List Word64}, r.Follows (State.writeNodes pl i ws s) := by
  intro i ws
  fun_induction State.writeNodes pl i ws s with
  | case1 _ _ _ _ _ _ _ _ ih => exact ih h.beside
  | case2 => exact h

theorem State.Follows.swapBank (h : r.Follows s) : r.Follows (s.swapBank pl v) := h.setFld.setFld.setFld

theorem State.Follows.pipeCount (h : r.Follows s) : r.Follows (s.pipeCount pl i k) := h.bump

theorem State.Follows.slowPath {cause : Nat} {f : HostFrame} (h : r.Follows s) : r.Follows (s.slowPath pl cause f) := by
  unfold State.slowPath; exact .ite h.beside.pipeCount h.beside.pipeCount.raiseOnce

theorem State.Follows.slowReset {cause : Nat} (h : r.Follows s) : r.Follows (s.slowReset pl cause) := by
  unfold State.slowReset; exact h.beside

theorem State.Follows.retireBank {o : Nat} (h : r.Follows s) : r.Follows (State.retireBank o s pl) := .ite h.setFld h

theorem State.Follows.askEngine (h : r.Follows s) : r.Follows (s.askEngine pl enable) := by
  unfold State.askEngine
  extract_lets s₁
  have h₁ : r.Follows s₁ := h.lifeAsk
  exact .ite h₁.beside h₁

theorem State.Follows.engineEnd (h : r.Follows s) : r.Follows (s.engineEnd pl) := by
  unfold State.engineEnd
  split
  · exact h.lifeEnd.raiseOf
  · refine .ite ?_ h
    extract_lets s₁
    have h₁ : r.Follows s₁ := h.lifeEnd.raiseOf
    exact .ite h₁.beside h₁
  · exact h

theorem State.Follows.tblCount (h : r.Follows s) : r.Follows (s.tblCount pl i k) := h.bump

theorem State.Follows.putEntry {e : TblEntry} (h : r.Follows s) : r.Follows (s.putEntry k e) := by unfold State.putEntry; exact h.beside

theorem State.Follows.delEntry (h : r.Follows s) : r.Follows (s.delEntry k) := by unfold State.delEntry; exact h.beside

theorem State.Follows.updEntry {f : TblEntry → TblEntry} (h : r.Follows s) : r.Follows (s.updEntry k f) := by
  unfold State.updEntry
  split
  · exact h
  · exact h.putEntry

theorem State.Follows.insertAt {key : List Word64} {e : TblEntry} (h : r.Follows s) : r.Follows (State.insertAt key e s pl) := by
  unfold State.insertAt
  split
  · exact h
  · exact h.putEntry

theorem State.Follows.insertDirect {key : List Word64} {r0 r1 : Nat} (h : r.Follows s) (e : s.insertDirect m key r0 r1 = .ok t) :
    r.Follows t := by
  unfold State.insertDirect at e
  split at e
  · cases e
  · cases e
    exact h.foldl fun _ _ h => h.insertAt

theorem State.Follows.insertStaged {key : List Word64} {r0 r1 : Nat} (h : r.Follows s) (e : s.insertStaged id m key r0 r1 = .ok t) :
    r.Follows t := by
  unfold State.insertStaged at e
  split at e
  · cases e
  · cases e
    exact h.foldl fun _ _ h => h.insertAt

theorem State.Follows.deleteDirect {key : List Word64} (h : r.Follows s) (e : s.deleteDirect m key = .ok t) : r.Follows t := by
  unfold State.deleteDirect at e
  split at e
  · cases e
  · cases e
    refine h.foldl fun _ _ h => ?_
    split
    · exact h
    · exact h.delEntry

theorem State.Follows.deleteStaged {key : List Word64} (h : r.Follows s) (e : s.deleteStaged id m key = .ok t) : r.Follows t := by
  unfold State.deleteStaged at e
  split at e
  · cases e
  · cases e
    refine h.foldl fun _ _ h => ?_
    split
    · exact h
    · exact h.updEntry

theorem State.Follows.modifyDirect {key : List Word64} {r0 r1 : Nat} (h : r.Follows s) (e : s.modifyDirect m key r0 r1 = .ok t) :
    r.Follows t := by
  unfold State.modifyDirect at e
  split at e
  · cases e
  · cases e
    refine h.foldl fun _ _ h => ?_
    split
    · exact h
    · exact h.updEntry

theorem State.Follows.modifyStaged {key : List Word64} {r0 r1 : Nat} (h : r.Follows s) (e : s.modifyStaged id m key r0 r1 = .ok t) :
    r.Follows t := by
  unfold State.modifyStaged at e
  dsimp only at e
  split at e
  · cases e
  · cases e
    refine h.foldl fun _ _ h => ?_
    split
    · exact h
    · exact h.updEntry.insertAt

theorem State.Follows.acknowledge {key : Word64} {pls : List Nat} (h : r.Follows s) : r.Follows (s.acknowledge key pls) := by
  unfold State.acknowledge; exact h.beside.setFld

theorem State.Follows.learnedInsert {key : Word64} {pls : List Nat} {r0 : Nat} (h : r.Follows s) (e : s.learnedInsert key pls r0 = .ok t) :
    r.Follows t := by
  unfold State.learnedInsert at e
  split at e
  · cases e
  · cases e
    refine .acknowledge (h.foldl fun _ _ h => ?_)
    split
    · exact h.updEntry
    · exact h.insertAt

theorem State.Follows.learnedDelete {key : Word64} {pls : List Nat} (h : r.Follows s) (e : s.learnedDelete key pls = .ok t) :
    r.Follows t := by
  unfold State.learnedDelete at e
  dsimp only at e
  split at e
  · cases e
  · cases e
    refine .acknowledge (h.foldl fun _ _ h => ?_)
    split
    · exact h
    · exact h.delEntry

theorem State.Follows.lookup {kind : Nat} {key : List Word64} {version : Nat} (h : r.Follows s) :
    r.Follows (s.lookup pl kind key version).2 := by
  unfold State.lookup
  dsimp only
  split
  · exact h.tblCount
  · exact .ite h.tblCount.tblCount.putEntry h.tblCount.tblCount

theorem State.Follows.learnNotice {n : Notice} (h : r.Follows s) : r.Follows (s.learnNotice n) := by
  unfold State.learnNotice; exact .ite h.tblCount.raiseOnce h.beside.setFld

theorem State.Follows.sourceLookup {vid version : Nat} {x : Notice} (h : r.Follows s) : r.Follows (s.sourceLookup pl vid version x) := by
  unfold State.sourceLookup
  extract_lets s₁
  have h₁ : r.Follows s₁ := h.tblCount
  split
  · exact h₁.learnNotice
  · have hit {k : Nat} {e : TblEntry} : r.Follows (s₁.putEntry k e) := h₁.putEntry
    exact .ite (.tblCount (.ite hit h₁)) (.ite (.ite hit.tblCount hit.learnNotice) (.ite hit h₁))

theorem State.Follows.countMove {n : Notice} (h : r.Follows s) : r.Follows (s.countMove n).2 := by
  unfold State.countMove
  dsimp only
  split
  · exact h
  · refine .foldl h fun _ _ h => ?_
    split
    · exact h
    · exact .ite h h.updEntry

theorem State.Follows.deliver {kind : Nat} {n : Notice} {oldPort : Nat} {race win auto : Bool} (h : r.Follows s) :
    r.Follows (s.deliver kind n oldPort race win auto) :=
  h.tblCount.raiseAt

theorem State.Follows.acceptNotice {n : Notice} {move : Bool} {oldPort : Nat} {race : Bool} (h : r.Follows s) :
    r.Follows (s.acceptNotice n move oldPort race) := by
  unfold State.acceptNotice
  extract_lets _ _ s₁ s₂ _ _ s₃
  have h₁ : r.Follows s₁.2 := .ite_snd h.beside.countMove h.beside
  have h₂ : r.Follows s₂ := .ite h₁.tblCount h₁
  have h₃ : r.Follows s₃ := h₂.noteChange
  refine .ite h₃.beside.setFld.deliver.raiseOf (.ite ?_ h₂.beside.setFld.deliver)
  split
  · next e => exact (h₂.learnedInsert e).noteChange.deliver
  · exact h₂.beside.setFld.deliver

theorem State.Follows.handleNotice_handle {n : Notice} {held : Option Nat} (h : r.Follows s) :
    r.Follows (State.handleNotice.handle n s held) := by
  unfold State.handleNotice.handle
  dsimp only
  split
  · exact .ite (.ite h.acceptNotice h.tblCount.deliver) h.acceptNotice
  · exact h.acceptNotice

theorem State.Follows.handleNotice {n : Notice} (h : r.Follows s) : r.Follows (s.handleNotice n) := by
  unfold State.handleNotice
  split
  · exact .ite h.tblCount h.handleNotice_handle
  · exact .ite h.tblCount.raiseOnce h.handleNotice_handle

theorem State.Follows.takeNotice (h : r.Follows s) : r.Follows (s.takeNotice pl) := by
  unfold State.takeNotice
  split
  · exact h
  · exact .ite h.beside.setFld h.beside.setFld.handleNotice

theorem State.Follows.ackTimeout {key : Word64} (h : r.Follows s) : r.Follows (s.ackTimeout pl key) := by
  unfold State.ackTimeout
  split
  · exact h
  · exact h.beside.setFld.tblCount

theorem State.Follows.sweepEdge (h : r.Follows s) : r.Follows s.sweepEdge := by unfold State.sweepEdge; exact .ite h h.beside

theorem State.Follows.ageOut {shared : Bool} {e : TblEntry} {held : List (Nat × TblEntry)} {first : Nat} (h : r.Follows s) :
    r.Follows (s.ageOut shared e held first) :=
  (h.foldl fun _ _ h => h.delEntry).noteChange.tblCount.raiseAt

theorem State.Follows.ageVisit {place : Nat} {late : Option Bool} (h : r.Follows s) : r.Follows (s.ageVisit pl place late) := by
  unfold State.ageVisit
  split
  · refine .ite h ?_
    extract_lets _ s₁ _ _ all
    have h₁ : r.Follows s₁ := h.beside
    have aged {idle v : Nat} : r.Follows (all idle v) := h₁.foldl fun _ _ h => h.updEntry
    exact .ite aged.updEntry (.ite aged (.ite aged (.ite aged.updEntry.tblCount h₁.ageOut)))
  · exact h

theorem State.Follows.tblError {place : Nat} {fatal : Bool} (h : r.Follows s) : r.Follows (s.tblError pl place fatal) :=
  .ite h.tblCount h.delEntry.tblCount.setReg.raiseOf

theorem State.Follows.readErrors {errors : List (Fin 8 × Nat × Bool)} (h : r.Follows s) : r.Follows (s.readErrors errors) :=
  h.foldl fun _ _ h => h.tblError

theorem State.Follows.mismatch {kind : Nat} {place : Option Nat} {record : Nat} (h : r.Follows s) :
    r.Follows (s.mismatch kind pl place ring record) := by
  unfold State.mismatch
  split
  · exact h
  · exact .ite h.beside.setFld h.beside.setFld.raiseAt

theorem State.Follows.shadowPipe {ws : List Word64} {record : Nat} (h : r.Follows s) :
    r.Follows (State.shadowPipe ws ring record s pl) := by
  unfold State.shadowPipe
  dsimp only
  split
  · exact .ite h.mismatch h
  · exact .ite h.putEntry.mismatch (.ite h.putEntry h.putEntry.mismatch)

theorem State.Follows.shadowRecords : ∀ {k i : Nat} {ws : List Word64} {s : State}, r.Follows s →
    r.Follows (State.shadowRecords ring k i ws s)
  | 0, _, _, _, h => h
  | _ + 1, _, _, _, h => by
    unfold State.shadowRecords
    exact .shadowRecords (.ite (h.foldl fun _ _ h => h.shadowPipe) h)

theorem State.Follows.shadowFail (h : r.Follows s) : r.Follows s.shadowFail := by unfold State.shadowFail; exact h.beside.setFlag.raise

theorem State.Follows.shadowNext (h : r.Follows s) : r.Follows s.shadowNext := h.bump

theorem State.Follows.shadowSegment {addr flags rsv : Nat} {words : Option (List Word64)} (h : r.Follows s) :
    r.Follows (s.shadowSegment addr count flags rsv words) := by
  unfold State.shadowSegment
  refine .ite h ?_
  extract_lets _ _ s₀
  have h₀ : r.Follows s₀ := .ite (.setFld (.setFlag h.beside)) h
  refine .ite h.shadowNext (.ite h.shadowFail.shadowNext ?_)
  split
  · exact h.shadowFail.shadowNext
  · extract_lets s₁
    have h₁ : r.Follows s₁ := h₀.shadowRecords.shadowNext
    exact h₁.beside

theorem State.Follows.shadowScan (h : r.Follows s) : r.Follows s.shadowScan := by
  unfold State.shadowScan
  refine .ite h ?_
  extract_lets _ s₁
  have h₁ : r.Follows s₁ := h.foldl fun _ _ h => h.mismatch
  exact h₁.beside.setFlag.raise

theorem State.Follows.tryCopy {w : Want} (h : r.Follows s) : r.Follows (s.tryCopy w n).2 := by
  unfold State.tryCopy
  split
  · exact h.portCount
  · dsimp only
    split
    · next e => exact h.refuseCopy e
    · split
      · exact .ite h.cellCount.cellCount h.cellCount
      · exact .ite h.cellCount.queueDrop.cellCount h.cellCount.queueDrop

theorem State.Follows.tryCopies : ∀ {ws : List Want} {s : State}, r.Follows s → r.Follows (State.tryCopies n ws s).2
  | [], _, h => h
  | _ :: _, _, h => h.tryCopy.tryCopies

theorem State.Follows.unwrite {h' : Nat} {cells : List Nat} (h : r.Follows s) : r.Follows (s.unwrite h' cells) :=
  h.foldl fun _ _ h => h.foldl fun _ _ h => h.releaseCell

theorem State.Follows.noCell {h' : Nat} {cells : List Nat} (h : r.Follows s) : r.Follows (s.noCell h' cells) := h.unwrite.cellCount

theorem State.Follows.enqueueAll {cs : List (Nat × Copy)} (h : r.Follows s) : r.Follows (State.enqueueAll cs s) :=
  h.foldl fun _ _ h => h.enqueue.thinWake

theorem State.Follows.writeFrame {quadrant : Nat} {frame : Option Nat} {copies : List (Nat × Copy)} (h : r.Follows s) :
    r.Follows (s.writeFrame quadrant bytes frame copies).2 :=
  .ite_snd h (.ite_snd h.writeCells.noCell (h.writeCells.foldl fun _ _ h => h.charge).enqueueAll)

theorem State.Follows.mirrorRequest {session dir : Nat} (h : r.Follows s) : r.Follows (s.mirrorRequest session dir).2 := by
  unfold State.mirrorRequest; exact .ite_snd h.cellCount h.beside

theorem State.Follows.destination {a : List Word64} (h : r.Follows s) : r.Follows (s.destination pl bytes info a).2 := by
  unfold State.destination
  extract_lets _ _ _ _ _ _ _ _ _ s₁
  have h₁ : r.Follows s₁ := .ite h.lookup.sourceLookup h.lookup
  refine .ite_snd h ?_
  split
  · exact .ite_snd h₁.pipeCount h₁
  · exact .ite_snd h₁.tblCount h₁

theorem State.Follows.forwardWants {a : List Word64} {dest : Nat} {group : Bool} {qidx : Nat} {meter : Option Nat} (h : r.Follows s) :
    r.Follows (s.forwardWants len info a dest group qidx meter).2 := by
  unfold State.forwardWants
  extract_lets s₁
  have h₁ : r.Follows s₁.2 := by
    unfold s₁
    split
    · exact h
    · exact h.setMeter
  exact .ite_snd h₁ h₁.cellCount

theorem State.Follows.dispose {a : List Word64} (h : r.Follows s) : r.Follows (s.dispose pl bytes info a).2 := by
  unfold State.dispose
  split
  · refine .ite_snd h.slowPath ?_
    split
    · next e => exact h.destination.of_pair e
    · next e => exact (h.destination.of_pair e).forwardWants
  · exact h.pipeCount
  · exact h.slowPath
  · extract_lets _ s₁
    have h₁ : r.Follows s₁ := h.pipeCount
    exact h₁.beside

theorem State.Follows.resolve {early : Option Nat} {a : List Word64} (h : r.Follows s) : r.Follows (s.resolve pl bytes early info a) := by
  unfold State.resolve
  extract_lets _ _ _ _ _ _ s₁
  have h₁ : r.Follows s₁.2 := .tryCopies (.ite_snd h.dispose.mirrorRequest h.dispose)
  split
  · exact h₁.writeFrame
  · extract_lets _ _ s₂
    have h₂ : r.Follows s₂ := h₁.writeFrame
    exact h₂.beside.updPort

theorem State.Follows.overBudget {a : List Word64} {reserved : Bool} (h : r.Follows s) :
    r.Follows (s.overBudget pl bytes info a reserved) := by
  unfold State.overBudget
  extract_lets _ s₁
  have h₁ : r.Follows s₁ := .ite h.raiseOnce.pipeCount.raiseOnce h.raiseOnce
  exact .ite h₁.pipeCount h₁.pipeCount.slowPath

theorem State.Follows.secondPass {index : Nat} {a : List Word64} {groups : Nat} (h : r.Follows s) :
    r.Follows (s.secondPass pl bytes info index a groups) := by
  unfold State.secondPass
  dsimp only
  split
  · exact h.resolve
  · exact h.pipeCount.resolve

theorem State.Follows.inspect {index : Nat} {a : List Word64} (h : r.Follows s) : r.Follows (s.inspect pl bytes info index a) := by
  unfold State.inspect; exact .ite h.secondPass (.ite h.overBudget h.beside)

theorem State.Follows.ingress {f : Stored} (h : r.Follows s) : r.Follows (s.ingress p f) := by
  unfold State.ingress
  dsimp only
  split
  · exact h.pipeCount.pipeCount.raiseOnce
  · exact .ite h.pipeCount.inspect h.pipeCount.resolve

theorem State.Follows.arrive (h : r.Follows s) : r.Follows (s.arrive pl) := h.updPower

theorem State.Follows.ingressEarly {f : Stored} {got : Nat} (h : r.Follows s) : r.Follows (s.ingressEarly p f got) := by
  unfold State.ingressEarly
  dsimp only
  split
  · exact h
  · exact .ite h h.arrive.pipeCount.resolve

theorem State.Follows.putFrame (h : r.Follows s) : r.Follows (s.putFrame p bytes) := by
  unfold State.putFrame
  refine .ite h.updChannel ?_
  extract_lets s₁
  have h₁ : r.Follows s₁ := .ite h.updPort h
  exact .ite h₁ h₁.emit

theorem State.Follows.updCopies {f : Copy → Copy} (h : r.Follows s) : r.Follows (s.updCopies id f) := by
  unfold State.updCopies; exact h.beside

theorem State.Follows.writeMore {a : Arriving} (h : r.Follows s) : r.Follows (s.writeMore p a bytes).2 :=
  (h.writeCells.foldl fun _ _ h => h.charge).updCopies.unwrite.updPort

theorem State.Follows.countSent {t : Sending} {ok : Bool} (h : r.Follows s) : r.Follows (s.countSent p t bytes ok) := by
  unfold State.countSent
  extract_lets _ _ s₁ _ s₂
  have h₁ : r.Follows s₁ := .ite h.portCount.portCount.portCount h.portCount.portCount.portCount
  have h₂ : r.Follows s₂ := .ite (.ite h₁.portCount h₁) h₁.portCount
  exact .updPort (.updQueue (.ite h₂.portCount h₂))

theorem State.Follows.stomp {t : Sending} {more : List Byte} (h : r.Follows s) : r.Follows (s.stomp p t more) :=
  .giveUp (.ite h.countSent.putFrame h.countSent.putFrame.walk)

theorem State.Follows.failCopies {counter : Option Nat} (h : r.Follows s) : r.Follows (s.failCopies id counter) := by
  unfold State.failCopies
  refine .foldl (.foldl h fun _ _ h => ?_) fun _ _ h => ?_
  · split
    · refine .ite h (.ite h.updPort.dropCopy ?_)
      dsimp only
      split
      · exact h.stomp.portCount
      · exact h.stomp
    · exact h
  · extract_lets _ _ s₁
    have h₁ : r.Follows s₁ := h.updQueue.foldl fun _ _ h => h.dropCopy
    refine .ite h ?_
    split
    · exact .ite h₁.newHead h₁
    · exact h₁

theorem State.Follows.abandon {a : Arriving} (h : r.Follows s) : r.Follows (s.abandon p a) := h.failCopies.cellCount.updPort

theorem State.Follows.continueFrame {a : Arriving} (h : r.Follows s) : r.Follows (s.continueFrame p a bytes) :=
  .ite h (.ite h.writeMore h.writeMore.abandon)

theorem State.Follows.finishFrame {a : Arriving} (h : r.Follows s) : r.Follows (s.finishFrame p a bytes) :=
  .updPort (.ite h.continueFrame h.continueFrame.updCopies)

theorem State.Follows.failFrame {a : Arriving} (h : r.Follows s) : r.Follows (s.failFrame p a) := .updPort (.ite h h.failCopies)

theorem State.Follows.controlFrame {bs : List Byte} (h : r.Follows s) : r.Follows (s.controlFrame p bs) := by
  unfold State.controlFrame
  dsimp only
  split
  · exact .ite h.portCount.updPort h.portCount
  · exact h.portCount.updPort
  · exact h.portCount

theorem State.Follows.store {f : Stored} (h : r.Follows s) : r.Follows (s.store p f) := .ite h.arrive.tmCount.raiseOnce h.arrive.updPort

theorem State.Follows.receiveFrame {bs : List Byte} {codeError truncated : Bool} {badBlocks : Nat} (h : r.Follows s) :
    r.Follows (s.receiveFrame p bs codeError truncated badBlocks) := by
  unfold State.receiveFrame
  refine .ite h ?_
  extract_lets s₀ _ s₁ arriving
  have h₁ : r.Follows s₁ := .portCount (.ite h h.portCount)
  clear_value s₁ arriving
  split
  · split
    · exact h₁.portCount.failFrame
    · exact h₁.portCount
  · have h₂ {a i : Nat} : r.Follows ((s₁.portCount p i 1).portCount p 10 a) := h₁.portCount.portCount
    refine .ite h₂.controlFrame ?_
    split
    · exact .finishFrame (.ite h₂.portCount.portCount h₂.portCount)
    · exact .store (.ite h₂.portCount.portCount h₂.portCount)

theorem State.Follows.ballFrame {codeError truncated : Bool} {badBlocks : Nat} (h : r.Follows s) :
    r.Follows (s.ballFrame p bytes codeError truncated badBlocks) := by
  unfold State.ballFrame
  refine .ite ?_ (.receiveFrame (.ite h.emit h))
  split
  · exact h
  · exact h.updPort.receiveFrame

theorem State.Follows.tblErrors {errors : List (Nat × Bool)} (h : r.Follows s) : r.Follows (s.tblErrors pl errors) :=
  h.foldl fun _ _ h => h.tblError

theorem State.Follows.frameIngress {early : Option (Nat × List Byte)} (h : r.Follows s) : r.Follows (s.frameIngress p early) := by
  unfold State.frameIngress
  split
  · split
    · exact h
    · exact h.updPort.ingress
  · refine .ite h ?_
    split
    · exact .ite h h.continueFrame
    · exact .ite h h.ingressEarly

theorem State.Follows.patternScan (h : r.Follows s) : r.Follows (s.patternScan pl) := by
  unfold State.patternScan
  split
  · exact h.beside.pipeCount.pipeCount.secondPass
  · exact h.beside.pipeCount.pipeCount.secondPass
  · exact h

theorem State.Follows.egressMirror {session : Nat} {c : Copy} {edits : List Word64} (h : r.Follows s) :
    r.Follows (s.egressMirror session c edits) := by
  unfold State.egressMirror
  refine .ite h.mirrorRequest (.ite h.mirrorRequest.cellCount ?_)
  split
  · next e => exact h.mirrorRequest.tryCopy.of_pair e
  · next m s e =>
      have h := h.mirrorRequest.tryCopy.of_pair e
      extract_lets _ _ s₁
      have h₁ : r.Follows s₁ := (h.foldl fun _ _ h => h.setCell).charge
      exact .thinWake (.enqueue (.ite h₁ h₁.updPort))

theorem State.Follows.truncate {u : Copy} {taken : Nat} (h : r.Follows s) : r.Follows (s.truncate u c taken).2 := by
  unfold State.truncate
  refine .ite_snd h (.giveUp ?_)
  split
  · exact h
  · exact h.walk

theorem State.Follows.startCopy {point : Nat} {c : Copy} {edits : List Word64} (h : r.Follows s) :
    r.Follows (s.startCopy p q point c edits) :=
  h.startHead.popHead.truncate.updPort

theorem State.Follows.discardHead {c : Copy} (h : r.Follows s) : r.Follows (s.discardHead p q c) := h.popHead.dropCopy

theorem State.Follows.frameDequeue {point : Nat} {fault : Option CellFault} (h : r.Follows s) :
    r.Follows (s.frameDequeue p point fault) := by
  unfold State.frameDequeue
  refine .ite h ?_
  split
  · exact h
  · next q c s e =>
      have h := h.choose e
      refine .ite h.readLink.discardHead.bump ?_
      extract_lets _ _ _ _ s₁
      have h₁ : r.Follows s₁.2 := .readCell (.ite h.egressMirror h)
      exact .ite h₁.discardHead (.ite h₁.discardHead.pipeCount (.ite h₁.discardHead.portCount h₁.startCopy))

theorem State.Follows.countClean (h : r.Follows s) : r.Follows (s.countClean p) := .ite h.setFld.setFld h.setFld

theorem State.Follows.finishSending {t : Sending} (h : r.Follows s) : r.Follows (s.finishSending p t) := by
  unfold State.finishSending
  extract_lets _ _ s₁
  have h₁ : r.Follows s₁ := .ite h.countSent.putFrame.portCount h.countSent.putFrame
  exact .ite h₁.countClean h₁

theorem State.Follows.sendCell {t : Sending} {fault : Option CellFault} (h : r.Follows s) : r.Follows (s.sendCell p t fault) := by
  unfold State.sendCell
  refine .ite h ?_
  extract_lets _ _ _ _ _ s₁ _ _ _ s₂
  have h₁ : r.Follows s₁.2 := h.truncate.readCell.releaseCell
  have h₂ : r.Follows s₂ := .updPort (.ite h₁.uncharge h₁)
  exact .ite h.truncate.readCell.stomp (.ite h.truncate.readCell.updPort (.ite h₂.finishSending h₂))

theorem State.Follows.otherRelease {cell gen : Nat} {fault : Option CellFault} (h : r.Follows s) :
    r.Follows (s.otherRelease cell gen fault) :=
  .ite h.readLink.releaseCell h.readLink

theorem State.Follows.raiseThreshold (h : r.Follows s) : r.Follows (s.raiseThreshold p) := .ite h (.ite h.setFld.raiseOf h.setFld)

theorem State.Follows.underrun (h : r.Follows s) : r.Follows (s.underrun p) := by
  unfold State.underrun
  split
  · exact h
  · exact .ite h h.stomp.portCount.raiseOnce.raiseThreshold.setFld

theorem State.Follows.timestampPoint (h : r.Follows s) : r.Follows (s.timestampPoint p) := by
  unfold State.timestampPoint
  split
  · exact h
  · split
    · exact h
    · exact .ite h (.ite h.updPort.bump.updPort.raiseOnce h.updPort.setFld.setFld.setFld.updPort)

theorem State.Follows.loadPause {quanta : Nat} (h : r.Follows s) : r.Follows (State.loadPause p quanta s k) := h.setFld.updPort

theorem State.Follows.countIgnored {touches : Nat → Bool} (h : r.Follows s) : r.Follows (s.countIgnored p touches) :=
  .ite h.portCount.raiseOnce h

theorem State.Follows.actOnControl {pfc : Bool} (h : r.Follows s) : r.Follows (s.actOnControl p pfc) := by
  unfold State.actOnControl
  split
  · exact .ite h (h.updPort.countIgnored.foldl fun _ _ h => h.loadPause)
  · exact .ite h (.ite h.updPort (h.updPort.countIgnored.foldl fun _ _ h => h.loadPause))
  · exact h

theorem State.Follows.sendPfc (h : r.Follows s) : r.Follows (s.sendPfc p) := h.portCount.portCount.portCount.portCount.putFrame.updPort

theorem State.Follows.fecCodeword {symbols : Nat} (h : r.Follows s) : r.Follows (s.fecCodeword p symbols) :=
  .ite h (.ite h.portCount.portCount h.portCount.raiseOnce)

end Sys2Proof.Machine
end

section
/-! PROOFS. Registers, the DMA engine, power and the console (chapters 14 and 15):
each operation leads to a state that follows. -/

namespace Sys2Proof.Machine

-- One lemma after another: hundreds at once would each hold a thread with its stack.
set_option Elab.async false

variable {r s t : State} {n p pl q k v w b i m a c x off value mask len unit id port ring code old count : Nat} {bytes : List Byte} {f : Fld}
  {enable : Bool} {info : FrameInfo}

theorem State.Follows.updHost {f : HostSide → HostSide} (h : r.Follows s) : r.Follows (s.updHost f) := by
  unfold State.updHost; exact h.beside

theorem State.Follows.message (h : r.Follows s) : r.Follows (s.message v) := .ite h.updHost (.ite h.emit h.emit.updHost)

theorem State.Follows.announce (h : r.Follows s) : r.Follows (s.announce v) := .ite h.updHost h.message

theorem State.Follows.holdoffEnd (h : r.Follows s) : r.Follows (s.holdoffEnd v) := .ite h.updHost.updHost.message h.updHost

theorem State.Follows.msixWrite (h : r.Follows s) : r.Follows (s.msixWrite k value) := .ite h.updHost.updHost.message h.updHost

theorem State.Follows.busError {write : Bool} {cause : Nat} {a : Access} (h : r.Follows s) : r.Follows (s.busError write cause a) :=
  h.setReg.setReg.raiseAt

theorem State.Follows.loadLatch (h : r.Follows s) : r.Follows (s.loadLatch off v) := h.updHost

theorem State.Follows.readBar (h : r.Follows s) : r.Follows (s.readBar off len).2 := by
  unfold State.readBar
  refine .ite_snd h ?_
  split
  · exact h
  · extract_lets _ _ _ _ _ s₁
    have h₁ : r.Follows s₁ := h.loadLatch
    exact .ite_snd h (.ite_snd (.ite_snd h (.ite h₁.loadLatch (.ite h₁.loadLatch (.ite h₁.beside h₁)))) h)

theorem State.Follows.writeBack {x : RegSpec} (h : r.Follows s) : r.Follows (s.writeBack x n value) :=
  .ite h (.ite h.setReg.setFld (.ite h.setReg.setFld h.setReg))

theorem State.Follows.oqTail (h : r.Follows s) : r.Follows (s.oqTail n v) := .ite h.raiseOf h.setFld.setFlag

theorem State.Follows.oqSetup {reg : RingReg} (h : r.Follows s) : r.Follows (s.oqSetup n reg v) := by
  unfold State.oqSetup
  refine .ite h.raiseOf ?_
  split
  · exact h.setFld
  · exact h.setFld
  · exact .ite h.setFld h.raiseOf

theorem State.Follows.oqCplHead (h : r.Follows s) : r.Follows (s.oqCplHead n v) := h.setFld

theorem State.Follows.ringTail (h : r.Follows s) : r.Follows (s.ringTail n v) := .ite h.raiseOf h.setFld.setFlag

theorem State.Follows.ringSetup {reg : RingReg} (h : r.Follows s) : r.Follows (s.ringSetup n reg v) := by
  unfold State.ringSetup
  refine .ite h.raiseOf ?_
  split
  · exact h.setFld
  · exact .ite h.setFld h.raiseOf
  · exact h

theorem State.Follows.shadowTail (h : r.Follows s) : r.Follows (s.shadowTail v) := .ite h.raise h.setFld

theorem State.Follows.shadowSetup {reg : RingReg} (h : r.Follows s) : r.Follows (s.shadowSetup reg v) := by
  unfold State.shadowSetup
  refine .ite h.raise ?_
  split
  · exact h.setFld
  · exact .ite h.setFld h.raise
  · exact h

theorem State.Follows.evrSize (h : r.Follows s) : r.Follows (s.evrSize v) := by
  unfold State.evrSize; exact .ite h.beside.setFld.updHost (.ite h.raise h.setFld.setFld.setFld)

theorem State.Follows.evrBase (h : r.Follows s) : r.Follows (s.evrBase v) := .ite h.raise h.setFld

theorem State.Follows.evrHead (h : r.Follows s) : r.Follows (s.evrHead v) := .ite h.raise h.setFld

theorem State.Follows.tsfRead (h : r.Follows s) : r.Follows (s.tsfRead p v) := .ite h.raiseOf h.setFld

theorem State.Follows.snapAsk {block : Nat} (h : r.Follows s) : r.Follows (s.snapAsk block unit) := by
  unfold State.snapAsk; exact .ite h (.ite h.raise h.beside)

theorem State.Follows.snapRegs {src dst : RegSpec} {first : Nat} (h : r.Follows s) : r.Follows (State.snapRegs src dst first count s) :=
  h.foldl fun _ _ h => h.setReg

theorem State.Follows.snapQueues {u : Nat} (h : r.Follows s) : r.Follows (s.snapQueues u) :=
  .setFld ((h.withRegs (SMap.canon_sublist resetAt List.filter_sublist)).foldl fun _ _ h => h.foldl fun _ _ h => h.setReg)

theorem State.Follows.snapMeters (h : r.Follows s) : r.Follows (s.snapMeters pl) :=
  .setFld ((h.withRegs (SMap.canon_sublist resetAt List.filter_sublist)).foldl fun _ _ h => h.foldl fun _ _ h => h.setReg)

theorem State.Follows.snapUnit {block u : Nat} (h : r.Follows s) : r.Follows (s.snapUnit block u) := by
  unfold State.snapUnit
  split
  · exact h.snapRegs
  · exact h.snapRegs.snapRegs.snapRegs
  · exact h.snapRegs
  · exact h.snapRegs.snapRegs.snapRegs
  · exact .ite h.snapRegs.snapRegs.snapRegs.snapRegs h.snapRegs.snapRegs
  · exact h.snapRegs.snapRegs.snapRegs.snapRegs.snapRegs.snapRegs
  · exact h.snapRegs.snapRegs
  · exact h.snapRegs
  · exact .ite h.snapRegs.snapQueues (.ite h.snapRegs.snapMeters h.snapRegs)
  · exact h

theorem State.Follows.snapServe {x : Nat × Nat} (h : r.Follows s) : r.Follows (s.snapServe x) :=
  .ite (h.foldl fun _ _ h => h.snapUnit) h.snapUnit

theorem State.Follows.snapEdge (h : r.Follows s) : r.Follows s.snapEdge := by
  unfold State.snapEdge; exact .ite h.beside (h.beside.foldl fun _ _ h => h.snapServe).setFld.raiseAt

theorem State.Follows.writeReg {x : RegSpec} (h : r.Follows s) : r.Follows (s.writeReg x n off len value) := by
  unfold State.writeReg
  dsimp only
  split
  · exact h.snapAsk
  · exact h.oqSetup
  · exact h.oqSetup
  · exact h.oqTail
  · exact h.oqSetup
  · exact h.oqCplHead
  · exact h.shadowSetup
  · exact h.shadowSetup
  · exact h.shadowTail
  · exact h.tsfRead
  · exact h.evrBase
  · exact h.evrSize
  · exact h.evrHead
  · exact h.ringSetup
  · exact h.ringSetup
  · exact h.ringTail
  · exact .ite h h.writeBack

theorem State.Follows.hostWrite {a : Access} (h : r.Follows s) : r.Follows (s.hostWrite a) := by
  unfold State.hostWrite
  refine .ite h.busError (.ite (.ite h.msixWrite.msixWrite h.msixWrite) ?_)
  split
  · exact h
  · exact h.writeReg

theorem State.Follows.pcieRead (h : r.Follows s) : r.Follows (s.pcieRead off len).2 := .ite_snd h h.readBar

theorem State.Follows.hostRead {a : Access} (h : r.Follows s) : r.Follows (s.hostRead a) := .ite h.busError.emit h.pcieRead.emit

theorem State.Follows.dmaCount (h : r.Follows s) : r.Follows (s.dmaCount i k) := h.bump

theorem State.Follows.putRecord {x : EventRec} (h : r.Follows s) : r.Follows (s.putRecord x) := h.emit.setFld.dmaCount.announce

theorem State.Follows.reportLost (h : r.Follows s) : r.Follows s.reportLost := by
  unfold State.reportLost
  extract_lets _ s₁
  have h₁ : r.Follows s₁ := h.raiseAt.updHost
  split
  · exact h₁
  · exact h₁.beside

theorem State.Follows.recordWrite (h : r.Follows s) : r.Follows s.recordWrite := by
  unfold State.recordWrite
  refine .ite h (.ite h.beside ?_)
  extract_lets _ s₁
  have h₁ : r.Follows s₁ := .ite h.reportLost h
  split
  · exact h₁
  · exact .ite h₁.beside.putRecord h₁.beside.dmaCount.updHost

theorem State.Follows.hostFrame {d : TxDesc} {data : List Byte} (h : r.Follows s) : r.Follows (s.hostFrame d data).2 := by
  unfold State.hostFrame
  dsimp only
  split
  · exact h.tryCopy
  · exact h.tryCopy.writeFrame

theorem State.Follows.hostFrames {d : TxDesc} : ∀ {fs : List (List Byte)} {s : State}, r.Follows s → r.Follows (State.hostFrames d fs s).2
  | [], _, h => h
  | _ :: _, _, h => h.hostFrame.hostFrames

theorem State.Follows.txFrames {d : TxDesc} {fs : List (List Byte)} (h : r.Follows s) : r.Follows (s.txFrames d fs).2 :=
  .ite_snd h.hostFrames (.ite_snd h.hostFrames h.hostFrames.dmaCount)

theorem State.Follows.txRun {d : TxDesc} {frame payload : List Byte} (h : r.Follows s) : r.Follows (s.txRun ring d frame payload).2 :=
  .ite_snd h.dmaCount.raiseOnce (.ite_snd h.updStf (.ite_snd (.ite_snd h.portCount.raiseOf h.portCount.portCount.txFrames) h.txFrames))

theorem State.Follows.txDescriptor {words : List Word64} {frame payload : List Byte} (h : r.Follows s) :
    r.Follows (s.txDescriptor ring words frame payload) := by
  unfold State.txDescriptor
  refine .ite h ?_
  extract_lets _ _ _ _ _ s₁
  have h₁ : r.Follows s₁ := h.updHost.txRun.dmaCount.emit.setFld
  exact .ite h₁.announce h₁

theorem State.Follows.rxDrop {f : HostFrame} {reason : Nat} (h : r.Follows s) : r.Follows (s.rxDrop ring f reason) :=
  .raiseOnce (.ite h.bump.raiseOnce h.dmaCount)

theorem State.Follows.rxWrite {addr : Nat} {f : HostFrame} (h : r.Follows s) : r.Follows (s.rxWrite ring addr f) := by
  unfold State.rxWrite
  extract_lets _ _ _ _ s₁
  have h₁ : r.Follows s₁ := h.emit.emit.emit.setFld.dmaCount
  exact .announce (.ite h₁.bump h₁)

theorem State.Follows.rxDeliver {addr : Nat} (h : r.Follows s) : r.Follows (s.rxDeliver ring addr len) := by
  unfold State.rxDeliver
  split
  · exact h
  · exact .ite h (.ite h.beside.rxDrop (.ite h.beside.rxDrop h.beside.rxWrite))

theorem State.Follows.clearRings (h : r.Follows s) : r.Follows s.clearRings :=
  ((h.foldl fun _ _ h => h.setFld.setFld.setFld.setFld.setFld).foldl fun _ _ h => h.setFld.setFld.setFld).setFld.setFld.setFld.setFld.setFld.setFld

theorem State.Follows.functionReset (h : r.Follows s) : r.Follows s.functionReset := by
  unfold State.functionReset
  extract_lets s₁
  have h₁ : r.Follows s₁ := h.clearRings.setFlag
  exact h₁.beside

theorem State.Follows.failPins (h : r.Follows s) : r.Follows s.failPins := h.setFlag.setFld.updPair

theorem State.Follows.aimClock {target : Nat} (h : r.Follows s) : r.Follows (s.aimClock target) := h.updPower.setFlag

theorem State.Follows.sprintOff (h : r.Follows s) : r.Follows s.sprintOff := h.lifeEnd.raise

theorem State.Follows.sprintExit (h : r.Follows s) : r.Follows (s.sprintExit code) := .ite h h.setFld.aimClock.updPower.raiseAt

theorem State.Follows.settleSprint (h : r.Follows s) : r.Follows s.settleSprint := .ite h.sprintOff h

theorem State.Follows.askSprint (h : r.Follows s) : r.Follows (s.askSprint enable) := .ite h.lifeAsk.sprintExit.settleSprint h.lifeAsk

theorem State.Follows.sprintEdge (h : r.Follows s) : r.Follows s.sprintEdge := by
  unfold State.sprintEdge
  extract_lets _ _ _ _ _ _ _ _ _ _ s₁
  have h₁ : r.Follows s₁ := .updPower (.ite (.ite h.updPower.lifeEnd.raise.settleSprint h.updPower.lifeEnd.raise) h.updPower)
  exact .ite h₁.sprintExit (.ite h₁.sprintExit (.ite h₁.aimClock.raise h₁))

theorem State.Follows.clockStep (h : r.Follows s) : r.Follows s.clockStep := .ite h h.setFld.updPower.setFlag.settleSprint

theorem State.Follows.loseFrames (h : r.Follows s) : r.Follows s.loseFrames := by unfold State.loseFrames; exact h.beside

theorem State.Follows.darkLanes (h : r.Follows s) : r.Follows s.darkLanes := h.foldl fun _ _ h => .ite h h.lifeForce.laneOut

theorem State.Follows.trip {cause : Nat} (h : r.Follows s) : r.Follows (s.trip cause) := by
  unfold State.trip
  refine .ite h ?_
  extract_lets _ _ _ _ _ s₁
  have h₁ : r.Follows s₁ := (h.failPins.loseFrames.foldl fun _ _ h => h.forcePort).darkLanes.setFlag.setFld.raiseAt.sprintExit
  exact .ite h₁ h₁.setFld.aimClock.raise

theorem State.Follows.temperature {tj : Int} (h : r.Follows s) : r.Follows (s.temperature tj) := by
  unfold State.temperature
  extract_lets _ s₁ _ _ s₂ _ s₃
  have h₁ : r.Follows s₁ := .ite h.setFld.setFld h.setFld
  have h₂ : r.Follows s₂ := .ite h₁.setFlag.raise (.ite h₁.setFlag h₁)
  have h₃ : r.Follows s₃ := .updPower (.ite h₂.sprintExit h₂)
  exact .ite h₃.trip h₃

theorem State.Follows.tjSample {readings : List (Option Int)} (h : r.Follows s) : r.Follows (s.tjSample readings) := by
  unfold State.tjSample
  extract_lets valid s₀ s₁
  have h₁ : r.Follows s₁ := by
    unfold s₁
    clear_value valid
    split
    · exact h.setFld
    · exact h.setFld.temperature
  exact .ite h₁.trip h₁

theorem State.Follows.icoreSample {amperes : Nat} (h : r.Follows s) : r.Follows (s.icoreSample amperes) := by
  unfold State.icoreSample
  extract_lets _ _ s₁ _ _ _ s₂
  have h₁ : r.Follows s₁ := .ite h.setFld.setFld h.setFld
  have h₂ : r.Follows s₂ := .updPower (.ite h₁.sprintExit h₁)
  exact .ite h₂.raise.trip h₂

theorem State.Follows.freeze {cause : Nat} (h : r.Follows s) : r.Follows (s.freeze cause) :=
  (h.failPins.foldl fun _ _ h => h.setFld).updPower.drawn

theorem State.Follows.jtagSelect {capture : List Bool} (h : r.Follows s) : r.Follows (s.jtagSelect code capture) := h.updPower.emit

theorem State.Follows.updBureau {f : Bureau → Bureau} (h : r.Follows s) : r.Follows (s.updBureau f) := by
  unfold State.updBureau; exact h.beside

theorem State.Follows.storeWrite {bs : List Byte} (h : r.Follows s) : r.Follows (s.storeWrite off bs) := h.updHost

theorem State.Follows.answer {a : Reply} (h : r.Follows s) : r.Follows (s.answer a) := h.emit

theorem State.Follows.console {op : Nat} {x : ConsoleRequest} {within : Bool} {f : State → Reply × State} (h : r.Follows s)
    (go : ∀ t, r.Follows t → r.Follows (f t).2) : r.Follows (s.console op x within f) :=
  .ite h (.ite h.answer (.ite h.answer (go _ h).answer))

theorem State.Follows.readOut {f : Frozen} {x : ConsoleRequest} (h : r.Follows s) : r.Follows (s.readOut f x) :=
  .ite h (.ite h.answer (.ite h.answer (.ite h.answer h.answer)))

theorem State.Follows.submit {tag : Nat} (h : r.Follows s) : r.Follows (s.submit tag off n).2 := by
  unfold State.submit
  refine .ite_snd h (.ite_snd h (.ite_snd h ?_))
  dsimp only
  exact h.updBureau

end Sys2Proof.Machine
end

section
/-! PROOFS. Authority, staged writes and the life of a bundle (chapters 02 and 03):
each operation leads to a state that follows. -/

namespace Sys2Proof.Machine

-- One lemma after another: hundreds at once would each hold a thread with its stack.
set_option Elab.async false

variable {r s t : State} {n p pl q k v w b i m a c x off value mask len unit id port ring code old count : Nat} {bytes : List Byte} {f : Fld}
  {enable : Bool} {info : FrameInfo}

/-- The state that a judgement leaves. -/
def Judged.state : Judged → State
  | .ok s => s
  | .fail _ _ _ s => s

theorem State.Follows.updAuth {f : Auth → Auth} (h : r.Follows s) : r.Follows (s.updAuth f) := by unfold State.updAuth; exact h.beside

theorem State.Follows.installCharter {copy origin : Nat} {x : List Byte} (h : r.Follows s) : r.Follows (s.installCharter i copy origin x) :=
  h.updAuth.setFld

theorem State.Follows.charterSet {source num w : Nat} (h : r.Follows s) : r.Follows (s.charterSet source num bytes w).state := by
  unfold State.charterSet
  dsimp only
  split
  · exact h
  · split
    · exact h
    · exact h.beside.installCharter.raiseAt

/-- The slot that is burned was not enrolled (R102). -/
theorem State.Follows.keyEnrol {words : List Word64} (h : r.Follows s) : r.Follows (s.keyEnrol n words w).state := by
  unfold State.keyEnrol
  dsimp only
  split
  · exact h
  · next empty => exact (h.burning (Otp.burnsTo_enrol (Bool.not_eq_true _ ▸ empty))).raise

theorem State.Follows.keyRevoke (h : r.Follows s) : r.Follows (s.keyRevoke n w).state := by
  unfold State.keyRevoke
  dsimp only
  split
  · exact (h.burning (Otp.burnsTo_revoke _ n)).raise
  · exact h

theorem State.Follows.fwLoad {image : Option (List Byte)} (h : r.Follows s) : r.Follows (s.fwLoad n image w).state := by
  unfold State.fwLoad
  dsimp only
  split
  · exact h.raise
  · split
    · exact h.raise
    · exact h.beside.updAuth.raise

theorem State.Follows.enterImage {e : Nat × List Byte} (h : r.Follows s) : r.Follows (s.enterImage e) := h.updAuth.setFld.setFld

theorem State.Follows.enterImages (h : r.Follows s) : r.Follows s.enterImages := (h.foldl fun _ _ h => h.enterImage).updAuth

theorem State.Follows.freeBytes (h : r.Follows s) : r.Follows (s.freeBytes n).2 := h.drawing

theorem State.Follows.signReport {body : List Byte} (h : r.Follows s) : r.Follows (s.signReport body).2 := h.freeBytes

theorem State.Follows.afterSet {x : RegSpec} (h : r.Follows s) : r.Follows (s.afterSet x n old mask) := by
  unfold State.afterSet
  refine .ite (.ite h.updPort h) ?_
  refine .ite (h.foldl fun _ _ h => h.xoffCheck) ?_
  refine .ite h.evalLane.evalTus ?_
  refine .ite (.ite (h.evalTu.foldl fun _ _ h => h.refreshChannel) h) ?_
  refine .ite (h.foldl fun _ _ h => h.lifeAsk) (.ite ?_ ?_)
  · extract_lets _ _ s₁
    have h₁ : r.Follows s₁ := h.refreshPair.foldl fun _ _ h => h.refreshPairs
    exact .ite h₁.wantLane.wantLane h₁
  · refine .ite (.ite h.askEngine h) (.ite (.ite h h.slowReset) ?_)
    refine .ite (.ite h h.beside) (.ite (.ite h h.beside) ?_)
    exact .ite h.reshape (.ite h.reshape (.ite h.tbCfgChanged (.ite h.tinCfgChanged h)))

/-- The freeze fuse is burned or left, and the counter rises or stays (R109, R487). -/
theorem State.Follows.burnOtp (h : r.Follows s) : r.Follows (s.burnOtp value mask) := by
  unfold State.burnOtp
  extract_lets _ s₁
  have h₁ : r.Follows s₁ := .ite (h.burning (Otp.burnsTo_frozen _)) h
  split
  · next higher => exact (h₁.burning (Otp.burnsTo_rollback (Nat.le_of_lt higher))).raise
  · exact h₁

theorem State.Follows.applySet {w64 : Bool} (h : r.Follows s) : r.Follows (s.applySet off w64 value mask) := by
  unfold State.applySet
  split
  · exact h
  · exact .ite h.burnOtp (.ite (.ite h.freeze h) h.setReg.afterSet)

theorem State.Follows.applyTuMap {lane tu label : Nat} (h : r.Follows s) : r.Follows (s.applyTuMap lane tu label) :=
  .ite (h.setFld.setFld.evalTu.foldl fun _ _ h => h.refreshChannel) h.setFld.setFld

theorem State.Follows.applyItem {i : OrderInstr} (h : r.Follows s) : r.Follows (State.applyItem v s i) := by
  unfold State.applyItem
  split
  · exact h.applySet
  · exact h.beside
  · refine .foldl h fun _ _ h => ?_
    extract_lets _ s₁
    have h₁ : r.Follows s₁ := h.swapBank
    exact .ite h₁.beside h
  · exact h.beside
  · exact h.applyTuMap
  · exact .ite h.applyChanBind h.applyChanBind.wantLane
  · exact h.applyPortUp
  · exact h.applyPortDown
  · extract_lets _ s₁
    have h₁ : r.Follows s₁ := .ite h.applyLaneCfg.recalLane h.applyLaneCfg
    split
    · exact h₁
    · split
      · exact h₁.repark
      · exact h₁.repark
      · exact h₁.repark
      · exact .ite h₁.showPartner h₁
      · exact h₁.thinWake
      · exact h₁
  · exact h.applyQueue
  · exact h.applyMeter
  · exact .ite h.beside h.beside
  · exact h.applyPulse
  · exact h

theorem State.Follows.unstage (h : r.Follows s) : r.Follows (s.unstage id) := by unfold State.unstage; exact h.beside

theorem State.Follows.dropClaims (h : r.Follows s) : r.Follows (s.dropClaims id) := by
  unfold State.dropClaims
  extract_lets s₁
  have h₁ : r.Follows s₁ := h.unstage
  exact h₁.beside

theorem State.Follows.applyWrites {items : List OrderInstr} {bounds : List (Nat × Nat × Bool)} (h : r.Follows s) :
    r.Follows (s.applyWrites id v items bounds) := by
  unfold State.applyWrites
  extract_lets _ s₁
  have h₁ : r.Follows s₁ := (h.beside.foldl fun _ _ h => h.applyItem).dropClaims
  exact h₁.beside

theorem State.Follows.scanBudget {scans : List (Nat × Nat)} (h : r.Follows s) : r.Follows (s.scanBudget scans) :=
  h.foldl fun _ _ h => h.setFld.setFld

theorem State.Follows.admission {named : Nat} {items : List OrderInstr} {swap : Bool} (h : r.Follows s) :
    r.Follows (s.admission named items swap).2 := by
  unfold State.admission
  extract_lets judged _ s₁
  have h₁ : r.Follows s₁ := h.drawn.tmCount.setFld.setFld
  clear_value s₁ judged
  refine .ite_snd h ?_
  split
  · exact h₁.setFld.setFld.tmCount.raiseAt
  · exact h₁.setFld.setFld.scanBudget

end Sys2Proof.Machine
end

section
/-! PROOFS. The life of a bundle (chapter 02):
each operation leads to a state that follows. -/

namespace Sys2Proof.Machine

-- One lemma after another: hundreds at once would each hold a thread with its stack.
set_option Elab.async false

variable {r s t : State} {n k v w m off value mask len unit id port code : Nat} {q : OrderQueue} {b : Bundle} {i : OrderInstr} {c : Commit}
  {p : ProgStep} {bytes : List Byte}

theorem State.Follows.setSlot (h : r.Follows s) : r.Follows (s.setSlot q b) := h.updBureau

theorem State.Follows.freeSlot (h : r.Follows s) : r.Follows (s.freeSlot q) := h.updBureau

theorem State.Follows.orderEvent {e : EvSpec} {data : List Nat} (h : r.Follows s) : r.Follows (s.orderEvent e q data) := by
  unfold State.orderEvent
  split
  · exact h.raiseAt
  · exact h.raiseAt

theorem State.Follows.endBundle {e : Ending} (h : r.Follows s) : r.Follows (s.endBundle q e) := by
  unfold State.endBundle
  split
  · exact h
  · extract_lets s₀ s₁
    have h₀ : r.Follows s₀ := by
      unfold s₀
      split
      · exact h.dropClaims
      · exact h
    have h₁ : r.Follows s₁ := h₀.setSlot
    exact .ite h₁.orderEvent h₁

theorem State.Follows.refuse {status index detail0 detail1 : Nat} (h : r.Follows s) : r.Follows (s.refuse q status index detail0 detail1) :=
  .ite h.endBundle.setReg.bump h.endBundle

theorem State.Follows.forward (h : r.Follows s) : r.Follows (s.forward q b) := h.updPair.bump.setSlot.emit.emit

theorem State.Follows.launch (h : r.Follows s) : r.Follows (s.launch q b) := by
  unfold State.launch
  dsimp only
  split
  · exact h.setSlot.emit
  · exact .ite (.ite h.setSlot h.forward) h.setSlot

theorem State.Follows.accept (h : r.Follows s) : r.Follows (s.accept q b) := .ite h.launch (.ite h.refuse h.setFld.updAuth.launch)

theorem State.Follows.verify {reads : List (Option (List Byte))} (h : r.Follows s) : r.Follows (s.verify q reads b) := by
  unfold State.verify
  split
  · exact h.refuse
  · refine .ite h.refuse ?_
    split
    · exact h.refuse
    · dsimp only
      split
      · exact h.refuse
      · exact h.accept

theorem State.Follows.startBundle (h : r.Follows s) : r.Follows (s.startBundle q b) := by
  unfold State.startBundle
  dsimp only
  split
  · exact h.setSlot.refuse
  · exact h.setSlot.refuse
  · refine .ite h.setSlot.refuse ?_
    split
    · exact h.setSlot.refuse
    · exact .ite h.setSlot.refuse (.ite h.setSlot.setSlot.verify h.setSlot.setSlot)

theorem State.Follows.nextReady (h : r.Follows s) (e : s.nextReady = some (q, b, t)) : r.Follows t := by
  unfold State.nextReady at e
  split at e
  · cases e
    exact h.updBureau
  · split at e
    · cases e
      exact h.updBureau
    · split at e
      · cases e
        exact h.updBureau
      · split at e
        · cases e
        · obtain ⟨_, -, e⟩ := Option.map_eq_some_iff.mp e
          cases e
          exact h.updBureau

theorem State.Follows.startReady : ∀ {k : Nat} {s : State}, r.Follows s → r.Follows (State.startReady k s)
  | 0, _, h => h
  | _ + 1, _, h => by
    unfold State.startReady
    split
    · exact h
    · split
      · exact h
      · next e => exact (h.nextReady e).startBundle.startReady

theorem State.Follows.bureauAct {f : State → State} (h : r.Follows s) (go : ∀ t, r.Follows t → r.Follows (f t)) :
    r.Follows (s.bureauAct f) :=
  h.awake fun _ h => (go _ h).startReady

theorem State.Follows.fetchFailed {n : Fin 16} (h : r.Follows s) : r.Follows (s.fetchFailed n) := .ite h.setFlag.raiseOf h

theorem State.Follows.bundleFetched {n : Fin 16} {addr : Word64} {rsv : Nat} {words : Option (List Word64)} (h : r.Follows s) :
    r.Follows (s.bundleFetched n addr len rsv words) := by
  unfold State.bundleFetched
  refine .ite h (.ite h.setSlot (.ite h.setSlot ?_))
  split
  · exact h.fetchFailed
  · exact h.setSlot

theorem State.Follows.journalEnd {ok : Bool} (h : r.Follows s) : r.Follows (s.journalEnd ok) := by
  unfold State.journalEnd
  split
  · exact h
  · exact .ite h.beside.updAuth.updBureau h.updAuth.raise

theorem State.Follows.compareRecords {own : List Word64} {peer : Option (List Word64)} (h : r.Follows s) :
    r.Follows (s.compareRecords own peer) :=
  .ite h h.setReg.bump.raiseAt.emit

theorem State.Follows.ownRecord {ws : List Word64} (h : r.Follows s) : r.Follows (s.ownRecord b ws) := by
  unfold State.ownRecord
  split
  · refine .ite h ?_
    split
    · exact h.updPair.compareRecords
    · exact h.updPair
  · exact h

theorem State.Follows.sendRecord {ws : List Word64} (h : r.Follows s) : r.Follows (s.sendRecord q b ws) := by
  unfold State.sendRecord
  split
  · exact h.emit.bump.bump.setFld.raiseOf.announce
  · exact h.updBureau.orderEvent
  · exact h.raiseAt
  · refine .ite h.orderEvent ?_
    split
    · exact h.emit
    · exact h

theorem State.Follows.complete {e : Ending} (h : r.Follows s) : r.Follows (s.complete q b e) :=
  .ite h.freeSlot (.ite h (.freeSlot (.sendRecord (.ownRecord (.ite h.updAuth h)))))

theorem State.Follows.dropReasm {charter : Nat} (h : r.Follows s) : r.Follows (s.dropReasm charter id) := h.updBureau.raise

theorem State.Follows.inbandBundle {charter : Nat} {bytes : List Byte} (h : r.Follows s) : r.Follows (s.inbandBundle charter bytes) :=
  .ite h.bump h.updBureau

theorem State.Follows.reassemble {x : Reassembly} (h : r.Follows s) : r.Follows (s.reassemble x) :=
  .ite h.updBureau (.ite h.updBureau.inbandBundle h.dropReasm)

theorem State.Follows.segment {charter : Nat} {payload : List Byte} (h : r.Follows s) : r.Follows (s.segment charter payload) := by
  unfold State.segment
  dsimp only
  split
  · exact .ite h.dropReasm (.ite h h.reassemble)
  · exact .ite h.dropReasm h.reassemble

end Sys2Proof.Machine
end

section
/-! PROOFS. Instructions of bundles (chapters 02 and 03):
each operation leads to a state that follows. -/

namespace Sys2Proof.Machine

-- One lemma after another: hundreds at once would each hold a thread with its stack.
set_option Elab.async false

variable {r s t : State} {n k v w m off value mask len unit id port code : Nat} {q : OrderQueue} {b : Bundle} {i : OrderInstr} {c : Commit}
  {p : ProgStep} {bytes : List Byte}

theorem State.Follows.failStep {status detail0 detail1 : Nat} (h : r.Follows s) : r.Follows (s.failStep q p status detail0 detail1) :=
  h.endBundle

theorem State.Follows.settle (h : r.Follows s) : r.Follows (s.settle q) := by
  unfold State.settle
  split
  · exact h
  · refine .ite h (.ite h.endBundle ?_)
    split
    · exact h.endBundle
    · exact h.endBundle

theorem State.Follows.proceed (h : r.Follows s) : r.Follows (s.proceed q) := by
  unfold State.proceed
  split
  · exact h
  · exact h.setSlot.settle

theorem State.Follows.order {run : Bundle → ProgStep → State → State} (h : r.Follows s)
    (go : ∀ b p t, r.Follows t → r.Follows (run b p t)) : r.Follows (s.order q i run) := by
  refine h.bureauAct fun _ h => ?_
  split
  · exact h
  · split
    · exact .ite h (.ite h.proceed (.ite h.setSlot.failStep (.ite h.setSlot.failStep (go _ _ _ h.setSlot))))
    · exact h

theorem State.Follows.sendItem (h : r.Follows s) : r.Follows (State.sendItem id unit s i) := by
  unfold State.sendItem
  split
  · exact h.leafStage.foldl fun _ _ h => h.wantLane
  · exact h.beside
  · exact h.beside
  · exact h.startWiden.startWiden
  · exact h.foldl fun _ _ h => h.wantLane

theorem State.Follows.sendCommit (h : r.Follows s) : r.Follows (s.sendCommit c) := by
  unfold State.sendCommit
  extract_lets s₁
  have h₁ : r.Follows s₁ := h.beside.foldl fun _ _ h => h.sendItem
  split
  · exact .ite h₁.emit h₁
  · exact h₁

theorem State.Follows.beginCommit {items : List OrderInstr} {swap : Bool} {named : Nat} (h : r.Follows s) :
    r.Follows (s.beginCommit q b p id items swap named) := by
  unfold State.beginCommit
  refine .ite h.setSlot.dropClaims.failStep ?_
  split
  · next e => exact (h.setSlot.admission.of_pair e).dropClaims.failStep
  · next e => exact (h.setSlot.admission.of_pair e).dropClaims.failStep
  · next bounds s e =>
      have h := h.setSlot.admission.of_pair e
      exact .ite h.dropClaims.failStep h.setSlot.updBureau.sendCommit

theorem State.Follows.newSet (h : r.Follows s) : r.Follows s.newSet.2 := by
  dsimp only [State.newSet]
  exact h.updBureau

theorem State.Follows.stageItem {st : StageSet} (h : r.Follows s) : r.Follows (s.stageItem q b st i) := h.setSlot.proceed

theorem State.Follows.runWrite (h : r.Follows s) : r.Follows (State.runWrite i q b p s) := by
  unfold State.runWrite
  dsimp only
  split
  · exact h.failStep
  · split
    · exact h.stageItem
    · split
      · exact .ite h.newSet.beginCommit.dropClaims h.newSet.beginCommit.setSlot
      · exact h.newSet.beginCommit

theorem State.Follows.claimPlaces (h : r.Follows s) (e : s.claimPlaces id i = .inr t) : r.Follows t := by
  unfold State.claimPlaces at e
  split at e
  · dsimp only at e
    split_ifs at e <;> cases e <;> exact h.beside
  · dsimp only at e
    split at e
    · cases e
    · cases e
      exact h.beside
  · dsimp only at e
    split at e
    · cases e
    · cases e
      exact h.foldl fun _ _ h => .writeNodes (.ite h h.copyBank.beside)
  · cases e
    exact h

theorem State.Follows.runVersioned (h : r.Follows s) : r.Follows (State.runVersioned i q b p s) := by
  unfold State.runVersioned
  split
  · exact h.failStep
  · split
    · exact h.failStep
    · next e => exact (h.claimPlaces e).stageItem

theorem State.Follows.tableAnswer {x : TblResult} (h : r.Follows s) (done : ∀ {t}, x = .ok t → r.Follows t) :
    r.Follows (s.tableAnswer x i q b p) := by
  unfold State.tableAnswer
  split
  · exact h.failStep
  · have h := done rfl
    split
    · exact h.stageItem
    · exact h.proceed

theorem State.Follows.runTable (h : r.Follows s) : r.Follows (s.runTable i q b p) := by
  unfold State.runTable
  dsimp only
  split
  · split
    · exact h.tableAnswer h.learnedInsert
    · split
      · exact h.tableAnswer h.insertStaged
      · exact h.tableAnswer h.insertDirect
  · split
    · exact h.tableAnswer h.learnedDelete
    · split
      · exact h.tableAnswer h.deleteStaged
      · exact h.tableAnswer h.deleteDirect
  · split
    · exact h.tableAnswer h.modifyStaged
    · exact h.tableAnswer h.modifyDirect
  · exact h

theorem State.Follows.runLeaf (h : r.Follows s) : r.Follows (State.runLeaf i q b p s) := by
  unfold State.runLeaf
  split
  · exact .ite h.failStep (.proceed (.ite h.leafPut h.leafPut.wantLane.wantLane))
  · exact h.runWrite

theorem State.Follows.park {ph : Phase} (h : r.Follows s) : r.Follows (s.park q b ph) := h.setSlot

theorem State.Follows.resume {ready : Bundle → Bool} (h : r.Follows s) : r.Follows (s.resume q ready) := by
  unfold State.resume
  split
  · exact .ite h.proceed h
  · exact h

theorem State.Follows.eventArrived (h : r.Follows s) : r.Follows (s.eventArrived q b code unit) := .ite h.setSlot.proceed h

theorem State.Follows.fencesPass (h : r.Follows s) : r.Follows s.fencesPass := h.updBureau

theorem State.Follows.conclude : ∀ {j : Judged}, r.Follows j.state → r.Follows (State.conclude q p j)
  | .ok _, h => State.Follows.proceed h
  | .fail .., h => State.Follows.failStep h

theorem State.Follows.signNext (h : r.Follows s) : r.Follows (s.signNext q) := .ite h.updAuth h

end Sys2Proof.Machine
end

section
/-! PROOFS. The pair, commits and their edge, reset and boot (chapters 01, 13 and 15):
each operation leads to a state that follows. -/

namespace Sys2Proof.Machine

-- One lemma after another: hundreds at once would each hold a thread with its stack.
set_option Elab.async false

variable {r s t : State} {n k v w m off value mask len unit id port code : Nat} {q : OrderQueue} {b : Bundle} {i : OrderInstr} {c : Commit}
  {p : ProgStep} {bytes : List Byte}

theorem State.Follows.moveCounter {active own : Nat} (h : r.Follows s) : r.Follows (s.moveCounter id active own) := by
  unfold State.moveCounter
  refine .ite ?_ (.ite h.updQueue h.setMeter)
  split
  · exact .ite h.setReg.halfReached h.setReg
  · exact h

theorem State.Follows.moveCounters {active own : SMap Nat} (h : r.Follows s) : r.Follows (s.moveCounters active own) :=
  h.foldl fun _ _ h => h.moveCounter

theorem State.Follows.applyChange {c : TableChange} (h : r.Follows s) : r.Follows (s.applyChange c) := by
  unfold State.applyChange
  split
  · split
    · split
      · next e => exact h.learnedInsert e
      · exact h
    · refine .foldl h fun _ _ h => ?_
      split
      · exact h.delEntry
      · exact h
    · refine .foldl h fun _ _ h => ?_
      split
      · exact h.updEntry
      · exact h
  · refine .foldl h fun _ _ h => ?_
    split
    · exact .ite h.delEntry h
    · exact h

theorem State.Follows.applyLearned {es : List (Nat × List Word64 × Nat × Nat)} (h : r.Follows s) : r.Follows (s.applyLearned es) := by
  unfold State.applyLearned; exact h.beside.foldl fun _ _ h => .ite h.insertAt h

theorem State.Follows.adoptServo {b : Nat} {v : Nat × List (Int × Nat) × Option Int × List Nat} (h : r.Follows s) :
    r.Follows (s.adoptServo b v) :=
  .ite h.enterTb.updServo.setFld h.enterTb.updServo.setFld.setFld

theorem State.Follows.applyLevels {c own : Sideboard} (h : r.Follows s) : r.Follows (s.applyLevels c own) := by
  unfold State.applyLevels
  extract_lets s₁ _ s₂ s₃ s₄
  have h₁ : r.Follows s₁ := h.foldl fun _ _ h => h.setMeter
  have h₂ : r.Follows s₂ := h₁.foldl fun _ _ h => h.updQueue
  have h₃ : r.Follows s₃ := h₂.foldl fun _ _ h => h.setVirtual
  have h₄ : r.Follows s₄ := h₃.foldl fun _ _ h => h.updQueue
  exact h₄.foldl fun _ _ h => h.setShaper

theorem State.Follows.applyHits {c : Sideboard} (h : r.Follows s) : r.Follows (s.applyHits c) := by unfold State.applyHits; exact h.beside

theorem State.Follows.applySeqs {c : Sideboard} (h : r.Follows s) : r.Follows (s.applySeqs c) := by
  unfold State.applySeqs
  extract_lets s₁
  have h₁ : r.Follows s₁ := by
    refine .foldl h fun _ _ h => ?_
    split
    · exact h.setFld
    · exact h
  exact h₁.beside

theorem State.Follows.takeSlice {own : Sideboard} {sl : Nat × SMap Nat} (h : r.Follows s) : r.Follows (s.takeSlice own sl) := by
  unfold State.takeSlice
  extract_lets s₁
  have h₁ : r.Follows s₁ := .ite h.updPair h
  split
  · exact h₁
  · exact .ite h₁.updPair (.ite h₁.moveCounters.updPair h₁.updPair)

theorem State.Follows.applyCopy {c own : Sideboard} (h : r.Follows s) : r.Follows (s.applyCopy c own) := by
  unfold State.applyCopy
  extract_lets s₀ s₁ s₂ s₃ s₄ s₅ s₆ s₇
  have h₀ : r.Follows s₀ := by
    unfold s₀
    split
    · exact h.applyLearned.updPair
    · exact h
  have h₁ : r.Follows s₁ := h₀.foldl fun _ _ h => h.applyChange
  have h₃ : r.Follows s₃ := h₁.applyLevels.applyHits.foldl fun _ _ h => h.adoptServo
  have h₄ : r.Follows s₄ := by
    unfold s₄
    split
    · exact h₃.takeSlice
    · exact h₃
  have h₇ : r.Follows s₇ := h₄.applySeqs.setFld.setFld.drawn.bump.updPair
  exact .ite h₇.setFlag h₇

theorem State.Follows.copyLate (h : r.Follows s) : r.Follows s.copyLate := .ite h.bump.updPair.setFlag.raise h.bump.updPair.setFlag

theorem State.Follows.sendCopy (h : r.Follows s) : r.Follows s.sendCopy.2 := h.updPair.setFld.setFld.drawn.bump.emit

theorem State.Follows.dropCommit (h : r.Follows s) : r.Follows (s.dropCommit c) := by
  unfold State.dropCommit; exact h.leafRestore.dropClaims.updBureau

theorem State.Follows.abortForRole {u : Nat} (h : r.Follows s) : r.Follows (s.abortForRole u) :=
  (h.foldl fun _ _ h => h.dropCommit).endBundle

theorem State.Follows.abortBundles {which : Bundle → Bool} (h : r.Follows s) : r.Follows (s.abortBundles which) :=
  h.foldl fun _ _ h => .ite h.abortForRole h

theorem State.Follows.setRole {x : Nat} (h : r.Follows s) : r.Follows (s.setRole x) := .ite h (.ite h.setFld.raise.updPair h.setFld.raise)

theorem State.Follows.releaseHeld (h : r.Follows s) : r.Follows s.releaseHeld := h.foldl fun _ _ h => .ite h.launch h

theorem State.Follows.settlePair (h : r.Follows s) : r.Follows s.settlePair := .releaseHeld (.ite h.updBureau h)

theorem State.Follows.fenced (h : r.Follows s) : r.Follows s.fenced := h.setRole.raise.updPair.abortBundles.settlePair

theorem State.Follows.takeOver (h : r.Follows s) : r.Follows s.takeOver := .ite h h.setRole.setFlag.raise.bump.updPair.settlePair

theorem State.Follows.setPairLink {up : Bool} (h : r.Follows s) : r.Follows (s.setPairLink up) := .ite h h.setFlag.raise

theorem State.Follows.fenceChoice (h : r.Follows s) : r.Follows s.fenceChoice := .ite h (.ite h.fenced h)

theorem State.Follows.pairEdge {e : Nat} (h : r.Follows s) : r.Follows (s.pairEdge e m) := h.updPair.setFld.setFld.setFlag

theorem State.Follows.edgeMarker {e : Nat} (h : r.Follows s) : r.Follows (s.edgeMarker e m) := .ite h.pairEdge h.updPair

theorem State.Follows.pairAtEdge (h : r.Follows s) : r.Follows s.pairAtEdge := by
  unfold State.pairAtEdge
  split
  · exact .ite h.pairEdge h.updPair
  · exact .ite h.setFld h

theorem State.Follows.swapIn (h : r.Follows s) : r.Follows s.swapIn := h.setRole.setFld.updPair

theorem State.Follows.peerWord {word e : Nat} (h : r.Follows s) : r.Follows (s.peerWord word e) := by
  unfold State.peerWord
  split
  · exact h.takeOver
  · exact .ite h.fenced h
  · exact .ite h (.ite h.swapIn h.updPair)
  · exact h

theorem State.Follows.heartbeat {h' : Heartbeat} (h : r.Follows s) : r.Follows (s.heartbeat h') := by
  unfold State.heartbeat
  extract_lets _ _ _ _ s₁ s₂ s₃
  have h₁ : r.Follows s₁ := .updPair (.setFlag (.setFld (.ite h.setPairLink h)))
  have h₂ : r.Follows s₂ := by
    unfold s₂
    split
    · exact h₁.edgeMarker
    · exact h₁
  have h₃ : r.Follows s₃ := .ite h₂.setFlag h₂
  exact .settlePair (.peerWord (.ite h₃.fenceChoice h₃))

theorem State.Follows.peerLost (h : r.Follows s) : r.Follows s.peerLost := by
  unfold State.peerLost
  refine .ite h ?_
  extract_lets _ _ s₁
  have h₁ : r.Follows s₁ := h.setPairLink.bump.setFld.setFlag.updPair
  exact .settlePair (.ite h₁.takeOver h₁)

theorem State.Follows.pairLane {lane : Nat} {aligned : Bool} (h : r.Follows s) : r.Follows (s.pairLane lane aligned) :=
  .ite h.updPair.setFld.setPairLink.fenceChoice (.ite h.updPair.setFld.setPairLink h.updPair.setFld)

theorem State.Follows.updForward {f : Forward → Forward} (h : r.Follows s) : r.Follows (s.updForward n f) := h.updBureau

theorem State.Follows.peerRecord {words : List Word64} (h : r.Follows s) : r.Follows (s.peerRecord n words) := by
  unfold State.peerRecord
  split
  · exact h.updPair.compareRecords
  · exact .ite h.updPair.updForward.updBureau h

theorem State.Follows.sendHeartbeat (h : r.Follows s) : r.Follows s.sendHeartbeat := .ite h h.emit

theorem State.Follows.txselEdge (h : r.Follows s) : r.Follows s.txselEdge := by
  unfold State.txselEdge; exact .updPair (.ite h.setFld (.ite h.setFld h))

theorem State.Follows.swapEdge (h : r.Follows s) : r.Follows s.swapEdge := by
  unfold State.swapEdge
  split
  · exact h
  · exact .ite h (.ite h.swapIn (.ite h.setRole.setFld.updPair.emit.abortBundles.releaseHeld h))

theorem State.Follows.startForwards (h : r.Follows s) : r.Follows s.startForwards := h.updBureau

theorem State.Follows.sideboardEdge (h : r.Follows s) : r.Follows s.sideboardEdge.2.2 := by
  unfold State.sideboardEdge
  split
  · extract_lets s₀ _ s₁
    have h₀ : r.Follows s₀ := by
      unfold s₀
      split
      · exact h.applyCopy
      · exact h
    have h₁ : r.Follows s₁ := h₀.updPair
    exact .ite h₁.setRole h₁
  · split
    · exact h.sendCopy
    · dsimp only
      exact h.updPair

theorem State.Follows.setCommit (h : r.Follows s) : r.Follows (s.setCommit c) := h.updBureau

theorem State.Follows.failCommit {status detail0 detail1 : Nat} (h : r.Follows s) : r.Follows (s.failCommit c status detail0 detail1) := by
  unfold State.failCommit
  dsimp only
  split
  · split
    · exact h.dropCommit.failStep
    · exact h.dropCommit
  · exact h.dropCommit

theorem State.Follows.namedIsland {map : Nat} (h : r.Follows s) : r.Follows (s.namedIsland map).2 := by
  unfold State.namedIsland
  split
  · exact h
  · exact h.drawn

theorem State.Follows.windowExpired (h : r.Follows s) : r.Follows (s.windowExpired c) :=
  .ite h (.ite h.namedIsland.setFld.raiseAt.leafRestore.unstage.setCommit h.namedIsland.setFld.raiseAt.failCommit)

theorem State.Follows.refuseFull (h : r.Follows s) : r.Follows (s.refuseFull c) := h.raise.failCommit

theorem State.Follows.refuseVersions {count : Nat} {chosen : List Commit} (h : r.Follows s) : r.Follows (s.refuseVersions count chosen) :=
  .ite h (h.foldl fun _ _ h => h.refuseFull)

theorem State.Follows.cutoff (h : r.Follows s) : r.Follows s.cutoff := by
  unfold State.cutoff
  extract_lets _ _ _ s₁ _ s₂
  have h₁ : r.Follows s₁ := (h.updBureau.foldl fun _ _ h => h.failCommit).refuseVersions
  have h₂ : r.Follows s₂ := .ite h₁.copyLate h₁
  exact h₂.beside

theorem State.Follows.retireOldest (h : r.Follows s) : r.Follows s.retireOldest := by
  unfold State.retireOldest; exact (h.beside.foldl fun _ _ h => h.retireBank).setFld.setFld

theorem State.Follows.advanceVersion (h : r.Follows s) : r.Follows s.advanceVersion := by
  unfold State.advanceVersion
  extract_lets s₁
  have h₁ : r.Follows s₁ := h.setFld.setFld
  exact h₁.beside

theorem State.Follows.scheduleRetire {superseded count : Nat} (h : r.Follows s) : r.Follows (s.scheduleRetire superseded count) := by
  unfold State.scheduleRetire; exact h.beside

theorem State.Follows.commitDone (h : r.Follows s) : r.Follows (s.commitDone c) := by
  unfold State.commitDone
  extract_lets _ s₁
  have h₁ : r.Follows s₁.2 := by
    unfold s₁
    split
    · exact h
    · exact h.namedIsland
  split
  · exact .ite h (.ite (.proceed (.setSlot (.ite h₁ h₁.setFld.raiseAt))) h.setSlot.proceed)
  · exact h

theorem State.Follows.applyCommit (h : r.Follows s) : r.Follows (State.applyCommit v s c) := by
  unfold State.applyCommit
  extract_lets _ s₁
  have h₁ : r.Follows s₁ := h.applyWrites.leafRelease.updBureau
  exact .ite h₁ h₁.commitDone

theorem State.Follows.refuseFreeze {chosen : List Commit} (h : r.Follows s) : r.Follows (s.refuseFreeze chosen) :=
  .ite h (h.foldl fun _ _ h => h.failCommit)

theorem State.Follows.refuseForced {chosen : List Commit} (h : r.Follows s) : r.Follows (s.refuseForced chosen) :=
  h.foldl fun _ _ h => .ite h.failCommit h

theorem State.Follows.resendCommit (h : r.Follows s) : r.Follows (s.resendCommit c) := h.setCommit.sendCommit

theorem State.Follows.measureLanes {freqs : List (Fin 512 × Int)} (h : r.Follows s) : r.Follows (s.measureLanes freqs) :=
  h.foldl fun _ _ h => .ite h.setFld.raiseOf.holdLane h.setFld

theorem State.Follows.laneEdge {irregular : Bool} (h : r.Follows s) : r.Follows (s.laneEdge irregular) :=
  (((h.foldl fun _ _ h => .ite h.adapt h).foldl fun _ _ h => h.injectRate).foldl fun _ _ h => h.stfEdge).foldl fun _ _ h => h.thinningEdge

theorem State.Follows.countEdge (h : r.Follows s) : r.Follows s.countEdge := by
  unfold State.countEdge
  extract_lets s₁
  have h₁ : r.Follows s₁ := h.bump
  exact h₁.beside.pairAtEdge

theorem State.Follows.applyEdge {chosen : List Commit} {count : Nat} (h : r.Follows s) : r.Follows (s.applyEdge chosen count) := by
  unfold State.applyEdge
  extract_lets _ _ _ s₁ s₂
  have h₁ : r.Follows s₁ := .foldl (.ite h.advanceVersion h) fun _ _ h => h.applyCommit
  have h₂ : r.Follows s₂ := .ite h₁.scheduleRetire h₁
  exact .ite h₂.leafSwap h₂

theorem State.Follows.settled (h : r.Follows s) : r.Follows s.settled :=
  .refuseVersions (.refuseForced (.refuseFreeze (.ite h.advanceUntil h.advanceUntil.cutoff)))

theorem State.Follows.edge {freqs : List (Fin 512 × Int)} (h : r.Follows s) : r.Follows (s.edge freqs) := by
  unfold State.edge
  extract_lets _ _ _ _ _ _ _ s₁ s₂ s₃ s₄ s₅ s₆ _ s₇ s₈
  have h₁ : r.Follows s₁ := h.settled.fencesPass.countEdge
  have h₂ : r.Follows s₂ := .ite h₁.raise h₁
  have h₃ : r.Follows s₃ := .ite h₂.retireOldest h₂
  have h₆ : r.Follows s₆ := h₃.applyEdge.enterImages.measureLanes.laneEdge.snapEdge.sweepEdge.sprintEdge
  have h₇ : r.Follows s₇ := h₆.sideboardEdge.txselEdge.swapEdge.startForwards.sendHeartbeat
  have h₈ : r.Follows s₈ := h₇.foldl fun _ _ h => h.resendCommit
  exact h₈.setFld

theorem State.Follows.toReset (h : r.Follows s) : r.Follows s.toReset := ⟨h.queue, h.outputs, h.draws, h.fuses, fun _ => rfl⟩

theorem State.Follows.bootCharterCopy {i copy : Nat} (h : r.Follows s) : r.Follows (s.bootCharterCopy i copy).2 := by
  unfold State.bootCharterCopy
  split
  · exact h
  · exact .ite_snd h h.raiseAt

theorem State.Follows.bootCharter {i : Nat} (h : r.Follows s) : r.Follows (s.bootCharter i) := by
  unfold State.bootCharter
  extract_lets _ s₁
  have h₁ : r.Follows s₁.2 := h.bootCharterCopy.bootCharterCopy
  split
  · exact .ite h₁.installCharter h₁.installCharter
  · exact h₁.installCharter
  · exact h₁.installCharter
  · exact h₁

theorem State.Follows.bootImageCopy {copy : Nat} (h : r.Follows s) : r.Follows (s.bootImageCopy n copy).2 := by
  unfold State.bootImageCopy
  split
  · exact h
  · split
    · exact h
    · exact h.setFld.raise

theorem State.Follows.placeImage {copy : Nat} {im : List Byte} (h : r.Follows s) : r.Follows (s.placeImage n copy im) := h.updAuth

theorem State.Follows.bootImage (h : r.Follows s) : r.Follows (s.bootImage n) := by
  unfold State.bootImage
  extract_lets _ s₁
  have h₁ : r.Follows s₁.2 := h.bootImageCopy.bootImageCopy
  split
  · exact .ite h₁.placeImage h₁.placeImage
  · exact h₁.placeImage
  · exact h₁.placeImage
  · exact h₁

theorem State.Follows.bootBlind (h : r.Follows s) : r.Follows s.bootBlind := (h.foldl fun _ _ h => h.setFld).setFlag.raise

theorem State.Follows.bootFlash {readable : Bool} (h : r.Follows s) : r.Follows (s.bootFlash readable) := by
  unfold State.bootFlash
  refine .ite h.bootBlind ?_
  extract_lets _ _ s₂ s₃ s₄
  have h₂ : r.Follows s₂ := .updAuth (.ite h.beside h)
  have h₃ : r.Follows s₃ := h₂.foldl fun _ _ h => h.setFld
  have h₄ : r.Follows s₄ := h₃.foldl fun _ _ h => h.bootCharter
  exact h₄.foldl fun _ _ h => h.bootImage

theorem State.Follows.bootLanes (h : r.Follows s) : r.Follows s.bootLanes := (h.foldl fun _ _ h => h.takeRef).foldl fun _ _ h => h.calibrate

theorem State.Follows.bootCells {bad : List Nat} (h : r.Follows s) : r.Follows (s.bootCells bad) := by
  unfold State.bootCells
  extract_lets _ s₁
  have h₁ : r.Follows s₁ := (h.foldl fun _ _ h => h.setCupboard).foldl fun _ _ h => h.quarantineCell
  exact h₁.beside.foldl fun _ _ h => h.lifeAsk

theorem State.Follows.channelHeader {p : Nat} (h : r.Follows s) : r.Follows (s.channelHeader p) := by
  unfold State.channelHeader
  refine .ite h ?_
  extract_lets _ _ s₁ _ s₂
  have h₁ : r.Follows s₁ := .ite h.updChannel.bump h.updChannel
  have h₂ : r.Follows s₂ := .refreshChannel (.ite h₁.bump h₁)
  exact .ite h₂.receiveFrame h₂

theorem State.Follows.mgmtHeader (h : r.Follows s) : r.Follows (s.mgmtHeader n) := by
  unfold State.mgmtHeader
  refine .ite h ?_
  extract_lets _ s₁
  have h₁ : r.Follows s₁ := h.updStf
  exact .ite h₁.beside h₁

theorem State.Follows.presyncTimeout {mgmt : Bool} (h : r.Follows s) : r.Follows (s.presyncTimeout mgmt n) :=
  .ite (.ite h.updStf h) (.ite h.updChannel.refreshChannel h)

end Sys2Proof.Machine
end

section
/-! PROOFS. Every command answers a next state that follows; so fuses only burn (R101, R109, R487). -/

namespace Sys2Proof.Machine

-- One lemma after another: hundreds at once would each hold a thread with its stack.
set_option Elab.async false

/-- A command completes behind `r`: it answers a next state, and that one follows `r`. -/
def State.Completes (r : State) (o : Host.Outcome State Fault Refusal) : Prop := ∃ t, o = .next t ∧ r.Follows t

variable {r s t : State} {q : OrderQueue} {n : Nat}

theorem State.Completes.next (h : r.Follows t) : r.Completes (.next t) := ⟨t, rfl, h⟩

theorem State.Completes.follows {o : Host.Outcome State Fault Refusal} (h : r.Completes o) (e : o = .next t) : r.Follows t := by
  obtain ⟨t', e', follows⟩ := h
  cases e.symm.trans e'
  exact follows

/-! ### Commands of more than one case -/

theorem State.Follows.execCommit {epoch : Nat} (h : r.Follows s) : r.Completes (execCommit q epoch s) := by
  refine .next (h.order fun _ _ _ h => ?_)
  split
  · exact h.beginCommit
  · exact h

theorem State.Follows.execAbort (h : r.Follows s) : r.Completes (execAbort q s) := by
  refine .next (h.order fun _ _ _ h => ?_)
  split
  · exact h.dropClaims.setSlot.proceed
  · exact h

theorem State.Follows.execLeafSwap {epoch : Nat} (h : r.Follows s) : r.Completes (execLeafSwap q epoch s) := by
  refine .next (h.order fun _ _ _ h => ?_)
  split
  · refine .ite h.setSlot.proceed ?_
    dsimp only
    split
    · exact .ite h.newSet.beginCommit.dropClaims h.newSet.beginCommit.setSlot
    · exact h.newSet.beginCommit
  · exact h.newSet.beginCommit

theorem State.Follows.execSequenceWriteBack {off : Nat} {value : Word32} (h : r.Follows s) :
    r.Completes (execSequenceWriteBack off value s) := by
  refine .next (h.awake fun _ h => ?_)
  split
  · exact .ite h.writeBack h
  · exact h

theorem State.Follows.execLhLowWordRead {off : Nat} {wide : Bool} (h : r.Follows s) : r.Completes (execLhLowWordRead off wide s) := by
  refine .next (h.awake fun _ h => ?_)
  split
  · exact .ite h.pcieRead.emit h
  · exact h

theorem State.Follows.execStoreRead {x : ConsoleRequest} (h : r.Follows s) : r.Completes (execStoreRead x s) := by
  refine .next ?_
  split
  · exact h.readOut
  · exact h.console fun _ h => .ite_snd h h

theorem State.Follows.execCplRead {x : ConsoleRequest} (h : r.Follows s) : r.Completes (execCplRead x s) := by
  refine .next (h.console fun _ h => ?_)
  split
  · exact h
  · exact h.updBureau.startReady

theorem State.Follows.execDustsheetReadOut {x : ConsoleRequest} (h : r.Follows s) : r.Completes (execDustsheetReadOut x s) := by
  refine .next ?_
  split
  · exact h.readOut
  · exact h.console fun _ h => .ite_snd h h

theorem State.Follows.execDustsheet (h : r.Follows s) : r.Completes (execDustsheet s) := by
  refine .next ?_
  split
  · exact h.jtagSelect
  · exact h.jtagSelect.updPower

theorem State.Follows.execSignatureVerified {reads : List (Option (List Byte))} (h : r.Follows s) :
    r.Completes (execSignatureVerified q reads s) := by
  refine .next (h.bureauAct fun _ h => ?_)
  split
  · exact .ite h.verify h
  · exact h

theorem State.Follows.execApplyAfterRelease (h : r.Follows s) : r.Completes (execApplyAfterRelease q s) := by
  refine .next (h.bureauAct fun _ h => ?_)
  split
  · exact .ite h.setSlot h
  · exact h

theorem State.Follows.execCompletionRecordWrite (h : r.Follows s) : r.Completes (execCompletionRecordWrite q s) := by
  refine .next (h.bureauAct fun _ h => ?_)
  split
  · split
    · exact h.complete
    · exact h
  · exact h

theorem State.Follows.execInbandSegment (h : r.Follows s) : r.Completes (execInbandSegment s) := by
  refine .next (h.bureauAct fun _ h => ?_)
  split
  · exact h
  · exact h.updBureau.segment

theorem State.Follows.execWaitEventArrival (h : r.Follows s) : r.Completes (execWaitEventArrival q s) := by
  refine .next (h.bureauAct fun _ h => ?_)
  split
  · split
    · exact h.eventArrived
    · exact h
  · exact h

theorem State.Follows.execWaitEventTimeout (h : r.Follows s) : r.Completes (execWaitEventTimeout q s) := by
  refine .next (h.bureauAct fun _ h => ?_)
  split
  · split
    · exact .ite h.eventArrived (.ite h.setSlot.failStep h.setSlot.proceed)
    · exact h
  · exact h

theorem State.Follows.execAttestSigned (h : r.Follows s) : r.Completes (execAttestSigned q s) := by
  refine .next (h.bureauAct fun _ h => ?_)
  split
  · split
    · refine .ite h ?_
      split
      · next bytes s e =>
          have h := h.signReport.of_pair e
          exact .updAuth (.resume (.raise (.setSlot (.ite h.storeWrite h.emit))))
    · exact h.signNext
  · exact h.signNext

theorem State.Follows.execIslandAck {island : Fin 40} (h : r.Follows s) : r.Completes (execIslandAck q island s) := by
  refine .next (h.awake fun _ h => ?_)
  split
  · exact h
  · refine .ite h ?_
    dsimp only
    split
    · exact .ite h.setCommit.emit h.setCommit
    · exact h.setCommit

theorem State.Follows.execAckWindowExpiry (h : r.Follows s) : r.Completes (execAckWindowExpiry q s) := by
  refine .next (h.bureauAct fun _ h => ?_)
  split
  · exact h.windowExpired
  · exact h

theorem State.Follows.execCellRelease {port : Fin 1024} {cell gen : Nat} {fault : Option CellFault} (h : r.Follows s) :
    r.Completes (execCellRelease port cell gen fault s) := by
  refine .next (h.clocked fun _ h => ?_)
  split
  · exact .ite h.sendCell.settlePort h.otherRelease
  · exact h.otherRelease

theorem State.Follows.execAlignmentMarkerLock {lane : Fin 512} {locked deskewed : Bool} (h : r.Follows s) :
    r.Completes (execAlignmentMarkerLock lane locked deskewed s) := by
  refine .next (h.awake fun _ h => ?_)
  dsimp only
  split
  · exact h.alignmentLock.settlePort
  · exact h.alignmentLock

theorem State.Follows.execPeerRecordTimeout (h : r.Follows s) : r.Completes (execPeerRecordTimeout n s) := by
  refine .next (h.bureauAct fun _ h => ?_)
  split
  · exact h.updPair.compareRecords
  · exact h

theorem State.Follows.execPairRole {active : Bool} (h : r.Follows s) : r.Completes (execPairRole q active s) := by
  refine .next (h.order fun _ _ _ h => .ite h.failStep (.ite h.failStep (.ite ?_ ?_)))
  · exact h.setRole.updPair.settlePair.proceed
  · exact h.setRole.updPair.setFlag.proceed

/-! ### Every command -/

theorem State.Follows.exec (h : r.Follows s) : ∀ c : Instr, r.Completes (exec c s)
  | .nop .. => .next (h.order fun _ _ _ h => h.proceed)
  | .set .. | .tuMap .. | .chanBind .. | .portUp .. | .portDown .. | .laneCfg .. | .recal .. | .testEn .. | .gen .. | .injFire ..
  | .chkClear .. | .qCfg .. | .meterCfg .. | .rsvDecl .. | .pulseSet .. | .freezeOrder .. | .freezeBurn .. | .rollbackTo ..
  | .scrub .. | .leafEn .. | .patEn .. | .tsiXp .. | .source .. | .lockDecl .. => .next (h.order fun _ _ _ h => h.runWrite)
  | .get .. | .stageEnd .. => .next (h.order fun _ _ _ h => h.setSlot.proceed)
  | .check .. => .next (h.order fun _ _ _ h => .ite h.setSlot.failStep h.setSlot.proceed)
  | .waitEpoch .. | .fence .. => .next (h.order fun _ _ _ h => .ite h.proceed h.park)
  | .waitEvent .. => .next (h.order fun _ _ _ h => .ite h.setSlot.proceed h.park)
  | .stageBegin .. => .next (h.order fun _ _ _ h => h.newSet.setSlot.proceed)
  | .commit .. => h.execCommit
  | .abort .. => h.execAbort
  | .tblIns .. | .tblDel .. | .tblMod .. => .next (h.order fun _ _ _ h => h.readErrors.runTable)
  | .tcamWr .. | .parseLoad .. | .patLoad .. => .next (h.order fun _ _ _ h => h.runVersioned)
  | .leafWr .. => .next (h.order fun _ _ _ h => h.runLeaf)
  | .leafSwap .. => h.execLeafSwap
  | .tbStep .. => .next (h.order fun _ _ _ h => .ite h.tbStep.proceed h.tbStep.failStep)
  | .tbRate .. => .next (h.order fun _ _ _ h => h.tbRateSet.proceed)
  | .tbRearm .. => .next (h.order fun _ _ _ h => h.tbRearm.proceed)
  | .snap .. => .next (h.order fun _ _ _ h => h.snapAsk.proceed)
  | .pairRole .. => h.execPairRole
  | .pairSwap .. => .next (h.order fun _ _ _ h => .ite h.failStep (.ite h.failStep h.updPair.proceed))
  | .sprintArm .. => .next (h.order fun _ _ _ h => .ite h.failStep h.askSprint.proceed)
  | .freezePermit .. => .next (h.order fun _ _ _ h => .ite h.failStep h.updPower.proceed)
  | .fwLoad .. => .next (h.order fun _ _ _ h => h.fwLoad.conclude)
  | .keyEnrol .. => .next (h.order fun _ _ _ h => h.keyEnrol.conclude)
  | .keyRevoke .. => .next (h.order fun _ _ _ h => h.keyRevoke.conclude)
  | .charterSet .. => .next (h.order fun _ _ _ h => h.charterSet.conclude)
  | .attest .. => .next (h.order fun _ _ _ h => .ite h.failStep (.ite h.park.updAuth h.park))
  | .ordOqTail .. => .next (h.awake fun _ h => h.oqTail)
  | .ordOqSize .. => .next (h.awake fun _ h => h.oqSetup)
  | .ordOqCplHead .. => .next (h.awake fun _ h => h.oqCplHead)
  | .sequenceWriteBack .. => h.execSequenceWriteBack
  | .devSnapTrig .. | .hostRegisterWrite .. => .next (h.awake fun _ h => h.hostWrite)
  | .hdmaEvrSize .. => .next (h.awake fun _ h => h.evrSize)
  | .hdmaEvrBase .. => .next (h.awake fun _ h => h.evrBase)
  | .hdmaEvrHead .. => .next (h.awake fun _ h => h.evrHead)
  | .hdmaRingTail .. => .next (h.awake fun _ h => h.ringTail)
  | .hdmaRingSize .. => .next (h.awake fun _ h => h.ringSetup)
  | .tblShadowTail .. => .next (h.awake fun _ h => h.shadowTail)
  | .tblShadowSize .. => .next (h.awake fun _ h => h.shadowSetup)
  | .portTsfRd .. => .next (h.awake fun _ h => h.tsfRead)
  | .msixTableWrite .. => .next (h.awake fun _ h => h.msixWrite)
  | .lhLowWordRead .. => h.execLhLowWordRead
  | .unsupportedRequest .. => .next (h.awake fun _ h => h.hostRead)
  | .storeWrite .. => .next (h.console fun _ h => .ite_snd h h.storeWrite)
  | .storeRead .. => h.execStoreRead
  | .submit .. => .next (h.console fun _ h => h.submit.startReady)
  | .cplRead .. => h.execCplRead
  | .regRead .. => .next (h.console fun _ h => .ite_snd h.busError h.readBar)
  | .dustsheetReadOut .. => h.execDustsheetReadOut
  | .bypass | .idcode => .next h.jtagSelect
  | .samplePreload .. => .next h.jtagSelect.updPower
  | .extest .. => .next h.jtagSelect.emit
  | .dustsheet => h.execDustsheet
  | .bundleFetch .. => .next (h.bureauAct fun _ h => h.bundleFetched)
  | .ordFetchTimeout .. => .next (h.bureauAct fun _ h => h.fetchFailed)
  | .signatureVerified .. => h.execSignatureVerified
  | .applyAfterRelease .. => h.execApplyAfterRelease
  | .completionRecordWrite .. => h.execCompletionRecordWrite
  | .journalAppend .. => .next (h.bureauAct fun _ h => .ite h h.journalEnd)
  | .journalRetry .. => .next (h.bureauAct fun _ h => .ite h.journalEnd h)
  | .inbandSegment => h.execInbandSegment
  | .inbandReassemblyTimeout .. => .next (h.bureauAct fun _ h => .ite h.dropReasm h)
  | .waitEventArrival .. => h.execWaitEventArrival
  | .waitEventTimeout .. => h.execWaitEventTimeout
  | .waitEpochResume .. | .fenceRelease .. => .next (h.bureauAct fun _ h => h.resume)
  | .attestSigned .. => h.execAttestSigned
  | .islandAck .. => h.execIslandAck
  | .edgeCutoff => .next (h.bureauAct fun _ h => .ite h h.advanceUntil.cutoff)
  | .ackWindowExpiry .. => h.execAckWindowExpiry
  | .epochEdge .. => .next (h.bureauAct fun _ h => h.edge)
  | .frameReceive .. => .next (h.awake fun _ h => h.advance.ballFrame)
  | .frameIngress .. => .next (h.clocked fun _ h => h.advance.tblErrors.frameIngress)
  | .patternScan .. => .next (h.clocked fun _ h => h.tblErrors.patternScan)
  | .frameDequeue .. => .next (h.clocked fun _ h => h.advance.frameDequeue.settlePort)
  | .cellRelease .. => h.execCellRelease
  | .underrun .. => .next (h.clocked fun _ h => h.underrun.settlePort)
  | .timestampPoint .. => .next (h.awake fun _ h => h.advance.timestampPoint)
  | .pfcFrameReceive .. | .pauseFrameReceive .. => .next (h.awake fun _ h => h.actOnControl)
  | .pauseTimerExpiry .. => .next (h.awake fun _ h => h.loadPause)
  | .pfcFrameSend .. => .next (h.awake fun _ h => .ite h.sendPfc h)
  | .pfcResend .. => .next (h.awake fun _ h => .ite (.ite h.sendPfc h.updPort) h)
  | .fecCodeword .. => .next (h.awake fun _ h => h.fecCodeword)
  | .cupboardRefill .. => .next (h.clocked fun _ h => h.cupboardRefill)
  | .txDescriptor .. => .next (h.clocked fun _ h => h.advance.txDescriptor)
  | .hdmaFetchTimeout .. => .next (h.awake fun _ h => .ite h (.raiseOf (.setFlag (.ite h.updHost h))))
  | .hostRxDelivery .. => .next (h.awake fun _ h => h.rxDeliver)
  | .eventRecordWrite => .next (h.awake fun _ h => h.recordWrite)
  | .holdoffExpiry .. => .next (h.awake fun _ h => h.holdoffEnd)
  | .laneStartingEnd .. => .next (h.awake fun _ h => h.laneStarted)
  | .laneStoppingEnd .. => .next (h.awake fun _ h => h.laneStopped)
  | .refclkLoss .. => .next (h.awake fun _ h => h.refLoss)
  | .backgroundRecal .. => .next (h.awake fun _ h => .ite h.calibrate h)
  | .recalDone .. => .next (h.awake fun _ h => h.recalDone)
  | .checkerSample .. => .next (h.awake fun _ h => h.checkerSample)
  | .sigDetLoss .. => .next (h.awake fun _ h => .ite h h.signalLost.updStf.evalLane)
  | .losClear .. => .next (h.awake fun _ h => .ite h h.signalSeen.updStf.evalLane)
  | .alignmentMarkerLock .. => h.execAlignmentMarkerLock
  | .laneControlWordSlot .. => .next (h.awake fun _ h => .ite h.thinSlot h)
  | .laneControlWordReceive .. => .next (h.awake fun _ h => h.thinReceive)
  | .thinSwitch .. => .next (h.awake fun _ h => h.thinSwitch)
  | .holdWordTimeout .. => .next (h.awake fun _ h => h.updPort)
  | .stfBlockReceive .. => .next (h.awake fun _ h => h.advance.sendDue.receiveBlock)
  | .stfFrameReceive .. => .next (h.awake fun _ h => h.stfFrame)
  | .stfFrameStart .. => .next (h.awake fun _ h => h.advance.sendDue.startFrame)
  | .containerReceive .. => .next (h.awake fun _ h => h.container)
  | .parkedMaskExpiry .. => .next (h.awake fun _ h => .ite h.updStf.evalLane h)
  | .mgmtFrameReceive .. => .next (h.awake fun _ h => h.mgmtHeader)
  | .channelHeaderReceive .. => .next (h.awake fun _ h => h.channelHeader)
  | .presyncTimeout .. => .next (h.awake fun _ h => h.presyncTimeout)
  | .portStartingEnd .. => .next (h.awake fun _ h => h.portStarted)
  | .portDrainExpiry .. => .next (h.awake fun _ h => h.drainExpired)
  | .portStoppingEnd .. => .next (h.awake fun _ h => h.portStopped)
  | .channelStartingEnd .. => .next (h.awake fun _ h => h.chanStarted)
  | .channelStoppingEnd .. => .next (h.awake fun _ h => h.chanStopped)
  | .tsiQuadrantTransitionEnd .. => .next (h.awake fun _ h => h.quadrantEnd)
  | .leafCopyEnd .. => .next (h.awake fun _ h => h.leafCopied)
  | .patternEngineTransitionEnd .. => .next (h.clocked fun _ h => h.engineEnd)
  | .tpoTransitionEnd .. => .next (h.awake fun _ h => h.pulseEnd)
  | .pulseEmit .. => .next (h.awake fun _ h => h.emitPulse)
  | .servoUpdate .. => .next (h.awake fun _ h => h.servoUpdate)
  | .tbStepApply .. => .next (h.awake fun _ h => h.applyStep)
  | .tinEdge .. => .next (h.awake fun _ h => .ite h.advance.tinEdge h.advance)
  | .tinLossTimeout .. => .next (h.awake fun _ h => h.tinLoss)
  | .learnNotice .. => .next (h.clocked fun _ h => h.readErrors.takeNotice)
  | .learnAckTimeout .. => .next (h.awake fun _ h => h.ackTimeout)
  | .ageSweepVisit .. => .next (h.clocked fun _ h => h.readErrors.ageVisit)
  | .shadowSegment .. => .next (h.clocked fun _ h => h.readErrors.shadowSegment)
  | .shadowFinalScan .. => .next (h.clocked fun _ h => h.readErrors.shadowScan)
  | .shadowFetchTimeout => .next (h.awake fun _ h => .ite h.shadowFail.shadowNext h)
  | .heartbeatReceive .. => .next (h.bureauAct fun _ h => h.heartbeat)
  | .heartbeatTimeout => .next (h.bureauAct fun _ h => h.peerLost)
  | .sideboardCopyReceive .. => .next (h.awake fun _ h => .ite h.updPair h)
  | .forwardedBundle .. => .next (h.bureauAct fun _ h => .ite h.updBureau h)
  | .pairReadiness .. => .next (h.bureauAct fun _ h => .ite h.updForward (.ite h.updBureau h.updForward))
  | .peerCompletionRecord .. => .next (h.bureauAct fun _ h => .ite h.peerRecord h)
  | .peerRecordTimeout .. => h.execPeerRecordTimeout
  | .peerFailAsserted .. => .next (h.bureauAct fun _ h => .ite h.setFlag.takeOver h.setFlag)
  | .peerFenceAsserted .. => .next (h.bureauAct fun _ h => .ite h.setFlag.fenced h.setFlag)
  | .txselDeadlineExpiry => .next (h.awake fun _ h => .ite h.setFld.updPair h)
  | .islandPoll .. => .next (h.awake fun _ h => .ite h.updPair.failPins h.updPair)
  | .reset => .next h.toReset
  | .boot .. => .next (h.awake fun _ h => .ite h h.setFlag.bootFlash.setFld.bootLanes.bootCells.setFld)
  | .bootComplete .. => .next (h.awake fun _ h => .ite h h.enterImages.setFld.setFld)
  | .supplyFault => .next (h.awake fun _ h => h.trip.updPower)
  | .tjSample .. => .next (h.awake fun _ h => h.tjSample)
  | .icoreSample .. => .next (h.awake fun _ h => h.icoreSample)
  | .creditExhausted .. => .next (h.clocked fun _ h => .ite h.advance.sprintExit h.advance)
  | .sprintClockStep .. => .next (h.clocked fun _ h => h.advance.clockStep)
  | .freezeNAsserted .. => .next (h.awake fun _ h => .ite h.freeze h.bump.raise)
  | .freezePermitExpiry => .next (h.awake fun _ h => h.updPower)
  | .functionLevelReset => .next (h.awake fun _ h => h.functionReset)
  | .d3hotEntry => .next (h.awake fun _ h => h.updHost)
  | .d0Return => .next (h.awake fun _ h => h.updHost.updHost.foldl fun _ _ h => h.message)
  | .queueStoppingEnd .. => .next (h.clocked fun _ h => h.queueStopped)
  | .cellScrubEnd .. => .next (h.clocked fun _ h => h.scrubEnd)
  | .emptyQueueVisit .. => .next (h.clocked fun _ h => h.visitEmpty)
  | .psiusLaneAlignment .. => .next (h.bureauAct fun _ h => h.pairLane)
  | .linkFaultSignalling .. => .next (h.awake fun _ h => h.linkFaults)
  | .clause73NextPage .. => .next (h.awake fun _ h => .ite h.updPort.showPartner h)

theorem exec_completes (c : Instr) (s : State) : s.Completes (exec c s) := (State.Follows.refl s).exec c

/-- The fuses after a step are those before it, burned further: a step takes the front command from the queue, and runs it. -/
theorem step_burns (e : step s = .next t) : s.otp.BurnsTo t.otp := by
  unfold step at e
  split at e
  · cases e
    exact .refl _
  · next c rest _ => exact ((exec_completes c { s with pending := rest }).follows e).fuses

/-- Settles O5: every command answers a state that follows the one before it. -/
theorem fusesOnlyBurn : Obligations.FusesOnlyBurn := by
  unfold Obligations.FusesOnlyBurn
  intro s t
  exact step_burns

end Sys2Proof.Machine
end

section
/-! PROOFS. Thinning: lane-control words and how they leave, the word slots of a port, received words, width switches and holds
(R147 to R152). -/

namespace Sys2Proof.Machine

/-! ### Lane-control words are read back (R147) -/

theorem crcBitMsb_lt {w poly : Nat} (h : poly < 2 ^ w) (c : Nat) (b : Bool) : crcBitMsb w poly c b < 2 ^ w := by
  have shifted : c * 2 % 2 ^ w < 2 ^ w := Nat.mod_lt _ (by positivity)
  unfold crcBitMsb
  dsimp only
  split
  · exact Nat.xor_lt_two_pow shifted h
  · exact shifted

/-- A code fits its width. -/
theorem crcMsb_lt {w poly init : Nat} (hp : poly < 2 ^ w) (hi : init < 2 ^ w) (n x : Nat) : crcMsb w poly init n x < 2 ^ w :=
  List.foldlRecOn (motive := (· < 2 ^ w)) (bitsMsb n x) (crcBitMsb w poly) hi fun c _ b _ => crcBitMsb_lt hp c b

theorem thinCheck_lt (w : Nat) : thinCheck w < 32 := crcMsb_lt (w := 5) (by decide) (by decide) 19 _

/-- CHECK does not cover its own bits. -/
theorem thinCheck_add_low (w : Nat) {c : Nat} (low : c < 32) : thinCheck (32 * w + c) = thinCheck (32 * w) := by
  rw [thinCheck, thinCheck, Nat.shiftRight_eq_div_pow, Nat.shiftRight_eq_div_pow]
  congr 1
  omega

/-- What a lane-control word holds above CHECK, in its bits [23:5]. -/
def thinBody (kind width park count : Nat) : Nat := count + park * 2 ^ 10 + width * 2 ^ 13 + kind * 2 ^ 15

/-- The fields of a lane-control word, CHECK first. -/
def thinParts (kind width park count : Nat) : List WordPart :=
  [⟨4, 0, thinCheck (32 * thinBody kind width park count)⟩, ⟨14, 5, count⟩, ⟨17, 15, park⟩, ⟨19, 18, width⟩, ⟨23, 20, kind⟩]

section
variable {kind width park count : Nat} (hk : kind ≤ 3) (hw : width < 4) (hp : park < 8) (hc : count < 1024)
include hw hp hc

theorem thinWordOf_eq : thinWordOf kind width park count =
    32 * thinBody kind width park count + thinCheck (32 * thinBody kind width park count) := by
  have body : kind <<< 20 + (width % 4) <<< 18 + (park % 8) <<< 15 + (count % 1024) <<< 5 = 32 * thinBody kind width park count := by
    simp only [thinBody, Nat.shiftLeft_eq, Nat.mod_eq_of_lt, hw, hp, hc]
    omega
  rw [thinWordOf, body]

/-- CHECK of a lane-control word is the code of the whole word. -/
theorem thinCheck_thinWordOf :
    thinCheck (thinWordOf kind width park count) = thinCheck (32 * thinBody kind width park count) := by
  rw [thinWordOf_eq hw hp hc, thinCheck_add_low _ (thinCheck_lt _)]

theorem thinWordOf_eq_packed : thinWordOf kind width park count = packed (thinParts kind width park count) := by
  simp only [thinWordOf_eq hw hp hc, thinParts, packed_cons, packed_nil, thinBody]
  omega

include hk

theorem thinWordOf_lt : thinWordOf kind width park count < 2 ^ 24 := by
  have check := thinCheck_lt (32 * thinBody kind width park count)
  have body : thinBody kind width park count < 2 ^ 19 := by
    unfold thinBody
    omega
  rw [thinWordOf_eq hw hp hc]
  omega

theorem thinParts_fit : PartsFit (thinParts kind width park count) := by
  refine ⟨by simp [thinParts], ?_⟩
  have check := thinCheck_lt (32 * thinBody kind width park count)
  simp [thinParts, WordPart.Fits]
  omega

/-- A field of a lane-control word reads as what it holds. -/
theorem bits_thinWordOf {hi lo v : Nat} (h : ⟨hi, lo, v⟩ ∈ thinParts kind width park count) :
    bits (thinWordOf kind width park count) hi lo = v := by
  rw [thinWordOf_eq_packed hw hp hc]
  exact bits_packed_of_mem (thinParts_fit hk hw hp hc) h

/-- A lane-control word has 24 bits and a right CHECK, and gives back its fields. -/
theorem thinWordOf_fields :
    let w := thinWordOf kind width park count
    w < 2 ^ 24 ∧ bits w 4 0 = thinCheck w ∧ bits w 23 20 = kind ∧ bits w 19 18 = width ∧ bits w 17 15 = park ∧ bits w 14 5 = count := by
  have field {hi lo v : Nat} := bits_thinWordOf (hi := hi) (lo := lo) (v := v) hk hw hp hc
  intro w
  refine ⟨thinWordOf_lt hk hw hp hc, ?_, field ?_, field ?_, field ?_, field ?_⟩
  · rw [thinCheck_thinWordOf hw hp hc]
    exact field (by simp [thinParts])
  all_goals simp [thinParts]

end

/-! ### A word leaves (R148, R152) -/

/-- The registers that a counter writes are none of the status registers of ports. -/
theorem portStat_apart (p m i : Nat) : R.PORT_STAT.addr m ≠ R.PORT_CTR.addr (p * 64 + i) ∧
    R.PORT_STAT.addr m ≠ R.PORT_CTR_HALF.addr p ∧ R.PORT_STAT.addr m ≠ R.PORT_EVT.addr p := by
  simp only [RegSpec.addr, R.PORT_STAT, R.PORT_CTR, R.PORT_CTR_HALF, R.PORT_EVT]
  omega

theorem State.portMode_portCount (s : State) (p i k m : Nat) : (s.portCount p i k).portMode m = s.portMode m := by
  obtain ⟨counter, half, event⟩ := portStat_apart p m i
  have counted : (s.bump R.PORT_CTR_COUNT (p * 64 + i) k).fld R.PORT_STAT_MODE m = s.fld R.PORT_STAT_MODE m :=
    State.fld_setFld_other _ _ _ _ _ _ counter
  unfold State.portCount State.halfReached State.portMode
  split
  · exact (State.fld_raiseAt_other (f := R.PORT_EVT_CTR_HALF) rfl event _ _).trans
      ((State.fld_setFld_other _ _ _ _ _ _ half).trans counted)
  · exact counted

section
variable {s : State} {p : Nat}

theorem State.sendThin_ethernet (ethernet : s.portMode p ≠ 1) (w : Nat) :
    s.sendThin p w = (s.portCount p 58 1).emit (.pcsBlock p 2 (thinBlock w)) := by
  have mode : (s.portCount p 58 1).portMode p ≠ 1 := by rwa [State.portMode_portCount]
  simp only [State.sendThin, ethernet, mode, decide_false, Bool.false_and, Bool.false_eq_true, if_false]

theorem State.sendThin_stf (stf : s.portMode p = 1) (w : Nat) : ((s.sendThin p w).port p).thinWord = w := by
  have mode : (s.portCount p 58 1).portMode p = 1 := by rwa [State.portMode_portCount]
  unfold State.sendThin
  dsimp only
  rw [if_pos (by split <;> assumption), State.port_updPort_same]

/-! ### The word slots of a port (R148, R151) -/

theorem State.rxHolds_of_no_peer (alone : (s.port p).peer = none) : s.rxHolds p = false := by
  rw [State.rxHolds, alone]

theorem State.thinSlot_hold {r : ThinRun} (peer : (s.port p).peer = some r) (holds : s.rxHolds p = true) :
    s.thinSlot p = s.sendThin p (thinWordOf 3 r.width 0 0) := by
  rw [State.thinSlot, if_pos holds, peer]

theorem State.thinSlot_of_no_own (free : s.rxHolds p = false) (own : (s.port p).own = none) : s.thinSlot p = s := by
  rw [State.thinSlot, if_neg (by simp [free]), own]

/-- A word of an own announcement leaves, with a COUNT. -/
def State.sendRun (s : State) (p : Nat) (r : ThinRun) (count : Nat) : State :=
  s.sendThin p (thinWordOf (if r.widen then 2 else 1) r.width r.park count)

/-- An own announcement begins: a widening wakes its transmitters, and the first word leaves. -/
def State.beginRun (s : State) (p : Nat) (r : ThinRun) : State :=
  let t := if r.widen then (s.lanesBetween p (s.txWidth p) r.width).foldl State.wakeTx s else s
  (t.updPort p (fun q => { q with own := some { r with begun := true } })).sendRun p r r.count

/-- An own announcement counts down: its next word leaves. -/
def State.nextRun (s : State) (p : Nat) (r : ThinRun) : State :=
  (s.updPort p (fun q => { q with own := some { r with count := r.count - 1, closed := r.count == 1 } })).sendRun p r (r.count - 1)

/-- Without a hold word to send, a slot goes by how far the own announcement has come. -/
theorem State.thinSlot_own {r : ThinRun} (free : s.rxHolds p = false) (own : (s.port p).own = some r) : s.thinSlot p =
    if !r.begun then s.beginRun p r else if s.txHolds p r then s.sendRun p r r.count else if r.closed then s else s.nextRun p r := by
  rw [State.thinSlot, if_neg (by simp [free]), own]
  rfl

/-! ### Received words (R149, R151) -/

variable {w : Nat}

theorem State.thinReceive_ignored (h : bits w 4 0 ≠ thinCheck w ∨ s.portLife p ≠ .on) : s.thinReceive p w = s :=
  if_pos (by simpa using h)

theorem State.thinReceive_hold {r : ThinRun} (check : bits w 4 0 = thinCheck w) (on : s.portLife p = .on) (kind : bits w 23 20 = 3)
    (own : (s.port p).own = some r) (widen : r.widen = true) (width : r.width = bits w 19 18) :
    s.thinReceive p w = s.updPort p (fun q => { q with held := true }) := by
  refine (if_neg (by simp [check, on])).trans ((if_pos kind).trans ?_)
  rw [own]
  exact if_pos (by simp [widen, width])

/-- A port notes an announcement of its partner; a new one to widen wakes the receivers. -/
def State.noteAnnouncement (s : State) (p w : Nat) : State :=
  let widen := bits w 23 20 == 2
  let width := bits w 19 18
  let known := (s.port p).peer.any (fun r => r.widen && r.width == width)
  let t := if widen && !known then (s.lanesBetween p (s.port p).rxWidth width).foldl State.wakeRx s else s
  t.updPort p (fun q => { q with peer := some ⟨widen, width, bits w 17 15, bits w 14 5, true, bits w 14 5 == 0⟩ })

theorem State.thinReceive_announcement (check : bits w 4 0 = thinCheck w) (on : s.portLife p = .on)
    (kind : bits w 23 20 = 1 ∨ bits w 23 20 = 2) : s.thinReceive p w = s.noteAnnouncement p w := by
  refine (if_neg (by simp [check, on])).trans ((if_neg ?_).trans ((if_pos ?_).trans rfl))
  · omega
  · simpa using kind

/-! ### Width switches (R148, R149, R152) -/

theorem State.parkFrames_ethernet (ethernet : s.portMode p ≠ 1) : s.parkFrames p = s := by
  unfold State.parkFrames
  split
  · rfl
  · exact if_pos (by simp [ethernet])

theorem State.thinSwitch_of_not_on (off : s.portLife p ≠ .on) (received : Bool) : s.thinSwitch p received = s :=
  if_pos (by simpa using off)

variable (on : s.portLife p = .on)
include on

theorem State.thinSwitch_own : s.thinSwitch p false = ((s.parkFrames p).ownSwitch p).widenUsed p :=
  (if_neg (by simp [on])).trans (if_neg Bool.false_ne_true)

theorem State.thinSwitch_of_no_peer (alone : (s.port p).peer = none) : s.thinSwitch p true = s :=
  (if_neg (by simp [on])).trans ((if_pos rfl).trans (if_pos (by simp [alone])))

theorem State.thinSwitch_ethernet (after : (s.peerSwitch p).portMode p ≠ 1) (peer : (s.port p).peer ≠ none) :
    s.thinSwitch p true = s.peerSwitch p := by
  refine (if_neg (by simp [on])).trans ((if_pos rfl).trans ((if_neg ?_).trans (if_neg after)))
  simpa using peer

end

/-! ### The commands of thinning (R148, R149, R151) -/

theorem State.port_updPort_other (s : State) {p k : Nat} (f : Port → Port) (h : k ≠ p) : (s.updPort p f).port k = s.port k :=
  SMap.get_upd_other _ _ _ h

section
variable {s : State} {p : Fin 512} (acts : s.Acts)
include acts

theorem exec_laneControlWordSlot : exec (.laneControlWordSlot p) s =
    .next (if s.portLife p.val == .on then s.thinSlot p.val else s) := by
  change execLaneControlWordSlot p s = _
  rw [execLaneControlWordSlot, State.awake_of_acts acts]

theorem exec_laneControlWordReceive (word : BitVec 24) :
    exec (.laneControlWordReceive p word) s = .next (s.thinReceive p.val word.toNat) := by
  change execLaneControlWordReceive p word s = _
  rw [execLaneControlWordReceive, State.awake_of_acts acts]

theorem exec_thinSwitch (received : Bool) : exec (.thinSwitch p received) s = .next (s.thinSwitch p.val received) := by
  change execThinSwitch p received s = _
  rw [execThinSwitch, State.awake_of_acts acts]

theorem exec_holdWordTimeout :
    exec (.holdWordTimeout p) s = .next (s.updPort p.val (fun q => { q with held := false })) := by
  change execHoldWordTimeout p s = _
  rw [execHoldWordTimeout, State.awake_of_acts acts]

end

/-- Settles O49: what a word slot, a received word, a boundary and the end of a hold do at a port, and how a word is made and leaves. -/
theorem thinningCommands : Obligations.ThinningCommands := by
  refine ⟨fun s p acts on => ?_, fun s p word => ⟨fun ethernet => State.sendThin_ethernet ethernet word,
    fun stf => State.sendThin_stf stf word⟩, fun s p acts off => ⟨fun received => ?_, ?_, fun word => ?_⟩, fun s p acts => ?_, fun kind width park count _ hk hw hp hc => ?_⟩
  · have slot {t : State} (h : s.thinSlot p.val = t) : exec (.laneControlWordSlot p) s = .next t := by
      rw [exec_laneControlWordSlot acts, if_pos (by simp [on]), h]
    have receive {word : BitVec 24} {t : State} (h : s.thinReceive p.val word.toNat = t) :
        exec (.laneControlWordReceive p word) s = .next t := by
      rw [exec_laneControlWordReceive acts, h]
    have switch {received : Bool} {t : State} (h : s.thinSwitch p.val received = t) : exec (.thinSwitch p received) s = .next t := by
      rw [exec_thinSwitch acts, h]
    refine ⟨fun peer own => slot (State.thinSlot_of_no_own (State.rxHolds_of_no_peer peer) own),
      fun r peer holds => slot (State.thinSlot_hold peer holds), fun r free own => ?_,
      fun word wrong => receive (State.thinReceive_ignored (.inl wrong)),
      fun word check kind => receive (State.thinReceive_announcement check on kind),
      fun word r check kind own widen width => receive (State.thinReceive_hold check on kind own widen width),
      switch (State.thinSwitch_own on), State.parkFrames_ethernet,
      fun ethernet kept peer => switch (State.thinSwitch_ethernet on (kept ▸ ethernet) peer),
      fun alone => switch (State.thinSwitch_of_no_peer on alone)⟩
    have sends := State.thinSlot_own free own
    have goesOn (begun : r.begun = true) := sends.trans (if_neg (by simp [begun]))
    have countsDown (begun : r.begun = true) (free : s.txHolds p.val r = false) := (goesOn begun).trans (if_neg (by simp [free]))
    exact ⟨fun fresh => slot (sends.trans (if_pos (by simp [fresh]))),
      fun begun holds => slot ((goesOn begun).trans (if_pos holds)),
      fun begun free closed => slot ((countsDown begun free).trans (if_pos closed)),
      fun begun free more => slot ((countsDown begun free).trans (if_neg (by simp [more])))⟩
  · rw [exec_thinSwitch acts, State.thinSwitch_of_not_on off]
  · rw [exec_laneControlWordSlot acts, if_neg (by simpa using off)]
  · rw [exec_laneControlWordReceive acts, State.thinReceive_ignored (.inr off)]
  · exact ⟨_, exec_holdWordTimeout acts, State.port_updPort_same s p.val _, fun k other => State.port_updPort_other s _ other, rfl⟩
  · exact thinWordOf_fields hk hw hp hc

end Sys2Proof.Machine
end

section
/-! PROOFS. What counters and events leave alone (R181, R182, R445), the receive MAC (R162 to R166, R371) and loopbacks (R140). -/

namespace Sys2Proof.Machine

/-! ### What counters and events leave alone (R181, R182, R445) -/

/-- Nothing but registers differs and what a raised event leaves: RSEQ, its record, the notes of the epoch and of waiting bundles. -/
def OnlyReports (s t : State) : Prop :=
  t = { s with regs := t.regs, rseq := t.rseq, evq := t.evq, bureau := t.bureau, epoch := t.epoch }

section
variable {s t u : State}

theorem OnlyReports.trans (h : OnlyReports s t) (g : OnlyReports t u) : OnlyReports s u := by
  rw [OnlyReports, g, h]

theorem OnlyReports.port (h : OnlyReports s t) (p : Nat) : t.port p = s.port p := by
  rw [h]
  rfl

theorem OnlyReports.lane (h : OnlyReports s t) (n : Nat) : t.lane n = s.lane n := by
  rw [h]
  rfl

theorem OnlyReports.channel (h : OnlyReports s t) (p : Nat) : t.channel p = s.channel p := by
  rw [h]
  rfl

theorem OnlyReports.out (h : OnlyReports s t) : t.out = s.out := by
  rw [h]

end

theorem State.onlyReports_with (s : State) (regs : SMap Word64) (rseq : Nat) (evq : List EventRec) (bureau : Bureau) (epoch : Epoch) :
    OnlyReports s { s with regs := regs, rseq := rseq, evq := evq, bureau := bureau, epoch := epoch } := rfl

theorem State.onlyReports_setReg (s : State) (r : RegSpec) (n v : Nat) : OnlyReports s (s.setReg r n v) := rfl

theorem State.onlyReports_setFld (s : State) (f : Fld) (n v : Nat) : OnlyReports s (s.setFld f n v) := s.onlyReports_setReg ..

theorem State.onlyReports_raiseAt (s : State) (e : EvSpec) (n unit : Nat) (data : List Nat) :
    OnlyReports s (s.raiseAt e n unit data) := by
  have marked : OnlyReports s (s.markEvent e n) := by
    unfold State.markEvent
    split
    · rfl
    · exact s.onlyReports_setReg ..
  unfold State.raiseAt
  exact marked.trans (State.onlyReports_with ..)

theorem State.onlyReports_raiseOnce (s : State) (e : EvSpec) (n unit key : Nat) (data : List Nat) :
    OnlyReports s (s.raiseOnce e n unit key data) := by
  unfold State.raiseOnce
  split
  · rfl
  · exact (s.onlyReports_raiseAt e n unit data).trans rfl

theorem State.onlyReports_portCount (s : State) (p i k : Nat) : OnlyReports s (s.portCount p i k) := by
  have counted := s.onlyReports_setFld R.PORT_CTR_COUNT (p * 64 + i) (s.fld R.PORT_CTR_COUNT (p * 64 + i) + k)
  unfold State.portCount State.halfReached
  split
  · exact counted.trans (OnlyReports.trans (State.onlyReports_setFld ..) (State.onlyReports_raiseAt ..))
  · exact counted

@[simp] theorem State.port_portCount (s : State) (p i k q : Nat) : (s.portCount p i k).port q = s.port q :=
  (s.onlyReports_portCount p i k).port q

/-- Counting writes the counter, and at half range HALF and the event's register; it leaves every other register. -/
theorem State.fld_portCount_other (s : State) {p i m : Nat} (k : Nat) {g : Fld} (counter : g.reg.addr m ≠ R.PORT_CTR.addr (p * 64 + i))
    (half : g.reg.addr m ≠ R.PORT_CTR_HALF.addr p) (event : g.reg.addr m ≠ R.PORT_EVT.addr p) :
    (s.portCount p i k).fld g m = s.fld g m := by
  have counted : (s.bump R.PORT_CTR_COUNT (p * 64 + i) k).fld g m = s.fld g m := State.fld_setFld_other _ _ _ _ _ _ counter
  unfold State.portCount State.halfReached
  split
  · exact (State.fld_raiseAt_other (f := R.PORT_EVT_CTR_HALF) rfl event _ _).trans ((State.fld_setFld_other _ _ _ _ _ _ half).trans counted)
  · exact counted

theorem State.maxFrame_portCount (s : State) (p i k m : Nat) :
    (s.portCount p i k).fld R.PORT_CFG_MAX_FRAME m = s.fld R.PORT_CFG_MAX_FRAME m := by
  apply s.fld_portCount_other k <;>
    (simp only [RegSpec.addr, R.PORT_CFG_MAX_FRAME, R.PORT_CFG, R.PORT_CTR, R.PORT_CTR_HALF, R.PORT_EVT]; omega)

/-! ### The input store of a port (R371) -/

/-- A frame that arrives is counted at its arbiter, which leaves the ports. -/
theorem State.port_arrive (s : State) (pl p : Nat) : (s.arrive pl).port p = s.port p := rfl

section
variable {s : State} {p : Nat} (f : Stored)

theorem State.input_store_room (room : (s.port p).input.length < 64) : ((s.store p f).port p).input = (s.port p).input ++ [f] := by
  have short : ¬ 64 ≤ ((s.arrive (s.pipeOf p)).port p).input.length := Nat.not_le.mpr room
  rw [State.store, if_neg short, State.port_updPort_same, State.port_arrive]

theorem State.input_store_full (full : 64 ≤ (s.port p).input.length) : ((s.store p f).port p).input = (s.port p).input := by
  have long : 64 ≤ ((s.arrive (s.pipeOf p)).port p).input.length := full
  rw [State.store, if_pos long, (State.onlyReports_raiseOnce ..).port, State.tmCount, State.bump, State.port_setFld, State.port_arrive]

end

/-! ### MAC control frames (R166) -/

/-- A MAC control frame waits in its port to be acted on. -/
def State.keepControl (s : State) (p : Nat) (c : Control) : State := s.updPort p (fun q => { q with control := q.control ++ [c] })

section
variable {s : State} {p : Nat} {bs : List Byte}

theorem State.controlFrame_pause (op : be16At bs (typeOffset bs + 2) = 0x0001) :
    s.controlFrame p bs = (s.portCount p 15 1).keepControl p (.pause (be16At bs (typeOffset bs + 4))) := by
  rw [State.controlFrame, op]
  rfl

theorem State.controlFrame_pfc (op : be16At bs (typeOffset bs + 2) = 0x0101) : s.controlFrame p bs =
    if beNat (bs.take 6) = 0x0180C2000001 then (s.portCount p 16 1).keepControl p (.pfc (be16At bs (typeOffset bs + 4))
      ((List.range 8).map (fun i => be16At bs (typeOffset bs + 6 + 2 * i)))) else s.portCount p 16 1 := by
  rw [State.controlFrame, op]
  rfl

theorem State.controlFrame_other (pause : be16At bs (typeOffset bs + 2) ≠ 0x0001) (pfc : be16At bs (typeOffset bs + 2) ≠ 0x0101) :
    s.controlFrame p bs = s.portCount p 17 1 := by
  unfold State.controlFrame
  dsimp only
  split
  · contradiction
  · contradiction
  · rfl

end

/-! ### What the receive MAC counts (R162, R181) -/

/-- Bad blocks within a frame of an Ethernet port are counted. -/
def State.blocksCounted (s : State) (p badBlocks : Nat) : State :=
  if badBlocks = 0 ∨ isChannel p = true then s else s.portCount p 30 badBlocks

/-- A frame of `n` bytes is counted before it is checked: bad blocks, and its bytes up to one beyond MAX_FRAME. -/
def State.frameSeen (s : State) (p n badBlocks : Nat) : State :=
  (s.blocksCounted p badBlocks).portCount p 11 (min n (s.fld R.PORT_CFG_MAX_FRAME p + 1))

/-- A good frame of `n` bytes is counted. -/
def State.frameGood (s : State) (p n : Nat) : State := (s.portCount p (sizeBucket n) 1).portCount p 10 n

/-- A good data frame is counted by its destination, and for a length that its data does not have. -/
def State.frameKnown (s : State) (p : Nat) (bs : List Byte) : State :=
  let known := s.portCount p (12 + min 2 (addressKind bs)) 1
  if lengthWrong bs = true then known.portCount p 25 1 else known

theorem State.port_blocksCounted (s : State) (p bad q : Nat) : (s.blocksCounted p bad).port q = s.port q := by
  unfold State.blocksCounted
  split
  · rfl
  · exact s.port_portCount ..

theorem State.port_frameSeen (s : State) (p n bad q : Nat) : (s.frameSeen p n bad).port q = s.port q :=
  (State.port_portCount ..).trans (s.port_blocksCounted p bad q)

theorem State.maxFrame_blocksCounted (s : State) (p bad m : Nat) :
    (s.blocksCounted p bad).fld R.PORT_CFG_MAX_FRAME m = s.fld R.PORT_CFG_MAX_FRAME m := by
  unfold State.blocksCounted
  split
  · rfl
  · exact s.maxFrame_portCount ..

theorem addressKind_le (bs : List Byte) : addressKind bs ≤ 2 := by
  unfold addressKind
  split
  · exact le_refl 2
  · split <;> decide

/-! ### A frame at the receive MAC (R162 to R166) -/

section
variable {s : State} {p bad : Nat} {bs : List Byte} {codeError truncated : Bool}

theorem State.receiveFrame_of_not_receives (deaf : s.receives p = false) : s.receiveFrame p bs codeError truncated bad = s :=
  if_pos (by simp [deaf])

/-- The end of a frame that fails a check, by what of it is in the buffer. -/
def State.frameFailed (s : State) (p : Nat) : Option Arriving → State
  | some a => s.failFrame p a
  | none => s

/-- A good data frame goes on, by what of it is in the buffer. -/
def State.frameKept (s : State) (p : Nat) (bs : List Byte) : Option Arriving → State
  | some a => s.finishFrame p a bs
  | none => s.store p (s.stamped p bs)

/-- What the receive MAC does with a frame that it takes, by the verdict of its checks. -/
def State.frameJudged (s : State) (p : Nat) (bs : List Byte) (arriving : Option Arriving) : Option Nat → State
  | some i => (s.portCount p i 1).frameFailed p arriving
  | none =>
    let good := s.frameGood p bs.length
    if arriving.isNone && be16At bs (typeOffset bs) == 0x8808 then good.controlFrame p bs
    else (good.frameKnown p bs).frameKept p bs arriving

theorem State.receiveFrame_taken (takes : s.receives p = true) : s.receiveFrame p bs codeError truncated bad =
    (s.frameSeen p bs.length bad).frameJudged p bs (s.port p).arriving
      (rxFailure bs (s.fld R.PORT_CFG_MAX_FRAME p) codeError truncated) := by
  have blocks : (if (bad = 0 || isChannel p) then s else s.portCount p 30 bad) = s.blocksCounted p bad := by
    simp only [State.blocksCounted, Bool.or_eq_true, decide_eq_true_eq]
  rw [State.receiveFrame, if_neg (by simp [takes])]
  simp only [blocks, State.maxFrame_blocksCounted, State.port_portCount, State.port_blocksCounted]
  cases rxFailure bs (s.fld R.PORT_CFG_MAX_FRAME p) codeError truncated with
  | some i => cases (s.port p).arriving <;> rfl
  | none =>
    have kind : addressKind bs = 0 ∨ addressKind bs = 1 ∨ addressKind bs = 2 := by
      have := addressKind_le bs
      omega
    rcases kind with kind | kind | kind <;> simp only [State.frameJudged, State.frameKnown, kind] <;>
      cases (s.port p).arriving <;> rfl


variable (takes : s.receives p = true)
include takes

theorem State.receiveFrame_failed {i : Nat} (fails : rxFailure bs (s.fld R.PORT_CFG_MAX_FRAME p) codeError truncated = some i) :
    s.receiveFrame p bs codeError truncated bad =
      ((s.frameSeen p bs.length bad).portCount p i 1).frameFailed p (s.port p).arriving := by
  rw [State.receiveFrame_taken takes, fails]
  rfl

variable (good : rxFailure bs (s.fld R.PORT_CFG_MAX_FRAME p) codeError truncated = none)
include good

theorem State.receiveFrame_arriving {a : Arriving} (arriving : (s.port p).arriving = some a) :
    s.receiveFrame p bs codeError truncated bad =
      (((s.frameSeen p bs.length bad).frameGood p bs.length).frameKnown p bs).finishFrame p a bs := by
  rw [State.receiveFrame_taken takes, good, arriving]
  rfl

theorem State.receiveFrame_data (whole : (s.port p).arriving = none) (data : be16At bs (typeOffset bs) ≠ 0x8808) :
    let counted := ((s.frameSeen p bs.length bad).frameGood p bs.length).frameKnown p bs
    s.receiveFrame p bs codeError truncated bad = counted.store p (counted.stamped p bs) := by
  rw [State.receiveFrame_taken takes, good, whole]
  exact if_neg (by simp [data])

theorem State.receiveFrame_control (whole : (s.port p).arriving = none) (control : be16At bs (typeOffset bs) = 0x8808) :
    s.receiveFrame p bs codeError truncated bad = ((s.frameSeen p bs.length bad).frameGood p bs.length).controlFrame p bs := by
  rw [State.receiveFrame_taken takes, good, whole]
  exact if_pos (by simp [control])

end

/-! ### Frames on the balls of a port (R140) -/

section
variable {s : State} {p bad : Nat} {bs : List Byte} {codeError truncated : Bool}

theorem exec_frameReceive {port : Fin 1024} {time : Nat} (acts : s.Acts) :
    exec (.frameReceive port bs codeError truncated bad time) s =
      .next ((s.advance time).ballFrame port.val bs codeError truncated bad) := by
  change execFrameReceive port bs codeError truncated bad time s = _
  rw [execFrameReceive, State.awake_of_acts acts]

theorem State.ballFrame_plain (near : s.portNearLoop p = false) (far : s.portFarLoop p = false) :
    s.ballFrame p bs codeError truncated bad = s.receiveFrame p bs codeError truncated bad := by
  simp only [State.ballFrame, near, far, Bool.false_eq_true, if_false]

theorem State.ballFrame_far (near : s.portNearLoop p = false) (far : s.portFarLoop p = true) :
    s.ballFrame p bs codeError truncated bad =
      (s.emit (.frame p (lineBytes bs))).receiveFrame p bs codeError truncated bad := by
  simp only [State.ballFrame, near, far, Bool.false_eq_true, if_false, if_true]

theorem State.ballFrame_near_empty (near : s.portNearLoop p = true) (sent : (s.port p).looped = []) :
    s.ballFrame p bs codeError truncated bad = s := by
  simp only [State.ballFrame, near, sent, if_true]

theorem State.ballFrame_near {own : List Byte} {rest : List (List Byte)} (near : s.portNearLoop p = true)
    (sent : (s.port p).looped = own :: rest) : s.ballFrame p bs codeError truncated bad =
      (s.updPort p (fun q => { q with looped := rest })).receiveFrame p own codeError truncated bad := by
  simp only [State.ballFrame, near, sent, if_true]

end

/-- Settles O41: the receive MAC goes by what it takes and by the verdict of its checks, a loopback decides whose frame it gets, and the
input store takes what there is room for. -/
theorem frameReception : Obligations.FrameReception := by
  refine ⟨?_, fun s p f => ⟨State.input_store_room f, State.input_store_full f⟩⟩
  intro s p bytes codeError truncated bad time acts s' plain maxFrame blocks seen control op good known counted c
  have run {t : State} (h : s'.ballFrame p.val bytes codeError truncated bad = t) : exec c s = .next t :=
    (exec_frameReceive acts).trans (by rw [h])
  have received {t : State} (line : plain) (h : s'.receiveFrame p.val bytes codeError truncated bad = t) : exec c s = .next t :=
    run ((State.ballFrame_plain line.1 line.2).trans h)
  refine ⟨fun line deaf => received line (State.receiveFrame_of_not_receives deaf), fun line takes => ⟨fun i fails => ?_, ?_, ?_⟩,
    fun near => ⟨fun sent => run (State.ballFrame_near_empty near sent), fun own rest sent => run (State.ballFrame_near near sent)⟩,
    fun near far => run (State.ballFrame_far near far)⟩
  · have failed := received line (State.receiveFrame_failed takes fails)
    exact ⟨fun whole => by rw [whole] at failed; exact failed, fun a arriving => by rw [arriving] at failed; exact failed⟩
  · exact fun sound a arriving => received line (State.receiveFrame_arriving takes sound arriving)
  · intro sound whole
    have controlled {t : State} (isControl : control) (h : good.controlFrame p.val bytes = t) : exec c s = .next t :=
      received line ((State.receiveFrame_control takes sound whole isControl).trans h)
    refine ⟨fun data => received line (State.receiveFrame_data takes sound whole data),
      fun isControl pause => controlled isControl (State.controlFrame_pause pause),
      fun isControl pfc dest => controlled isControl ((State.controlFrame_pfc pfc).trans (if_pos dest)),
      fun isControl pfc dest => controlled isControl ((State.controlFrame_pfc pfc).trans (if_neg dest)),
      fun isControl pause pfc => controlled isControl (State.controlFrame_other pause pfc)⟩

end Sys2Proof.Machine
end

section
/-! PROOFS. PAUSE and priority flow control, received and sent (R169 to R172), and FEC codewords (R160). -/

namespace Sys2Proof.Machine

/-! ### Pause timers (R169) -/

section
variable (s : State) (p quanta : Nat) {k j : Nat}

/-- The timers of a port once one of them is loaded. -/
theorem State.pause_loadPause : ((State.loadPause p quanta s k).port p).pause = SMap.set 0 (s.port p).pause k quanta := by
  rw [State.loadPause, State.port_updPort_same, State.port_setFld]

/-- PAUSED once a timer of a port is loaded. -/
theorem State.paused_loadPause : (State.loadPause p quanta s k).fld R.PORT_PFC_STAT_PAUSED p =
    withBits (s.fld R.PORT_PFC_STAT_PAUSED p) k k (ofFlag (quanta != 0)) % 2 ^ 8 := by
  rw [State.loadPause, State.fld_updPort]
  exact State.fld_setFld_same s R.PORT_PFC_STAT_PAUSED p _ (by decide)

theorem State.pausedBit_loadPause_same (hk : k < 8) :
    ((State.loadPause p quanta s k).fld R.PORT_PFC_STAT_PAUSED p).testBit k = decide (quanta ≠ 0) := by
  rw [State.paused_loadPause, Nat.testBit_mod_two_pow, withBits_testBit, if_pos ⟨le_refl k, k.lt_succ_self⟩, Nat.sub_self]
  by_cases released : quanta = 0 <;> simp [released, hk, ofFlag]

theorem State.pausedBit_loadPause_other (hj : j < 8) (other : j ≠ k) :
    ((State.loadPause p quanta s k).fld R.PORT_PFC_STAT_PAUSED p).testBit j = (s.fld R.PORT_PFC_STAT_PAUSED p).testBit j := by
  rw [State.paused_loadPause, Nat.testBit_mod_two_pow, withBits_testBit, if_neg (by omega)]
  simp [hj]

end

/-! ### MAC control frames are acted on (R169 to R171) -/

section
variable {s : State} {p quanta enable : Nat} {times : List Nat} {rest : List Control}

theorem State.actOnControl_pause (oldest : (s.port p).control = .pause quanta :: rest) :
    let t := s.updPort p (fun q => { q with control := rest })
    s.actOnControl p false = if !t.flag R.PORT_CFG_PAUSE_RX_EN p then t
      else (List.range 8).foldl (State.loadPause p quanta) (t.countIgnored p (fun _ => true)) := by
  rw [State.actOnControl, oldest]
  rfl

theorem State.actOnControl_pause_waits (oldest : (s.port p).control = .pause quanta :: rest) : s.actOnControl p true = s := by
  rw [State.actOnControl, oldest]
  rfl

theorem State.actOnControl_pfc (oldest : (s.port p).control = .pfc enable times :: rest) :
    let on := onesOf 8 (enable &&& s.fld R.PORT_PFC_RX_EN p)
    s.actOnControl p true = on.foldl (fun s k => s.loadPause p (times.getD k 0) k)
      ((s.updPort p (fun q => { q with control := rest })).countIgnored p (fun k => on.contains k)) := by
  rw [State.actOnControl, oldest]
  rfl

theorem State.actOnControl_pfc_waits (oldest : (s.port p).control = .pfc enable times :: rest) : s.actOnControl p false = s := by
  rw [State.actOnControl, oldest]
  rfl

end

/-! ### Sent PFC frames (R172) -/

theorem beBytes_length (n v : Nat) : (beBytes n v).length = n := by
  simp [beBytes]

theorem leBytes_length (n v : Nat) : (leBytes n v).length = n := by
  simp [leBytes]

/-- A PFC frame has the least size of a frame. -/
theorem State.pfcBytes_length (s : State) (p : Nat) : (s.pfcBytes p).length = 64 := by
  have times (f : Nat → Nat) : ((List.range 8).flatMap (fun k => beBytes 2 (f k))).length = 16 := by
    simp [List.length_flatMap, beBytes_length]
  simp only [State.pfcBytes, List.length_append, beBytes_length, leBytes_length, times, List.length_replicate]

/-- The lanes on which a port sends are those of its registers. -/
theorem State.txLanes_congr {s t : State} {p : Nat} (first : t.firstLane p = s.firstLane p) (lanes : t.portLanes p = s.portLanes p)
    (width : t.fld R.LANE_STAT_WIDTH (s.firstLane p) = s.fld R.LANE_STAT_WIDTH (s.firstLane p)) : t.txLanes p = s.txLanes p := by
  simp only [State.txLanes, State.lanesOf, State.txWidth, first, lanes, width]

/-- Another source than the transmit MAC has a lane on which a port sends, or a lane is out of service (R137, R140). -/
def State.txTaken (s : State) (p : Nat) : Bool :=
  (s.txLanes p).any (fun n => s.fld R.LANE_TEST_GEN_PAT n != 0 || s.fld R.LANE_CFG_LOOPBACK n == 3 || (s.lane n).outOfService)

theorem State.channel_updChannel_same (s : State) (p : Nat) (f : Channel → Channel) : (s.updChannel p f).channel p = f (s.channel p) :=
  SMap.get_upd_same _ _ _ _

/-- A frame of a packet channel waits in its stream behind its header. -/
theorem State.tx_putFrame {s : State} {p : Nat} (bytes : List Byte) (channel : isChannel p = true) :
    ((s.putFrame p bytes).channel p).tx = (s.channel p).tx ++ headerBytes bytes.length ++ bytes := by
  rw [State.putFrame, if_pos channel, State.channel_updChannel_same]

/-- A frame of an Ethernet port that has its lanes leaves on them. -/
theorem State.out_putFrame {s : State} {p : Nat} (bytes : List Byte) (ethernet : isChannel p = false) (free : s.txTaken p = false) :
    (s.putFrame p bytes).out = s.out ++ [.frame p (lineBytes bytes)] := by
  have alike (f : Port → Port) : (s.updPort p f).txTaken p = s.txTaken p := rfl
  have leaves {t : State} (same : t.txTaken p = false) (out : t.out = s.out) :
      (if t.txTaken p then t else t.emit (.frame p (lineBytes bytes))).out = s.out ++ [.frame p (lineBytes bytes)] := by
    rw [same, ← out]
    rfl
  rw [State.putFrame, if_neg (by simp [ethernet])]
  dsimp only
  split
  · exact leaves ((alike _).trans free) rfl
  · exact leaves free rfl

/-- The counters of sent frames lie apart from the settings of lanes. -/
theorem State.laneFld_portCount (s : State) {p i : Nat} (k m : Nat) {g : Fld} (sent : 32 ≤ i ∧ i < 64)
    (lane : g.reg = R.LANE_TEST ∨ g.reg = R.LANE_CFG ∨ g.reg = R.LANE_STAT) : (s.portCount p i k).fld g m = s.fld g m := by
  apply s.fld_portCount_other k <;> rcases lane with h | h | h <;> rw [h] <;>
    (simp only [RegSpec.addr, R.LANE_TEST, R.LANE_CFG, R.LANE_STAT, R.PORT_CTR, R.PORT_CTR_HALF, R.PORT_EVT]; omega)

/-- Counting a sent frame leaves the form of every port. -/
theorem State.portStat_portCount (s : State) {p i k m : Nat} {g : Fld} (port : g.reg = R.PORT_STAT) :
    (s.portCount p i k).fld g m = s.fld g m := by
  obtain ⟨counter, half, event⟩ := portStat_apart p m i
  exact s.fld_portCount_other k (port ▸ counter) (port ▸ half) (port ▸ event)

/-- Counting a sent frame gives no lane of a port away. -/
theorem State.txTaken_portCount (s : State) (p : Nat) {i : Nat} (k : Nat) (sent : 32 ≤ i ∧ i < 64) :
    (s.portCount p i k).txTaken p = s.txTaken p := by
  have lanes : (s.portCount p i k).txLanes p = s.txLanes p := State.txLanes_congr (s.portStat_portCount rfl)
    (congrArg (2 ^ ·) (s.portStat_portCount rfl)) (s.laneFld_portCount k _ sent (.inr (.inr rfl)))
  unfold State.txTaken
  rw [lanes]
  simp only [s.laneFld_portCount k _ sent (g := R.LANE_TEST_GEN_PAT) (.inl rfl),
    s.laneFld_portCount k _ sent (g := R.LANE_CFG_LOOPBACK) (.inr (.inl rfl)), (s.onlyReports_portCount p i k).lane]

/-- A PFC frame that is sent is counted. -/
def State.pfcCounted (s : State) (p : Nat) : State := (((s.portCount p 47 1).portCount p 32 1).portCount p 42 64).portCount p 43 64

theorem State.onlyReports_pfcCounted (s : State) (p : Nat) : OnlyReports s (s.pfcCounted p) :=
  ((s.onlyReports_portCount ..).trans (State.onlyReports_portCount ..)).trans
    ((State.onlyReports_portCount ..).trans (State.onlyReports_portCount ..))

theorem State.txTaken_pfcCounted (s : State) (p : Nat) : (s.pfcCounted p).txTaken p = s.txTaken p := by
  simp [State.pfcCounted, State.txTaken_portCount]

section
variable {s : State} {p : Nat}

theorem State.pfcDue_sendPfc : ((s.sendPfc p).port p).pfcDue = false := by
  rw [State.sendPfc, State.port_updPort_same]

theorem State.tx_sendPfc (channel : isChannel p = true) :
    ((s.sendPfc p).channel p).tx = (s.channel p).tx ++ headerBytes 64 ++ s.pfcBytes p := by
  have put := (s.pfcCounted p).tx_putFrame (s.pfcBytes p) channel
  rw [s.pfcBytes_length, (s.onlyReports_pfcCounted p).channel] at put
  exact put

theorem State.out_sendPfc (ethernet : isChannel p = false) (free : s.txTaken p = false) :
    (s.sendPfc p).out = s.out ++ [.frame p (lineBytes (s.pfcBytes p))] := by
  have put := (s.pfcCounted p).out_putFrame (s.pfcBytes p) ethernet ((s.txTaken_pfcCounted p).trans free)
  rw [(s.onlyReports_pfcCounted p).out] at put
  exact put

end

/-! ### FEC codewords (R160) -/

section
variable {s : State} {p symbols : Nat}

theorem State.fecCodeword_clean (clean : symbols = 0) : s.fecCodeword p symbols = s :=
  if_pos (by simp [clean])

variable (fec : s.flag R.PORT_STAT_FEC p = true) (life : s.portLife p ≠ .off) (errors : symbols ≠ 0)
include fec life errors

theorem State.fecCodeword_errors : s.fecCodeword p symbols =
    if symbols ≤ 15 then (s.portCount p 26 1).portCount p 28 symbols
    else (s.portCount p 27 1).raiseOnce EV_PORT_FEC_UNCORR p p p [] :=
  if_neg (by simp [fec, life, errors])

end

/-! ### The commands of flow control (R160, R169 to R172) -/

section
variable {s : State} (acts : s.Acts)
include acts

section
variable {p : Fin 1024}

theorem exec_pauseFrameReceive : exec (.pauseFrameReceive p) s = .next (s.actOnControl p.val false) := by
  change execPauseFrameReceive p s = _
  rw [execPauseFrameReceive, State.awake_of_acts acts]

theorem exec_pfcFrameReceive : exec (.pfcFrameReceive p) s = .next (s.actOnControl p.val true) := by
  change execPfcFrameReceive p s = _
  rw [execPfcFrameReceive, State.awake_of_acts acts]

theorem exec_pauseTimerExpiry (k : Fin 8) : exec (.pauseTimerExpiry p k) s = .next (s.loadPause p.val 0 k.val) := by
  change execPauseTimerExpiry p k s = _
  rw [execPauseTimerExpiry, State.awake_of_acts acts]

theorem exec_pfcFrameSend : exec (.pfcFrameSend p) s = .next
    (if (s.port p.val).pfcDue && s.flag R.PORT_STAT_LINK_UP p.val && (s.port p.val).sending.isNone then s.sendPfc p.val else s) := by
  change execPfcFrameSend p s = _
  rw [execPfcFrameSend, State.awake_of_acts acts]

theorem exec_pfcResend : exec (.pfcResend p) s = .next
    (if (s.port p.val).resend && s.flag R.PORT_STAT_LINK_UP p.val then
      (if (s.port p.val).sending.isNone then s.sendPfc p.val else s.updPort p.val (fun q => { q with pfcDue := true }))
    else s) := by
  change execPfcResend p s = _
  rw [execPfcResend, State.awake_of_acts acts]

end

theorem exec_fecCodeword {p : Fin 512} (symbols : Nat) : exec (.fecCodeword p symbols) s = .next (s.fecCodeword p.val symbols) := by
  change execFecCodeword p symbols s = _
  rw [execFecCodeword, State.awake_of_acts acts]

end

/-- Settles O45: what acting on each kind of control frame does, how a timer is loaded, when a PFC frame is sent and how it leaves, and
what a codeword counts. -/
theorem flowControl : Obligations.FlowControl := by
  refine ⟨fun s p quanta rest acts oldest => ?_, fun s p enable times rest acts oldest => ?_, fun s p k quanta hk => ?_,
    fun s p k acts => exec_pauseTimerExpiry acts k, fun s p acts => ?_, fun s p symbols acts fec life => ?_⟩
  · intro t
    have acted := State.actOnControl_pause oldest
    refine ⟨fun deaf => ?_, fun obeys => ?_, ?_⟩
    · rw [exec_pauseFrameReceive acts, acted, if_pos (by simp [t, deaf])]
    · rw [exec_pauseFrameReceive acts, acted, if_neg (by simp [t, obeys])]
    · rw [exec_pfcFrameReceive acts, State.actOnControl_pause_waits oldest]
  · refine ⟨?_, ?_⟩
    · rw [exec_pfcFrameReceive acts, State.actOnControl_pfc oldest]
    · rw [exec_pauseFrameReceive acts, State.actOnControl_pfc_waits oldest]
  · intro t
    have timers := s.pause_loadPause p quanta (k := k)
    refine ⟨?_, s.pausedBit_loadPause_same p quanta hk, fun j other => ?_, fun j hj other => s.pausedBit_loadPause_other p quanta hj other⟩
    · rw [timers, SMap.get_set_same]
    · rw [timers, SMap.get_set_other _ _ _ _ other]
  · rw [exec_pfcFrameSend acts, exec_pfcResend acts]
    refine ⟨fun up quiet => ⟨fun due => ?_, fun resend => ?_⟩, fun up busy => ⟨?_, fun resend => ?_⟩, fun idle => ?_, fun idle => ?_,
      State.pfcDue_sendPfc, State.tx_sendPfc, State.out_sendPfc⟩
    · rw [if_pos (by simp [due, up, quiet])]
    · rw [if_pos (by simp [resend, up]), if_pos (by simp [quiet])]
    · rw [if_neg (by simp [busy])]
    · rw [if_pos (by simp [resend, up]), if_neg (by simpa using busy)]
    · rw [if_neg (by rcases idle with h | h <;> simp [h])]
    · rw [if_neg (by rcases idle with h | h <;> simp [h])]
  · rw [exec_fecCodeword acts]
    refine ⟨fun clean => ?_, fun wrong few => ?_, fun many => ?_⟩
    · rw [State.fecCodeword_clean clean]
    · rw [State.fecCodeword_errors fec life (by omega), if_pos few]
    · rw [State.fecCodeword_errors fec life (by omega), if_neg (by omega)]

end Sys2Proof.Machine
end

section
/-! PROOFS. Headers of packet channels and of management channels: what a header makes of delineation, what a stream hands over, and the
commands that take a header or give a candidate up (R213, R214, R247 to R250). -/

namespace Sys2Proof.Machine

/-! ### What a header makes of delineation (R249) -/

/-- A good header carries its length's CRC-16, and its length is 0 or within the limits (R248). -/
abbrev GoodHeader (lo hi h : Nat) : Prop :=
  headerCrc (bits h 31 16) = bits h 15 0 ∧ (bits h 31 16 = 0 ∨ (lo ≤ bits h 31 16 ∧ bits h 31 16 ≤ hi))

section
variable {d : Delin} {lo hi h : Nat}

/-- The test of `Delin.header` is that of a good header. -/
theorem goodHeader_iff :
    (headerCrc (bits h 31 16) == bits h 15 0 &&
      (bits h 31 16 == 0 || (decide (lo ≤ bits h 31 16) && decide (bits h 31 16 ≤ hi)))) = true ↔ GoodHeader lo hi h := by
  simp

theorem Delin.header_hunt (hunting : d.st = 0) : d.header lo hi h = if GoodHeader lo hi h then (⟨1, 0, 0⟩, 0) else (d, 0) := by
  simp only [Delin.header, hunting, goodHeader_iff]

theorem Delin.header_presync (candidate : d.st = 1) : d.header lo hi h =
    if GoodHeader lo hi h then (if d.oks = 1 then (⟨2, 0, 0⟩, 0) else ({ d with oks := d.oks + 1 }, 0)) else (Delin.hunt, 0) := by
  by_cases good : GoodHeader lo hi h
  · rw [if_pos good, Delin.header]
    simp [candidate, goodHeader_iff.mpr good]
  · rw [if_neg good, Delin.header]
    simp [candidate, Bool.eq_false_iff.mpr (goodHeader_iff.not.mpr good)]

theorem Delin.header_sync (sync : d.st = 2) : d.header lo hi h =
    if GoodHeader lo hi h then ({ d with errs := 0 }, if bits h 31 16 = 0 then 0 else 1)
    else if d.errs = 2 then (Delin.hunt, 3) else ({ d with errs := d.errs + 1 }, 2) := by
  simp only [Delin.header, sync, goodHeader_iff, Nat.reduceEqDiff]

end

/-! ### What a stream hands over (R249) -/

section
variable {x : Stream} {lo hi : Nat}

/-- The bytes of a stream from the header on that is expected next. -/
def Stream.behind (x : Stream) : List Byte := x.rest.drop x.skip

/-- The header that a stream expects next. -/
def Stream.nextHeader (x : Stream) : Nat := beNat (x.behind.take 4)

theorem Stream.drop_rest : x.rest.drop x.skip = x.behind := rfl

theorem Stream.beNat_behind : beNat (x.behind.take 4) = x.nextHeader := rfl

theorem Stream.take_of_short (short : x.behind.length < 4) : x.take lo hi = (x, 0, []) :=
  if_pos (by rw [Stream.drop_rest]; simp [short])

theorem Stream.take_frame (sync : x.delin.st = 2) (good : GoodHeader lo hi x.nextHeader) (frame : bits x.nextHeader 31 16 ≠ 0)
    (whole : 4 + bits x.nextHeader 31 16 ≤ x.behind.length) :
    x.take lo hi = (⟨{ x.delin with errs := 0 }, x.behind.drop (4 + bits x.nextHeader 31 16), 0⟩, 1,
      (x.behind.drop 4).take (bits x.nextHeader 31 16)) := by
  have delivered : x.delin.header lo hi x.nextHeader = ({ x.delin with errs := 0 }, 1) := by
    rw [Delin.header_sync sync, if_pos good, if_neg frame]
  simp only [Stream.take]
  rw [Stream.drop_rest, Stream.beNat_behind, delivered, if_neg (by simp; omega)]
  simp only [sync]
  rfl

theorem Stream.take_missed (hunting : x.delin.st = 0) (bad : ¬ GoodHeader lo hi x.nextHeader) (there : 4 ≤ x.behind.length) :
    x.take lo hi = (⟨x.delin, x.rest.drop 1, 0⟩, 0, []) := by
  have stays : x.delin.header lo hi x.nextHeader = (x.delin, 0) := by rw [Delin.header_hunt hunting, if_neg bad]
  simp only [Stream.take]
  rw [Stream.drop_rest, Stream.beNat_behind, stays, if_neg (by simp; omega)]
  simp only [hunting]

end

/-! ### Management channels (R213, R214) -/

section
variable {s : State} {n : Nat}

/-- A management channel that takes headers: its lane carries STF in SYNC, MGMT_EN is 1 and no AIS is declared. -/
structure State.TakesMgmt (s : State) (n : Nat) : Prop where
  lane : s.stfLane n = true
  align : s.fld R.STF_STAT_ALIGN n = 2
  enabled : s.flag R.STF_CFG_MGMT_EN n = true
  plain : s.flag R.STF_STAT_AIS n = false

/-- What the next header of a management channel yields. -/
def State.mgmtTake (s : State) (n : Nat) : Stream × Nat × List Byte := (s.stfOf n).mgmtStream.take 1 2048

/-- The state with a management channel behind its next header. -/
def State.pastMgmt (s : State) (n : Nat) : State := s.updStf n (fun x => x.setMgmt (s.mgmtTake n).1)

theorem State.mgmtHeader_idle
    (idle : s.stfLane n = false ∨ s.fld R.STF_STAT_ALIGN n ≠ 2 ∨ s.flag R.STF_CFG_MGMT_EN n = false ∨ s.flag R.STF_STAT_AIS n = true) :
    s.mgmtHeader n = s :=
  if_pos (by rcases idle with h | h | h | h <;> simp [h])

theorem State.mgmtHeader_takes (takes : s.TakesMgmt n) : s.mgmtHeader n =
    if (s.mgmtTake n).2.1 = 1 then
      { s.pastMgmt n with
        hostRx := SMap.upd [] s.hostRx (s.fld R.HDMA_CFG_MGMT_RING 0) (fun q => q ++ [mgmtHostFrame n (s.mgmtTake n).2.2]) }
    else s.pastMgmt n := by
  obtain ⟨lane, align, enabled, plain⟩ := takes
  exact if_neg (by simp [lane, align, enabled, plain])

end

/-! ### Packet channels (R248 to R250) -/

section
variable {s : State} {n p : Nat}

/-- What the next header of a packet channel yields. -/
def State.channelTake (s : State) (p : Nat) : Stream × Nat × List Byte :=
  (s.channel p).stream.take 64 (s.fld R.PORT_CFG_MAX_FRAME p)

/-- The state with a packet channel behind its next header. -/
def State.pastChannel (s : State) (p : Nat) : State := s.updChannel p (fun c => c.setStream (s.channelTake p).1)

variable (place : p - 512 = n)
include place

theorem State.channelHeader_idle (idle : s.portLife p = .off ∨ s.flag R.PORT_CHAN_STAT_RX_FAIL n = true) :
    s.channelHeader p = s :=
  if_pos (by rcases idle with h | h <;> simp [place, h])

variable (life : s.portLife p ≠ .off) (sound : s.flag R.PORT_CHAN_STAT_RX_FAIL n = false)
include life sound

/-- A header with an error counts, the one that loses SYNC counts twice over, and a frame goes to the receive MAC. -/
theorem State.channelHeader_takes : s.channelHeader p =
    let r := s.channelTake p
    let counted := if 2 ≤ r.2.1 then (s.pastChannel p).bump R.PORT_CHAN_HDR_ERR_COUNT n 1 else s.pastChannel p
    let lost := if r.2.1 = 3 then counted.bump R.PORT_CHAN_SYNC_LOSS_COUNT n 1 else counted
    let fresh := lost.refreshChannel p
    if r.2.1 = 1 then fresh.receiveFrame p r.2.2 false false 0 else fresh := by
  subst place
  exact if_neg (by simp [life, sound])

theorem State.channelHeader_nothing (outcome : (s.channelTake p).2.1 = 0) :
    s.channelHeader p = (s.pastChannel p).refreshChannel p := by
  simp [State.channelHeader_takes place life sound, outcome]

theorem State.channelHeader_frame (outcome : (s.channelTake p).2.1 = 1) : s.channelHeader p =
    ((s.pastChannel p).refreshChannel p).receiveFrame p (s.channelTake p).2.2 false false 0 := by
  simp [State.channelHeader_takes place life sound, outcome]

theorem State.channelHeader_error (outcome : (s.channelTake p).2.1 = 2) : s.channelHeader p =
    ((s.pastChannel p).bump R.PORT_CHAN_HDR_ERR_COUNT n 1).refreshChannel p := by
  simp [State.channelHeader_takes place life sound, outcome]

theorem State.channelHeader_loss (outcome : (s.channelTake p).2.1 = 3) : s.channelHeader p =
    (((s.pastChannel p).bump R.PORT_CHAN_HDR_ERR_COUNT n 1).bump R.PORT_CHAN_SYNC_LOSS_COUNT n 1).refreshChannel p := by
  simp [State.channelHeader_takes place life sound, outcome]

end

/-! ### The end of a candidate's window (R249) -/

section
variable {s : State} {n : Nat}

theorem State.presyncTimeout_mgmt : s.presyncTimeout true n =
    if (s.stfOf n).mgmt.st = 1 then
      s.updStf n (fun x => { x with mgmt := Delin.hunt, mgmtRx := x.mgmtRx.drop 1, mgmtSkip := 0 })
    else s := rfl

theorem State.presyncTimeout_channel : s.presyncTimeout false n =
    if (s.channel (512 + n)).delin.st = 1 then
      (s.updChannel (512 + n) (fun c => { c with delin := Delin.hunt, rx := c.rx.drop 1, skip := 0 })).refreshChannel (512 + n)
    else s := rfl

end

/-! ### The commands of delineation -/

section
variable {s : State} (acts : s.Acts) {n : Fin 512}
include acts

theorem exec_mgmtFrameReceive : exec (.mgmtFrameReceive n) s = .next (s.mgmtHeader n.val) := by
  change execMgmtFrameReceive n s = _
  rw [execMgmtFrameReceive, State.awake_of_acts acts]

theorem exec_channelHeaderReceive : exec (.channelHeaderReceive n) s = .next (s.channelHeader (512 + n.val)) := by
  change execChannelHeaderReceive n s = _
  rw [execChannelHeaderReceive, State.awake_of_acts acts]

theorem exec_presyncTimeout (mgmt : Bool) : exec (.presyncTimeout mgmt n) s = .next (s.presyncTimeout mgmt n.val) := by
  change execPresyncTimeout mgmt n s = _
  rw [execPresyncTimeout, State.awake_of_acts acts]

end

/-- Settles O52: what a header makes of each state of delineation, what a stream hands over, and which channel takes it where. -/
theorem delineation : Obligations.Delineation := by
  refine ⟨fun d lo hi h => ?_, fun x lo hi => ?_, fun s n acts => ?_, fun s n acts => ?_, fun s n acts => ?_⟩
  · intro len ok
    refine ⟨fun hunting good => ?_, fun hunting bad => ?_, fun candidate good second => ?_, fun candidate good first => ?_,
      fun candidate bad => ?_, fun sync good => ?_, fun sync bad third => ?_, fun sync bad fewer => ?_⟩
    · rw [Delin.header_hunt hunting, if_pos good]
    · rw [Delin.header_hunt hunting, if_neg bad]
    · rw [Delin.header_presync candidate, if_pos good, if_pos second]
    · rw [Delin.header_presync candidate, if_pos good, if_neg first]
    · rw [Delin.header_presync candidate, if_neg bad]
    · rw [Delin.header_sync sync, if_pos good]
    · rw [Delin.header_sync sync, if_neg bad, if_pos third]
    · rw [Delin.header_sync sync, if_neg bad, if_neg fewer]
  · exact ⟨Stream.take_of_short,
      fun sync crc low high frame whole => Stream.take_frame sync ⟨crc, .inr ⟨low, high⟩⟩ frame whole,
      fun hunting crc there => Stream.take_missed hunting (fun good => crc good.1) there⟩
  · rw [exec_mgmtFrameReceive acts]
    refine ⟨fun idle => congrArg _ (State.mgmtHeader_idle idle), fun lane align enabled plain => ?_⟩
    intro r t
    rw [State.mgmtHeader_takes ⟨lane, align, enabled, plain⟩]
    exact ⟨fun nothing => congrArg _ (if_neg nothing),
      fun frame => ⟨mgmtHostFrame n.val r.2.2, rfl, rfl, rfl, congrArg _ (if_pos frame)⟩⟩
  · intro p
    have place : p - 512 = n.val := Nat.add_sub_cancel_left ..
    rw [exec_channelHeaderReceive acts]
    refine ⟨fun idle => congrArg _ (State.channelHeader_idle place idle), fun life sound => ?_⟩
    intro r t
    exact ⟨fun outcome => congrArg _ (State.channelHeader_nothing place life sound outcome),
      fun outcome => congrArg _ (State.channelHeader_frame place life sound outcome),
      fun outcome => congrArg _ (State.channelHeader_error place life sound outcome),
      fun outcome => congrArg _ (State.channelHeader_loss place life sound outcome)⟩
  · rw [exec_presyncTimeout acts, exec_presyncTimeout acts, State.presyncTimeout_mgmt, State.presyncTimeout_channel]
    exact ⟨fun candidate => congrArg _ (if_pos candidate), fun other => congrArg _ (if_neg other),
      fun candidate => congrArg _ (if_pos candidate), fun other => congrArg _ (if_neg other)⟩

end Sys2Proof.Machine
end

section
/-! PROOFS. Orders that take effect as they are executed: LEAF.WR (R233), the time bases (R381, R383 to R386), SNAP (R459), SPRINT.ARM
(R477) and FREEZE.PERMIT (R487). -/

namespace Sys2Proof.Machine

/-! ### LEAF.WR (R233, R234) -/

section
variable {s : State} {q : OrderQueue} {b : Bundle} {p : ProgStep} {outLane outTu inLane inTu : Nat} {unequipped : Bool}

/-- Whether a direct LEAF.WR meets a staged write of its entry or a Leaf swap in progress. -/
def State.leafBusy (s : State) (q : OrderQueue) (k : Nat) : Bool :=
  ((s.otherSets q).flatMap itemKeys).contains (1, k) || s.bureau.commits.any (fun c => c.leafSwap)

theorem State.leafBusy_eq_true {k : Nat} : s.leafBusy q k = true ↔
    ((s.otherSets q).flatMap itemKeys).contains (1, k) = true ∨ ∃ c ∈ s.bureau.commits, c.leafSwap = true := by
  rw [State.leafBusy, Bool.or_eq_true, List.any_eq_true]

theorem State.leafBusy_eq_false {k : Nat} : s.leafBusy q k = false ↔
    ((s.otherSets q).flatMap itemKeys).contains (1, k) = false ∧ ∀ c ∈ s.bureau.commits, c.leafSwap = false := by
  simp only [State.leafBusy, Bool.or_eq_false_iff, List.any_eq_false, Bool.not_eq_true]

section
variable (set : b.openSet = none)
include set

theorem State.runLeaf_busy (busy : s.leafBusy q (tuKey outLane outTu) = true) :
    s.runLeaf (.leafWr outLane outTu inLane inTu unequipped) q b p = s.failStep q p 6 1 0 := by
  rw [Bundle.openSet] at set
  simp only [State.runLeaf, set]
  exact if_pos busy

/-- A direct LEAF.WR puts its word, and a port that is narrowed past a connected lane starts to widen. -/
theorem State.runLeaf_puts (free : s.leafBusy q (tuKey outLane outTu) = false) :
    let put := s.leafPut (queueUnit q) (tuKey outLane outTu) (leafWord inLane inTu unequipped)
    s.runLeaf (.leafWr outLane outTu inLane inTu unequipped) q b p =
      (if unequipped then put else (put.wantLane outLane).wantLane inLane).proceed q := by
  rw [Bundle.openSet] at set
  simp only [State.runLeaf, set]
  exact if_neg (Bool.eq_false_iff.mp free)

end

/-- In an open set a LEAF.WR is an unversioned write. -/
theorem State.runLeaf_open {st : StageSet} (set : b.openSet = some st) :
    s.runLeaf (.leafWr outLane outTu inLane inTu unequipped) q b p = s.runWrite (.leafWr outLane outTu inLane inTu unequipped) q b p := by
  rw [Bundle.openSet] at set
  simp only [State.runLeaf, set]

section
variable (h : s.ComesNext q b p (.leafWr outLane outTu inLane inTu unequipped))
include h

theorem exec_leafWr_puts (stage : b.stage = none) (free : (s.setSlot q b.ran).leafBusy q (tuKey outLane outTu) = false) :
    let put := (s.setSlot q b.ran).leafPut (queueUnit q) (tuKey outLane outTu) (leafWord inLane inTu unequipped)
    exec (.leafWr q outLane outTu inLane inTu unequipped) s = .next (State.startReady 24
      ((if unequipped then put else (put.wantLane outLane).wantLane inLane).proceed q)) :=
  exec_of_comesNext h rfl (State.runLeaf_puts (Bundle.openSet_of_none (b := b.ran) stage) free)

theorem exec_leafWr_busy (stage : b.stage = none) (busy : (s.setSlot q b.ran).leafBusy q (tuKey outLane outTu) = true) :
    exec (.leafWr q outLane outTu inLane inTu unequipped) s = .next (s.failsAt q b.ran p 6 1 0) :=
  exec_of_comesNext h rfl (State.runLeaf_busy (Bundle.openSet_of_none (b := b.ran) stage) busy)

theorem exec_leafWr_joins {st : StageSet} (stage : b.stage = some st) (opened : st.opened = true)
    (sound : (s.setSlot q b.ran).writeFault q st.items (b.instrWord p) (.leafWr outLane outTu inLane inTu unequipped) = none) :
    exec (.leafWr q outLane outTu inLane inTu unequipped) s =
      .next (s.goesOn q (b.ran.joined st (.leafWr outLane outTu inLane inTu unequipped))) := by
  have set : b.ran.openSet = some st := Bundle.openSet_of_open stage opened
  exact exec_of_comesNext h rfl
    ((State.runLeaf_open set).trans ((State.runWrite_open set sound).trans (State.stageItem_setSlot ..)))

end

theorem State.leafPut_copied {unit k w : Nat} (idle : s.flag R.TSI_Q_STAT_COPYING (leafQuadrant k) = false) :
    s.leafPut unit k w = s.setReg (leafReg (1 - s.activeLeaf (leafQuadrant k))) k w :=
  if_neg (Bool.eq_false_iff.mp idle)

theorem State.leafPut_copying {unit k w : Nat} (copying : s.flag R.TSI_Q_STAT_COPYING (leafQuadrant k) = true) :
    s.leafPut unit k w = { s with leafHeld := s.leafHeld.filter (fun e => e.1 != k) ++ [(k, w, unit)] } :=
  if_pos copying

end

/-! ### TB.STEP (R383, R384) -/

section
variable {s : State} {q : OrderQueue} {b : Bundle} {p : ProgStep} {tb : Nat} {abs : Bool} {w0 w1 : Word64}

/-- The step that a TB.STEP arms (R384): the value of the time base from which on it applies, and its size. -/
def State.armedStep (s : State) (tb : Nat) (abs : Bool) (w0 w1 : Word64) : Nat × Int :=
  let v := (s.tbGet tb).value
  let instant := ((v + 1000 * nsUnits) / secondUnits + 1) * secondUnits
  if abs then (instant, (absValue w0 w1 : Int) - (instant : Int)) else (v, relativeStep w0)

theorem State.tbStep_accepted (sound : s.stepCause tb abs w0 = 0) : s.tbStep tb abs w0 w1 =
    (true, (s.setFld R.TIME_TB_STAT_STEP tb 2).updServo tb (fun r => { r with armed := some (s.armedStep tb abs w0 w1) })) :=
  if_neg (not_not.mpr sound)

theorem State.tbStep_refused (refused : s.stepCause tb abs w0 ≠ 0) : s.tbStep tb abs w0 w1 =
    (false, (s.setFld R.TIME_TB_STAT_REFUSE tb (s.stepCause tb abs w0)).raiseAt EV_TB_STEP_REFUSED tb tb [s.stepCause tb abs w0]) :=
  if_pos refused

variable (h : s.ComesNext q b p (.tbStep tb abs w0 w1))
include h

theorem exec_tbStep_accepted (sound : s.stepCause tb abs w0 = 0) : exec (.tbStep q tb abs w0 w1) s = .next (State.startReady 24
    ((((s.setSlot q b.ran).setFld R.TIME_TB_STAT_STEP tb 2).updServo tb
      (fun r => { r with armed := some (s.armedStep tb abs w0 w1) })).proceed q)) := by
  have accepted := State.tbStep_accepted (s := s.setSlot q b.ran) (w1 := w1) sound
  refine exec_of_comesNext h rfl ?_
  simp only [accepted]
  rfl

theorem exec_tbStep_refused (refused : s.stepCause tb abs w0 ≠ 0) : exec (.tbStep q tb abs w0 w1) s = .next (State.startReady 24
    ((((s.setSlot q b.ran).setFld R.TIME_TB_STAT_REFUSE tb (s.stepCause tb abs w0)).raiseAt EV_TB_STEP_REFUSED tb tb
      [s.stepCause tb abs w0]).endBundle q ⟨6, p.index, 5, 0⟩)) := by
  have no := State.tbStep_refused (s := s.setSlot q b.ran) (w1 := w1) refused
  refine exec_of_comesNext h rfl ?_
  simp only [no]
  rfl

end

/-! ### TB.RATE and TB.REARM (R381, R386) -/

/-- RATE_SW of any time base lies apart from the rate in use of any. -/
theorem rateSw_apart_curRate (m n : Nat) : R.TIME_TB_RATE_RATE_SW.reg.addr m ≠ R.TIME_TB_RATE_CUR_RATE.reg.addr n := by
  simp only [RegSpec.addr, R.TIME_TB_RATE_RATE_SW, R.TIME_TB_RATE, R.TIME_TB_RATE_CUR_RATE, R.TIME_TB_RATE_CUR]
  omega

/-- RATE_SW of any time base lies apart from the status of any. -/
theorem rateSw_apart_clamp (m n : Nat) : R.TIME_TB_RATE_RATE_SW.reg.addr m ≠ R.TIME_TB_STAT_CLAMP.reg.addr n := by
  simp only [RegSpec.addr, R.TIME_TB_RATE_RATE_SW, R.TIME_TB_RATE, R.TIME_TB_STAT_CLAMP, R.TIME_TB_STAT]
  omega

/-- The RATE_SW of a time base. -/
def State.rateSw (s : State) (tb : Nat) : Nat := s.fld R.TIME_TB_RATE_RATE_SW tb

section
variable {s : State} {q : OrderQueue} {b : Bundle} {p : ProgStep} {tb : Nat}

@[simp] theorem State.rateSw_setRate (s : State) (n : Nat) (a : Int) (tb : Nat) : (s.setRate n a).rateSw tb = s.rateSw tb :=
  State.fld_setFld_other s _ _ _ _ _ (rateSw_apart_curRate tb n)

@[simp] theorem State.rateSw_rateOf (s : State) (n tb : Nat) : (s.rateOf n).rateSw tb = s.rateSw tb := by
  rw [State.rateOf]
  split_ifs <;> exact State.rateSw_setRate ..

/-- Rates in use that follow leave the software rate of every time base alone. -/
@[simp] theorem State.rateSw_ratesFrom (s : State) (n tb : Nat) : (s.ratesFrom n).rateSw tb = s.rateSw tb := by
  have follow (l : List Nat) (t : State) :
      (l.foldl (fun s i => if s.source (i + 1) = 7 then s.rateOf (i + 1) else s) t).rateSw tb = t.rateSw tb := by
    induction l generalizing t with
    | nil => rfl
    | cons i l ih => rw [List.foldl_cons, ih]; split_ifs <;> simp
  rw [State.ratesFrom]
  split_ifs
  · exact (follow _ _).trans (State.rateSw_rateOf ..)
  · exact State.rateSw_rateOf ..

/-- TB.RATE leaves RATE_SW with the rate, cut to the field's width. -/
theorem State.rateSw_tbRateSet (s : State) (tb rate : Nat) : (s.tbRateSet tb rate).rateSw tb =
    rate % 2 ^ (R.TIME_TB_RATE_RATE_SW.hi + 1 - R.TIME_TB_RATE_RATE_SW.lo) := by
  have stored : ((s.setFld R.TIME_TB_RATE_RATE_SW tb rate).ratesFrom tb).rateSw tb = _ :=
    (State.rateSw_ratesFrom ..).trans (State.fld_setFld_same s _ _ _ (by decide))
  rw [State.tbRateSet]
  split_ifs
  · exact (State.fld_raiseAt_other (f := R.TIME_TB_STAT_CLAMP) rfl (rateSw_apart_clamp tb tb) _ _).trans stored
  · exact stored

theorem exec_tbRate_of_comesNext {rate : Nat} (h : s.ComesNext q b p (.tbRate tb rate)) :
    exec (.tbRate q tb rate) s = .next (State.startReady 24 (((s.setSlot q b.ran).tbRateSet tb rate).proceed q)) :=
  exec_of_comesNext h rfl rfl

theorem State.tbRearm_waiting (waits : s.fld R.TIME_TB_STAT_STEP tb = 2) : s.tbRearm tb =
    (s.setFld R.TIME_TB_STAT_STEP tb (ofFlag (s.tbState tb == tbLocked))).raiseOf EV_TB_REARM tb := by
  simp only [State.tbRearm, if_pos waits]

theorem State.tbRearm_other (other : s.fld R.TIME_TB_STAT_STEP tb ≠ 2) : s.tbRearm tb = s.raiseOf EV_TB_REARM tb := by
  simp only [State.tbRearm, if_neg other]

section
variable (h : s.ComesNext q b p (.tbRearm tb))
include h

theorem exec_tbRearm_waiting (waits : s.fld R.TIME_TB_STAT_STEP tb = 2) : exec (.tbRearm q tb) s = .next (State.startReady 24
    ((((s.setSlot q b.ran).setFld R.TIME_TB_STAT_STEP tb (ofFlag (s.tbState tb == tbLocked))).raiseOf EV_TB_REARM tb).proceed q)) :=
  exec_of_comesNext h rfl (congrArg (State.proceed · q) (State.tbRearm_waiting (s := s.setSlot q b.ran) waits))

theorem exec_tbRearm_other (other : s.fld R.TIME_TB_STAT_STEP tb ≠ 2) : exec (.tbRearm q tb) s = .next (State.startReady 24
    (((s.setSlot q b.ran).raiseOf EV_TB_REARM tb).proceed q)) :=
  exec_of_comesNext h rfl (congrArg (State.proceed · q) (State.tbRearm_other (s := s.setSlot q b.ran) other))

end
end

/-! ### SNAP (R459) -/

section
variable {s : State} {q : OrderQueue} {b : Bundle} {p : ProgStep} {block unit : Nat} (early : s.epoch.cutoffDone = false)
include early

theorem State.snapAsk_asked (asked : s.epoch.snapNow.contains (block, unit) = true) : s.snapAsk block unit = s := by
  simp only [State.snapAsk, early, Bool.false_eq_true, if_false, asked, if_true]

theorem State.snapAsk_joins (fresh : s.epoch.snapNow.contains (block, unit) = false) (room : s.epoch.snapNow.length < 256) :
    s.snapAsk block unit = { s with epoch := { s.epoch with snapNow := s.epoch.snapNow ++ [(block, unit)] } } := by
  simp only [State.snapAsk, early, Bool.false_eq_true, if_false, fresh, if_neg (Nat.not_le.mpr room)]

variable (h : s.ComesNext q b p (.snap block unit))
include h

theorem exec_snap_asked (asked : s.epoch.snapNow.contains (block, unit) = true) :
    exec (.snap q block unit) s = .next (s.goesOn q b.ran) :=
  exec_of_comesNext h rfl (congrArg (State.proceed · q) (State.snapAsk_asked (s := s.setSlot q b.ran) early asked))

theorem exec_snap_joins (fresh : s.epoch.snapNow.contains (block, unit) = false) (room : s.epoch.snapNow.length < 256) :
    exec (.snap q block unit) s =
      .next (({ s with epoch := { s.epoch with snapNow := s.epoch.snapNow ++ [(block, unit)] } } : State).goesOn q b.ran) :=
  exec_of_comesNext h rfl (congrArg (State.proceed · q) (State.snapAsk_joins (s := s.setSlot q b.ran) early fresh room))

end

/-! ### SPRINT.ARM and FREEZE.PERMIT (R477, R487) -/

section
variable {s : State} {q : OrderQueue} {b : Bundle} {p : ProgStep} {arm : Bool} {duration : Nat}

/-- Arming a Sprint that is Off starts it. -/
theorem State.askSprint_off (allowed : s.forcedOff R.PWR_SPRINT_STAT_LC 0 = false)
    (off : s.fld R.PWR_SPRINT_STAT_LC 0 = lifeBits .off none) :
    s.askSprint true = s.setFld R.PWR_SPRINT_STAT_LC 0 (lifeBits .starting none) := by
  have asked : s.lifeAsk R.PWR_SPRINT_STAT_LC 0 true = s.setFld R.PWR_SPRINT_STAT_LC 0 (lifeBits .starting none) := by
    rw [State.lifeAsk, allowed, off]
    rfl
  have starting : (s.setFld R.PWR_SPRINT_STAT_LC 0 (lifeBits .starting none)).life R.PWR_SPRINT_STAT_LC 0 = .starting := by
    rw [State.life, State.fld_setFld_same _ _ _ _ (by decide)]
    rfl
  rw [State.askSprint, asked, starting]
  rfl

theorem exec_sprintArm_of_comesNext (h : s.ComesNext q b p (.sprintArm arm)) (allowed : s.forcedOff R.PWR_SPRINT_STAT_LC 0 = false) :
    exec (.sprintArm q arm) s = .next (State.startReady 24 (((s.setSlot q b.ran).askSprint arm).proceed q)) :=
  exec_of_comesNext h rfl (if_neg (Bool.eq_false_iff.mp allowed))

theorem exec_sprintArm_off (h : s.ComesNext q b p (.sprintArm true)) (allowed : s.forcedOff R.PWR_SPRINT_STAT_LC 0 = false)
    (off : s.fld R.PWR_SPRINT_STAT_LC 0 = lifeBits .off none) : exec (.sprintArm q true) s =
      .next ((s.setFld R.PWR_SPRINT_STAT_LC 0 (lifeBits .starting none)).goesOn q b.ran) := by
  rw [exec_sprintArm_of_comesNext h allowed, State.askSprint_off (s := s.setSlot q b.ran) allowed off]
  rfl

section
variable (h : s.ComesNext q b p (.freezePermit duration))
include h

theorem exec_freezePermit_permits (fused : duration = 0 ∨ s.otp.freeze = true) : exec (.freezePermit q duration) s =
    .next (({ s with power := { s.power with permitted := duration != 0, permit := duration * 1000000000 * 65536 } } : State).goesOn
      q b.ran) := by
  have granted : ¬ (duration ≠ 0 ∧ (s.setSlot q b.ran).otp.freeze = false) := by
    rintro ⟨some_time, unburned⟩
    exact fused.elim some_time (fun burned => Bool.false_ne_true (unburned.symm.trans burned))
  exact exec_of_comesNext h rfl (if_neg granted)

theorem exec_freezePermit_unfused (some_time : duration ≠ 0) (unburned : s.otp.freeze = false) :
    exec (.freezePermit q duration) s = .next (s.failsAt q b.ran p 6 4 0x0502) :=
  exec_of_comesNext h rfl (if_pos ⟨some_time, unburned⟩)

end
end

/-- Settles O35: each order runs at once, and its effect is that of its own operation, by the state it meets. -/
theorem directOrders : Obligations.DirectOrders := by
  intro s q b p s'
  refine ⟨fun outLane outTu inLane inTu unequipped h => ?_, fun tb abs w0 w1 h => ?_, fun tb rate h => ?_, fun tb h => ?_,
    fun block unit h early => ?_, fun arm h allowed => ?_, fun duration h => ?_⟩
  · exact ⟨fun stage free idle => exec_leafWr_puts h stage (State.leafBusy_eq_false.mpr ⟨free, idle⟩),
      fun stage busy => exec_leafWr_busy h stage (State.leafBusy_eq_true.mpr busy),
      fun idle => State.leafPut_copied (s := s') idle, fun copying => State.leafPut_copying (s := s') copying,
      fun st stage opened sound => exec_leafWr_joins h stage opened sound⟩
  · exact ⟨exec_tbStep_accepted h, exec_tbStep_refused h⟩
  · exact ⟨exec_tbRate_of_comesNext h, fun _ => s'.rateSw_tbRateSet tb rate⟩
  · exact ⟨exec_tbRearm_waiting h, exec_tbRearm_other h⟩
  · exact ⟨exec_snap_asked early h, exec_snap_joins early h⟩
  · exact ⟨fun armed off => by subst armed; exact exec_sprintArm_off h allowed off, exec_sprintArm_of_comesNext h allowed⟩
  · exact ⟨exec_freezePermit_permits h, exec_freezePermit_unfused h⟩

end Sys2Proof.Machine
end

section
/-! PROOFS. The ingress pipeline takes a frame (R252, R271), and the pattern engine scans one (R275 to R278). -/

namespace Sys2Proof.Machine

/-! ### A whole frame enters its pipeline (R252) -/

section
variable {s : State} {p : Nat} {f : Stored}

theorem exec_frameIngress {port : Fin 1024} {early : Option (Nat × List Byte)} {errors : List (Nat × Bool)} {time : Nat}
    (runs : s.Runs) : exec (.frameIngress port early errors time) s =
      .next (((s.advance time).tblErrors ((s.advance time).pipeOf port.val) errors).frameIngress port.val early) := by
  change execFrameIngress port early errors time s = _
  rw [execFrameIngress, State.clocked_of_runs runs]

theorem State.frameIngress_empty (empty : (s.port p).input = []) : s.frameIngress p none = s := by
  simp only [State.frameIngress, empty]

theorem State.frameIngress_oldest {rest : List Stored} (oldest : (s.port p).input = f :: rest) :
    s.frameIngress p none = (s.updPort p (fun q => { q with input := rest })).ingress p f := by
  simp only [State.frameIngress, oldest]

section
variable {counted : State} (enters : s.pipeCount (s.pipeOf p) 0 1 = counted)
include enters

theorem State.ingress_noMatch (missed : (counted.classify p f).2 = none) :
    s.ingress p f = (counted.pipeCount (s.pipeOf p) 1 1).raiseOnce EV_TCAM_NO_MATCH (s.pipeOf p) (s.pipeOf p) (s.pipeOf p) [] := by
  simp only [State.ingress, enters, missed]

section
variable {i : Nat} {a : List Word64} (hit : (counted.classify p f).2 = some (i, a))
include hit

/-- A frame is inspected where its action asks for it and its parse has no CAUSE (R271). -/
theorem State.ingress_hit : s.ingress p f =
    let info := (counted.classify p f).1
    if actionBits a 0 59 59 = 1 && info.vector.cause == 0 then counted.inspect (s.pipeOf p) f.bytes info i a
    else counted.resolve (s.pipeOf p) f.bytes none info a := by
  simp only [State.ingress, enters, hit]

theorem State.ingress_inspected (asks : actionBits a 0 59 59 = 1) (parsed : (counted.classify p f).1.vector.cause = 0) :
    s.ingress p f = counted.inspect (s.pipeOf p) f.bytes (counted.classify p f).1 i a :=
  (State.ingress_hit enters hit).trans (if_pos (by simp [asks, parsed]))

theorem State.ingress_resolved (plain : actionBits a 0 59 59 = 0 ∨ (counted.classify p f).1.vector.cause ≠ 0) :
    s.ingress p f = counted.resolve (s.pipeOf p) f.bytes none (counted.classify p f).1 a := by
  refine (State.ingress_hit enters hit).trans (if_neg ?_)
  rcases plain with h | h <;> simp [h]

end
end
end

/-! ### A frame that still arrives (R164, R173) -/

/-- The pipeline takes the first `held` bytes, in whole cells, of a frame that still arrives: they belong to the frame that it has begun,
or begin one. -/
def State.takeArrived (s : State) (p held : Nat) (bytes : List Byte) : State :=
  match (s.port p).arriving with
  | some a => if held ≤ a.got then s else s.continueFrame p a ((bytes.take held).drop a.got)
  | none => if !s.receives p || !(s.port p).input.isEmpty then s else s.ingressEarly p (s.stamped p bytes) held

section
variable {s : State} {p held : Nat} {bytes : List Byte}

theorem State.frameIngress_early {got : Nat} (cut : held = min got (s.fld R.PORT_CFG_MAX_FRAME p / 256 * 256)) (some_cell : held ≠ 0)
    (whole_cells : held % 256 = 0) (unfinished : held < bytes.length) (line : s.portNearLoop p = false) :
    s.frameIngress p (some (got, bytes)) = s.takeArrived p held bytes := by
  subst cut
  exact if_neg (by simp only [some_cell, whole_cells, Nat.not_le.mpr unfinished, line]; decide)

theorem State.takeArrived_continues {a : Arriving} (begun : (s.port p).arriving = some a) (more : a.got < held) :
    s.takeArrived p held bytes = s.continueFrame p a ((bytes.take held).drop a.got) := by
  rw [State.takeArrived, begun]
  exact if_neg (Nat.not_le.mpr more)

theorem State.takeArrived_nothingNew {a : Arriving} (begun : (s.port p).arriving = some a) (seen : held ≤ a.got) :
    s.takeArrived p held bytes = s := by
  rw [State.takeArrived, begun]
  exact if_pos seen

theorem State.takeArrived_begins (fresh : (s.port p).arriving = none) (takes : s.receives p = true) (empty : (s.port p).input = []) :
    s.takeArrived p held bytes = s.ingressEarly p (s.stamped p bytes) held := by
  rw [State.takeArrived, fresh]
  exact if_neg (by simp [takes, empty])

end

/-! ### An action that discards (R271) -/

section
variable {s : State} {pl : Nat} {bytes : List Byte} {info : FrameInfo} {a : List Word64}

theorem State.writeFrame_noCopies (quadrant : Nat) (frame : Option Nat) : s.writeFrame quadrant bytes frame [] = (none, s) := rfl

theorem State.dispose_discard (discard : actionBits a 0 63 60 = 1) : s.dispose pl bytes info a = ([], s.pipeCount pl 2 1) := by
  simp only [State.dispose, discard]

/-- Without a mirror no copy is wanted, so nothing is admitted and nothing written. -/
theorem State.resolve_discard (discard : actionBits a 0 63 60 = 1) (unmirrored : actionBits a 2 63 63 = 0) :
    s.resolve pl bytes none info a = s.pipeCount pl 2 1 := by
  simp [State.resolve, State.dispose_discard discard, unmirrored, State.tryCopies, State.writeFrame_noCopies]

end

/-! ### The pattern engine (R275 to R278) -/

/-- The state once the engine of a pipeline has scanned a frame of scan queue `k`. -/
def State.scanFrame (s : State) (pl k : Nat) (f : Scan) : State :=
  let window := scanWindow (f.bytes.take (f.bytes.length - 4)) f.info.vector
  let left := (SMap.get [] s.scans k).filter (fun g => g.order != f.order)
  let t := (({ s with scans := SMap.set [] s.scans k left } : State).pipeCount pl 7 1).pipeCount pl 8 window.length
  t.secondPass pl f.bytes f.info f.index f.action (t.groupVector pl f.info.version window)

section
variable {s : State} {pl k : Nat} {f : Scan} {rest : List Scan}

theorem exec_patternScan {pipe : Fin 8} {errors : List (Nat × Bool)} (runs : s.Runs) :
    exec (.patternScan pipe errors) s = .next ((s.tblErrors pipe.val errors).patternScan pipe.val) := by
  change execPatternScan pipe errors s = _
  rw [execPatternScan, State.clocked_of_runs runs]

/-- A Stopping engine still scans the frames that are queued (R279). -/
theorem State.patternScan_scans (scanning : s.life R.PIPE_PAT_STAT_LC pl = .on ∨ s.life R.PIPE_PAT_STAT_LC pl = .stopping)
    (next : s.nextScan pl = some (k, f)) : s.patternScan pl = s.scanFrame pl k f := by
  rcases scanning with life | life <;> simp only [State.patternScan, life, next, State.scanFrame]

theorem State.patternScan_noFrame (empty : s.nextScan pl = none) : s.patternScan pl = s := by
  unfold State.patternScan
  rw [empty]
  cases s.life R.PIPE_PAT_STAT_LC pl <;> rfl

theorem State.patternScan_closed (closed : s.life R.PIPE_PAT_STAT_LC pl = .off ∨ s.life R.PIPE_PAT_STAT_LC pl = .starting) :
    s.patternScan pl = s := by
  rcases closed with life | life <;> simp only [State.patternScan, life]

/-- Whether an earlier frame of the same port waits among `others`, the unreserved frames (R278). -/
def Scan.waitsBehind (f : Scan) (others : List Scan) : Bool :=
  others.any (fun g => g.info.inPort == f.info.inPort && decide (g.order < f.order))

theorem Scan.waitsBehind_iff {others : List Scan} :
    f.waitsBehind others = true ↔ ∃ g ∈ others, g.info.inPort = f.info.inPort ∧ g.order < f.order := by
  simp [Scan.waitsBehind]

theorem Scan.not_waitsBehind_iff {others : List Scan} :
    f.waitsBehind others = false ↔ ∀ g ∈ others, g.info.inPort = f.info.inPort → f.order ≤ g.order := by
  simp [Scan.waitsBehind]

theorem State.nextScan_reserved (oldest : SMap.get [] s.scans (2 * pl) = f :: rest)
    (free : f.waitsBehind (SMap.get [] s.scans (2 * pl + 1)) = false) : s.nextScan pl = some (2 * pl, f) := by
  have found : (SMap.get [] s.scans (2 * pl)).find? (fun r => !r.waitsBehind (SMap.get [] s.scans (2 * pl + 1))) = some f := by
    rw [oldest]
    exact List.find?_cons_of_pos (by simp [free])
  unfold Scan.waitsBehind at found
  simp only [State.nextScan, found]

/-- When every reserved frame waits behind an earlier one, none included, the other queue's oldest is next. -/
theorem State.nextScan_other
    (waiting : ∀ r ∈ SMap.get [] s.scans (2 * pl), r.waitsBehind (SMap.get [] s.scans (2 * pl + 1)) = true) :
    s.nextScan pl = (SMap.get [] s.scans (2 * pl + 1)).head?.map (fun f => (2 * pl + 1, f)) := by
  have unfound : (SMap.get [] s.scans (2 * pl)).find? (fun r => !r.waitsBehind (SMap.get [] s.scans (2 * pl + 1))) = none :=
    List.find?_eq_none.mpr (fun r hr => by simp [waiting r hr])
  unfold Scan.waitsBehind at unfound
  simp only [State.nextScan, unfound]

theorem State.nextScan_empty (reserved : SMap.get [] s.scans (2 * pl) = []) (others : SMap.get [] s.scans (2 * pl + 1) = []) :
    s.nextScan pl = none := by
  rw [State.nextScan_other (by simp [reserved]), others]
  rfl

end

/-- Settles O42: what becomes of the oldest frame of an input store and of one that still arrives, and which frame the pattern engine
scans next. -/
theorem ingressPipeline : Obligations.IngressPipeline := by
  refine ⟨⟨fun s p errors time runs => ?_, fun s pl bytes info a => State.resolve_discard⟩, fun s0 pl errors runs => ?_⟩
  · intro s'
    have run {early : Option (Nat × List Byte)} {t : State} (h : s'.frameIngress p.val early = t) :
        exec (.frameIngress p early errors time) s = .next t := (exec_frameIngress runs).trans (by rw [h])
    refine ⟨fun empty => run (State.frameIngress_empty empty), fun f rest oldest => ?_, fun got bytes line => ?_⟩
    · have entered := State.frameIngress_oldest oldest
      exact ⟨fun missed => run (entered.trans (State.ingress_noMatch rfl missed)),
        fun i a hit asks parsed => run (entered.trans (State.ingress_inspected rfl hit asks parsed)),
        fun i a hit plain => run (entered.trans (State.ingress_resolved rfl hit plain))⟩
    · intro held some_cell whole_cells unfinished
      have entered := State.frameIngress_early (got := got) (held := held) rfl some_cell whole_cells unfinished line
      exact ⟨fun a begun => ⟨fun more => run (entered.trans (State.takeArrived_continues begun more)),
          fun seen => run (entered.trans (State.takeArrived_nothingNew begun seen))⟩,
        fun fresh takes empty => run (entered.trans (State.takeArrived_begins fresh takes empty))⟩
  · intro s reserved others scanned
    have run {t : State} (h : s.patternScan pl.val = t) : exec (.patternScan pl errors) s0 = .next t :=
      (exec_patternScan runs).trans (by rw [h])
    refine ⟨fun scanning => ⟨fun f rest oldest free => ?_, fun f rest oldest waiting => ?_⟩, ?_⟩
    · exact run (State.patternScan_scans scanning (State.nextScan_reserved oldest (Scan.not_waitsBehind_iff.mpr free)))
    · have next : s.nextScan pl.val = some (2 * pl.val + 1, f) := by
        rw [State.nextScan_other (fun r hr => Scan.waitsBehind_iff.mpr (waiting r hr))]
        exact congrArg (fun l : List Scan => l.head?.map _) oldest
      exact run (State.patternScan_scans scanning next)
    · rintro (⟨none_reserved, no_others⟩ | closed)
      · exact run (State.patternScan_noFrame (State.nextScan_empty none_reserved no_others))
      · exact run (State.patternScan_closed closed)

end Sys2Proof.Machine
end

section
/-! PROOFS. Orders that write the exact-match tables (R266, R293 to R295, R310). -/

namespace Sys2Proof.Machine

theorem Bundle.openSet_of_any {b : Bundle} (shut : b.stage.any (fun st => st.opened) = false) : b.openSet = none := by
  rcases stage : b.stage with _ | st
  · exact Bundle.openSet_of_none stage
  · exact Bundle.openSet_of_closed stage (by rwa [stage] at shut)

/-- What the tables answer a write, which joins the open set if there is one; none for an instruction of another kind. -/
def State.tableResult (s : State) (set : Option StageSet) : OrderInstr → Option TblResult
  | .tblIns pipes wide learned words =>
    if learned then some (s.learnedInsert (words.getD 0 0) (s.learnedPipes (words.getD 0 0) pipes) (tblResult wide words).1)
    else set.elim (some (s.insertDirect pipes (tblKey wide words) (tblResult wide words).1 (tblResult wide words).2))
      (fun st => some (s.insertStaged st.id pipes (tblKey wide words) (tblResult wide words).1 (tblResult wide words).2))
  | .tblDel pipes wide learned words =>
    if learned then some (s.learnedDelete (words.getD 0 0) (s.learnedPipes (words.getD 0 0) pipes))
    else set.elim (some (s.deleteDirect pipes (tblKey wide words))) (fun st => some (s.deleteStaged st.id pipes (tblKey wide words)))
  | .tblMod pipes wide words =>
    set.elim (some (s.modifyDirect pipes (tblKey wide words) (tblResult wide words).1 (tblResult wide words).2))
      (fun st => some (s.modifyStaged st.id pipes (tblKey wide words) (tblResult wide words).1 (tblResult wide words).2))
  | _ => none

section
variable {s t : State} {q : OrderQueue} {b : Bundle} {p : ProgStep} {i : OrderInstr} {st : StageSet} {r : TblResult}

/-- A table write does what its answer asks for. -/
theorem State.runTable_of_tableResult {set : Option StageSet} (current : b.openSet = set) (answer : s.tableResult set i = some r) :
    s.runTable i q b p = s.tableAnswer r i q b p := by
  rw [Bundle.openSet] at current
  unfold State.tableResult at answer
  split at answer
  case h_1 | h_2 =>
    split at answer
    next learned => cases answer; simp only [State.runTable, learned, if_true]
    next direct => cases set <;> cases answer <;> simp only [State.runTable, current, direct, Bool.false_eq_true, if_false]
  case h_3 => cases set <;> cases answer <;> simp only [State.runTable, current]
  case h_4 => cases answer

theorem State.tableAnswer_ok_alone (alone : b.openSet = none) : s.tableAnswer (.ok t) i q b p = t.proceed q := by
  rw [Bundle.openSet] at alone
  simp only [State.tableAnswer, alone]

theorem State.tableAnswer_ok_joins (set : b.openSet = some st) :
    s.tableAnswer (.ok t) i q b p = (t.setSlot q (((t.slot q).getD b).joined st i)).proceed q := by
  rw [Bundle.openSet] at set
  simp only [State.tableAnswer, set]
  rfl

theorem State.tableAnswer_error (f : Nat × Nat × Nat) :
    s.tableAnswer (.error f) i q b p = s.endBundle q ⟨6, p.index, 4, f.2.1 * 2 ^ 48 + f.2.2 * 2 ^ 32 + f.1⟩ := by
  simp only [State.tableAnswer, State.failStep, pipeCode, Nat.shiftLeft_eq]

/-- A table write that comes next goes on where the table takes it, joined to the open set if there is one, and ends its bundle where
the table refuses. -/
theorem exec_tableWrite {c : Instr} {set : Option StageSet} {errors : List (Fin 8 × Nat × Bool)}
    (row : exec c s = .next (s.order q i (fun b p s => (s.readErrors errors).runTable i q b p))) (current : b.openSet = set)
    (answer : ((s.setSlot q b.ran).readErrors errors).tableResult set i = some r) (h : s.ComesNext q b p i) :
    (∀ t, r = .ok t →
      (b.stage.any (fun st => st.opened) = false → exec c s = .next (State.startReady 24 (t.proceed q))) ∧
      (∀ st, b.stage = some st → st.opened = true → exec c s = .next (t.goesOn q (((t.slot q).getD b.ran).joined st i)))) ∧
    (∀ f, r = .error f → exec c s = .next (State.startReady 24
      (((s.setSlot q b.ran).readErrors errors).endBundle q ⟨6, p.index, 4, f.2.1 * 2 ^ 48 + f.2.2 * 2 ^ 32 + f.1⟩))) := by
  have ran := exec_of_comesNext h row (State.runTable_of_tableResult (b := b.ran) current answer)
  refine ⟨fun t ok => ⟨fun shut => ?_, fun st stage opened => ?_⟩, fun f error => ?_⟩
  · rw [ran, ok, State.tableAnswer_ok_alone (b := b.ran) (Bundle.openSet_of_any shut)]
  · rw [ran, ok, State.tableAnswer_ok_joins (b := b.ran) (Bundle.openSet_of_open stage opened), State.goesOn]
  · rw [ran, error, State.tableAnswer_error]

end

/-- Settles O33: a table write does what its answer asks for, and its answer is the staged one in an open set and the direct one
outside. -/
theorem tableOrders : Obligations.TableOrders := by
  intro s q b p pipes wide words errors read key r0 r1 holds
  have keyed : tblKey wide words = key := by cases wide <;> rfl
  have result : tblResult wide words = (r0, r1) := by cases wide <;> rfl
  refine ⟨fun st stage opened => ?_, fun shut => ?_⟩
  · have set : b.openSet = some st := Bundle.openSet_of_open stage opened
    refine ⟨exec_tableWrite rfl set ?_, exec_tableWrite rfl set ?_, exec_tableWrite rfl set ?_⟩ <;>
      simp only [State.tableResult, keyed, result] <;> rfl
  · have set : b.openSet = none := Bundle.openSet_of_any shut
    refine ⟨exec_tableWrite rfl set ?_, exec_tableWrite rfl set ?_, exec_tableWrite rfl set ?_, exec_tableWrite rfl set ?_,
      exec_tableWrite rfl set ?_⟩ <;> simp only [State.tableResult, keyed, result] <;> rfl

end Sys2Proof.Machine
end

section
/-! PROOFS. Learn notices and their timeouts (R298 to R300, R422), and the age sweep (R305 to R309). -/

namespace Sys2Proof.Machine

/-! ### Learn notices and their timeouts (R298 to R300, R422) -/

section
variable {s : State} {pl : Fin 8}

theorem exec_learnNotice {errors : List (Fin 8 × Nat × Bool)} (runs : s.Runs) :
    exec (.learnNotice pl errors) s = .next ((s.readErrors errors).takeNotice pl.val) := by
  change execLearnNotice pl errors s = _
  rw [execLearnNotice, State.clocked_of_runs runs]

theorem exec_learnAckTimeout {key : Word64} (acts : s.Acts) : exec (.learnAckTimeout pl key) s = .next (s.ackTimeout pl.val key) := by
  change execLearnAckTimeout pl key s = _
  rw [execLearnAckTimeout, State.awake_of_acts acts]

end

section
variable {s : State} {pl : Nat}

theorem State.takeNotice_empty (empty : SMap.get [] s.learnQ pl = []) : s.takeNotice pl = s := by
  simp only [State.takeNotice, empty]

/-- The oldest notice leaves its queue, and a device that is not STANDBY handles it. -/
theorem State.takeNotice_oldest {n : Notice} {rest : List Notice} (oldest : SMap.get [] s.learnQ pl = n :: rest) :
    let t := ({ s with learnQ := SMap.set [] s.learnQ pl rest } : State).setFld R.TBL_LEARN_Q_DEPTH pl rest.length
    s.takeNotice pl = if s.role = 3 then t else t.handleNotice n := by
  simp only [State.takeNotice, oldest]

theorem State.ackTimeout_settled {key : Word64} (settled : ∀ n ∈ s.notices, ¬ (n.key = key ∧ n.pipe = pl)) :
    s.ackTimeout pl key = s := by
  have unfound : s.notices.find? (fun n => n.key == key && n.pipe == pl) = none :=
    List.find?_eq_none.mpr (fun n hn => by simpa using settled n hn)
  simp only [State.ackTimeout, unfound]

theorem State.ackTimeout_pending {key : Word64} {n : Notice}
    (pending : s.notices.find? (fun n => n.key == key && n.pipe == pl) = some n) :
    let left := s.notices.filter (fun m => m != n)
    s.ackTimeout pl key =
      (({ s with notices := left } : State).setFld R.TBL_LEARN_STAT_PENDING 0 left.length).tblCount pl 9 1 := by
  simp only [State.ackTimeout, pending]

end

/-! ### The age sweep (R305 to R309) -/

section
variable {s : State} {pl place : Nat} {late : Option Bool}

theorem exec_ageSweepVisit {pl : Fin 8} {errors : List (Fin 8 × Nat × Bool)} (runs : s.Runs) :
    exec (.ageSweepVisit pl place late errors) s = .next ((s.readErrors errors).ageVisit pl.val place late) := by
  change execAgeSweepVisit pl place late errors s = _
  rw [execAgeSweepVisit, State.clocked_of_runs runs]

theorem State.ageVisit_nothing (nothing : SMap.find s.table (placeKey pl place) = none ∨ s.sweep = none) :
    s.ageVisit pl place late = s := by
  unfold State.ageVisit
  split
  case h_1 found swept => rcases nothing with h | h <;> simp [h] at found swept
  case h_2 => rfl

section
variable {e : TblEntry} {w : Sweep} (found : SMap.find s.table (placeKey pl place) = some e) (sweeps : s.sweep = some w)
include found sweeps

theorem State.ageVisit_spared (spared : e.agable = false ∨ s.flag R.TBL_AGE_CFG_AGE_EN 0 = false ∨ s.role = 3 ∨
    placeKey pl place ∈ (w.at s.sweepLength s.now).visited) : s.ageVisit pl place late = s := by
  have stays : (!e.agable || !s.flag R.TBL_AGE_CFG_AGE_EN 0 || s.role == 3 ||
      (w.at s.sweepLength s.now).visited.contains (placeKey pl place)) = true := by
    simpa [or_assoc] using spared
  simp only [State.ageVisit, found, sweeps, Option.map_some, stays, if_true]

end
end

/-- An entry that no other replica shares is the one that its visit acts on. -/
theorem State.agedWith_own {s : State} {pl k : Nat} {e : TblEntry} (alone : s.sharedKey pl e.key = false)
    (here : s.openEntry pl e.key = some (k, e)) (ages : e.agable = true) : s.agedWith pl e = [(k, e)] := by
  simp [State.agedWith, alone, here, ages]

@[simp] theorem State.noteChange_table (s : State) (c : TableChange) : (s.noteChange c).table = s.table := by
  unfold State.noteChange
  split <;> rfl

/-- The state in which a visit of place `k` has been noted. -/
def State.visiting (s : State) (w : Sweep) (k : Nat) : State :=
  { s with sweep := some { w with visited := k :: w.visited } }

/-- What a visit of a sweep does to an agable entry of its own pipeline (R307 to R309). -/
def State.ageOwn (s : State) (k : Nat) (e : TblEntry) (late : Option Bool) : State :=
  if late = some false then (s.updEntry k (fun g => g.aged 0 0)).updEntry k TblEntry.hit
  else if bit e.result0 42 then s.updEntry k (fun g => g.aged 0 0)
  else if !bit e.result0 31 then s.updEntry k (fun g => g.aged 1 0)
  else if late = some true then ((s.updEntry k (fun g => g.aged 0 0)).updEntry k TblEntry.hit).tblCount (k / 2 ^ 20) 13 1
  else s.ageOut false e [(k, e)] (k / 2 ^ 20)

theorem State.ageVisit_own {s : State} {pl place : Nat} {late : Option Bool} {e : TblEntry} {w : Sweep}
    (found : SMap.find s.table (placeKey pl place) = some e) (sweeps : s.sweep = some w)
    (ages : e.agable = true) (on : s.flag R.TBL_AGE_CFG_AGE_EN 0 = true) (role : s.role ≠ 3)
    (fresh : placeKey pl place ∉ (w.at s.sweepLength s.now).visited) (alone : s.sharedKey pl e.key = false)
    (here : s.openEntry pl e.key = some (placeKey pl place, e)) :
    s.ageVisit pl place late = (s.visiting (w.at s.sweepLength s.now) (placeKey pl place)).ageOwn (placeKey pl place) e late := by
  have acts : (!e.agable || !s.flag R.TBL_AGE_CFG_AGE_EN 0 || s.role == 3 ||
      (w.at s.sweepLength s.now).visited.contains (placeKey pl place)) = false := by
    simp [ages, on, role, fresh]
  have unshared (v : Option Sweep) : ({ s with sweep := v } : State).sharedKey pl e.key = false := alone
  simp only [State.ageVisit, found, sweeps, Option.map_some, acts, Bool.false_eq_true, if_false, State.agedWith_own alone here ages,
    List.any_cons, List.any_nil, Bool.or_false, List.foldl_cons, List.foldl_nil, List.map_cons, List.map_nil, List.cons_append,
    List.nil_append, List.head?_cons, Option.getD_some, unshared, State.ageOwn, State.visiting]

section
variable {s : State} {k : Nat} {e : TblEntry} {late : Option Bool}

theorem State.ageOwn_hitAtRead : s.ageOwn k e (some false) = (s.updEntry k (fun g => g.aged 0 0)).updEntry k TblEntry.hit := rfl

section
variable (later : late ≠ some false)
include later

theorem State.ageOwn_wasHit (hit : bits e.result0 42 42 = 1) : s.ageOwn k e late = s.updEntry k (fun g => g.aged 0 0) := by
  simp [State.ageOwn, bit_eq_bits, later, hit]

theorem State.ageOwn_idles (quiet : bits e.result0 42 42 = 0) (busy : bits e.result0 31 31 = 0) :
    s.ageOwn k e late = s.updEntry k (fun g => g.aged 1 0) := by
  simp [State.ageOwn, bit_eq_bits, later, quiet, busy]

end

section
variable (quiet : bits e.result0 42 42 = 0) (idle : bits e.result0 31 31 = 1)
include quiet idle

theorem State.ageOwn_hitAtRemoval : s.ageOwn k e (some true) =
    ((s.updEntry k (fun g => g.aged 0 0)).updEntry k TblEntry.hit).tblCount (k / 2 ^ 20) 13 1 := by
  simp [State.ageOwn, bit_eq_bits, quiet, idle]

theorem State.ageOwn_removes : s.ageOwn k e none = s.ageOut false e [(k, e)] (k / 2 ^ 20) := by
  simp [State.ageOwn, bit_eq_bits, quiet, idle]

end

/-- Removal by aging leaves the place empty, is counted, and is reported as kind 3 with the key. -/
theorem State.ageOut_own : ∃ v : State, SMap.find v.table k = none ∧ ∃ words : List Nat,
    words.head? = some (3 <<< 60 + (e.key.getD 0 0).toNat % 2 ^ 60) ∧
    s.ageOut false e [(k, e)] (k / 2 ^ 20) =
      (v.tblCount (k / 2 ^ 20) 12 1).raiseAt EV_LEARN (k / 2 ^ 20) (k / 2 ^ 20) words := by
  refine ⟨(s.delEntry k).noteChange { kind := 1, pipes := [k / 2 ^ 20], key := e.key, result := 0 }, ?_, _, ?_, rfl⟩
  · rw [State.noteChange_table]
    exact SMap.find_del_same s.table k
  · rfl

end

/-- Settles O54: what T0 does with the oldest notice and with a notice whose ACK is late, and what a visit of the age sweep does, by HIT
and IDLE of its entry and by the moment of a late hit. -/
theorem learningCommands : Obligations.LearningCommands := by
  refine ⟨fun s pl errors runs => ⟨fun empty => ?_, fun n rest oldest => ⟨fun standby => ?_, fun handles => ?_⟩⟩,
    fun s pl key acts => ⟨fun settled => ?_, fun n pending => ?_⟩, fun s pl place errors runs => ?_⟩
  · rw [exec_learnNotice runs, State.takeNotice_empty empty]
  · rw [exec_learnNotice runs, State.takeNotice_oldest oldest, if_pos standby]
  · rw [exec_learnNotice runs, State.takeNotice_oldest oldest, if_neg handles]
  · rw [exec_learnAckTimeout acts, State.ackTimeout_settled settled]
  · rw [exec_learnAckTimeout acts, State.ackTimeout_pending pending]
  · intro u k run
    have visit {late : Option Bool} {t : State} (h : u.ageVisit pl.val place late = t) : run late = .next t :=
      (exec_ageSweepVisit runs).trans (by rw [h])
    refine ⟨fun nothing late => visit (State.ageVisit_nothing nothing),
      fun e w found sweeps spared late => visit (State.ageVisit_spared found sweeps spared),
      fun e w found sweeps ages on role fresh alone here => ?_⟩
    intro now t hit idle
    have own {late : Option Bool} {v : State} (h : t.ageOwn k e late = v) : run late = .next v :=
      visit ((State.ageVisit_own found sweeps ages on role fresh alone here).trans h)
    refine ⟨own State.ageOwn_hitAtRead, fun late other was => own (State.ageOwn_wasHit other was),
      fun late other quiet busy => own (State.ageOwn_idles other quiet busy),
      fun quiet idles => own (State.ageOwn_hitAtRemoval quiet idles), fun quiet idles => ?_⟩
    obtain ⟨v, empty, words, names, removed⟩ := State.ageOut_own (s := t) (k := k) (e := e)
    exact ⟨v, empty, words, names, own ((State.ageOwn_removes quiet idles).trans removed)⟩

end Sys2Proof.Machine
end

section
/-! PROOFS. Servos (R378 to R380), armed steps (R384, R388), pulse outputs (R401, R402) and timing inputs (R404, R405). -/

namespace Sys2Proof.Machine

/-! ### Registers of time bases and timing inputs -/

/-- Two registers that repeat in blocks of 64 bytes, at different places of the block, lie apart for all their numbers. -/
theorem RegSpec.addr_apart {r r' : RegSpec} (blocks : 64 ∣ r.s1 ∧ 64 ∣ r.s2 ∧ 64 ∣ r'.s1 ∧ 64 ∣ r'.s2)
    (places : r.base % 64 ≠ r'.base % 64) (m n : Nat) : r.addr m ≠ r'.addr n := by
  obtain ⟨h1, h2, h1', h2'⟩ := blocks
  have place {r : RegSpec} (h1 : 64 ∣ r.s1) (h2 : 64 ∣ r.s2) (n : Nat) : r.addr n % 64 = r.base % 64 := by
    have rows : 64 ∣ n / r.n2 * r.s1 := Dvd.dvd.mul_left h1 _
    have columns : 64 ∣ n % r.n2 * r.s2 := Dvd.dvd.mul_left h2 _
    rw [RegSpec.addr]
    omega
  intro same
  exact places ((place h1 h2 m).symm.trans ((congrArg (· % 64) same).trans (place h1' h2' n)))

theorem curRate_addr (n : Nat) : R.TIME_TB_RATE_CUR.addr n = 0x40038 + 0x80 * n := by
  simp only [RegSpec.addr, R.TIME_TB_RATE_CUR]
  omega

/-! ### What an update leaves of servos and time bases -/

section
variable {s t : State}

theorem OnlyReports.servo (h : OnlyReports s t) (b : Nat) : t.servo b = s.servo b := by
  rw [h]
  rfl

theorem OnlyReports.tin (h : OnlyReports s t) (n : Nat) : t.tin n = s.tin n := by
  rw [h]
  rfl

theorem OnlyReports.tbGet (h : OnlyReports s t) (b : Nat) : t.tbGet b = s.tbGet b := by
  rw [h]
  rfl

theorem State.servo_updServo_same (s : State) (b : Nat) (f : Servo → Servo) : (s.updServo b f).servo b = f (s.servo b) :=
  SMap.get_upd_same _ _ _ _

theorem State.pulse_updPulse_same (s : State) (n : Nat) (f : Pulse → Pulse) : (s.updPulse n f).pulse n = f (s.pulse n) :=
  SMap.get_upd_same _ _ _ _

theorem State.tbGet_tbSet_same (s : State) (b : Nat) (v : TimeBase) : (s.tbSet b v).tbGet b = v := SMap.get_set_same _ _ _ _

@[simp] theorem State.fld_updServo (s : State) (b : Nat) (f : Servo → Servo) (g : Fld) (m : Nat) : (s.updServo b f).fld g m = s.fld g m :=
  State.fld_of_regs rfl g m

@[simp] theorem State.fld_updTin (s : State) (n : Nat) (f : TimeIn → TimeIn) (g : Fld) (m : Nat) : (s.updTin n f).fld g m = s.fld g m :=
  State.fld_of_regs rfl g m

@[simp] theorem State.servo_updTin (s : State) (n : Nat) (f : TimeIn → TimeIn) (b : Nat) : (s.updTin n f).servo b = s.servo b := by
  rw [State.servo, State.updTin_servos, State.servo]

/-- A change of an input that keeps its capture keeps the captures of all inputs. -/
theorem State.capture_updTin {f : TimeIn → TimeIn} (keeps : ∀ i, (f i).capture = i.capture) (s : State) (k n : Nat) :
    ((s.updTin k f).tin n).capture = (s.tin n).capture := by
  rcases eq_or_ne n k with rfl | other
  · exact (congrArg TimeIn.capture (SMap.get_upd_same _ _ _ _)).trans (keeps _)
  · exact congrArg TimeIn.capture (SMap.get_upd_other _ _ _ other)

end

/-! ### The rate in use (R376, R378, R381) -/

/-- What a rate reads as once it is stored within a limit: the field has 40 bits. -/
def storedRate (limit : Nat) (a : Int) : Int := signed 40 (unsigned 40 (clampRate limit a))

theorem signed_unsigned_eq_bmod (v : Int) : signed 40 (unsigned 40 v) = v.bmod (2 ^ 40) := by
  simp only [signed, unsigned, Int.bmod]
  split_ifs <;> omega

theorem clampRate_of_within {limit : Nat} {a : Int} (low : -(limit : Int) ≤ a) (high : a ≤ limit) : clampRate limit a = a := by
  simp only [clampRate]
  omega

theorem clampRate_within (limit : Nat) (a : Int) : -(limit : Int) ≤ clampRate limit a ∧ clampRate limit a ≤ limit := by
  simp only [clampRate]
  omega

/-- Storing a stored rate once more changes nothing: either the limit fits the field, or all that the field holds is within the limit. -/
theorem storedRate_storedRate (limit : Nat) (a : Int) : storedRate limit (storedRate limit a) = storedRate limit a := by
  obtain ⟨low, high⟩ := clampRate_within limit a
  simp only [storedRate, signed_unsigned_eq_bmod]
  rcases lt_or_ge limit (2 ^ 39) with fits | beyond
  · have whole : (clampRate limit a).bmod (2 ^ 40) = clampRate limit a := Int.bmod_eq_of_le (by omega) (by omega)
    rw [whole, clampRate_of_within low high, whole]
  · have least := Int.le_bmod (x := clampRate limit a) (m := 2 ^ 40) (by decide)
    have most := Int.bmod_lt (x := clampRate limit a) (m := 2 ^ 40) (by decide)
    rw [clampRate_of_within (by omega) (by omega), Int.bmod_bmod]

section
variable {s t : State} {b : Nat}

theorem State.tbRate_setRate (s : State) (b : Nat) (a : Int) : (s.setRate b a).tbRate b = storedRate (s.slewLimit b) a := by
  rw [State.tbRate, State.sfld, State.setRate, State.fld_setFld_same _ _ _ _ (by decide), storedRate, signed, signed]
  simp only [R.TIME_TB_RATE_CUR_RATE, Nat.mod_mod]

theorem State.fld_setRate_other (s : State) (b : Nat) (a : Int) {g : Fld} {m : Nat}
    (apart : g.reg.addr m ≠ R.TIME_TB_RATE_CUR.addr b) : (s.setRate b a).fld g m = s.fld g m :=
  State.fld_setFld_other _ _ _ _ _ _ apart

theorem State.tbRate_setRate_other (s : State) {b m : Nat} (a : Int) (other : m ≠ b) : (s.setRate b a).tbRate m = s.tbRate m := by
  refine congrArg (signed 40) (s.fld_setRate_other b a ?_)
  rw [R.TIME_TB_RATE_CUR_RATE, curRate_addr, curRate_addr]
  omega

/-- A field of a register at another place of its block than the rate in use is unchanged. -/
theorem State.fld_setRate_apart (s : State) (b : Nat) (a : Int) {g : Fld} {m : Nat} (blocks : 64 ∣ g.reg.s1 ∧ 64 ∣ g.reg.s2)
    (place : g.reg.base % 64 ≠ 0x38) : (s.setRate b a).fld g m = s.fld g m :=
  s.fld_setRate_other b a (RegSpec.addr_apart (r' := R.TIME_TB_RATE_CUR) ⟨blocks.1, blocks.2, by decide, by decide⟩ place m b)

/-- With a hardware source the rate in use is stored again. -/
theorem State.rateOf_hardware (software : rateSwInUse (s.source b) = false) (leader : s.source b ≠ 7) :
    s.rateOf b = s.setRate b (s.tbRate b) := by
  simp only [State.rateOf, software, leader, Bool.false_eq_true, if_false]

/-- What no rate of a follower changes is after the rates of TB0 and its followers as it is after TB0's. -/
theorem State.ratesFrom_zero_keeps {α : Type} (look : State → α)
    (keeps : ∀ (t : State) (i : Nat) (a : Int), look (t.setRate (i + 1) a) = look t) (s : State) : look (s.ratesFrom 0) = look (s.rateOf 0) := by
  have one (t : State) (i : Nat) : look (t.rateOf (i + 1)) = look t := by
    rw [State.rateOf]
    split_ifs <;> exact keeps ..
  have all (l : List Nat) (t : State) :
      look (l.foldl (fun s i => if s.source (i + 1) = 7 then s.rateOf (i + 1) else s) t) = look t := by
    induction l generalizing t with
    | nil => rfl
    | cons i l ih =>
      rw [List.foldl_cons, ih]
      split_ifs
      · exact one t i
      · rfl
  exact all _ _

end

/-! ### What a servo measures (R379) -/

/-- A servo notes its frequency error. -/
def State.noteFrequency (s : State) (b : Nat) (err : Int) : State := s.setFld R.TIME_TB_SERVO_FREQ_ERR b (unsigned 32 err)

/-- The servo of a time base with a timing input notes its phase error, and that the capture is used. -/
def State.notePhase (s : State) (b : Nat) : State :=
  let t := s.setFld R.TIME_TB_SERVO_PHASE_ERR b (unsigned 32 (Int.tdiv (s.phaseError b) 65536))
  t.updTin (t.source b - 1) (fun i => { i with fresh := false })

/-- The state after a servo has noted its frequency error and, of a timing input, its phase error. -/
def State.measured (s : State) (b : Nat) (err : Int) : State :=
  if s.source b ≠ 6 then (s.noteFrequency b err).notePhase b else s.noteFrequency b err

theorem unsigned_mod (w : Nat) (v : Int) : unsigned w v % 2 ^ w = unsigned w v := by
  have below : v % ((2 ^ w : Nat) : Int) < ((2 ^ w : Nat) : Int) := Int.emod_lt_of_pos _ (by positivity)
  exact Nat.mod_eq_of_lt ((Int.toNat_lt_of_ne_zero (by positivity)).mpr below)

section
variable {s : State} {b : Nat} {err : Int}

/-- What both notes of a servo keep, its measurement keeps. -/
theorem State.measured_keeps {α : Type} {look : State → α} {a : α} (frequency : look (s.noteFrequency b err) = a)
    (phase : ∀ t : State, look (t.notePhase b) = look t) : look (s.measured b err) = a := by
  rw [State.measured]
  split_ifs
  · exact (phase _).trans frequency
  · exact frequency

/-- A measurement leaves every field of a register at another place of its block than TIME_TB_SERVO. -/
theorem State.fld_measured (s : State) (b : Nat) (err : Int) {g : Fld} {m : Nat} (blocks : 64 ∣ g.reg.s1 ∧ 64 ∣ g.reg.s2)
    (place : g.reg.base % 64 ≠ 0x20) : (s.measured b err).fld g m = s.fld g m := by
  have apart : g.reg.addr m ≠ R.TIME_TB_SERVO.addr b :=
    RegSpec.addr_apart (r' := R.TIME_TB_SERVO) ⟨blocks.1, blocks.2, by decide, by decide⟩ place m b
  exact State.measured_keeps (look := (State.fld · g m)) (State.fld_setFld_other _ _ _ _ _ _ apart)
    (fun _ => (State.fld_updTin ..).trans (State.fld_setFld_other _ _ _ _ _ _ apart))

theorem State.freqErr_measured (s : State) (b : Nat) (err : Int) :
    (s.measured b err).fld R.TIME_TB_SERVO_FREQ_ERR b = unsigned 32 err :=
  State.measured_keeps (look := (State.fld · R.TIME_TB_SERVO_FREQ_ERR b))
    ((State.fld_setFld_same _ _ _ _ (by decide)).trans (unsigned_mod 32 err))
    (fun _ => (State.fld_updTin ..).trans (State.fld_setFld_beside _ _ _ _ _ rfl (by decide) (by decide)))

theorem State.servo_measured (s : State) (b : Nat) (err : Int) (c : Nat) : (s.measured b err).servo c = s.servo c :=
  State.measured_keeps (look := (State.servo · c)) ((State.onlyReports_setFld ..).servo c)
    (fun _ => (State.servo_updTin ..).trans ((State.onlyReports_setFld ..).servo c))

theorem State.capture_measured (s : State) (b : Nat) (err : Int) (n : Nat) : ((s.measured b err).tin n).capture = (s.tin n).capture :=
  State.measured_keeps (look := fun t => (t.tin n).capture) (congrArg TimeIn.capture ((State.onlyReports_setFld ..).tin n))
    (fun _ => (State.capture_updTin (f := fun i => { i with fresh := false }) (fun _ => rfl) ..).trans
      (congrArg TimeIn.capture ((State.onlyReports_setFld ..).tin n)))

theorem State.source_measured (s : State) (b : Nat) (err : Int) (c : Nat) : (s.measured b err).source c = s.source c :=
  s.fld_measured b err (by decide) (by decide)

theorem State.tbState_measured (s : State) (b : Nat) (err : Int) (c : Nat) : (s.measured b err).tbState c = s.tbState c :=
  s.fld_measured b err (by decide) (by decide)

theorem State.tbRate_measured (s : State) (b : Nat) (err : Int) (c : Nat) : (s.measured b err).tbRate c = s.tbRate c :=
  congrArg (signed 40) (s.fld_measured b err (by decide) (by decide))

theorem State.slewLimit_measured (s : State) (b : Nat) (err : Int) (c : Nat) : (s.measured b err).slewLimit c = s.slewLimit c := by
  rw [State.slewLimit, s.fld_measured b err (by decide) (by decide), State.slewLimit]

theorem State.phaseError_measured (s : State) (b : Nat) (err : Int) (c : Nat) : (s.measured b err).phaseError c = s.phaseError c := by
  have mode (n : Nat) : (s.measured b err).fld R.TIME_TIN_CFG_MODE n = s.fld R.TIME_TIN_CFG_MODE n :=
    s.fld_measured b err (by decide) (by decide)
  simp only [State.phaseError, State.source_measured, State.capture_measured, mode]

end

/-! ### How a servo steers (R380) -/

/-- Whether a servo steers the phase of its time base: its source is a timing input, and a step is spent. -/
abbrev State.phaseLoop (s : State) (b : Nat) : Prop := s.source b ≠ 6 ∧ s.fld R.TIME_TB_STAT_STEP b = 2

/-- The integral term of the loop on the phase error. -/
def State.loopIntegral (s : State) (b : Nat) : Int :=
  (s.servo b).integral.getD (s.tbRate b) - (Config.servoGains (2 ^ (s.fld R.TIME_TB_CFG_TAU b + 2))).2 * s.phaseError b

/-- The output of the loop on the phase error. -/
def State.loopRate (s : State) (b : Nat) : Int :=
  s.loopIntegral b - (Config.servoGains (2 ^ (s.fld R.TIME_TB_CFG_TAU b + 2))).1 * s.phaseError b

/-- The rate that cancels a frequency error. -/
def State.cancelRate (s : State) (b : Nat) (err : Int) : Int :=
  s.tbRate b - Int.tdiv (err * ((2 ^ 48 : Nat) : Int)) 256000000000

/-- The state after a servo has steered. -/
def State.steered (s : State) (b : Nat) (err : Int) : State :=
  if s.tbState b = tbHoldover then s
  else if s.source b ≠ 6 && s.fld R.TIME_TB_STAT_STEP b == 2 then s.steerPhase b
  else s.steerFrequency b err

section
variable {s : State} {b : Nat} {err : Int}

theorem State.loopIntegral_measured (s : State) (b : Nat) (err : Int) : (s.measured b err).loopIntegral b = s.loopIntegral b := by
  rw [State.loopIntegral, s.fld_measured b err (by decide) (by decide), State.servo_measured, State.tbRate_measured,
    State.phaseError_measured, State.loopIntegral]

theorem State.loopRate_measured (s : State) (b : Nat) (err : Int) : (s.measured b err).loopRate b = s.loopRate b := by
  rw [State.loopRate, s.fld_measured b err (by decide) (by decide), State.loopIntegral_measured, State.phaseError_measured,
    State.loopRate]

theorem State.cancelRate_measured (s : State) (b : Nat) (err : Int) : (s.measured b err).cancelRate b err = s.cancelRate b err := by
  rw [State.cancelRate, State.tbRate_measured, State.cancelRate]

theorem State.phaseLoop_measured (s : State) (b : Nat) (err : Int) : (s.measured b err).phaseLoop b ↔ s.phaseLoop b := by
  rw [State.phaseLoop, State.source_measured, s.fld_measured b err (by decide) (by decide), State.phaseLoop]

theorem State.steered_held (held : s.tbState b = tbHoldover) : s.steered b err = s := if_pos held

section
variable (free : s.tbState b ≠ tbHoldover)
include free

theorem State.steered_phase (phase : s.phaseLoop b) : s.steered b err =
    (s.updServo b (fun v => { v with integral := some (s.loopIntegral b) })).setRate b (s.loopRate b) := by
  obtain ⟨input, spent⟩ := phase
  simp only [State.steered, free, input, spent, if_false, ne_eq, not_false_eq_true, decide_true, BEq.rfl, Bool.and_self, if_true]
  rfl

theorem State.steered_frequency (frequency : ¬ s.phaseLoop b) : s.steered b err = s.setRate b (s.cancelRate b err) := by
  have other : (decide (s.source b ≠ 6) && s.fld R.TIME_TB_STAT_STEP b == 2) = false := by
    simpa [State.phaseLoop] using frequency
  simp only [State.steered, free, other, if_false, Bool.false_eq_true]
  rfl

end

/-- Steering leaves every field of a register at another place of its block than the rate in use. -/
theorem State.fld_steered (s : State) (b : Nat) (err : Int) {g : Fld} {m : Nat} (blocks : 64 ∣ g.reg.s1 ∧ 64 ∣ g.reg.s2)
    (place : g.reg.base % 64 ≠ 0x38) : (s.steered b err).fld g m = s.fld g m := by
  by_cases held : s.tbState b = tbHoldover
  · rw [State.steered_held held]
  · by_cases phase : s.phaseLoop b
    · rw [State.steered_phase held phase, State.fld_setRate_apart _ _ _ blocks place]
      exact State.fld_of_regs rfl g m
    · rw [State.steered_frequency held phase, State.fld_setRate_apart _ _ _ blocks place]

end

/-! ### SERVO_UPDATE (R378 to R380) -/

/-- Good updates in a row once an update with this frequency error is counted. -/
def State.goodUpdates (s : State) (b : Nat) (err : Int) : Nat := if err.natAbs ≤ 50 * 256 then (s.servo b).good + 1 else 0

/-- The followers of TB0 take its rate. -/
def State.led (s : State) (b : Nat) : State := if b = 0 then s.ratesFrom 0 else s

/-- A servo counts its good updates and, in LOCKED, notes its rate. -/
def State.countUpdate (s : State) (b good : Nat) : State :=
  s.updServo b (fun v => { v with
    good := good, rates := if s.tbState b = tbLocked then ((s.tbRate b, s.now) :: v.rates).take 128 else v.rates })

/-- The state after a servo has measured, steered and counted, before its lock state moves. -/
def State.served (s : State) (b : Nat) (err : Int) : State :=
  (((s.measured b err).steered b err).led b).countUpdate b (s.goodUpdates b err)

section
variable {s : State} {b : Nat} {err : Int}

theorem State.servoUpdate_idle (none_found : s.freqError b = none) : s.servoUpdate b = s := by
  simp only [State.servoUpdate, none_found]

theorem State.good_countUpdate (s : State) (b good : Nat) : ((s.countUpdate b good).servo b).good = good :=
  congrArg Servo.good (s.servo_updServo_same b _)

theorem State.integral_countUpdate (s : State) (b good : Nat) :
    ((s.countUpdate b good).servo b).integral = (s.servo b).integral := by
  rw [State.countUpdate, State.servo_updServo_same]

theorem State.fld_countUpdate (s : State) (b good : Nat) (g : Fld) (m : Nat) : (s.countUpdate b good).fld g m = s.fld g m :=
  State.fld_updServo ..

/-- A servo that has a measurement locks its time base once LOCK_N good updates have come. -/
theorem State.servoUpdate_found (found : s.freqError b = some err) : s.servoUpdate b =
    let t := s.served b err
    if t.tbState b ≠ tbLocked ∧ t.fld R.TIME_TB_CFG_LOCK_N b ≤ (t.servo b).good then t.toTb b tbLocked else t := by
  unfold State.servoUpdate
  split
  next unfound => cases found.symm.trans unfound
  next e foundE =>
    obtain rfl : err = e := Option.some.inj (found.symm.trans foundE)
    extract_lets tin noted phased m good steered led t outcome
    have measured : m = s.measured b err := by
      by_cases input : s.source b ≠ 6
      · have both : phased = noted.setFld R.TIME_TB_SERVO_PHASE_ERR b (unsigned 32 (Int.tdiv (noted.phaseError b) 65536)) := if_pos input
        rw [State.measured, if_pos input, State.notePhase, State.noteFrequency, ← both]
        exact if_pos input
      · have alone : phased = noted := if_neg input
        rw [State.measured, if_neg input]
        exact (if_neg input).trans alone
    have counted : good = s.goodUpdates b err := by
      rw [State.goodUpdates, ← State.servo_measured s b err b, ← measured]
    have steers : steered = m.steered b err := by
      rw [State.steered, measured, State.source_measured, ← measured]
    have result : t = outcome := by
      change t = s.served b err
      rw [State.served, ← measured, ← steers, ← counted]
      rfl
    have same : (t.servo b).good = good := State.good_countUpdate led b good
    rw [← result, same]
    simp only [bne_iff_ne, Bool.and_eq_true, decide_eq_true_eq]

end

/-- The rate that a servo sets. -/
def State.servoRate (s : State) (b : Nat) (err : Int) : Int :=
  if s.tbState b = tbHoldover then s.tbRate b
  else if s.phaseLoop b then s.loopRate b
  else s.cancelRate b err

section
variable {s : State} {b : Nat} {err : Int}

theorem State.slewLimit_steered (s : State) (b : Nat) (err : Int) : (s.steered b err).slewLimit b = s.slewLimit b := by
  rw [State.slewLimit, s.fld_steered b err (by decide) (by decide), State.slewLimit]

/-- A measurement in HOLDOVER leaves the rate as it is; otherwise the rate is set within the limit. -/
theorem State.tbRate_steered (s : State) (b : Nat) (err : Int) : ((s.measured b err).steered b err).tbRate b =
    if s.tbState b = tbHoldover then s.tbRate b else storedRate (s.slewLimit b) (s.servoRate b err) := by
  by_cases held : s.tbState b = tbHoldover
  · rw [State.steered_held ((s.tbState_measured b err b).trans held), State.tbRate_measured, if_pos held]
  · have free : (s.measured b err).tbState b ≠ tbHoldover := by rwa [State.tbState_measured]
    rw [State.servoRate, if_neg held, if_neg held]
    by_cases phase : s.phaseLoop b
    · rw [State.steered_phase free ((s.phaseLoop_measured b err).mpr phase), State.tbRate_setRate, if_pos phase,
        State.loopRate_measured, ← State.slewLimit_measured s b err b]
      rfl
    · rw [State.steered_frequency free (mt (s.phaseLoop_measured b err).mp phase), State.tbRate_setRate, if_neg phase,
        State.cancelRate_measured, State.slewLimit_measured]

/-- The source of a servo with a measurement is hardware. -/
theorem State.source_of_freqError (found : s.freqError b = some err) : rateSwInUse (s.source b) = false ∧ s.source b ≠ 7 := by
  have kinds : (1 ≤ s.source b ∧ s.source b ≤ 4) ∨ s.source b = 6 := by
    by_contra other
    rw [not_or] at other
    obtain ⟨noInput, noLane⟩ := other
    simp [State.freqError, noInput, noLane] at found
  rw [rateSwInUse, Bool.or_eq_false_iff, beq_eq_false_iff_ne, beq_eq_false_iff_ne]
  omega

section
variable (software : rateSwInUse (s.source b) = false) (leader : s.source b ≠ 7)
include software leader

/-- What no rate in use changes is unchanged when the followers of TB0 take its rate. -/
theorem State.led_keeps {α : Type} (look : State → α)
    (keeps : ∀ (t : State) (i : Nat) (a : Int), look (t.setRate i a) = look t) : look (s.led b) = look s := by
  rw [State.led]
  split_ifs with first
  · subst first
    rw [State.ratesFrom_zero_keeps look (fun t i a => keeps t (i + 1) a), State.rateOf_hardware software leader]
    exact keeps ..
  · rfl

theorem State.fld_led {g : Fld} {m : Nat} (blocks : 64 ∣ g.reg.s1 ∧ 64 ∣ g.reg.s2)
    (place : g.reg.base % 64 ≠ 0x38) : (s.led b).fld g m = s.fld g m :=
  State.led_keeps software leader (State.fld · g m) (fun t i a => t.fld_setRate_apart i a blocks place)

/-- When the followers take the rate of TB0, it is stored again. -/
theorem State.tbRate_led :
    (s.led b).tbRate b = if b = 0 then storedRate (s.slewLimit b) (s.tbRate b) else s.tbRate b := by
  rw [State.led]
  split_ifs with first
  · subst first
    rw [State.ratesFrom_zero_keeps (State.tbRate · 0) (fun t i a => t.tbRate_setRate_other a (Nat.zero_ne_add_one i)),
      State.rateOf_hardware software leader, State.tbRate_setRate]
  · rfl

end

/-- Measuring and steering leave the source, which is hardware. -/
theorem State.hardware_steered (found : s.freqError b = some err) :
    rateSwInUse (((s.measured b err).steered b err).source b) = false ∧ ((s.measured b err).steered b err).source b ≠ 7 := by
  have same : ((s.measured b err).steered b err).source b = s.source b :=
    (State.fld_steered _ b err (by decide) (by decide)).trans (s.source_measured b err b)
  rw [same]
  exact State.source_of_freqError found

variable (found : s.freqError b = some err)
include found

/-- The frequency error is shown. -/
theorem State.freqErr_served : (s.served b err).fld R.TIME_TB_SERVO_FREQ_ERR b = unsigned 32 err := by
  obtain ⟨software, leader⟩ := State.hardware_steered found
  rw [State.served, State.fld_countUpdate, State.fld_led software leader (by decide) (by decide),
    State.fld_steered _ _ _ (by decide) (by decide), State.freqErr_measured]

/-- The rate in use is the servo's rate within the limit, but in HOLDOVER that of a time base other than TB0 is left as it is. -/
theorem State.tbRate_served : (s.served b err).tbRate b =
    (if s.tbState b = tbHoldover ∧ b ≠ 0 then s else s.setRate b (s.servoRate b err)).tbRate b := by
  obtain ⟨software, leader⟩ := State.hardware_steered found
  have counted : (s.served b err).tbRate b = (((s.measured b err).steered b err).led b).tbRate b :=
    congrArg (signed 40) (State.fld_countUpdate ..)
  rw [counted, State.tbRate_led software leader, State.slewLimit_steered, State.slewLimit_measured, State.tbRate_steered]
  by_cases held : s.tbState b = tbHoldover
  · have rate : s.servoRate b err = s.tbRate b := if_pos held
    by_cases first : b = 0
    · rw [if_pos held, if_pos first, if_neg (fun h => h.2 first), rate, State.tbRate_setRate]
    · rw [if_pos held, if_neg first, if_pos ⟨held, first⟩]
  · rw [if_neg held, if_neg (mt And.left held), State.tbRate_setRate, storedRate_storedRate, ite_self]

/-- The loop on the phase error keeps its integral term. -/
theorem State.integral_served (free : s.tbState b ≠ tbHoldover) (phase : s.phaseLoop b) :
    ((s.served b err).servo b).integral = some (s.loopIntegral b) := by
  obtain ⟨software, leader⟩ := State.hardware_steered found
  have ledServo := State.led_keeps software leader (State.servo · b) (fun t i a => (State.onlyReports_setFld t ..).servo b)
  have freeStill : (s.measured b err).tbState b ≠ tbHoldover := by rwa [State.tbState_measured]
  rw [State.served, State.integral_countUpdate, ledServo, State.steered_phase freeStill ((s.phaseLoop_measured b err).mpr phase),
    State.loopIntegral_measured]
  exact congrArg Servo.integral (((State.onlyReports_setFld ..).servo b).trans (State.servo_updServo_same ..))

end

/-! ### TB_STEP_APPLY (R384, R388) -/

/-- The size of a step in whole nanoseconds, as STEP_LAST holds it. -/
def stepShown (delta : Int) : Int :=
  max (-((2 ^ 63 - 1 : Nat) : Int)) (min ((2 ^ 63 - 1 : Nat) : Int) (Int.tdiv delta (nsUnits : Int)))

/-- A time base has moved by its armed step, and none is armed. -/
def State.moved (s : State) (b : Nat) (delta : Int) : State :=
  (s.tbSet b { s.tbGet b with value := (((s.tbGet b).value : Int) + delta).toNat }).updServo b (fun r => { r with armed := none })

/-- A step that took effect is shown in STEP_LAST and STEP_EPOCH and reported. -/
def State.showStep (s : State) (b : Nat) (delta : Int) : State :=
  let t := s.setFld R.TIME_TB_STEP_LAST_DELTA b (unsigned 64 (stepShown delta))
  (t.setFld R.TIME_TB_STEP_EPOCH_EPOCH b t.epochNum).raiseOf EV_TB_STEP b

section
variable {s : State} {b : Nat} {delta : Int}

theorem State.onlyReports_showStep (s : State) (b : Nat) (delta : Int) : OnlyReports s (s.showStep b delta) :=
  ((s.onlyReports_setFld ..).trans (State.onlyReports_setFld ..)).trans (State.onlyReports_raiseAt ..)

/-- The event of a step leaves every register at another place of its block than TIME_TB_STAT. -/
theorem State.fld_stepEvent (s : State) (b : Nat) {g : Fld} {m : Nat} (blocks : 64 ∣ g.reg.s1 ∧ 64 ∣ g.reg.s2)
    (place : g.reg.base % 64 ≠ 0x1C) : (s.raiseOf EV_TB_STEP b).fld g m = s.fld g m :=
  State.fld_raiseAt_other (f := R.TIME_TB_STAT_STEPPED) rfl
    (RegSpec.addr_apart (r' := R.TIME_TB_STAT) ⟨blocks.1, blocks.2, by decide, by decide⟩ place m b) _ _

theorem State.stepLast_showStep (s : State) (b : Nat) (delta : Int) :
    (s.showStep b delta).fld R.TIME_TB_STEP_LAST_DELTA b = unsigned 64 (stepShown delta) := by
  have apart : R.TIME_TB_STEP_LAST.addr b ≠ R.TIME_TB_STEP_EPOCH.addr b := RegSpec.addr_apart (by decide) (by decide) b b
  rw [State.showStep, State.fld_stepEvent _ _ (by decide) (by decide), State.fld_setFld_other _ _ _ _ _ _ apart,
    State.fld_setFld_same _ _ _ _ (by decide)]
  exact unsigned_mod 64 _

/-- The epoch number lies apart from the registers of time bases. -/
theorem State.epochNum_setStepLast (s : State) (b v : Nat) : (s.setFld R.TIME_TB_STEP_LAST_DELTA b v).epochNum = s.epochNum := by
  refine State.fld_setFld_other _ _ _ _ _ _ ?_
  simp only [RegSpec.addr, R.DEV_EPOCH_NUM_EPOCH, R.DEV_EPOCH_NUM, R.TIME_TB_STEP_LAST_DELTA, R.TIME_TB_STEP_LAST]
  omega

theorem State.stepEpoch_showStep (s : State) (b : Nat) (delta : Int) :
    (s.showStep b delta).fld R.TIME_TB_STEP_EPOCH_EPOCH b = s.epochNum := by
  rw [State.showStep, State.fld_stepEvent _ _ (by decide) (by decide), State.fld_setFld_same _ _ _ _ (by decide),
    State.epochNum_setStepLast]
  exact Nat.mod_eq_of_lt (bits_lt _ 47 0)

theorem State.tbGet_moved (s : State) (b : Nat) (delta : Int) :
    ((s.moved b delta).tbGet b).value = (((s.tbGet b).value : Int) + delta).toNat :=
  congrArg TimeBase.value (s.tbGet_tbSet_same b _)

theorem State.armed_moved (s : State) (b : Nat) (delta : Int) : ((s.moved b delta).servo b).armed = none :=
  congrArg Servo.armed (State.servo_updServo_same _ b _)

theorem State.tbFine_withEpoch (s : State) (e : Epoch) (b : Nat) : ({ s with epoch := e } : State).tbFine b = s.tbFine b := rfl

/-- A new edge leaves the time bases. -/
theorem State.tbFine_retarget (s : State) (b : Nat) : s.retarget.tbFine b = s.tbFine b := by
  rw [State.retarget]
  exact s.tbFine_withEpoch _ b

/-- What a due step does: the time base moves, the step is shown, TB0 has a new edge, and the pulse outputs follow. -/
def State.stepDue (s : State) (b : Nat) (delta : Int) : State :=
  let t := (s.moved b delta).showStep b delta
  (List.range 16).foldl (State.stepPulse b (s.tbFine b) (t.tbFine b)) (if b = 0 then t.retarget else t)

theorem State.applyStep_unarmed (unarmed : (s.servo b).armed = none) : s.applyStep b = s := by
  simp only [State.applyStep, unarmed]

section
variable {instant : Nat} (armed : (s.servo b).armed = some (instant, delta))
include armed

theorem State.applyStep_edgeFirst (edge : b = 0 ∧ s.epoch.target ≤ max instant (s.tbGet 0).value) : s.applyStep b = s := by
  obtain ⟨rfl, due⟩ := edge
  simp only [State.applyStep, armed, due, decide_true, Bool.and_self, if_true]

theorem State.applyStep_due (free : ¬ (b = 0 ∧ s.epoch.target ≤ max instant (s.tbGet 0).value)) :
    s.applyStep b = (s.advanceUntil b instant).stepDue b delta := by
  have fine (t : State) : (if b = 0 then t.retarget else t).tbFine b = t.tbFine b := by
    split_ifs
    · exact t.tbFine_retarget b
    · rfl
  have goes : ¬ (decide (b = 0) && decide (s.epoch.target ≤ max instant (s.tbGet 0).value)) = true := by simpa using free
  unfold State.applyStep
  rw [armed]
  refine (if_neg goes).trans ?_
  extract_lets s' before old value moved size held counted shown edged
  have same : shown = (s'.moved b delta).showStep b delta := rfl
  have after : edged.tbFine b = shown.tbFine b := fine shown
  rw [after, State.stepDue, ← same]

end
end

/-! ### PULSE_EMIT (R401, R402) -/

/-- A pulse output puts out its pulse of time `at'`, and its next pulse is that of `next`. -/
def State.pulsed (s : State) (n at' : Nat) (next : Option Nat) : State :=
  (s.emit (.pulse n (s.pulseWidth n) (s.flag R.TIME_TPO_CFG_POL n))).updPulse n
    (fun p => { p with last := some at', active := true, next := next })

/-- What a pulse output does at the time `at'` of its pulse: it schedules the next one of a train, and ends a single one. -/
def State.firePulse (s : State) (n at' : Nat) : State :=
  let train := s.flag R.TIME_TPO_CFG_TRAIN n
  let t := s.emit (.pulse n (s.pulseWidth n) (s.flag R.TIME_TPO_CFG_POL n))
  let u := t.updPulse n (fun p => { p with
    last := some at', active := true, next := if train then some (at' + t.reg R.TIME_TPO_PERIOD n) else none })
  if train then u else u.lifeForce R.TIME_TPO_STAT_LC n

section
variable {s : State} {n at' : Nat} {next : Option Nat}

theorem State.out_pulsed : (s.pulsed n at' next).out = s.out ++ [.pulse n (s.pulseWidth n) (s.flag R.TIME_TPO_CFG_POL n)] := rfl

theorem State.pulse_pulsed :
    (s.pulsed n at' next).pulse n = { s.pulse n with last := some at', active := true, next := next } :=
  State.pulse_updPulse_same _ n _

theorem State.pulsed_frame :
    s.pulsed n at' next = { s with out := (s.pulsed n at' next).out, pulses := (s.pulsed n at' next).pulses } := rfl

theorem State.emitPulse_idle (idle : s.life R.TIME_TPO_STAT_LC n ≠ .on ∨ (s.pulse n).next = none) : s.emitPulse n = s := by
  rcases idle with off | unscheduled
  · exact if_pos (bne_iff_ne.mpr off)
  · rw [State.emitPulse, unscheduled]
    exact ite_self _

theorem State.emitPulse_due (on : s.life R.TIME_TPO_STAT_LC n = .on) (scheduled : (s.pulse n).next = some at') :
    s.emitPulse n = (s.advanceUntil (s.fld R.TIME_TPO_CFG_TB n) (at' * 2 ^ 48)).firePulse n at' := by
  rw [State.emitPulse, on, scheduled]
  exact if_neg Bool.false_ne_true

/-- A train schedules its next pulse a period later. -/
theorem State.firePulse_train (train : s.flag R.TIME_TPO_CFG_TRAIN n = true) :
    s.firePulse n at' = s.pulsed n at' (some (at' + s.reg R.TIME_TPO_PERIOD n)) := by
  simp only [State.firePulse, train]
  rfl

/-- After a single pulse the device asks for a disable. -/
theorem State.firePulse_single (single : s.flag R.TIME_TPO_CFG_TRAIN n = false) :
    s.firePulse n at' = (s.pulsed n at' none).lifeForce R.TIME_TPO_STAT_LC n := by
  simp only [State.firePulse, single]
  rfl

end

/-! ### Timing inputs (R404, R405) -/

section
variable {s : State} {n : Nat}

theorem State.tinEdge_off (pps : s.fld R.TIME_TIN_CFG_MODE n ≠ 1) (tenMHz : s.fld R.TIME_TIN_CFG_MODE n ≠ 2) : s.tinEdge n = s := by
  unfold State.tinEdge
  split
  · contradiction
  · contradiction
  · rfl

theorem State.tinEdge_tenMHz (mode : s.fld R.TIME_TIN_CFG_MODE n = 2) : s.tinEdge n = s.acceptEdge n := by
  simp only [State.tinEdge, mode]

section
variable (pps : s.fld R.TIME_TIN_CFG_MODE n = 1)
include pps

theorem State.tinEdge_first (first : (s.tin n).edge = none) : s.tinEdge n = s.acceptEdge n := by
  simp only [State.tinEdge, pps, first]

/-- In the pulse-per-second mode an edge behind another counts where it comes within 100 µs of one second after it. -/
theorem State.tinEdge_later {t : Nat} (last : (s.tin n).edge = some t) : s.tinEdge n =
    if 999900000 * 65536 ≤ s.now - t ∧ s.now - t ≤ 1000100000 * 65536 then s.acceptEdge n else s.bump R.TIME_TIN_REJECTED_COUNT n 1 := by
  simp only [State.tinEdge, pps, last, Bool.and_eq_true, decide_eq_true_eq]

end
end

/-! ### The commands of time -/

section
variable {s : State} (acts : s.Acts)
include acts

theorem exec_servoUpdate (b : Fin 8) : exec (.servoUpdate b) s = .next (s.servoUpdate b.val) := by
  change execServoUpdate b s = _
  rw [execServoUpdate, State.awake_of_acts acts]

theorem exec_tbStepApply (b : Fin 8) : exec (.tbStepApply b) s = .next (s.applyStep b.val) := by
  change execTbStepApply b s = _
  rw [execTbStepApply, State.awake_of_acts acts]

theorem exec_pulseEmit (n : Fin 16) : exec (.pulseEmit n) s = .next (s.emitPulse n.val) := by
  change execPulseEmit n s = _
  rw [execPulseEmit, State.awake_of_acts acts]

theorem exec_tinLossTimeout (n : Fin 4) : exec (.tinLossTimeout n) s = .next (s.tinLoss n.val) := by
  change execTinLossTimeout n s = _
  rw [execTinLossTimeout, State.awake_of_acts acts]

theorem exec_tinEdge (n : Fin 4) (rising : Bool) (time : Nat) : exec (.tinEdge n rising time) s =
    .next (if (s.advance time).fld R.TIME_TIN_CFG_EDGE n.val = 0 ↔ rising = true then (s.advance time).tinEdge n.val
      else s.advance time) := by
  have polarity : (((s.advance time).fld R.TIME_TIN_CFG_EDGE n.val == 0) == rising) = true ↔
      ((s.advance time).fld R.TIME_TIN_CFG_EDGE n.val = 0 ↔ rising = true) := by
    rw [beq_iff_eq, Bool.eq_iff_iff, beq_iff_eq]
  change execTinEdge n rising time s = _
  simp only [execTinEdge, State.awake_of_acts acts, polarity]

end

/-- Settles O53: a servo that has a measurement measures, steers and counts, an armed step waits for a due edge or moves its time base,
a pulse output goes by its life cycle and its schedule, and an edge of an input by its polarity, its mode and the edge before it. -/
theorem timingCommands : Obligations.TimingCommands := by
  refine ⟨⟨fun s b acts unfound => ?_, fun s b err acts found => ?_, fun s b acts => ⟨fun unarmed => ?_, fun instant delta armed => ?_⟩,
    fun s n acts => ⟨fun idle => ?_, fun at' on scheduled => ⟨fun train => ?_, fun single => ?_⟩⟩⟩,
    fun s n acts => ⟨fun rising time => ?_, fun off => ?_, fun on => ?_⟩⟩
  · rw [exec_servoUpdate acts, State.servoUpdate_idle unfound]
  · exact ⟨s.served b err, State.freqErr_served found, State.tbRate_served found, State.integral_served found,
      State.good_countUpdate .., by rw [exec_servoUpdate acts, State.servoUpdate_found found]⟩
  · rw [exec_tbStepApply acts, State.applyStep_unarmed unarmed]
  · refine ⟨fun edgeFirst => ?_, fun free => ?_⟩
    · rw [exec_tbStepApply acts, State.applyStep_edgeFirst armed edgeFirst]
    · have reports := ((s.advanceUntil b instant).moved b delta).onlyReports_showStep b delta
      refine ⟨((s.advanceUntil b instant).moved b delta).showStep b delta, ?_, ?_, State.stepLast_showStep ..,
        State.stepEpoch_showStep .., ?_⟩
      · rw [reports.tbGet, State.tbGet_moved]
      · rw [reports.servo, State.armed_moved]
      · rw [exec_tbStepApply acts, State.applyStep_due armed free, State.stepDue]
  · rw [exec_pulseEmit acts, State.emitPulse_idle idle]
  · exact ⟨_, by rw [exec_pulseEmit acts, State.emitPulse_due on scheduled, State.firePulse_train train], State.out_pulsed,
      State.pulse_pulsed, State.pulsed_frame⟩
  · exact ⟨_, by rw [exec_pulseEmit acts, State.emitPulse_due on scheduled, State.firePulse_single single], State.out_pulsed,
      congrArg Pulse.next State.pulse_pulsed, State.pulsed_frame⟩
  · intro s' active
    refine ⟨fun other => ?_, fun same => ?_⟩
    · rw [exec_tinEdge acts, if_neg other]
    · have edge {t : State} (h : s'.tinEdge n.val = t) : exec (.tinEdge n rising time) s = .next t := by
        rw [exec_tinEdge acts, if_pos same, h]
      refine ⟨fun pps tenMHz => edge (State.tinEdge_off pps tenMHz), fun mode => edge (State.tinEdge_tenMHz mode),
        fun pps => ⟨fun first => edge (State.tinEdge_first pps first), fun t last => ⟨fun early late => ?_, fun outside => ?_⟩⟩⟩
      · exact edge ((State.tinEdge_later pps last).trans (if_pos ⟨early, late⟩))
      · exact edge ((State.tinEdge_later pps last).trans (if_neg (by omega)))
  · rw [exec_tinLossTimeout acts, State.tinLoss, if_pos off]
  · rw [exec_tinLossTimeout acts, State.tinLoss, if_neg on]

end Sys2Proof.Machine
end

section
/-! PROOFS. The orders of the pair: PAIR.ROLE (R411, R412) and PAIR.SWAP (R428). -/

namespace Sys2Proof.Machine

/-! ### Roles (R411) -/

section
variable {s : State}

/-- The role is a register's: what the device holds beside its registers leaves it alone. -/
@[simp] theorem State.role_updPair (f : Pair → Pair) : (s.updPair f).role = s.role := State.fld_of_regs rfl _ _

/-- A device that takes a role has it: neither the event of the change nor a fresh Sideboard touches ROLE. -/
theorem State.role_setRole {r : Nat} (role : r < 8) : (s.setRole r).role = r := by
  have raised : ((s.setFld R.PAIR_STAT_ROLE 0 r).raise EV_PAIR_ROLE 0).role = r := by
    refine (State.fld_raiseAt_other (f := R.PAIR_EVT_ROLE) rfl (by decide) _ _).trans ?_
    exact (State.fld_setFld_same _ R.PAIR_STAT_ROLE _ _ (by decide)).trans (Nat.mod_eq_of_lt role)
  unfold State.setRole
  split
  case isTrue same => exact same
  case isFalse =>
    dsimp only
    split
    · exact (State.role_updPair _).trans raised
    · exact raised

/-- The device begins to synchronize: READY is 0 (R423), and nothing of an earlier bulk copy or Sideboard copy is kept
(R424; log 51, DEDUCED). -/
def State.syncing (s : State) : State :=
  ((s.setRole 2).updPair (fun r => { r with
    bulk := false, cycled := false, run := 0, copy := none, own := none, slices := (0, []), counters := none })).setFlag
      R.PAIR_STAT_READY 0 false

theorem State.role_syncing : s.syncing.role = 2 :=
  (State.fld_setFld_beside _ R.PAIR_STAT_READY R.PAIR_STAT_ROLE _ _ rfl (by decide) (by decide)).trans
    ((State.role_updPair _).trans (State.role_setRole (by decide)))

theorem State.ready_syncing : s.syncing.flag R.PAIR_STAT_READY 0 = false := State.flag_setFlag_same _ _ _ _ rfl (by decide)

end

/-! ### PAIR.ROLE (R411, R412) -/

section
variable {s : State} {q : OrderQueue} {b : Bundle} {p : ProgStep} {active : Bool}

/-- PAIR.ROLE 1 beside an ACTIVE peer fails, whatever the device's own role: the peer is tested first (log 51, DEDUCED). -/
theorem exec_pairRole_activePeer (h : s.ComesNext q b p (.pairRole active)) (asked : active = true) (peer : s.peerRole = 1) :
    exec (.pairRole q active) s = .next (s.failsAt q b.ran p 6 4 0x0403) :=
  exec_of_comesNext h rfl (if_pos ⟨asked, peer⟩)

theorem exec_pairRole_otherRole (h : s.ComesNext q b p (.pairRole active)) (free : ¬ (active = true ∧ s.peerRole = 1))
    (role : s.role ≠ 0 ∧ s.role ≠ 4) : exec (.pairRole q active) s = .next (s.failsAt q b.ran p 6 4 0x0402) :=
  exec_of_comesNext h rfl ((if_neg free).trans (if_pos role))

theorem exec_pairRole_active (h : s.ComesNext q b p (.pairRole true)) (peer : s.peerRole ≠ 1) (role : ¬ (s.role ≠ 0 ∧ s.role ≠ 4)) :
    exec (.pairRole q true) s = .next (State.startReady 24
      ((((s.setSlot q b.ran).setRole 1).updPair (fun r => { r with txOn := true, txOff := false })).settlePair.proceed q)) :=
  exec_of_comesNext h rfl ((if_neg (fun both => peer both.2)).trans (if_neg role))

theorem exec_pairRole_syncing (h : s.ComesNext q b p (.pairRole false)) (role : ¬ (s.role ≠ 0 ∧ s.role ≠ 4)) :
    exec (.pairRole q false) s = .next (State.startReady 24 ((s.setSlot q b.ran).syncing.proceed q)) :=
  exec_of_comesNext h rfl ((if_neg (fun both => Bool.false_ne_true both.1)).trans (if_neg role))

end

/-! ### PAIR.SWAP (R428) -/

section
variable {s : State} {q : OrderQueue} {b : Bundle} {p : ProgStep} {epoch : Nat} (h : s.ComesNext q b p (.pairSwap epoch))
include h

theorem exec_pairSwap_notActive (role : s.role ≠ 1) : exec (.pairSwap q epoch) s = .next (s.failsAt q b.ran p 6 4 0x0402) :=
  exec_of_comesNext h rfl (if_pos role)

variable (role : s.role = 1)
include role

theorem exec_pairSwap_unready (unready : s.linkUp = false ∨ s.peerRole ≠ 3 ∨ s.pair.peerReady = false) :
    exec (.pairSwap q epoch) s = .next (s.failsAt q b.ran p 6 4 0x0401) :=
  exec_of_comesNext h rfl ((if_neg (not_not.mpr role)).trans (if_pos unready))

theorem exec_pairSwap_taken (ready : ¬ (s.linkUp = false ∨ s.peerRole ≠ 3 ∨ s.pair.peerReady = false)) :
    exec (.pairSwap q epoch) s = .next (({ s with pair := { s.pair with swap := some epoch } } : State).goesOn q b.ran) :=
  exec_of_comesNext h rfl ((if_neg (not_not.mpr role)).trans (if_neg ready))

end

/-- Settles O36: PAIR.ROLE looks at the peer's role and then at its own, and PAIR.SWAP at its own and then at the link and the peer; where
neither fails, the role is that of `State.setRole`, and the swap is noted. -/
theorem pairOrders : Obligations.PairOrders := by
  intro s q b p s'
  refine ⟨fun active h => ⟨exec_pairRole_activePeer h, fun free init fenced => ?_, fun asked peer role => ⟨?_, ?_⟩, fun asked role => ?_⟩,
    fun epoch h => ⟨exec_pairSwap_notActive h, exec_pairSwap_unready h, fun role up standby ready => ?_⟩⟩
  · exact exec_pairRole_otherRole h (by rintro ⟨rfl, peer⟩; simp [peer] at free) ⟨init, fenced⟩
  · subst asked
    exact exec_pairRole_active h peer (by omega)
  · exact State.role_setRole (by decide)
  · subst asked
    exact ⟨s'.syncing, exec_pairRole_syncing h (by omega), State.role_syncing, State.ready_syncing, rfl, rfl⟩
  · exact exec_pairSwap_taken h role (by simp [up, standby, ready])

end Sys2Proof.Machine
end

section
/-! PROOFS. The machine as a whole: a step runs the front command, and what every step keeps; a held device is still (R466, R488). -/

namespace Sys2Proof.Machine

/-! ### Every command and every step -/

/-- Settles O60: `exec_completes` gives every command its next state. -/
theorem everyCommandCompletes : Obligations.EveryCommandCompletes := exec_completes

theorem step_of_pending {c : Instr} {rest : List Instr} {s : State} (waits : s.pending = c :: rest) :
    step s = exec c { s with pending := rest } := by
  rw [step, waits]

theorem step_of_idle {s : State} (idle : s.pending = []) : step s = .next s := by
  rw [step, idle]

/-- Settles O1. -/
theorem stepRunsTheFrontCommand : Obligations.StepRunsTheFrontCommand :=
  ⟨fun _ _ _ => step_of_pending, fun _ => step_of_idle⟩

/-- What a step reaches follows the state without the front command. -/
theorem step_follows {s t : State} (e : step s = .next t) : ({ s with pending := s.pending.tail } : State).Follows t := by
  cases waits : s.pending with
  | nil =>
    cases (step_of_idle waits).symm.trans e
    exact .beside (.refl _) waits rfl rfl rfl rfl
  | cons c rest => exact (exec_completes c _).follows ((step_of_pending waits).symm.trans e)

/-- Settles O3: a command answers a state that follows, with the same queue, and a step hands it the queue's rest. -/
theorem commandsLeaveTheQueue : Obligations.CommandsLeaveTheQueue :=
  ⟨fun c s _ e => ((exec_completes c s).follows e).queue, fun _ _ e => (step_follows e).queue⟩

/-- Settles O4. -/
theorem outputsAreNeverTakenBack : Obligations.OutputsAreNeverTakenBack := fun _ _ e => (step_follows e).outputs

/-- Settles O6. -/
theorem registerFileStaysCanonical : Obligations.RegisterFileStaysCanonical :=
  fun _ _ canonical e => (step_follows e).registers canonical

/-- Settles O7: at reset nothing is listed. -/
theorem registerFileCanonicalAtReset : Obligations.RegisterFileCanonicalAtReset := rfl

/-! ### A held device (R466, R488) -/

/-- A device that is frozen, or that a supply fault holds. -/
def State.Held (s : State) : Prop := s.power.frozen ≠ none ∨ s.power.supplyFault = true

theorem State.awake_of_held {s : State} (held : s.Held) (f : State → State) : s.awake f = s := by
  rw [State.awake, if_pos]
  rcases held with frozen | fault
  · simp [Option.isSome_iff_ne_none.mpr frozen]
  · simp [fault]

theorem exec_of_held {c : Instr} {s : State} (held : s.Held) {f : State → State} (e : exec c s = .next (s.awake f)) :
    exec c s = .next s := e.trans (congrArg _ (State.awake_of_held held f))

theorem State.order_of_held {s : State} (held : s.Held) (q : OrderQueue) (i : OrderInstr) (run : Bundle → ProgStep → State → State) :
    s.order q i run = s := by
  rw [State.order, State.bureauAct, State.awake_of_held held]

/-- Settles O10: but for RESET, the console's and the JTAG port's, every command is an instruction of a queue's bundle or acts on a device
that is awake. -/
theorem aHeldDeviceIsStill : Obligations.AHeldDeviceIsStill := by
  intro c s held acting
  cases c
  case reset | storeWrite | storeRead | submit | cplRead | regRead | dustsheetReadOut | bypass | idcode | samplePreload | extest
      | dustsheet => exact acting.elim
  case nop | set | get | check | waitEpoch | waitEvent | fence | stageBegin | stageEnd | commit | abort | tblIns | tblDel | tblMod | tcamWr
      | parseLoad | patLoad | leafWr | leafSwap | tuMap | chanBind | portUp | portDown | laneCfg | recal | testEn | gen | injFire | chkClear
      | qCfg | meterCfg | rsvDecl | tbStep | tbRate | tbRearm | pulseSet | snap | pairRole | pairSwap | sprintArm | freezePermit | fwLoad
      | keyEnrol | keyRevoke | charterSet | attest | freezeOrder | freezeBurn | rollbackTo | scrub | leafEn | patEn | tsiXp | source
      | lockDecl => exact congrArg _ (State.order_of_held held ..)
  all_goals exact exec_of_held held rfl

end Sys2Proof.Machine
end

section
/-! PROOFS. Sequence-cleared status (R439) and the registers of the event ring (R444). -/

namespace Sys2Proof.Machine

/-! ### Write-backs (R439) -/

/-- The status bits that a write-back acknowledges: those of the value that a sequence-cleared field below SEQ names. -/
def RegSpec.seenBits (r : RegSpec) (value : Nat) : Nat :=
  r.fields.foldl (fun m f => if f.acc == .sq && f.hi < 24 then m ||| (bits value f.hi f.lo) <<< f.lo else m) 0

/-- A field holds a sequence-cleared bit `i` below SEQ. -/
def FieldSpec.clears (i : Nat) (f : FieldSpec) : Prop := f.acc = .sq ∧ f.hi < 24 ∧ f.lo ≤ i ∧ i < f.hi + 1

theorem testBit_seenBits_step (f : FieldSpec) (m value i : Nat) :
    (if f.acc == .sq && f.hi < 24 then m ||| (bits value f.hi f.lo) <<< f.lo else m).testBit i = true ↔
      m.testBit i = true ∨ (f.clears i ∧ value.testBit i = true) := by
  split
  · next sq =>
    have inside (low : f.lo ≤ i) : i - f.lo < f.hi + 1 - f.lo ↔ i < f.hi + 1 := by omega
    by_cases low : f.lo ≤ i
    · simp_all [FieldSpec.clears, bits_testBit]
    · simp [FieldSpec.clears, low]
  · next other => simp_all [FieldSpec.clears]

theorem testBit_seenBits (r : RegSpec) (value i : Nat) :
    (r.seenBits value).testBit i = true ↔ (∃ f ∈ r.fields, f.clears i) ∧ value.testBit i = true := by
  suffices general : ∀ (fs : List FieldSpec) (m : Nat),
      (fs.foldl (fun m f => if f.acc == .sq && f.hi < 24 then m ||| (bits value f.hi f.lo) <<< f.lo else m) m).testBit i = true ↔
        m.testBit i = true ∨ ((∃ f ∈ fs, f.clears i) ∧ value.testBit i = true) by
    simpa only [RegSpec.seenBits, Nat.zero_testBit, Bool.false_eq_true, false_or] using general r.fields 0
  intro fs
  induction fs with
  | nil => simp
  | cons f fs ih =>
    intro m
    rw [List.foldl_cons, ih, testBit_seenBits_step, List.exists_mem_cons_iff]
    tauto

theorem RegSpec.seenBits_lt (r : RegSpec) (value : Nat) : r.seenBits value < 2 ^ 24 := by
  refine Nat.lt_pow_two_of_testBit _ fun i high => Bool.eq_false_iff.mpr fun seen => ?_
  obtain ⟨⟨f, _, _, below, _, within⟩, _⟩ := (testBit_seenBits r value i).mp seen
  omega

/-- A word without the bits `m` below bit 24: the bits of `m` are 0, the others below bit 32 as they were. -/
theorem testBit_cleared (old : Nat) {m i : Nat} (low : m < 2 ^ 24) (hi : i < 32) :
    (old &&& ((2 ^ 32 - 1) - m)).testBit i = (old.testBit i && !m.testBit i) := by
  rw [Nat.testBit_and, show 2 ^ 32 - 1 - m = 2 ^ 32 - (m + 1) by omega, Nat.testBit_two_pow_sub_succ (by omega)]
  simp [hi]

section
variable {s : State} {r : RegSpec} {n v : Nat}

theorem State.writeBack_stale (stale : bits v 31 24 ≠ bits (s.reg r n) 31 24) : s.writeBack r n v = s := by
  simp [State.writeBack, stale]

theorem State.writeBack_fresh (fresh : bits v 31 24 = bits (s.reg r n) 31 24) (device : r ≠ R.DEV_EVT) (port : r ≠ R.PORT_EVT) :
    s.writeBack r n v = s.setReg r n (s.reg r n &&& ((2 ^ 32 - 1) - r.seenBits v)) := by
  simp only [State.writeBack, fresh, bne_self_eq_false, device, port, decide_false, Bool.false_and, Bool.false_eq_true, if_false]
  rfl

theorem State.testBit_writeBack (fresh : bits v 31 24 = bits (s.reg r n) 31 24) (device : r ≠ R.DEV_EVT) (port : r ≠ R.PORT_EVT)
    {i : Nat} (hi : i < 32) :
    ((s.writeBack r n v).reg r n).testBit i = ((s.reg r n).testBit i && !(r.seenBits v).testBit i) := by
  rw [State.writeBack_fresh fresh device port, State.reg_setReg_same,
    Nat.mod_eq_of_lt (lt_of_le_of_lt Nat.and_le_left (s.reg_lt r n)), testBit_cleared _ (r.seenBits_lt v) hi]

/-- SEQ stays: no status bit lies in it. -/
theorem State.seq_writeBack (fresh : bits v 31 24 = bits (s.reg r n) 31 24) (device : r ≠ R.DEV_EVT) (port : r ≠ R.PORT_EVT) :
    bits ((s.writeBack r n v).reg r n) 31 24 = bits (s.reg r n) 31 24 := by
  apply Nat.eq_of_testBit_eq
  intro i
  rw [bits_testBit, bits_testBit]
  by_cases inside : i < 31 + 1 - 24
  · have above : (r.seenBits v).testBit (24 + i) = false :=
      Nat.testBit_lt_two_pow (lt_of_lt_of_le (r.seenBits_lt v) (Nat.pow_le_pow_right (by decide) (by omega)))
    rw [State.testBit_writeBack fresh device port (by omega), above, Bool.not_false, Bool.and_true]
  · simp [inside]

theorem bits_single (x i : Nat) : bits x i i = (x.testBit i).toNat := by
  rw [bits, show i + 1 - i = 1 by omega, pow_one, Nat.toNat_testBit, Nat.shiftRight_eq_div_pow]

/-- A status bit is cleared where the value has a 1, and stays elsewhere. -/
theorem State.status_writeBack (fresh : bits v 31 24 = bits (s.reg r n) 31 24) (device : r ≠ R.DEV_EVT) (port : r ≠ R.PORT_EVT)
    {f : FieldSpec} (field : f ∈ r.fields) (sq : f.acc = .sq) (low : f.hi < 24) (single : f.lo = f.hi) :
    bits ((s.writeBack r n v).reg r n) f.hi f.lo = if bits v f.hi f.lo = 1 then 0 else bits (s.reg r n) f.hi f.lo := by
  have seen : (r.seenBits v).testBit f.hi = v.testBit f.hi :=
    Bool.eq_iff_iff.mpr ((testBit_seenBits r v f.hi).trans (and_iff_right ⟨f, field, sq, low, single.le, Nat.lt_succ_self _⟩))
  rw [single, bits_single, bits_single, bits_single, State.testBit_writeBack fresh device port (by omega), seen]
  cases v.testBit f.hi <;> simp

theorem exec_sequenceWriteBack {off : Nat} {v : Word32} (acts : s.Acts) (there : locate off = some (r, n)) (first : r.addr n = off)
    (narrow : r.wide = false) (sq : r.fields.any (fun f => f.acc == .sq) = true) :
    exec (.sequenceWriteBack off v) s = .next (s.writeBack r n v.toNat) := by
  change execSequenceWriteBack off v s = _
  rw [execSequenceWriteBack, State.awake_of_acts acts, there]
  simp [first, narrow, sq]

end

/-- Settles O20: a write-back with the register's SEQ takes `RegSpec.seenBits` out of the register, and any other nothing. -/
theorem sequenceWriteBack : Obligations.SequenceWriteBack := by
  intro s off v r n acts there first narrow sq
  have runs := exec_sequenceWriteBack (v := v) acts there first narrow sq
  refine ⟨fun stale => runs.trans (congrArg _ (State.writeBack_stale stale)), fun fresh device port => ⟨_, runs, ?_, ?_, ?_, ?_⟩⟩
  · rw [State.writeBack_fresh fresh device port]
    rfl
  · rw [State.writeBack_fresh fresh device port]
    exact fun o other => regAt_regPut_other _ _ (fun same => other (List.mem_singleton.mpr (same.trans first)))
  · exact State.seq_writeBack fresh device port
  · exact fun f field isSq low single => State.status_writeBack fresh device port field isSq low single

/-! ### The event ring (R444) -/

section
variable {s : State} (acts : s.Acts)
include acts

theorem exec_hdmaEvrSize (v : Word32) : exec (.hdmaEvrSize v) s = .next (s.evrSize v.toNat) := by
  change execHdmaEvrSize v s = _
  rw [execHdmaEvrSize, State.awake_of_acts acts]

theorem exec_hdmaEvrBase (v : Word64) : exec (.hdmaEvrBase v) s = .next (s.evrBase v.toNat) := by
  change execHdmaEvrBase v s = _
  rw [execHdmaEvrBase, State.awake_of_acts acts]

theorem exec_hdmaEvrHead (v : Word32) : exec (.hdmaEvrHead v) s = .next (s.evrHead v.toNat) := by
  change execHdmaEvrHead v s = _
  rw [execHdmaEvrHead, State.awake_of_acts acts]

end

/-- A size that a ring takes is 0 or a power of two between its bounds. -/
theorem ringSizeOk_iff {a b v : Nat} : ringSizeOk (2 ^ a) (2 ^ b) v = true ↔ v = 0 ∨ ∃ k, a ≤ k ∧ k ≤ b ∧ v = 2 ^ k := by
  constructor
  · intro ok
    simp only [ringSizeOk, Bool.or_eq_true, beq_iff_eq, Bool.and_eq_true, decide_eq_true_eq] at ok
    rcases ok with zero | ⟨⟨low, high⟩, power⟩
    · exact .inl zero
    · rw [power, Nat.pow_le_pow_iff_right (by decide)] at low high
      exact .inr ⟨_, low, high, power⟩
  · rintro (rfl | ⟨k, low, high, rfl⟩)
    · exact ringSizeOk_zero _ _
    · exact ringSizeOk_two_pow low high

section
variable {s : State} {v : Nat}

/-- The event ring disabled: what waits and what was lost is forgotten. -/
def State.evrOff (s : State) : State :=
  ({ s with evq := [] }.setFld R.HDMA_EVR_SIZE_SIZE 0 0).updHost (fun h => { h with lost := 0 })

/-- The event ring set up with a size, and empty. -/
def State.evrOn (s : State) (v : Nat) : State :=
  ((s.setFld R.HDMA_EVR_SIZE_SIZE 0 v).setFld R.HDMA_EVR_TAIL_TAIL 0 0).setFld R.HDMA_EVR_HEAD_HEAD 0 0

theorem State.evrSize_off (zero : v % 2 ^ 15 = 0) : s.evrSize v = s.evrOff := if_pos zero

theorem State.evrSize_on (some_size : v % 2 ^ 15 ≠ 0) (ok : ringSizeOk (2 ^ 8) (2 ^ 14) (v % 2 ^ 15) = true)
    (off : s.fld R.HDMA_EVR_SIZE_SIZE 0 = 0) : s.evrSize v = s.evrOn (v % 2 ^ 15) :=
  (if_neg some_size).trans (if_neg (by
    simp only [show ringSizeOk 256 16384 (v % 2 ^ 15) = true from ok, off]
    decide))

theorem State.evrSize_discarded (some_size : v % 2 ^ 15 ≠ 0)
    (bad : ringSizeOk (2 ^ 8) (2 ^ 14) (v % 2 ^ 15) = false ∨ s.fld R.HDMA_EVR_SIZE_SIZE 0 ≠ 0) :
    s.evrSize v = s.raise EV_HDMA_EVR_RING 0x080 :=
  (if_neg some_size).trans (if_pos (by
    rcases bad with bad | on
    · simp only [show ringSizeOk 256 16384 (v % 2 ^ 15) = false from bad, Bool.not_false, Bool.true_or]
    · simp [on]))

theorem State.evrOff_size (s : State) : s.evrOff.fld R.HDMA_EVR_SIZE_SIZE 0 = 0 := by
  rw [State.evrOff, State.fld_of_regs (State.updHost_regs _ _), State.fld_setFld_same _ _ _ _ (by decide)]
  rfl

theorem State.evrOff_registersBut (s : State) : RegistersBut [R.HDMA_EVR_SIZE.addr 0] s s.evrOff := by
  rw [State.evrOff]
  exact State.setFld_registersBut { s with evq := [] } R.HDMA_EVR_SIZE_SIZE 0 0

theorem State.evrOn_size (s : State) (v : Nat) : (s.evrOn v).fld R.HDMA_EVR_SIZE_SIZE 0 = v % 2 ^ 15 := by
  rw [State.evrOn, State.fld_setFld_other _ _ _ _ _ _ (by decide), State.fld_setFld_other _ _ _ _ _ _ (by decide),
    State.fld_setFld_same _ _ _ _ (by decide)]
  rfl

theorem State.evrOn_tail (s : State) (v : Nat) : (s.evrOn v).fld R.HDMA_EVR_TAIL_TAIL 0 = 0 := by
  rw [State.evrOn, State.fld_setFld_other _ _ _ _ _ _ (by decide), State.fld_setFld_same _ _ _ _ (by decide)]
  rfl

theorem State.evrOn_head (s : State) (v : Nat) : (s.evrOn v).fld R.HDMA_EVR_HEAD_HEAD 0 = 0 := by
  rw [State.evrOn, State.fld_setFld_same _ _ _ _ (by decide)]
  rfl

theorem State.evrOn_registersBut (s : State) (v : Nat) :
    RegistersBut [R.HDMA_EVR_SIZE.addr 0, R.HDMA_EVR_TAIL.addr 0, R.HDMA_EVR_HEAD.addr 0] s (s.evrOn v) := by
  intro o outside
  simp only [List.mem_cons, List.not_mem_nil, or_false, not_or] at outside
  obtain ⟨size, tail, head⟩ := outside
  rw [State.evrOn, State.regAt_setFld_other _ _ _ head, State.regAt_setFld_other _ _ _ tail, State.regAt_setFld_other _ _ _ size]

/-- While SIZE is 0 an event leaves no record. -/
theorem State.evq_raiseAt_off {e : EvSpec} {f : Fld} {n : Nat} (bit : e.bit = some f) (apart : f.reg.addr n ≠ R.HDMA_EVR_SIZE.addr 0)
    (off : s.fld R.HDMA_EVR_SIZE_SIZE 0 = 0) (unit : Nat) (data : List Nat) : (s.raiseAt e n unit data).evq = s.evq := by
  have still : (s.markEvent e n).fld R.HDMA_EVR_SIZE_SIZE 0 = 0 := by
    rw [← State.fld_raiseAt s e n unit data, State.fld_raiseAt_other bit apart.symm, off]
  unfold State.raiseAt
  dsimp only
  rw [if_pos still, State.markEvent, bit]
  exact State.setReg_evq ..

end

/-- Settles O19: the tests of `evrSize`, `evrBase` and `evrHead` decide between a write and the event. -/
theorem eventRingRegisters : Obligations.EventRingRegisters := by
  intro s acts
  refine ⟨fun v zero => ?_, fun v k low high power off => ?_, fun v some_size bad => ?_, fun v off => ?_, fun v on => ?_,
    fun v within => ?_, fun v past => ?_, fun e f n unit data bit apart off => State.evq_raiseAt_off bit apart off unit data⟩
  · exact ⟨_, (exec_hdmaEvrSize acts v).trans (congrArg _ (State.evrSize_off zero)), s.evrOff_size, rfl, rfl,
      s.evrOff_registersBut⟩
  · have fits : 2 ^ k < 2 ^ 15 := Nat.pow_lt_pow_right (by decide) (by omega)
    have written := State.evrSize_on (v := v.toNat) (power ▸ (Nat.two_pow_pos k).ne') (power ▸ ringSizeOk_two_pow low high) off
    exact ⟨_, (exec_hdmaEvrSize acts v).trans (congrArg _ written),
      (s.evrOn_size _).trans (by rw [Nat.mod_mod]; exact power), s.evrOn_tail _, s.evrOn_head _, rfl, s.evrOn_registersBut _⟩
  · refine (exec_hdmaEvrSize acts v).trans (congrArg _ (State.evrSize_discarded some_size (bad.imp_left fun none_fits => ?_)))
    refine Bool.eq_false_iff.mpr fun ok => ?_
    rcases ringSizeOk_iff.mp ok with zero | ⟨k, low, high, power⟩
    · exact some_size zero
    · exact none_fits k low high power
  · exact taken_of_setFld ((exec_hdmaEvrBase acts v).trans (congrArg _ (if_neg (by simp [off])))) (by decide) (base_cut (k := 6) v (by decide))
  · exact (exec_hdmaEvrBase acts v).trans (congrArg _ (if_pos (by simp [on])))
  · exact taken_of_setFld ((exec_hdmaEvrHead acts v).trans (congrArg _ (if_neg (Nat.not_lt.mpr within)))) (by decide) rfl
  · exact (exec_hdmaEvrHead acts v).trans (congrArg _ (if_pos past))

end Sys2Proof.Machine
end

section
/-! PROOFS. The JTAG port (R490 to R492) and the console, outside freeze and in it (R455 to R458, R489). -/

namespace Sys2Proof.Machine

/-! ### Words and bytes of an image (R490, R491) -/

theorem wordsToBytes_length (ws : List Word64) : (wordsToBytes ws).length = 8 * ws.length := by
  induction ws with
  | nil => rfl
  | cons w ws ih =>
    have cons : wordsToBytes (w :: ws) = leBytes 8 w.toNat ++ wordsToBytes ws := List.flatMap_cons
    rw [cons, List.length_append, leBytes_length, ih, List.length_cons]
    omega

theorem bytesToWords_getD {n w : Nat} (hw : w < n) (bs : List Byte) :
    (bytesToWords n bs).getD w 0 = BitVec.ofNat 64 (leNat ((bs.drop (8 * w)).take 8)) := by
  induction n generalizing w bs with
  | zero => omega
  | succ n ih =>
    cases w with
    | zero => rfl
    | succ w =>
      rw [bytesToWords, List.getD_cons_succ, ih (by omega), List.drop_drop]
      rw [show 8 + 8 * w = 8 * (w + 1) by omega]

theorem leNat_lt (bs : List Byte) : leNat bs < 256 ^ bs.length := by
  induction bs with
  | nil => decide
  | cons b bs ih =>
    have cons : leNat (b :: bs) = b.toNat + leNat bs * 256 := rfl
    have byte := b.isLt
    rw [cons, List.length_cons, pow_succ]
    omega

theorem sectionLens_length : sectionLens.length = 40 := by
  unfold sectionLens
  dsimp only
  split <;> simp

theorem eight_dvd_sectionLens {l : Nat} (h : l ∈ sectionLens) : 8 ∣ l := by
  unfold sectionLens at h
  dsimp only at h
  split at h
  · obtain ⟨i, _, rfl⟩ := List.mem_map.mp h
    omega
  · rw [List.eq_of_mem_replicate h]
    exact Nat.dvd_zero 8

theorem sum_eighths {ls : List Nat} (h : ∀ l ∈ ls, 8 ∣ l) : 8 * (ls.map (· / 8)).sum = ls.sum := by
  rw [← List.sum_map_mul_left, List.map_congr_left (fun l hl => Nat.mul_div_cancel' (h l hl)), List.map_id']

/-- The words of an image before its CRC: 8 of the header, 2 of each section's directory entry, and the sections'. -/
theorem Frozen.words_length (f : Frozen) : f.words.length = 8 + 2 * 40 + (sectionLens.map (· / 8)).sum := by
  have sections : ((sectionLens.zipIdx).map (fun l => l.1 / 8)).sum = (sectionLens.map (· / 8)).sum := by
    rw [← List.zipIdx_map_fst 0 sectionLens, List.map_map, List.zipIdx_map_fst]
    rfl
  simp only [Frozen.words, List.length_append, List.length_flatMap, List.length_map, List.length_range, List.length_cons, List.length_nil,
    sections, List.map_const', List.length_zipIdx, sectionLens_length, List.sum_replicate]
  rfl

theorem Frozen.image_length (f : Frozen) : f.image.length = imageLen := by
  have sections := sum_eighths fun _ => eight_dvd_sectionLens
  simp only [Frozen.image, List.length_append, wordsToBytes_length, leBytes_length, f.words_length, imageLen]
  omega

/-- The word of an image that the DUSTSHEET register captures. -/
theorem Frozen.image_word (f : Frozen) {w : Nat} (hw : 8 * w + 8 ≤ f.image.length) :
    ((bytesToWords (imageLen / 8) f.image).getD w 0).toNat = leNat ((f.image.drop (8 * w)).take 8) := by
  have inside : w < imageLen / 8 := by
    rw [f.image_length] at hw
    omega
  rw [bytesToWords_getD inside, BitVec.toNat_ofNat, Nat.mod_eq_of_lt]
  refine lt_of_lt_of_le (leNat_lt _) ?_
  rw [show (2 : Nat) ^ 64 = 256 ^ 8 by decide]
  exact Nat.pow_le_pow_right (by decide) (List.length_take_le ..)

/-! ### The JTAG port (R492) -/

section
variable {s : State}

theorem exec_dustsheet_running (running : s.power.frozen = none) : exec .dustsheet s = .next (s.jtagSelect 0x3A (scanBits 64 0)) := by
  change execDustsheet s = _
  rw [execDustsheet, running]

theorem exec_dustsheet_frozen {f : Frozen} (frozen : s.power.frozen = some f) : exec .dustsheet s =
    .next ((s.jtagSelect 0x3A (scanBits 64 ((bytesToWords (imageLen / 8) f.image).getD s.power.imageWord 0).toNat)).updPower
      (fun q => { q with imageWord := q.imageWord + 1 })) := by
  change execDustsheet s = _
  rw [execDustsheet, frozen]

theorem exec_extest (levels : List Bool) : exec (.extest levels) s =
    .next { s with power := { s.power with jtag := 0x00 }, out := s.out ++ [.jtag levels, .balls s.power.boundary] } := by
  change execExtest levels s = _
  rw [execExtest, State.emit, State.jtagSelect, State.emit, List.append_assoc]
  rfl

end

/-- Settles O14: each instruction is one `State.jtagSelect`; the word that DUSTSHEET captures in freeze is read off the image. -/
theorem jtagInstructions : Obligations.JtagInstructions := by
  intro s levels preload
  refine ⟨rfl, rfl, rfl, exec_extest levels, exec_dustsheet_running, fun f frozen inside => ?_⟩
  rw [exec_dustsheet_frozen frozen, f.image_word inside]
  rfl

/-! ### Requests (R455, R456) -/

/-- A request that the console takes up: its start byte, its reserved byte and its CRC are right. -/
structure SoundRequest (r : ConsoleRequest) : Prop where
  sync : r.sync = 0xC3
  zero : r.zero = 0
  crc : crc32c (requestBytes r) = r.crc

section
variable {s : State} {r : ConsoleRequest} {op : Nat} {inRange : Bool} {f : State → Reply × State} (sound : SoundRequest r)
include sound

/-- A sound request for an operation within its ranges runs it and answers. -/
theorem State.console_runs (acts : s.Acts) (asked : r.op = op) (fits : inRange = true) :
    s.console op r inRange f = (f s).2.answer (f s).1 := by
  obtain ⟨running, powered⟩ := acts
  obtain ⟨sync, zero, crc⟩ := sound
  simp [State.console, sync, zero, crc, running, powered, asked, fits]

/-- In freeze a request is answered BAD_OP (R489). -/
theorem State.console_frozen {image : Frozen} (frozen : s.power.frozen = some image) (powered : s.power.supplyFault = false) :
    s.console op r inRange f = s.answer .badOp := by
  obtain ⟨sync, zero, crc⟩ := sound
  simp [State.console, sync, crc, frozen, powered]

end

/-! ### The object store (R457) -/

/-- Bytes that are written one behind the other, the first of them at `off + j`, are read back, and no other byte changes. -/
theorem SMap_get_written (off : Nat) (bs : List Byte) (j : Nat) (m : SMap Byte) (a : Nat) :
    SMap.get 0 ((bs.zipIdx j).foldl (fun m e => SMap.set 0 m (off + e.2) e.1) m) a =
      if off + j ≤ a ∧ a < off + j + bs.length then bs.getD (a - (off + j)) 0 else SMap.get 0 m a := by
  induction bs generalizing j m with
  | nil =>
    rw [List.zipIdx_nil, List.foldl_nil, if_neg (by simp)]
  | cons b bs ih =>
    rw [List.zipIdx_cons, List.foldl_cons, ih]
    rcases lt_trichotomy a (off + j) with before | rfl | behind
    · rw [if_neg (by omega), if_neg (by omega), SMap.get_set_other _ _ _ _ (by omega)]
    · rw [if_neg (by omega), if_pos (by simp), SMap.get_set_same, Nat.sub_self]
      rfl
    · by_cases inside : a < off + j + (bs.length + 1)
      · rw [if_pos (by omega), if_pos ⟨by omega, inside⟩, show a - (off + j) = a - (off + (j + 1)) + 1 by omega, List.getD_cons_succ]
      · rw [if_neg (by omega), if_neg (fun within => inside within.2), SMap.get_set_other _ _ _ _ (by omega)]

theorem State.get_storeWrite (s : State) (off : Nat) (bs : List Byte) (a : Nat) : SMap.get 0 (s.storeWrite off bs).host.store a =
    if off ≤ a ∧ a < off + bs.length then bs.getD (a - off) 0 else SMap.get 0 s.host.store a :=
  SMap_get_written off bs 0 s.host.store a

/-! ### Operations (R456 to R458) -/

/-- The access that REG_READ makes. -/
def regReadAccess (r : ConsoleRequest) : Access :=
  { off := r.addr, len := r.len, be := if r.len = 8 then 255 else 15, value := 0, requester := 0xFFFF }

/-- The bundle that SUBMIT makes of `n` bytes of the store. -/
def State.submitted (s : State) (off n : Nat) : Bundle :=
  let b := Bundle.fresh (bytesToWords (n / 8) (s.storeRead off n)) 0 16 none
  { b with lenFault := if b.totalLen = n then none else some (BitVec.ofNat 64 (b.word 3)) }

section
variable {s : State} {r : ConsoleRequest} (acts : s.Acts) (sound : SoundRequest r)
include acts sound

section
variable (some_byte : 1 ≤ r.len) (most : r.len ≤ 4096)
include some_byte most

theorem exec_storeWrite (op : r.op = 1) (whole : r.payload.length = r.len) : exec (.storeWrite r) s =
    .next (if storeSize < r.addr + r.len then s.answer .range else (s.storeWrite r.addr r.payload).answer (.ok [])) := by
  change execStoreWrite r s = _
  rw [execStoreWrite, State.console_runs sound acts op (by simp [some_byte, most, whole])]
  split <;> rfl

theorem exec_storeRead (op : r.op = 2) : exec (.storeRead r) s =
    .next (if storeSize < r.addr + r.len then s.answer .range else s.answer (.ok (s.storeRead r.addr r.len))) := by
  change execStoreRead r s = _
  rw [execStoreRead, acts.1]
  dsimp only
  rw [State.console_runs sound acts op (by simp [some_byte, most])]
  split <;> rfl

end

theorem exec_submit (op : r.op = 3) (len : r.len = 4) (payload : r.payload.length = 4) : exec (.submit r) s =
    .next ((State.startReady 24 (s.submit r.tag r.addr (beNat r.payload)).2).answer (s.submit r.tag r.addr (beNat r.payload)).1) := by
  change execSubmit r s = _
  rw [execSubmit, State.console_runs sound acts op (by simp [len, payload])]

theorem exec_cplRead_record {c : List Word64} {rest : List (List Word64)} (op : r.op = 4) (len : r.len = 0) (addr : r.addr = 0)
    (oldest : s.bureau.consoleDone = c :: rest) : exec (.cplRead r) s =
    .next ((State.startReady 24 { s with bureau := { s.bureau with consoleDone := rest } }).answer (.ok (wordsToBytes c))) := by
  change execCplRead r s = _
  rw [execCplRead, State.console_runs sound acts op (by simp [len, addr]), oldest]
  rfl

theorem exec_cplRead_empty (op : r.op = 4) (len : r.len = 0) (addr : r.addr = 0) (none_done : s.bureau.consoleDone = []) :
    exec (.cplRead r) s = .next (s.answer .empty) := by
  change execCplRead r s = _
  rw [execCplRead, State.console_runs sound acts op (by simp [len, addr]), none_done]

theorem exec_regRead (op : r.op = 5) (len : r.len = 4 ∨ r.len = 8) : exec (.regRead r) s =
    .next (if busCause false (regReadAccess r) = 0
      then (s.readBar r.addr r.len).2.answer (.ok (leBytes r.len (s.readBar r.addr r.len).1))
      else (s.busError false (busCause false (regReadAccess r)) (regReadAccess r)).answer .busErr) := by
  change execRegRead r s = _
  rw [execRegRead, State.console_runs sound acts op (by simpa using len)]
  dsimp only
  by_cases legal : busCause false (regReadAccess r) = 0
  · rw [if_neg (by simpa [regReadAccess] using legal), if_pos legal]
  · rw [if_pos (by simpa [regReadAccess] using legal), if_neg legal]
    rfl

end

section
variable {s : State} {tag off n : Nat} (aligned : off % 8 = 0) (inside : off + n ≤ storeSize)
include aligned inside

theorem State.submit_repeated (same : s.bureau.lastSubmit = some tag) : s.submit tag off n = (.ok [], s) := by
  simp [State.submit, aligned, Nat.not_lt.mpr inside, same]

theorem State.submit_busy (fresh : s.bureau.lastSubmit ≠ some tag) (busy : s.fld R.PWR_STAT_BOOT_STEP 0 < 6 ∨ 4 ≤ s.consoleHeld) :
    s.submit tag off n = (.busy, s) := by
  simp [State.submit, aligned, Nat.not_lt.mpr inside, fresh, busy]

theorem State.submit_taken (fresh : s.bureau.lastSubmit ≠ some tag) (booted : s.fld R.PWR_STAT_BOOT_STEP 0 = 6) (room : s.consoleHeld < 4) :
    s.submit tag off n = (.ok [], { s with
      bureau := { s.bureau with consoleWaiting := s.bureau.consoleWaiting ++ [s.submitted off n], lastSubmit := some tag } }) := by
  simp only [State.submit, aligned, Nat.not_lt.mpr inside, fresh, booted, Nat.not_le.mpr room]
  rfl

end

/-- Settles O15: a sound request runs its operation (`State.console_runs`), and each operation has an equation per case. -/
theorem consoleCommands : Obligations.ConsoleCommands := by
  refine ⟨fun r s acts sync zero some_byte most crc => ?_, fun r s acts sync zero crc => ?_⟩
  · have sound : SoundRequest r := ⟨sync, zero, crc⟩
    refine ⟨fun op whole inside => ⟨(s.storeWrite r.addr r.payload).host.store, ?_, fun k hk => ?_, fun a apart => ?_⟩, fun op inside => ?_, fun op whole beyond => ?_,
      fun op beyond => ?_⟩
    · exact (exec_storeWrite acts sound some_byte most op whole).trans (congrArg _ (if_neg (Nat.not_lt.mpr inside)))
    · rw [State.get_storeWrite, if_pos ⟨Nat.le_add_right .., by omega⟩, Nat.add_sub_cancel_left]
    · rw [State.get_storeWrite, if_neg (by omega)]
    · exact (exec_storeRead acts sound some_byte most op).trans (congrArg _ (if_neg (Nat.not_lt.mpr inside)))
    · exact (exec_storeWrite acts sound some_byte most op whole).trans (congrArg _ (if_pos beyond))
    · exact (exec_storeRead acts sound some_byte most op).trans (congrArg _ (if_pos beyond))
  · have sound : SoundRequest r := ⟨sync, zero, crc⟩
    refine ⟨fun op len payload aligned inside => ⟨fun fresh booted room => ⟨s.submitted r.addr (beNat r.payload), ?_, rfl, rfl, rfl⟩,
        fun same => ?_, fun fresh busy => ?_⟩,
      fun op len addr => ⟨fun c rest oldest => ?_, fun none_done => ?_⟩, fun op len => ⟨fun legal => ⟨_, _, rfl, ?_⟩, fun cause => ?_⟩⟩
    · rw [exec_submit acts sound op len payload, State.submit_taken aligned inside fresh booted room]
      rfl
    · rw [exec_submit acts sound op len payload, State.submit_repeated aligned inside same]
      rfl
    · rw [exec_submit acts sound op len payload, State.submit_busy aligned inside fresh busy]
      rfl
    · exact exec_cplRead_record acts sound op len addr oldest
    · exact exec_cplRead_empty acts sound op len addr none_done
    · exact (exec_regRead acts sound op len).trans (congrArg _ (if_pos legal))
    · exact (exec_regRead acts sound op len).trans (congrArg _ (if_neg cause))

/-! ### The console in freeze (R489) -/

section
variable {s : State} {r : ConsoleRequest} {f : Frozen}

theorem exec_dustsheetReadOut_frozen (frozen : s.power.frozen = some f) : exec (.dustsheetReadOut r) s = .next (s.readOut f r) := by
  change execDustsheetReadOut r s = _
  rw [execDustsheetReadOut, frozen]

theorem exec_storeRead_frozen (frozen : s.power.frozen = some f) : exec (.storeRead r) s = .next (s.readOut f r) := by
  change execStoreRead r s = _
  rw [execStoreRead, frozen]

variable (sound : SoundRequest r) (op : r.op = 2) (high : 0x80000000 ≤ r.addr) (some_byte : 1 ≤ r.len) (most : r.len ≤ 4096)
include sound op high some_byte most

theorem State.readOut_image (inside : r.addr - 0x80000000 + r.len ≤ imageLen) :
    s.readOut f r = s.answer (.ok ((f.image.drop (r.addr - 0x80000000)).take r.len)) := by
  obtain ⟨sync, zero, crc⟩ := sound
  have length : r.len ≠ 0 := by omega
  simp [State.readOut, sync, zero, crc, op, length, Nat.not_lt.mpr most, Nat.not_lt.mpr high, Nat.not_lt.mpr inside]

theorem State.readOut_beyond (beyond : imageLen < r.addr - 0x80000000 + r.len) : s.readOut f r = s.answer .range := by
  obtain ⟨sync, zero, crc⟩ := sound
  have length : r.len ≠ 0 := by omega
  simp [State.readOut, sync, zero, crc, op, length, Nat.not_lt.mpr most, Nat.not_lt.mpr high, beyond]

end

/-- Settles O16: STORE_READ is the read-out of the image, and every other operation meets the console's test of freeze. -/
theorem consoleInFreeze : Obligations.ConsoleInFreeze := by
  intro r s f frozen powered sync zero crc
  have sound : SoundRequest r := ⟨sync, zero, crc⟩
  have refused {op : Nat} {inRange : Bool} {g : State → Reply × State} : s.console op r inRange g = s.answer .badOp :=
    State.console_frozen sound frozen powered
  refine ⟨fun op high some_byte most => ⟨fun inside => ⟨?_, ?_⟩, fun beyond => ?_⟩, congrArg _ refused, congrArg _ refused, congrArg _ refused,
    congrArg _ refused⟩
  · exact (exec_dustsheetReadOut_frozen frozen).trans (congrArg _ (State.readOut_image sound op high some_byte most inside))
  · exact (exec_storeRead_frozen frozen).trans (exec_dustsheetReadOut_frozen frozen).symm
  · exact (exec_dustsheetReadOut_frozen frozen).trans (congrArg _ (State.readOut_beyond sound op high some_byte most beyond))

end Sys2Proof.Machine
end

section
/-! PROOFS. MSI-X, holdoff and the function's power states (R432, R433, R442, R443). -/

namespace Sys2Proof.Machine

/-! ### Lists of vectors -/

theorem mem_insertRising {c x : Nat} {l : List Nat} : x ∈ insertRising c l ↔ x = c ∨ x ∈ l := by
  induction l with
  | nil => simp [insertRising]
  | cons d m ih =>
    rw [insertRising]
    split_ifs with same below
    · subst same
      simp
    · simp
    · rw [List.mem_cons, ih, List.mem_cons]
      tauto

theorem contains_insertRising (c : Nat) (l : List Nat) : (insertRising c l).contains c = true :=
  List.contains_iff_mem.mpr (mem_insertRising.mpr (.inl rfl))

theorem contains_filter_ne (v : Nat) (l : List Nat) : (l.filter (fun x => x != v)).contains v = false := by
  simp

/-! ### Messages (R432, R443) -/

/-- The message of vector `v`, with the address and the data of the table. -/
def State.msiOf (s : State) (v : Nat) : Out := .msi v (s.msixWord (4 * v) + s.msixWord (4 * v + 1) <<< 32) (s.msixWord (4 * v + 2))

/-- Only the host side and what was put out differ. -/
def OnlyHost (s t : State) : Prop := t = { s with out := t.out, host := t.host }

theorem OnlyHost.trans {s t u : State} (h : OnlyHost s t) (k : OnlyHost t u) : OnlyHost s u := by
  rw [OnlyHost, k, h]

theorem State.onlyHost_updHost (s : State) (f : HostSide → HostSide) : OnlyHost s (s.updHost f) := rfl

/-- Only the host side differs, and what was put out comes first. -/
structure State.HostGrows (s t : State) : Prop where
  frame : OnlyHost s t
  out : s.out <+: t.out
  d3hot : t.host.d3hot = s.host.d3hot
  due : t.host.due = s.host.due
  holdoff : ∀ v, s.host.holdoff.contains v = true → t.host.holdoff.contains v = true

section
variable {s t u : State} {v : Nat}

theorem State.HostGrows.refl (s : State) : s.HostGrows s := ⟨rfl, List.prefix_rfl, rfl, rfl, fun _ => id⟩

theorem State.HostGrows.trans (h : s.HostGrows t) (k : t.HostGrows u) : s.HostGrows u where
  frame := h.frame.trans k.frame
  out := h.out.trans k.out
  d3hot := k.d3hot.trans h.d3hot
  due := k.due.trans h.due
  holdoff := fun v held => k.holdoff v (h.holdoff v held)

theorem State.message_masked (masked : s.masked v = true) :
    s.message v = { s with host := { s.host with msixPending := insertRising v s.host.msixPending } } := if_pos masked

/-- The message of a vector is sent, and starts the holdoff. -/
def State.sendMsi (s : State) (v : Nat) : State :=
  let s := s.emit (s.msiOf v)
  if s.fld R.HDMA_CFG_HOLDOFF_US 0 = 0 then s else s.updHost (fun h => { h with holdoff := insertRising v h.holdoff })

theorem State.message_sent (unmasked : s.masked v = false) : s.message v = s.sendMsi v :=
  if_neg (fun masked => Bool.false_ne_true (unmasked.symm.trans masked))

/-- Sending a message leaves all of the host side but the holdoff. -/
theorem State.sendMsi_eq (s : State) (v : Nat) : ∃ holdoff,
    s.sendMsi v = { s with out := s.out ++ [s.msiOf v], host := { s.host with holdoff := holdoff } } ∧
      ∀ x, s.host.holdoff.contains x = true → holdoff.contains x = true := by
  unfold State.sendMsi
  dsimp only
  split
  · exact ⟨s.host.holdoff, rfl, fun _ => id⟩
  · refine ⟨insertRising v s.host.holdoff, rfl, fun x held => ?_⟩
    exact List.contains_iff_mem.mpr (mem_insertRising.mpr (.inr (List.contains_iff_mem.mp held)))

theorem State.sendMsi_out (s : State) (v : Nat) : (s.sendMsi v).out = s.out ++ [s.msiOf v] := by
  obtain ⟨holdoff, sent, -⟩ := s.sendMsi_eq v
  rw [sent]

theorem State.onlyHost_sendMsi (s : State) (v : Nat) : OnlyHost s (s.sendMsi v) := by
  obtain ⟨holdoff, sent, -⟩ := s.sendMsi_eq v
  rw [sent]
  rfl

theorem State.sendMsi_host (s : State) (v : Nat) : (s.sendMsi v).host.msix = s.host.msix ∧
    (s.sendMsi v).host.msixPending = s.host.msixPending ∧ (s.sendMsi v).host.due = s.host.due := by
  obtain ⟨holdoff, sent, -⟩ := s.sendMsi_eq v
  rw [sent]
  exact ⟨rfl, rfl, rfl⟩

theorem State.msixWord_congr (table : t.host.msix = s.host.msix) (k : Nat) : t.msixWord k = s.msixWord k := by
  rw [State.msixWord, State.msixWord, table]

theorem State.msiOf_congr (table : t.host.msix = s.host.msix) (v : Nat) : t.msiOf v = s.msiOf v := by
  simp only [State.msiOf, State.msixWord_congr table]

theorem State.message_grows (s : State) (v : Nat) : s.HostGrows (s.message v) := by
  cases masked : s.masked v with
  | true => exact State.message_masked masked ▸ ⟨rfl, List.prefix_rfl, rfl, rfl, fun _ => id⟩
  | false =>
    obtain ⟨holdoff, sent, keeps⟩ := s.sendMsi_eq v
    rw [State.message_sent masked, sent]
    exact ⟨rfl, List.prefix_append .., rfl, rfl, keeps⟩

theorem State.messages_grow (s : State) (vs : List Nat) : s.HostGrows (vs.foldl State.message s) := by
  induction vs generalizing s with
  | nil => exact .refl s
  | cons v vs ih => exact (s.message_grows v).trans (ih _)

end

/-! ### The table (R432, R442) -/

section
variable {s : State} (acts : s.Acts)
include acts

theorem exec_msixTableWrite (v : Fin 256) (d : Fin 4) (w : Word32) :
    exec (.msixTableWrite v d w) s = .next (s.msixWrite (4 * v.val + d.val) w.toNat) := by
  change execMsixTableWrite v d w s = _
  rw [execMsixTableWrite, State.awake_of_acts acts]

theorem exec_holdoffExpiry (v : Fin 256) : exec (.holdoffExpiry v) s = .next (s.holdoffEnd v.val) := by
  change execHoldoffExpiry v s = _
  rw [execHoldoffExpiry, State.awake_of_acts acts]

theorem exec_d3hotEntry : exec .d3hotEntry s = .next { s with host := { s.host with d3hot := true } } := by
  change execD3hotEntry s = _
  rw [execD3hotEntry, State.awake_of_acts acts]
  rfl

/-- The state in D0, before what fell due is announced. -/
def State.inD0 (s : State) : State :=
  { s with host := { s.host with d3hot := false, due := s.host.due.filter (fun v => s.host.holdoff.contains v) } }

theorem exec_d0Return : exec .d0Return s =
    .next ((s.host.due.filter (fun v => !s.host.holdoff.contains v)).foldl State.message s.inD0) := by
  change execD0Return s = _
  rw [execD0Return, State.awake_of_acts acts]
  rfl

end

/-- A doubleword of the table stored; of the vector control only the mask bit. -/
def State.msixStored (s : State) (k value : Nat) : State :=
  s.updHost (fun h => { h with msix := SMap.set (msixReset k) h.msix k (if k % 4 = 3 then value % 2 else value % 2 ^ 32) })

/-- The state with a vector's pending bit cleared. -/
def State.msixTaken (s : State) (v : Nat) : State :=
  s.updHost (fun h => { h with msixPending := h.msixPending.filter (fun x => x != v) })

section
variable {s : State} {k value v : Nat}

theorem State.msixWord_msixStored (s : State) (k value j : Nat) :
    (s.msixStored k value).msixWord j = if j = k then (if k % 4 = 3 then value % 2 else value % 2 ^ 32) else s.msixWord j := by
  split_ifs with same entry
  · subst same
    exact (SMap.get_set_same ..).trans (if_pos entry)
  · subst same
    exact (SMap.get_set_same ..).trans (if_neg entry)
  · exact SMap.get_set_other _ _ _ _ same

/-- What a write of doubleword `d` of vector `v` leaves in the table. -/
theorem State.msixWord_write (s : State) (v : Fin 256) (d : Fin 4) (w : Word32) (k : Nat) :
    (s.msixStored (4 * v.val + d.val) w.toNat).msixWord k =
      if k = 4 * v.val + d.val then (if d.val = 3 then w.toNat % 2 else w.toNat) else s.msixWord k := by
  have entry : (4 * v.val + d.val) % 4 = 3 ↔ d.val = 3 := by omega
  rw [State.msixWord_msixStored, Nat.mod_eq_of_lt w.isLt]
  simp only [entry]

theorem State.masked_write (s : State) (v : Fin 256) (d : Fin 4) (w : Word32) : (s.msixStored (4 * v.val + d.val) w.toNat).masked v.val =
    if d.val = 3 then decide (w.toNat % 2 = 1) else s.masked v.val := by
  rw [State.masked, State.msixWord_write]
  by_cases last : d.val = 3
  · simp [last, Nat.testBit_zero]
  · rw [if_neg (by omega), if_neg last, State.masked]

theorem State.msixWrite_sends (pending : s.host.msixPending.contains (k / 4) = true) (unmasked : (s.msixStored k value).masked (k / 4) = false) :
    s.msixWrite k value = ((s.msixStored k value).msixTaken (k / 4)).sendMsi (k / 4) := by
  refine (if_pos ?_).trans (State.message_sent unmasked)
  have there : (s.msixStored k value).host.msixPending.contains (k / 4) = true := pending
  exact Bool.and_eq_true_iff.mpr ⟨there, (Bool.not_eq_true' _).mpr unmasked⟩

theorem State.msixWrite_stores (still : (s.msixStored k value).masked (k / 4) = true ∨ s.host.msixPending.contains (k / 4) = false) :
    s.msixWrite k value = s.msixStored k value :=
  if_neg (by
    intro both
    obtain ⟨pending, unmasked⟩ := Bool.and_eq_true_iff.mp both
    rcases still with masked | absent
    · exact Bool.false_ne_true (((Bool.not_eq_true' _).mp unmasked).symm.trans masked)
    · exact Bool.false_ne_true (absent.symm.trans pending))

/-! ### Holdoff (R443) -/

/-- The state with a vector's holdoff ended. -/
def State.holdoffDone (s : State) (v : Nat) : State := s.updHost (fun h => { h with holdoff := h.holdoff.filter (fun x => x != v) })

/-- The state with a vector's work taken up. -/
def State.dueTaken (s : State) (v : Nat) : State := s.updHost (fun h => { h with due := h.due.filter (fun x => x != v) })

theorem State.holdoffEnd_quiet (quiet : s.host.due.contains v = false ∨ s.host.d3hot = true) : s.holdoffEnd v = s.holdoffDone v :=
  if_neg (by
    intro both
    obtain ⟨due, awake⟩ := Bool.and_eq_true_iff.mp both
    rcases quiet with nothing | d3hot
    · exact Bool.false_ne_true (nothing.symm.trans due)
    · exact Bool.false_ne_true (((Bool.not_eq_true' _).mp awake).symm.trans d3hot))

theorem State.holdoffEnd_due (due : s.host.due.contains v = true) (awake : s.host.d3hot = false) :
    s.holdoffEnd v = ((s.holdoffDone v).dueTaken v).message v :=
  if_pos (Bool.and_eq_true_iff.mpr ⟨due, (Bool.not_eq_true' _).mpr awake⟩)

end

/-- Settles O22: a write stores (`State.msixWord_msixStored`), and it and the end of a holdoff send through `State.message`. -/
theorem interruptsAndPowerStates : Obligations.InterruptsAndPowerStates := by
  refine ⟨⟨fun s v d w acts => ?_, fun s v acts => ⟨fun quiet => ?_, fun due awake masked => ?_, fun due awake unmasked => ?_⟩⟩,
    fun s acts => ⟨exec_d3hotEntry acts, ?_⟩⟩
  · intro stored masked
    have vector : (4 * v.val + d.val) / 4 = v.val := by omega
    have words : ∀ k, (s.msixStored (4 * v.val + d.val) w.toNat).msixWord k = if k = 4 * v.val + d.val then stored else s.msixWord k :=
      s.msixWord_write v d w
    have mask : (s.msixStored (4 * v.val + d.val) w.toNat).masked v.val = masked := s.masked_write v d w
    refine ⟨_, exec_msixTableWrite acts v d w, ?_⟩
    by_cases sends : s.host.msixPending.contains v.val = true ∧ masked = false
    · obtain ⟨pending, unmasked⟩ := sends
      rw [State.msixWrite_sends (by rw [vector]; exact pending) (by rw [vector]; exact mask.trans unmasked), vector]
      generalize stays : (s.msixStored (4 * v.val + d.val) w.toNat).msixTaken v.val = u
      obtain ⟨table, vectors, -⟩ := u.sendMsi_host v.val
      subst stays
      refine ⟨fun k => (State.msixWord_congr table k).trans (words k), fun still => ?_, fun _ _ => ⟨?_, ?_, ?_⟩⟩
      · rcases still with isMasked | absent
        · exact (Bool.false_ne_true (unmasked.symm.trans isMasked)).elim
        · exact (Bool.false_ne_true (absent.symm.trans pending)).elim
      · exact (State.sendMsi_out _ _).trans (congrArg (fun m => s.out ++ [m]) (State.msiOf_congr table v.val).symm)
      · rw [vectors]
        exact contains_filter_ne ..
      · exact ((s.onlyHost_updHost _).trans (State.onlyHost_updHost _ _)).trans (State.onlyHost_sendMsi _ _)
    · have still : masked = true ∨ s.host.msixPending.contains v.val = false := by
        by_contra both
        simp only [not_or, Bool.not_eq_true, Bool.not_eq_false] at both
        exact sends both.symm
      rw [State.msixWrite_stores (by rw [vector]; exact still.imp_left mask.trans)]
      exact ⟨words, fun _ => ⟨rfl, rfl⟩, fun unmasked pending => (sends ⟨pending, unmasked⟩).elim⟩
  · exact ⟨_, (exec_holdoffExpiry acts v).trans (congrArg _ (State.holdoffEnd_quiet quiet)), contains_filter_ne .., rfl, rfl⟩
  · have sent : ((s.holdoffDone v.val).dueTaken v.val).message v.val = _ := State.message_masked masked
    exact ⟨_, (exec_holdoffExpiry acts v).trans (congrArg _ ((State.holdoffEnd_due due awake).trans sent)), contains_insertRising ..,
      contains_filter_ne .., rfl⟩
  · have sent : ((s.holdoffDone v.val).dueTaken v.val).message v.val = _ := State.message_sent unmasked
    obtain ⟨-, -, taken⟩ := ((s.holdoffDone v.val).dueTaken v.val).sendMsi_host v.val
    refine ⟨_, (exec_holdoffExpiry acts v).trans (congrArg _ ((State.holdoffEnd_due due awake).trans sent)), State.sendMsi_out _ _, ?_, ?_⟩
    · rw [taken]
      exact contains_filter_ne ..
    · exact ((s.onlyHost_updHost _).trans (State.onlyHost_updHost _ _)).trans (State.onlyHost_sendMsi _ _)
  · have grows := s.inD0.messages_grow (s.host.due.filter (fun v => !s.host.holdoff.contains v))
    refine ⟨_, exec_d0Return acts, grows.d3hot, fun v due => grows.holdoff v ?_, grows.out, ?_⟩
    · rw [grows.due] at due
      exact (List.mem_filter.mp due).2
    · exact OnlyHost.trans (t := s.inD0) rfl grows.frame

end Sys2Proof.Machine
end

section
/-! PROOFS. Which operations leave the registers of the system block alone (BAR0 megabyte 0, R435): those on the way of a host frame to its
queue count on ports, cells, queues and lanes only. -/

namespace Sys2Proof.Machine

/-- The registers of BAR0 megabyte 0, the DMA rings among them, are as they are in `r`. -/
def State.SystemAsIn (r s : State) : Prop := ∀ o, o < 0x100000 → regAt s.regs o = regAt r.regs o

variable {r s t : State} {f : Fld} {n v i k p q c g len unit key : Nat} {data : List Nat} {bytes : List Byte}

theorem State.SystemAsIn.refl (s : State) : s.SystemAsIn s := fun _ _ => rfl

theorem State.SystemAsIn.beside (h : r.SystemAsIn s) (regs : t.regs = s.regs) : r.SystemAsIn t := fun o low => by rw [regs, h o low]

theorem State.SystemAsIn.ite {c : Prop} [Decidable c] (a : r.SystemAsIn s) (b : r.SystemAsIn t) : r.SystemAsIn (if c then s else t) := by
  split
  · exact a
  · exact b

theorem State.SystemAsIn.ite_snd {α : Type} {c : Prop} [Decidable c] {x y : α × State} (a : r.SystemAsIn x.2) (b : r.SystemAsIn y.2) :
    r.SystemAsIn (if c then x else y).2 := by
  split
  · exact a
  · exact b

theorem State.SystemAsIn.foldl {β : Type} {op : State → β → State} {l : List β} (h : r.SystemAsIn s)
    (step : ∀ s x, r.SystemAsIn s → r.SystemAsIn (op s x)) : r.SystemAsIn (l.foldl op s) := by
  induction l generalizing s with
  | nil => exact h
  | cons x l ih => exact ih (step s x h)

theorem State.SystemAsIn.setReg {x : RegSpec} (h : r.SystemAsIn s) (high : 0x100000 ≤ x.base := by decide) :
    r.SystemAsIn (s.setReg x n v) := fun o low => by
  have apart : o ≠ x.addr n := by
    rw [RegSpec.addr]
    omega
  exact (regAt_regPut_other _ _ apart).trans (h o low)

theorem State.SystemAsIn.setFld (h : r.SystemAsIn s) (high : 0x100000 ≤ f.reg.base := by decide) : r.SystemAsIn (s.setFld f n v) :=
  h.setReg high

theorem State.SystemAsIn.raiseAt {e : EvSpec} (h : r.SystemAsIn s) (bit : e.bit = some f := by rfl)
    (high : 0x100000 ≤ f.reg.base := by decide) : r.SystemAsIn (s.raiseAt e n unit data) := by
  have marked : r.SystemAsIn (s.markEvent e n) := by
    rw [State.markEvent, bit]
    exact h.setReg high
  exact marked.beside (by rw [State.raiseAt])

theorem State.SystemAsIn.raiseOnce {e : EvSpec} (h : r.SystemAsIn s) (bit : e.bit = some f := by rfl)
    (high : 0x100000 ≤ f.reg.base := by decide) : r.SystemAsIn (s.raiseOnce e n unit key data) :=
  .ite h ((h.raiseAt (n := n) (unit := unit) (data := data) bit high).beside rfl)

theorem State.SystemAsIn.raise {e : EvSpec} (h : r.SystemAsIn s) (bit : e.bit = some f := by rfl)
    (high : 0x100000 ≤ f.reg.base := by decide) : r.SystemAsIn (s.raise e unit) := h.raiseAt bit high

theorem State.SystemAsIn.portCount (h : r.SystemAsIn s) : r.SystemAsIn (s.portCount p i k) := by
  have counted : r.SystemAsIn (s.bump R.PORT_CTR_COUNT (p * 64 + i) k) := h.setFld
  exact .ite (counted.setFld (f := R.PORT_CTR_HALF_HALF)).raiseAt counted

/-! ### Cells (R319 to R334) -/

theorem State.SystemAsIn.cellCount (h : r.SystemAsIn s) : r.SystemAsIn (s.cellCount i k) := h.setFld

theorem State.SystemAsIn.setCupboard {b : Cupboard} (h : r.SystemAsIn s) : r.SystemAsIn (s.setCupboard q b) := h.beside rfl

theorem State.SystemAsIn.setCell {b : Cell} (h : r.SystemAsIn s) : r.SystemAsIn (s.setCell c b) := h.beside rfl

theorem State.SystemAsIn.refill (h : r.SystemAsIn s) : r.SystemAsIn (s.refill q) :=
  .ite h.setCupboard (.ite h.setCupboard.setCupboard.cellCount (.ite h h.setCupboard.setCupboard.cellCount))

theorem State.SystemAsIn.watchFree (h : r.SystemAsIn s) : r.SystemAsIn s.watchFree := by
  unfold State.watchFree
  extract_lets _ s₁ _ s₂
  have h₁ : r.SystemAsIn s₁ := h.beside rfl
  have h₂ : r.SystemAsIn s₂ := h₁.raise
  clear_value s₂ s₁
  exact .ite (h₁.beside rfl) (.ite (h₂.beside rfl) h₁)

theorem State.SystemAsIn.takeCell (h : r.SystemAsIn s) (e : s.takeCell q = some (c, t)) : r.SystemAsIn t := by
  unfold State.takeCell at e
  extract_lets s₁ at e
  have h₁ : r.SystemAsIn s₁ := .ite h.refill h
  split at e
  · cases e
    exact h₁.setCupboard.watchFree
  · cases e

theorem State.SystemAsIn.writeCell {prev : Option Nat} (h : r.SystemAsIn s) (e : s.writeCell q n prev bytes = some (c, t)) :
    r.SystemAsIn t := by
  unfold State.writeCell at e
  split at e
  · cases e
  · next taken =>
      cases e
      split
      · exact (h.takeCell taken).setCell.cellCount
      · exact (h.takeCell taken).setCell.cellCount.setCell

theorem State.SystemAsIn.writeCells : ∀ {prev : Option Nat} {bs : List (List Byte)} {done : List Nat} {s : State}, r.SystemAsIn s →
    r.SystemAsIn (State.writeCells q n prev bs done s).2.2
  | _, [], _, _, h => h
  | _, _ :: _, _, _, h => by
    unfold State.writeCells
    split
    · exact h
    · next e => exact (h.writeCell e).writeCells

theorem State.SystemAsIn.giveCell (h : r.SystemAsIn s) : r.SystemAsIn (s.giveCell c) := h.setCupboard.cellCount.watchFree

theorem State.SystemAsIn.quarantineCell (h : r.SystemAsIn s) : r.SystemAsIn (s.quarantineCell c) := by
  unfold State.quarantineCell
  extract_lets s₁ s₂
  have h₁ : r.SystemAsIn s₁ := h.beside rfl
  have h₂ : r.SystemAsIn s₂ := (h₁.setFld (f := R.CELL_QUAR_COUNT)).cellCount
  exact .ite h h₂.raiseAt

theorem State.SystemAsIn.releaseCell (h : r.SystemAsIn s) : r.SystemAsIn (s.releaseCell c g).2 :=
  .ite_snd h.cellCount.raiseOnce (.ite_snd h.cellCount.raiseOnce (.ite_snd h.setCell (.ite_snd h.setCell.setCell.quarantineCell h.setCell.giveCell)))

theorem State.SystemAsIn.noCell {cells : List Nat} (h : r.SystemAsIn s) : r.SystemAsIn (s.noCell n cells) :=
  State.SystemAsIn.cellCount (h.foldl fun _ _ h => h.foldl fun _ _ h => h.releaseCell)

/-! ### Queues and copies (R339, R340, R354) -/

theorem State.SystemAsIn.updQueue {w : Queue → Queue} (h : r.SystemAsIn s) : r.SystemAsIn (s.updQueue q w) := h.beside rfl

theorem State.SystemAsIn.updPort {w : Port → Port} (h : r.SystemAsIn s) : r.SystemAsIn (s.updPort p w) := h.beside rfl

theorem State.SystemAsIn.setHeadroom (h : r.SystemAsIn s) : r.SystemAsIn (s.setHeadroom p k v) := h.setFld

theorem State.SystemAsIn.xoffCheck (h : r.SystemAsIn s) : r.SystemAsIn (s.xoffCheck p k) := .ite h (.ite h (.ite h.setFld.updPort h.setFld))

theorem State.SystemAsIn.charge {b : Copy} (h : r.SystemAsIn s) : r.SystemAsIn (s.charge b k) := by
  unfold State.charge
  extract_lets _ s₁
  have h₁ : r.SystemAsIn s₁ := by
    unfold s₁
    split
    · exact h.updQueue
    · exact h.updQueue.setFld
    · exact h.updQueue.setHeadroom
  exact .ite (State.SystemAsIn.xoffCheck (h₁.beside rfl)) h₁

theorem State.SystemAsIn.queueDrop (h : r.SystemAsIn s) : r.SystemAsIn (s.queueDrop q) := h.updQueue

theorem State.SystemAsIn.refuseCopy {colour : Nat} {meter : Option Nat} {mirror : Bool} (h : r.SystemAsIn s)
    (e : s.refuseCopy p q colour len meter mirror = some t) : r.SystemAsIn t := by
  unfold State.refuseCopy at e
  split at e
  · cases e
    exact h.portCount.queueDrop
  · dsimp only at e
    split at e
    · cases e
    · cases e
      have counted {i : Nat} : r.SystemAsIn (s.tmCount i 1) := h.setFld
      exact counted.queueDrop.raiseOnce

theorem State.SystemAsIn.tryCopy {w : Want} (h : r.SystemAsIn s) : r.SystemAsIn (s.tryCopy w n).2 := by
  unfold State.tryCopy
  split
  · exact h.portCount
  · dsimp only
    split
    · next e => exact h.refuseCopy e
    · split
      · exact .ite h.cellCount.cellCount h.cellCount
      · exact .ite h.cellCount.queueDrop.cellCount h.cellCount.queueDrop

theorem State.SystemAsIn.startWiden (h : r.SystemAsIn s) : r.SystemAsIn (s.startWiden p) := by
  unfold State.startWiden
  refine .ite h ?_
  split
  · exact .ite h h.updPort
  · exact .ite h h.updPort

theorem State.SystemAsIn.thinWake (h : r.SystemAsIn s) : r.SystemAsIn (s.thinWake p) := .ite h (.ite h.startWiden h)

theorem State.SystemAsIn.enqueue {b : Copy} (h : r.SystemAsIn s) : r.SystemAsIn (s.enqueue p b) :=
  .ite (State.SystemAsIn.updQueue h.updQueue) h.updQueue

theorem State.SystemAsIn.enqueueAll {cs : List (Nat × Copy)} (h : r.SystemAsIn s) : r.SystemAsIn (State.enqueueAll cs s) :=
  h.foldl fun _ _ h => h.enqueue.thinWake

theorem State.SystemAsIn.writeFrame {quadrant : Nat} {frame : Option Nat} {copies : List (Nat × Copy)} (h : r.SystemAsIn s) :
    r.SystemAsIn (s.writeFrame quadrant bytes frame copies).2 :=
  .ite_snd h (.ite_snd h.writeCells.noCell (State.SystemAsIn.enqueueAll (h.writeCells.foldl fun _ _ h => h.charge)))

/-! ### Frames of host software (R448) -/

theorem State.SystemAsIn.hostFrame {d : TxDesc} {frame : List Byte} (h : r.SystemAsIn s) : r.SystemAsIn (s.hostFrame d frame).2 := by
  unfold State.hostFrame
  dsimp only
  split
  · exact h.tryCopy
  · exact h.tryCopy.writeFrame

theorem State.SystemAsIn.hostFrames {d : TxDesc} : ∀ {fs : List (List Byte)} {s : State}, r.SystemAsIn s →
    r.SystemAsIn (State.hostFrames d fs s).2
  | [], _, h => h
  | _ :: _, _, h => h.hostFrame.hostFrames

end Sys2Proof.Machine
end

section
/-! PROOFS. Event records (R444), halted rings and receive buffers (R448, R451, R452), and transmit descriptors (R448 to R450). -/

namespace Sys2Proof.Machine

/-! ### Messages and events beside the registers of rings -/

theorem State.onlyHost_announce (s : State) (v : Nat) : OnlyHost s (s.announce v) := by
  unfold State.announce
  split
  · exact s.onlyHost_updHost _
  · exact (s.message_grows v).frame

/-- An announcement puts out one message at most. -/
theorem State.out_announce (s : State) (v : Nat) : ∃ sent, (s.announce v).out = s.out ++ sent ∧ (sent = [] ∨ ∃ addr data, sent = [.msi v addr data]) := by
  unfold State.announce
  split
  · exact ⟨[], (List.append_nil _).symm, .inl rfl⟩
  · cases masked : s.masked v with
    | true => exact ⟨[], by rw [State.message_masked masked, List.append_nil], .inl rfl⟩
    | false => exact ⟨[s.msiOf v], by rw [State.message_sent masked, s.sendMsi_out], .inr ⟨_, _, rfl⟩⟩

theorem State.announce_eq (s : State) (v : Nat) : ∃ sent host, s.announce v = { s with out := s.out ++ sent, host := host } ∧
    (sent = [] ∨ ∃ addr data, sent = [.msi v addr data]) := by
  obtain ⟨sent, out, message⟩ := s.out_announce v
  exact ⟨sent, (s.announce v).host, out ▸ s.onlyHost_announce v, message⟩

section
variable {s : State} {e : EvSpec} {f : Fld} {n unit key : Nat} {data : List Nat}

theorem State.raised_raiseOnce (s : State) (e : EvSpec) (n unit key : Nat) (data : List Nat) :
    (s.raiseOnce e n unit key data).epoch.raised.contains (e.code, key) = true := by
  unfold State.raiseOnce
  split
  · assumption
  · simp

theorem State.regAt_setReg_other (s : State) {r : RegSpec} {n o : Nat} (v : Nat) (apart : o ≠ r.addr n) :
    regAt (s.setReg r n v).regs o = regAt s.regs o := regAt_regPut_other s.regs _ apart

theorem State.regs_raiseAt (s : State) (e : EvSpec) (n unit : Nat) (data : List Nat) :
    (s.raiseAt e n unit data).regs = (s.markEvent e n).regs := by
  rw [State.raiseAt]

theorem State.regAt_raiseOnce_other (bit : e.bit = some f) {o : Nat} (apart : o ≠ f.reg.addr n) :
    regAt (s.raiseOnce e n unit key data).regs o = regAt s.regs o := by
  have marked : regAt (s.markEvent e n).regs o = regAt s.regs o := by
    rw [State.markEvent, bit]
    exact State.regAt_setReg_other _ _ apart
  unfold State.raiseOnce
  split
  · rfl
  · dsimp only
    rw [State.regs_raiseAt, marked]

theorem State.fld_raiseOnce_other (bit : e.bit = some f) {g : Fld} {m : Nat} (apart : g.reg.addr m ≠ f.reg.addr n) :
    (s.raiseOnce e n unit key data).fld g m = s.fld g m := by
  rw [State.fld, State.reg, State.regAt_raiseOnce_other bit apart, State.fld, State.reg]

end

theorem hdmaCtr_addr (i : Nat) : R.HDMA_CTR.addr i = 0x30100 + 8 * i := by
  simp only [RegSpec.addr, R.HDMA_CTR]
  omega

theorem ringHead_addr (n : Nat) : R.HDMA_RING_HEAD.addr n = 0x31010 + 0x40 * n := by
  simp only [RegSpec.addr, R.HDMA_RING_HEAD]
  omega

theorem ringStat_addr (n : Nat) : R.HDMA_RING_STAT.addr n = 0x31014 + 0x40 * n := by
  simp only [RegSpec.addr, R.HDMA_RING_STAT]
  omega

theorem stfCtr_addr (k : Nat) : 0x600100 ≤ R.STF_CTR.addr k := by
  simp only [RegSpec.addr, R.STF_CTR]
  omega

/-- The counter of descriptors and frames lies apart from the head of a ring. -/
theorem hdmaCtr_apart_ringHead {i : Nat} (hi : i < 8) (n : Nat) : R.HDMA_RING_HEAD.addr n ≠ R.HDMA_CTR.addr i := by
  rw [hdmaCtr_addr, ringHead_addr]
  omega

/-! ### Counters of the DMA engine (R448) -/

theorem OnlyRegisters.trans {s t u : State} (h : OnlyRegisters s t) (k : OnlyRegisters t u) : OnlyRegisters s u := by
  rw [OnlyRegisters, k, h]

/-- What a state with other registers puts out and announces. -/
theorem State.announce_of_onlyRegisters {s u : State} (only : OnlyRegisters s u) (outs : List Out) (v : Nat) : ∃ sent host,
    State.announce { u with out := u.out ++ outs } v = { s with regs := u.regs, out := s.out ++ outs ++ sent, host := host } := by
  obtain ⟨sent, host, announced, -⟩ := State.announce_eq { u with out := u.out ++ outs } v
  refine ⟨sent, host, announced.trans ?_⟩
  rw [only]

section
variable (s : State) {f g : Fld} {m n i k o : Nat}

theorem State.regAt_bump_other (apart : o ≠ f.reg.addr n) : regAt (s.bump f n k).regs o = regAt s.regs o :=
  State.regAt_setFld_other s f _ apart

theorem State.fld_bump_other (apart : g.reg.addr m ≠ f.reg.addr n) : (s.bump f n k).fld g m = s.fld g m :=
  State.fld_setFld_other s f g n m _ apart

theorem State.regAt_dmaCount_other (apart : o ≠ R.HDMA_CTR.addr i) : regAt (s.dmaCount i k).regs o = regAt s.regs o :=
  State.regAt_bump_other s (f := R.HDMA_CTR_COUNT) apart

theorem State.fld_dmaCount_other (apart : g.reg.addr m ≠ R.HDMA_CTR.addr i) : (s.dmaCount i k).fld g m = s.fld g m :=
  State.fld_bump_other s (f := R.HDMA_CTR_COUNT) apart

theorem State.emit_setFld (x : Out) (v : Nat) : (s.emit x).setFld f n v = (s.setFld f n v).emit x := rfl

theorem State.emit_bump (x : Out) : (s.emit x).bump f n k = (s.bump f n k).emit x := rfl

theorem State.emit_dmaCount (x : Out) : (s.emit x).dmaCount i k = (s.dmaCount i k).emit x := rfl

theorem State.fld_emit (x : Out) : (s.emit x).fld g m = s.fld g m := rfl

theorem State.ringEntry_emit (x : Out) (ring size : Nat) : (s.emit x).ringEntry ring size = s.ringEntry ring size := rfl

theorem State.onlyRegisters_setFld (v : Nat) : OnlyRegisters s (s.setFld f n v) := rfl

theorem State.onlyRegisters_bump : OnlyRegisters s (s.bump f n k) := rfl

theorem State.onlyRegisters_dmaCount : OnlyRegisters s (s.dmaCount i k) := rfl

end

/-! ### Event records (R444) -/

section
variable {s : State} {e : EventRec} {rest : List EventRec} (acts : s.Acts) (awake : s.host.d3hot = false)
  (enabled : s.fld R.HDMA_EVR_SIZE_SIZE 0 ≠ 0) (waits : s.evq = e :: rest)

theorem exec_eventRecordWrite (acts : s.Acts) : exec .eventRecordWrite s = .next s.recordWrite := by
  change execEventRecordWrite s = _
  rw [execEventRecordWrite, State.awake_of_acts acts]

include awake enabled waits

theorem State.recordWrite_room (room : s.evrRoom = true) (complete : s.host.lost = 0) :
    s.recordWrite = ({ s with evq := rest } : State).putRecord e := by
  simp [State.recordWrite, awake, enabled, room, complete, waits]

theorem State.recordWrite_full (full : s.evrRoom = false) :
    s.recordWrite = (({ s with evq := rest } : State).dmaCount 7 1).updHost (fun h => { h with lost := h.lost + 1 }) := by
  simp [State.recordWrite, awake, enabled, full, waits]

end

/-- The record that leaves for the ring entry at TAIL. -/
def State.recordOut (s : State) (e : EventRec) : Out := .hostWrite (s.fld R.HDMA_EVR_BASE_BASE 0 * 64 +
  64 * (s.fld R.HDMA_EVR_TAIL_TAIL 0 % s.fld R.HDMA_EVR_SIZE_SIZE 0)) e.words

/-- TAIL and the counter of records move on. -/
def State.recordCounted (s : State) : State := (s.setFld R.HDMA_EVR_TAIL_TAIL 0 (s.fld R.HDMA_EVR_TAIL_TAIL 0 + 1)).dmaCount 6 1

theorem State.recordCounted_tail (s : State) :
    s.recordCounted.fld R.HDMA_EVR_TAIL_TAIL 0 = (s.fld R.HDMA_EVR_TAIL_TAIL 0 + 1) % 65536 := by
  rw [State.recordCounted, State.fld_dmaCount_other _ (by decide), State.fld_setFld_same _ _ _ _ (by decide)]
  rfl

theorem State.recordCounted_registersBut (s : State) : RegistersBut [R.HDMA_EVR_TAIL.addr 0, R.HDMA_CTR.addr 6] s s.recordCounted := by
  intro o outside
  obtain ⟨tail, count⟩ : o ≠ R.HDMA_EVR_TAIL.addr 0 ∧ o ≠ R.HDMA_CTR.addr 6 := by simpa using outside
  rw [State.recordCounted, State.regAt_dmaCount_other _ count, State.regAt_setFld_other _ R.HDMA_EVR_TAIL_TAIL _ tail]

theorem State.putRecord_eq (s : State) (e : EventRec) : ∃ sent host,
    s.putRecord e = { s with regs := s.recordCounted.regs, out := s.out ++ [s.recordOut e] ++ sent, host := host } := by
  have only : OnlyRegisters s s.recordCounted := (s.onlyRegisters_setFld _).trans (State.onlyRegisters_dmaCount _)
  have written : s.putRecord e = State.announce { s.recordCounted with out := s.recordCounted.out ++ [s.recordOut e] } 0 := by
    rw [State.putRecord, State.emit_setFld, State.emit_dmaCount]
    rfl
  exact written ▸ State.announce_of_onlyRegisters only [s.recordOut e] 0

/-! ### Halted rings and receive buffers (R448, R451, R452) -/

section
variable {s : State} (acts : s.Acts)
include acts

theorem exec_hdmaFetchTimeout_idle {n : Fin 128} (idle : s.ringReady n.val = false) : exec (.hdmaFetchTimeout n) s = .next s := by
  change execHdmaFetchTimeout n s = _
  rw [execHdmaFetchTimeout, State.awake_of_acts acts, idle]
  rfl

theorem exec_hdmaFetchTimeout_ready {n : Fin 128} (ready : s.ringReady n.val = true) : exec (.hdmaFetchTimeout n) s =
    .next (((if n.val < 64 then { s with host := { s.host with txLast := n.val } } else s).setFlag R.HDMA_RING_STAT_HALTED n.val true).raiseOf
      EV_HDMA_FETCH n.val) := by
  change execHdmaFetchTimeout n s = _
  rw [execHdmaFetchTimeout, State.awake_of_acts acts, ready]
  rfl

theorem exec_hostRxDelivery (n : Fin 64) (addr : Word64) (len : BitVec 16) :
    exec (.hostRxDelivery n addr len) s = .next (s.rxDeliver n.val addr.toNat len.toNat) := by
  change execHostRxDelivery n addr len s = _
  rw [execHostRxDelivery, State.awake_of_acts acts]

end

section
variable {s : State} {n addr len : Nat} {f : HostFrame} {rest : List HostFrame}

/-- The state with the oldest frame of a receive ring taken. -/
def State.rxTaken (s : State) (n : Nat) (rest : List HostFrame) : State := { s with hostRx := SMap.set [] s.hostRx n rest }

theorem State.hostRx_rxTaken (s : State) (n : Nat) (rest : List HostFrame) : SMap.get [] (s.rxTaken n rest).hostRx n = rest :=
  SMap.get_set_same ..

section
variable (awake : s.host.d3hot = false) (oldest : SMap.get [] s.hostRx n = f :: rest)
include awake oldest

theorem State.rxDeliver_fits (ready : s.ringReady (64 + n) = true) (fits : 32 + f.bytes.length ≤ len) :
    s.rxDeliver n addr len = (s.rxTaken n rest).rxWrite n addr f := by
  have there : (s.rxTaken n rest).ringReady (64 + n) = true := ready
  rw [State.rxDeliver, oldest]
  dsimp only
  rw [awake]
  exact (if_neg (by simp)).trans ((if_neg (by
    intro idle
    exact Bool.false_ne_true (((Bool.not_eq_true' _).mp idle).symm.trans there))).trans (if_neg (by omega)))

theorem State.rxDeliver_dropped (misfit : s.ringReady (64 + n) = false ∨ len < 32 + f.bytes.length) :
    ∃ reason, s.rxDeliver n addr len = (s.rxTaken n rest).rxDrop n f reason := by
  rw [State.rxDeliver, oldest]
  dsimp only
  rw [awake]
  cases ready : s.ringReady (64 + n) with
  | false =>
    have there : (s.rxTaken n rest).ringReady (64 + n) = false := ready
    exact ⟨1, (if_neg (by simp)).trans (if_pos ((Bool.not_eq_true' _).mpr there))⟩
  | true =>
    have there : (s.rxTaken n rest).ringReady (64 + n) = true := ready
    have long : len < 32 + f.bytes.length := misfit.resolve_left (by simp [ready])
    exact ⟨2, (if_neg (by simp)).trans ((if_neg (by
      intro idle
      exact Bool.false_ne_true (((Bool.not_eq_true' _).mp idle).symm.trans there))).trans (if_pos long))⟩

end

/-- A discarded frame leaves counters and events only. -/
theorem State.onlyReports_rxDrop (s : State) (n : Nat) (f : HostFrame) (reason : Nat) : OnlyReports s (s.rxDrop n f reason) := by
  unfold State.rxDrop
  dsimp only
  split
  · exact ((State.onlyReports_setFld ..).trans (State.onlyReports_raiseOnce ..)).trans (State.onlyReports_raiseOnce ..)
  · exact OnlyReports.trans (State.onlyReports_setFld ..) (State.onlyReports_raiseOnce ..)

/-- The head and the counters that a delivered frame moves on. -/
def State.rxCounted (s : State) (n : Nat) (f : HostFrame) : State :=
  let s := (s.setFld R.HDMA_RING_HEAD_HEAD (64 + n) (s.fld R.HDMA_RING_HEAD_HEAD (64 + n) + 1)).dmaCount 3 1
  if f.kind = 2 then s.bump R.STF_CTR_COUNT (32 * f.source + 11) 1 else s

theorem State.onlyRegisters_rxCounted (s : State) (n : Nat) (f : HostFrame) : OnlyRegisters s (s.rxCounted n f) := by
  have counted {v : Nat} : OnlyRegisters s ((s.setFld R.HDMA_RING_HEAD_HEAD (64 + n) v).dmaCount 3 1) :=
    (s.onlyRegisters_setFld _).trans (State.onlyRegisters_dmaCount _)
  unfold State.rxCounted
  dsimp only
  split
  · exact counted.trans (State.onlyRegisters_bump _)
  · exact counted

theorem State.rxCounted_registersBut (s : State) (n : Nat) (f : HostFrame) : RegistersBut
    [R.HDMA_RING_HEAD.addr (64 + n), R.HDMA_CTR.addr 3, R.STF_CTR.addr (32 * f.source + 11)] s (s.rxCounted n f) := by
  intro o outside
  simp only [List.mem_cons, List.not_mem_nil, or_false, not_or] at outside
  obtain ⟨head, count, mgmt⟩ := outside
  unfold State.rxCounted
  dsimp only
  split
  · rw [State.regAt_bump_other _ (f := R.STF_CTR_COUNT) mgmt, State.regAt_dmaCount_other _ count,
      State.regAt_setFld_other _ R.HDMA_RING_HEAD_HEAD _ head]
  · rw [State.regAt_dmaCount_other _ count, State.regAt_setFld_other _ R.HDMA_RING_HEAD_HEAD _ head]

theorem State.rxCounted_head (s : State) {n : Nat} (hn : n < 64) (f : HostFrame) :
    (s.rxCounted n f).fld R.HDMA_RING_HEAD_HEAD (64 + n) = (s.fld R.HDMA_RING_HEAD_HEAD (64 + n) + 1) % 65536 := by
  have moved : (((s.setFld R.HDMA_RING_HEAD_HEAD (64 + n) (s.fld R.HDMA_RING_HEAD_HEAD (64 + n) + 1))).dmaCount 3 1).fld
      R.HDMA_RING_HEAD_HEAD (64 + n) = (s.fld R.HDMA_RING_HEAD_HEAD (64 + n) + 1) % 65536 := by
    rw [State.fld_dmaCount_other _ (hdmaCtr_apart_ringHead (by decide) _), State.fld_setFld_same _ _ _ _ (by decide)]
    rfl
  have apart : R.HDMA_RING_HEAD.addr (64 + n) ≠ R.STF_CTR.addr (32 * f.source + 11) := by
    have above := stfCtr_addr (32 * f.source + 11)
    rw [ringHead_addr]
    omega
  unfold State.rxCounted
  dsimp only
  split
  · exact (State.fld_bump_other _ (f := R.STF_CTR_COUNT) (g := R.HDMA_RING_HEAD_HEAD) apart).trans moved
  · exact moved

/-- What a frame in a receive buffer puts out: its record, its bytes, and DONE with the length. -/
def State.rxOuts (s : State) (n addr : Nat) (f : HostFrame) : List Out :=
  [.hostWrite addr f.record, .hostBytes (addr + 32) f.bytes,
    .hostBytes (s.ringEntry (64 + n) 16 + 12) (leBytes 4 (2 ^ 31 + (32 + f.bytes.length)))]

theorem State.emit_three (s : State) (a b c : Out) : ((s.emit a).emit b).emit c = { s with out := s.out ++ [a, b, c] } := by
  simp [State.emit]

theorem State.rxWrite_announces (s : State) (n addr : Nat) (f : HostFrame) :
    s.rxWrite n addr f = State.announce { s.rxCounted n f with out := (s.rxCounted n f).out ++ s.rxOuts n addr f } (32 + n) := by
  rw [State.rxOuts, ← State.emit_three]
  unfold State.rxWrite State.rxCounted
  dsimp only
  split
  · rw [State.ringEntry_emit, State.ringEntry_emit, State.fld_emit, State.fld_emit, State.fld_emit, State.emit_setFld, State.emit_setFld,
      State.emit_setFld, State.emit_dmaCount, State.emit_dmaCount, State.emit_dmaCount, State.emit_bump, State.emit_bump, State.emit_bump]
    rfl
  · rw [State.ringEntry_emit, State.ringEntry_emit, State.fld_emit, State.fld_emit, State.fld_emit, State.emit_setFld, State.emit_setFld,
      State.emit_setFld, State.emit_dmaCount, State.emit_dmaCount, State.emit_dmaCount]
    rfl

theorem State.rxWrite_eq (s : State) (n addr : Nat) (f : HostFrame) : ∃ sent host, s.rxWrite n addr f =
    { s with regs := (s.rxCounted n f).regs, out := s.out ++ s.rxOuts n addr f ++ sent, host := host } :=
  s.rxWrite_announces n addr f ▸ State.announce_of_onlyRegisters (s.onlyRegisters_rxCounted n f) (s.rxOuts n addr f) (32 + n)

end

end Sys2Proof.Machine
end

section
/-! PROOFS. Transmit descriptors (R214, R448 to R450), and the statement on packet rings. -/

namespace Sys2Proof.Machine

/-! ### What makes a descriptor bad (R450) -/

/-- The descriptor in the words that a fetch brought. -/
def TxDesc.of (words : List Word64) : TxDesc := { w := fun i => (words.getD i 0).toNat }

def TxDesc.Reserved (d : TxDesc) : Prop :=
  d.f 32 32 ≠ 0 ∨ d.f 15 14 ≠ 0 ∨ bits (d.w 3) 31 19 ≠ 0 ∨ d.w 5 ≠ 0 ∨ d.w 6 ≠ 0 ∨ (¬ d.f 46 46 = 1 ∧ d.w 1 ≠ 0)

def TxDesc.Clash (d : TxDesc) : Prop :=
  (d.f 43 43 = 1 ∧ (d.f 46 46 = 1 ∨ d.f 45 45 = 1 ∨ d.f 44 44 = 1)) ∨ (d.f 46 46 = 1 ∧ d.f 44 44 = 1)

def TxDesc.Misfit (d : TxDesc) (maxFrame : Nat) : Prop :=
  (d.f 43 43 = 1 ∧ (d.f 13 0 = 0 ∨ 2048 < d.f 13 0)) ∨
    (¬ d.f 43 43 = 1 ∧ ¬ d.f 46 46 = 1 ∧ (d.f 13 0 < 14 ∨ maxFrame < d.f 13 0 + 4))

theorem TxDesc.bad_iff (d : TxDesc) (maxFrame : Nat) : d.bad maxFrame = true ↔ d.Reserved ∨ d.Clash ∨ d.Misfit maxFrame := by
  by_cases seg : d.f 46 46 = 1 <;> by_cases mgmt : d.f 43 43 = 1 <;>
    simp [TxDesc.bad, TxDesc.Reserved, TxDesc.Clash, TxDesc.Misfit, TxDesc.seg, TxDesc.mgmt, seg, mgmt, or_assoc]

theorem TxDesc.of_reserved_iff (words : List Word64) : (TxDesc.of words).Reserved ↔
    bits (words.getD 2 0).toNat 32 32 ≠ 0 ∨ bits (words.getD 2 0).toNat 15 14 ≠ 0 ∨ bits (words.getD 3 0).toNat 31 19 ≠ 0 ∨
      words.getD 5 0 ≠ 0 ∨ words.getD 6 0 ≠ 0 ∨ (¬ bits (words.getD 2 0).toNat 46 46 = 1 ∧ words.getD 1 0 ≠ 0) := by
  have word (i : Nat) : (words.getD i 0).toNat = 0 ↔ words.getD i 0 = 0 := BitVec.toNat_inj (y := 0)
  simp only [TxDesc.Reserved, TxDesc.of, TxDesc.f, ne_eq, word]

/-! ### The end of a descriptor (R448) -/

/-- The descriptor at HEAD completes: it is counted, word 7 takes DONE with a STATUS, and HEAD moves on. -/
def State.txDone (s : State) (ring status : Nat) : State :=
  let s := s.dmaCount 0 1
  let s := s.emit (.hostWrite (s.ringEntry ring 64 + 56) [BitVec.ofNat 64 (1 <<< 63 + status)])
  s.setFld R.HDMA_RING_HEAD_HEAD ring (s.fld R.HDMA_RING_HEAD_HEAD ring + 1)

theorem State.txDescriptor_idle {s : State} {ring : Nat} (idle : s.txTurn ≠ some ring) (words : List Word64) (frame payload : List Byte) :
    s.txDescriptor ring words frame payload = s := if_pos idle

theorem State.txDescriptor_turn {s : State} {ring : Nat} (turn : s.txTurn = some ring) (words : List Word64) (frame payload : List Byte) :
    s.txDescriptor ring words frame payload =
      let r := (s.updHost (fun h => { h with txLast := ring })).txRun ring (TxDesc.of words) frame payload
      if bits (words.getD 2 0).toNat 42 42 = 1 then (r.2.txDone ring r.1).announce (96 + ring) else r.2.txDone ring r.1 := by
  rw [State.txDescriptor, if_neg (not_not_intro turn)]
  rfl

section
variable (s : State) {t : State} {ring status : Nat}

theorem ringBase_addr (n : Nat) : R.HDMA_RING_BASE.addr n = 0x31000 + 0x40 * n := by
  simp only [RegSpec.addr, R.HDMA_RING_BASE]
  omega

theorem ringSize_addr (n : Nat) : R.HDMA_RING_SIZE.addr n = 0x31008 + 0x40 * n := by
  simp only [RegSpec.addr, R.HDMA_RING_SIZE]
  omega

/-- The place of a descriptor comes from BASE, SIZE and HEAD of its ring. -/
theorem State.ringEntry_congr {s : State} {size : Nat} (base : regAt t.regs (R.HDMA_RING_BASE.addr ring) = regAt s.regs (R.HDMA_RING_BASE.addr ring))
    (entries : regAt t.regs (R.HDMA_RING_SIZE.addr ring) = regAt s.regs (R.HDMA_RING_SIZE.addr ring))
    (head : regAt t.regs (R.HDMA_RING_HEAD.addr ring) = regAt s.regs (R.HDMA_RING_HEAD.addr ring)) :
    t.ringEntry ring size = s.ringEntry ring size := by
  simp only [State.ringEntry, State.fld, State.reg, R.HDMA_RING_BASE_BASE, R.HDMA_RING_SIZE_SIZE, R.HDMA_RING_HEAD_HEAD, base, entries, head]

theorem State.SystemAsIn.ringEntry {r s : State} (h : r.SystemAsIn s) (low : ring < 64) : s.ringEntry ring 64 = r.ringEntry ring 64 :=
  State.ringEntry_congr (h _ (by rw [ringBase_addr]; omega)) (h _ (by rw [ringSize_addr]; omega)) (h _ (by rw [ringHead_addr]; omega))

theorem State.ringEntry_dmaCount {i k size : Nat} (hi : i < 8) : (s.dmaCount i k).ringEntry ring size = s.ringEntry ring size :=
  State.ringEntry_congr (State.regAt_dmaCount_other _ (by rw [ringBase_addr, hdmaCtr_addr]; omega))
    (State.regAt_dmaCount_other _ (by rw [ringSize_addr, hdmaCtr_addr]; omega))
    (State.regAt_dmaCount_other _ (hdmaCtr_apart_ringHead hi _))

/-- The record of a completed descriptor, in word 7 of its place. -/
def State.txRecord (s : State) (ring status : Nat) : Out := .hostWrite (s.ringEntry ring 64 + 56) [BitVec.ofNat 64 (2 ^ 63 + status)]

theorem State.txDone_out : (s.txDone ring status).out = s.out ++ [s.txRecord ring status] := by
  rw [State.txRecord, ← s.ringEntry_dmaCount (i := 0) (k := 1) (by decide)]
  rfl

theorem State.txDone_others : ∃ regs out, s.txDone ring status = { s with regs := regs, out := out } := ⟨_, _, rfl⟩

theorem State.txDone_regs : (s.txDone ring status).regs =
    ((s.dmaCount 0 1).setFld R.HDMA_RING_HEAD_HEAD ring ((s.dmaCount 0 1).fld R.HDMA_RING_HEAD_HEAD ring + 1)).regs := rfl

theorem State.txDone_head : (s.txDone ring status).fld R.HDMA_RING_HEAD_HEAD ring = (s.fld R.HDMA_RING_HEAD_HEAD ring + 1) % 65536 := by
  rw [State.fld_of_regs s.txDone_regs, State.fld_setFld_same _ _ _ _ (by decide),
    State.fld_dmaCount_other _ (hdmaCtr_apart_ringHead (by decide) _)]
  rfl

theorem State.txDone_registersBut : RegistersBut [R.HDMA_RING_HEAD.addr ring, R.HDMA_CTR.addr 0] s (s.txDone ring status) := by
  intro o outside
  obtain ⟨head, count⟩ : o ≠ R.HDMA_RING_HEAD.addr ring ∧ o ≠ R.HDMA_CTR.addr 0 := by simpa using outside
  rw [State.txDone_regs, State.regAt_setFld_other _ R.HDMA_RING_HEAD_HEAD _ head, State.regAt_dmaCount_other _ count]

end

/-! ### What a descriptor does (R214, R448 to R450) -/

section
variable {s : State} {ring : Nat} {d : TxDesc} {frame payload : List Byte}

/-- A bad descriptor is counted, and its event is raised once. -/
def State.txBad (s : State) (ring : Nat) : State := (s.dmaCount 1 1).raiseOnce EV_HDMA_TX_BAD ring ring ring []

theorem State.txRun_bad (bad : d.bad (s.fld R.PORT_CFG_MAX_FRAME d.port) = true) : s.txRun ring d frame payload = (2, s.txBad ring) :=
  if_pos bad

/-- The frame of a descriptor for a management channel waits behind those of the lane. -/
def State.txMgmt (s : State) (d : TxDesc) (frame : List Byte) : State :=
  s.updStf (d.f 41 33) (fun x => { x with mgmtQ := x.mgmtQ ++ [headerBytes (d.f 13 0) ++ frame.take (d.f 13 0)] })

theorem State.txRun_mgmt (good : ¬ d.bad (s.fld R.PORT_CFG_MAX_FRAME d.port) = true) (mgmt : d.mgmt = true) :
    s.txRun ring d frame payload = (0, s.txMgmt d frame) :=
  (if_neg good).trans (if_pos mgmt)

theorem State.onlyReports_txBad (s : State) (ring : Nat) : OnlyReports s (s.txBad ring) :=
  (State.onlyReports_setFld ..).trans (State.onlyReports_raiseOnce ..)

theorem State.txBad_registersBut (s : State) (ring : Nat) :
    RegistersBut [R.HDMA_RING_STAT.addr ring, R.HDMA_CTR.addr 1] s (s.txBad ring) := by
  intro o outside
  obtain ⟨stat, count⟩ : o ≠ R.HDMA_RING_STAT.addr ring ∧ o ≠ R.HDMA_CTR.addr 1 := by simpa using outside
  rw [State.txBad, State.regAt_raiseOnce_other (f := R.HDMA_RING_STAT_TX_BAD) rfl stat, State.regAt_dmaCount_other _ count]

theorem State.txBad_ringEntry (s : State) (ring : Nat) : (s.txBad ring).ringEntry ring 64 = s.ringEntry ring 64 := by
  refine State.ringEntry_congr (s.txBad_registersBut ring _ ?_) (s.txBad_registersBut ring _ ?_) (s.txBad_registersBut ring _ ?_) <;>
  · simp only [List.mem_cons, List.not_mem_nil, or_false, not_or, ringStat_addr, hdmaCtr_addr, ringBase_addr, ringSize_addr, ringHead_addr]
    omega

theorem State.txFrames_status (s : State) (d : TxDesc) (fs : List (List Byte)) : (s.txFrames d fs).1 ≤ 4 := by
  unfold State.txFrames
  dsimp only
  split
  · exact le_refl 4
  · split
    · exact Nat.zero_le 4
    · exact Nat.le_succ 3

theorem State.txFrames_ringEntry {r : State} (same : r.SystemAsIn s) (low : ring < 64) (fs : List (List Byte)) :
    (s.txFrames d fs).2.ringEntry ring 64 = r.ringEntry ring 64 := by
  have sent : (State.hostFrames d fs s).2.ringEntry ring 64 = r.ringEntry ring 64 := same.hostFrames.ringEntry low
  unfold State.txFrames
  dsimp only
  split
  · exact sent
  · split
    · exact sent
    · exact (State.ringEntry_dmaCount _ (by decide)).trans sent

theorem State.txRun_status (s : State) (ring : Nat) (d : TxDesc) (frame payload : List Byte) : (s.txRun ring d frame payload).1 ≤ 4 := by
  unfold State.txRun
  dsimp only
  split
  · exact Nat.le_add_left 2 2
  · split
    · exact Nat.zero_le 4
    · split
      · split
        · exact Nat.le_add_left 1 3
        · exact State.txFrames_status ..
      · exact State.txFrames_status ..

theorem State.txRun_ringEntry (low : ring < 64) : (s.txRun ring d frame payload).2.ringEntry ring 64 = s.ringEntry ring 64 := by
  have same := State.SystemAsIn.refl s
  unfold State.txRun
  dsimp only
  split
  · exact s.txBad_ringEntry ring
  · split
    · rfl
    · split
      · split
        · exact (same.portCount.raiseAt (e := EV_PORT_SEG_BAD)).ringEntry low
        · exact State.txFrames_ringEntry same.portCount.portCount low _
      · exact State.txFrames_ringEntry same low _

theorem State.txBad_head (s : State) (ring : Nat) : (s.txBad ring).fld R.HDMA_RING_HEAD_HEAD ring = s.fld R.HDMA_RING_HEAD_HEAD ring := by
  have apart : R.HDMA_RING_HEAD.addr ring ≠ R.HDMA_RING_STAT.addr ring := by
    rw [ringHead_addr, ringStat_addr]
    omega
  rw [State.txBad, State.fld_raiseOnce_other (f := R.HDMA_RING_STAT_TX_BAD) rfl apart,
    State.fld_dmaCount_other _ (hdmaCtr_apart_ringHead (by decide) _)]

theorem State.txBad_count (s : State) (ring : Nat) :
    (s.txBad ring).fld R.HDMA_CTR_COUNT 1 = (s.fld R.HDMA_CTR_COUNT 1 + 1) % 2 ^ 48 := by
  have apart : R.HDMA_CTR.addr 1 ≠ R.HDMA_RING_STAT.addr ring := by
    rw [hdmaCtr_addr, ringStat_addr]
    omega
  rw [State.txBad, State.fld_raiseOnce_other (f := R.HDMA_RING_STAT_TX_BAD) (g := R.HDMA_CTR_COUNT) rfl apart]
  exact State.fld_setFld_same _ R.HDMA_CTR_COUNT _ _ (by decide)

theorem State.txDone_count (s : State) (ring status : Nat) : (s.txDone ring status).fld R.HDMA_CTR_COUNT 1 = s.fld R.HDMA_CTR_COUNT 1 := by
  have kept : regAt (s.txDone ring status).regs (R.HDMA_CTR.addr 1) = regAt s.regs (R.HDMA_CTR.addr 1) := by
    refine s.txDone_registersBut _ ?_
    simp only [List.mem_cons, List.not_mem_nil, or_false, not_or, hdmaCtr_addr, ringHead_addr]
    omega
  simp only [State.fld, State.reg, R.HDMA_CTR_COUNT, kept]

theorem State.txMgmt_same (s : State) (d : TxDesc) (frame : List Byte) :
    ((s.txMgmt d frame).stfOf (d.f 41 33)).mgmtQ = (s.stfOf (d.f 41 33)).mgmtQ ++ [headerBytes (d.f 13 0) ++ frame.take (d.f 13 0)] := by
  rw [State.txMgmt, State.stfOf, State.updStf, SMap.get_upd_same, State.stfOf]

theorem State.txMgmt_other (s : State) (d : TxDesc) (frame : List Byte) {k : Nat} (other : k ≠ d.f 41 33) :
    (s.txMgmt d frame).stfOf k = s.stfOf k := by
  rw [State.txMgmt, State.stfOf, State.updStf, SMap.get_upd_other _ _ _ other, State.stfOf]

end

/-! ### The turn of a transmit ring (R448) -/

section
variable {s : State}

theorem exec_txDescriptor (runs : s.Runs) (n : Fin 64) (words : List Word64) (frame payload : List Byte) (time : Nat) :
    exec (.txDescriptor n words frame payload time) s = .next ((s.advance time).txDescriptor n.val words frame payload) :=
  congrArg Host.Outcome.next (State.clocked_of_runs runs _)

variable {ring : Nat} {words : List Word64} {frame payload : List Byte} (turn : s.txTurn = some ring)
include turn

/-- The turn puts its record out behind whatever its frame did, and announces it when it was asked to. -/
theorem State.txDescriptor_out (low : ring < 64) : ∃ (status : Nat) (o : List Out), status ≤ 4 ∧
    ((s.txDescriptor ring words frame payload).out = o ++ [s.txRecord ring status] ∨
      ∃ v addr data, (s.txDescriptor ring words frame payload).out = o ++ [s.txRecord ring status, .msi v addr data]) := by
  rw [State.txDescriptor_turn turn]
  generalize taken : s.updHost (fun h => { h with txLast := ring }) = u
  have place : (u.txRun ring (TxDesc.of words) frame payload).2.ringEntry ring 64 = s.ringEntry ring 64 :=
    taken ▸ State.txRun_ringEntry low
  have status := u.txRun_status ring (TxDesc.of words) frame payload
  dsimp only
  generalize u.txRun ring (TxDesc.of words) frame payload = r at place status
  have record : (r.2.txDone ring r.1).out = r.2.out ++ [s.txRecord ring r.1] := by
    rw [State.txDone_out, State.txRecord, place, State.txRecord]
  refine ⟨r.1, r.2.out, status, ?_⟩
  split
  · obtain ⟨sent, out, nothing | ⟨addr, data, message⟩⟩ := (r.2.txDone ring r.1).out_announce (96 + ring)
    · exact .inl (by rw [out, record, nothing, List.append_nil])
    · exact .inr ⟨_, addr, data, by rw [out, record, message, List.append_assoc]; rfl⟩
  · exact .inl record

/-- What a bad descriptor does. -/
theorem State.txDescriptor_bad (quiet : bits (words.getD 2 0).toNat 42 42 = 0)
    (bad : (TxDesc.of words).bad (s.fld R.PORT_CFG_MAX_FRAME (TxDesc.of words).port) = true) :
    s.txDescriptor ring words frame payload = ((s.updHost (fun h => { h with txLast := ring })).txBad ring).txDone ring 2 := by
  rw [State.txDescriptor_turn turn, State.txRun_bad (s := s.updHost (fun h => { h with txLast := ring })) bad]
  exact if_neg (by omega)

theorem State.txDescriptor_mgmt (quiet : bits (words.getD 2 0).toNat 42 42 = 0)
    (good : ¬ (TxDesc.of words).bad (s.fld R.PORT_CFG_MAX_FRAME (TxDesc.of words).port) = true) (mgmt : (TxDesc.of words).mgmt = true) :
    s.txDescriptor ring words frame payload =
      ((s.updHost (fun h => { h with txLast := ring })).txMgmt (TxDesc.of words) frame).txDone ring 0 := by
  rw [State.txDescriptor_turn turn, State.txRun_mgmt (s := s.updHost (fun h => { h with txLast := ring })) good mgmt]
  exact if_neg (by omega)

end

/-! ### The statement on packet rings -/

theorem State.eventRecord_room {s : State} {e : EventRec} {rest : List EventRec} (acts : s.Acts) (awake : s.host.d3hot = false)
    (enabled : s.fld R.HDMA_EVR_SIZE_SIZE 0 ≠ 0) (waits : s.evq = e :: rest) (room : s.evrRoom = true) (complete : s.host.lost = 0) :
    ∃ t, exec .eventRecordWrite s = .next t ∧ t.evq = rest ∧ s.out ++ [s.recordOut e] <+: t.out ∧
      t.fld R.HDMA_EVR_TAIL_TAIL 0 = (s.fld R.HDMA_EVR_TAIL_TAIL 0 + 1) % 65536 ∧
      RegistersBut [R.HDMA_EVR_TAIL.addr 0, R.HDMA_CTR.addr 6] s t ∧
      t = { s with regs := t.regs, evq := t.evq, out := t.out, host := t.host } := by
  obtain ⟨sent, host, put⟩ := ({ s with evq := rest } : State).putRecord_eq e
  have tail := ({ s with evq := rest } : State).recordCounted_tail
  have others := ({ s with evq := rest } : State).recordCounted_registersBut
  generalize ({ s with evq := rest } : State).recordCounted = u at put tail others
  exact ⟨_, (exec_eventRecordWrite acts).trans (congrArg _ ((State.recordWrite_room awake enabled waits room complete).trans put)), rfl,
    List.prefix_append _ _, (State.fld_of_regs rfl _ _).trans tail, others, rfl⟩

theorem State.eventRecord_full {s : State} {e : EventRec} {rest : List EventRec} (acts : s.Acts) (awake : s.host.d3hot = false)
    (enabled : s.fld R.HDMA_EVR_SIZE_SIZE 0 ≠ 0) (waits : s.evq = e :: rest) (full : s.evrRoom = false) :
    ∃ t, exec .eventRecordWrite s = .next t ∧ t.evq = rest ∧ t.host.lost = s.host.lost + 1 ∧ t.out = s.out ∧
      RegistersBut [R.HDMA_CTR.addr 7] s t ∧ t = { s with regs := t.regs, evq := t.evq, host := t.host } := by
  refine ⟨_, (exec_eventRecordWrite acts).trans (congrArg _ (State.recordWrite_full awake enabled waits full)), rfl, rfl, rfl, ?_, rfl⟩
  intro o outside
  exact State.regAt_dmaCount_other ({ s with evq := rest } : State) (by simpa using outside)

section
variable {s : State} {n : Fin 64} {addr : Word64} {len : BitVec 16} {f : HostFrame} {rest : List HostFrame} (acts : s.Acts)
  (awake : s.host.d3hot = false) (oldest : SMap.get [] s.hostRx n.val = f :: rest)
include acts awake oldest

theorem State.hostRxDelivery_fits (ready : s.ringReady (64 + n.val) = true) (fits : 32 + f.bytes.length ≤ len.toNat) :
    ∃ t, exec (.hostRxDelivery n addr len) s = .next t ∧ SMap.get [] t.hostRx n.val = rest ∧
      s.out ++ s.rxOuts n.val addr.toNat f <+: t.out ∧
      t.fld R.HDMA_RING_HEAD_HEAD (64 + n.val) = (s.fld R.HDMA_RING_HEAD_HEAD (64 + n.val) + 1) % 65536 ∧
      RegistersBut [R.HDMA_RING_HEAD.addr (64 + n.val), R.HDMA_CTR.addr 3, R.STF_CTR.addr (32 * f.source + 11)] s t ∧
      t = { s with regs := t.regs, hostRx := t.hostRx, out := t.out, host := t.host } := by
  obtain ⟨sent, host, written⟩ := (s.rxTaken n.val rest).rxWrite_eq n.val addr.toNat f
  have head := (s.rxTaken n.val rest).rxCounted_head n.isLt f
  have others := (s.rxTaken n.val rest).rxCounted_registersBut n.val f
  generalize (s.rxTaken n.val rest).rxCounted n.val f = u at written head others
  exact ⟨_, (exec_hostRxDelivery acts n addr len).trans (congrArg _ ((State.rxDeliver_fits awake oldest ready fits).trans written)),
    s.hostRx_rxTaken n.val rest, List.prefix_append _ _, (State.fld_of_regs rfl _ _).trans head, others, rfl⟩

theorem State.hostRxDelivery_dropped (misfit : s.ringReady (64 + n.val) = false ∨ len.toNat < 32 + f.bytes.length) :
    ∃ t, exec (.hostRxDelivery n addr len) s = .next t ∧ SMap.get [] t.hostRx n.val = rest ∧ t.out = s.out := by
  obtain ⟨reason, dropped⟩ := State.rxDeliver_dropped (addr := addr.toNat) awake oldest misfit
  have reports := (s.rxTaken n.val rest).onlyReports_rxDrop n.val f reason
  refine ⟨_, (exec_hostRxDelivery acts n addr len).trans (congrArg _ dropped), ?_, reports.out⟩
  rw [reports]
  exact s.hostRx_rxTaken n.val rest

end

/-- What a bad descriptor leaves. -/
theorem State.txBad_txDone (s : State) (ring : Nat) (t : State) (done : t = (s.txBad ring).txDone ring 2) :
    t.out = s.out ++ [s.txRecord ring 2] ∧ t.fld R.HDMA_RING_HEAD_HEAD ring = (s.fld R.HDMA_RING_HEAD_HEAD ring + 1) % 65536 ∧
      t.fld R.HDMA_CTR_COUNT 1 = (s.fld R.HDMA_CTR_COUNT 1 + 1) % 2 ^ 48 ∧
      t.epoch.raised.contains (EV_HDMA_TX_BAD.code, ring) = true ∧ t.stf = s.stf ∧ t.queues = s.queues ∧ t.cells = s.cells ∧
      RegistersBut [R.HDMA_RING_HEAD.addr ring, R.HDMA_RING_STAT.addr ring, R.HDMA_CTR.addr 0, R.HDMA_CTR.addr 1] s t := by
  have reports := s.onlyReports_txBad ring
  have record : (s.txBad ring).txRecord ring 2 = s.txRecord ring 2 := by rw [State.txRecord, State.txBad_ringEntry, State.txRecord]
  obtain ⟨regs, out, others⟩ := (s.txBad ring).txDone_others (ring := ring) (status := 2)
  have kept : t = { s.txBad ring with regs := regs, out := out } := done.trans others
  refine ⟨?_, ?_, ?_, ?_, ?_, ?_, ?_, ?_⟩
  · rw [done, State.txDone_out, record, reports.out]
  · rw [done, State.txDone_head, State.txBad_head]
  · rw [done, State.txDone_count, State.txBad_count]
  · rw [kept]
    exact State.raised_raiseOnce (s.dmaCount 1 1) EV_HDMA_TX_BAD ring ring ring []
  · rw [kept]
    dsimp only
    rw [reports]
  · rw [kept]
    dsimp only
    rw [reports]
  · rw [kept]
    dsimp only
    rw [reports]
  · intro o outside
    simp only [List.mem_cons, List.not_mem_nil, or_false, not_or] at outside
    obtain ⟨head, stat, done0, done1⟩ := outside
    rw [done, State.txDone_registersBut _ o (by simp [head, done0]), State.txBad_registersBut _ _ o (by simp [stat, done1])]

/-- What a good descriptor for a management channel leaves. -/
theorem State.txMgmt_txDone (s : State) (ring : Nat) (d : TxDesc) (frame : List Byte) (t : State)
    (done : t = (s.txMgmt d frame).txDone ring 0) :
    t.out = s.out ++ [s.txRecord ring 0] ∧ t.fld R.HDMA_RING_HEAD_HEAD ring = (s.fld R.HDMA_RING_HEAD_HEAD ring + 1) % 65536 ∧
      (t.stfOf (d.f 41 33)).mgmtQ = (s.stfOf (d.f 41 33)).mgmtQ ++ [headerBytes (d.f 13 0) ++ frame.take (d.f 13 0)] ∧
      (∀ k, k ≠ d.f 41 33 → t.stfOf k = s.stfOf k) ∧ t.queues = s.queues ∧ t.cells = s.cells ∧
      RegistersBut [R.HDMA_RING_HEAD.addr ring, R.HDMA_CTR.addr 0] s t := by
  obtain ⟨regs, out, others⟩ := (s.txMgmt d frame).txDone_others (ring := ring) (status := 0)
  have lanes (k : Nat) : t.stfOf k = (s.txMgmt d frame).stfOf k := by
    rw [done, others]
    rfl
  refine ⟨?_, ?_, ?_, fun k other => ?_, ?_, ?_, ?_⟩
  · rw [done, State.txDone_out]
    rfl
  · rw [done, State.txDone_head]
    rfl
  · rw [lanes, State.txMgmt_same]
  · rw [lanes, State.txMgmt_other s d frame other]
  · rw [done, others]
    rfl
  · rw [done, others]
    rfl
  · rw [done]
    exact State.txDone_registersBut (s.txMgmt d frame)

/-- Settles O23, by `State.eventRecord_room`, `State.hostRxDelivery_fits` and what a descriptor whose turn it is does. -/
theorem packetRings : Obligations.PacketRings := by
  refine ⟨⟨fun s e rest acts awake enabled waits => ⟨fun room complete => ?_, fun full => ?_⟩,
    fun s n acts => ⟨exec_hdmaFetchTimeout_idle acts, exec_hdmaFetchTimeout_ready acts⟩,
    fun s n addr len f rest acts awake oldest =>
      ⟨State.hostRxDelivery_fits acts awake oldest, State.hostRxDelivery_dropped acts awake oldest⟩⟩,
    fun s n words frame payload time runs => ?_⟩
  · exact State.eventRecord_room acts awake enabled waits (bne_iff_ne.mpr room) complete
  · exact State.eventRecord_full acts awake enabled waits (bne_eq_false_iff_eq.mpr full)
  · have does := exec_txDescriptor runs n words frame payload time
    generalize s.advance time = now at does
    intro s' w2 seg mgmt len record reserved clash length
    have isBad : (TxDesc.of words).bad (s'.fld R.PORT_CFG_MAX_FRAME (TxDesc.of words).port) = true ↔ reserved ∨ clash ∨ length :=
      ((TxDesc.of words).bad_iff _).trans (or_congr_left (TxDesc.of_reserved_iff words))
    refine ⟨fun idle => ?_, fun turn => ⟨?_, fun quiet bad => ?_, fun quiet isMgmt ordered apart fits => ?_⟩⟩
    · exact does.trans (congrArg _ (State.txDescriptor_idle idle ..))
    · obtain ⟨status, o, low, out⟩ := State.txDescriptor_out (words := words) (frame := frame) (payload := payload) turn n.isLt
      exact ⟨_, status, o, does, low, out⟩
    · exact ⟨_, does, State.txBad_txDone (s'.updHost (fun h => { h with txLast := n.val })) n.val _
        (State.txDescriptor_bad turn quiet (isBad.mpr bad))⟩
    · have good : ¬ (reserved ∨ clash ∨ length) := by simp only [not_or]; exact ⟨ordered, apart, fits⟩
      exact ⟨_, does, State.txMgmt_txDone (s'.updHost (fun h => { h with txLast := n.val })) n.val (TxDesc.of words) frame _
        (State.txDescriptor_mgmt turn quiet (mt isBad.mp good) (beq_iff_eq.mpr isMgmt))⟩

end Sys2Proof.Machine
end

section
/-! PROOFS. Which register an offset of BAR0 names (R435). -/

namespace Sys2Proof.Machine

/-! ### Registers that lie apart (R435) -/

/-- The distance of which all distances of the numbers of a register are multiples. -/
def RegSpec.stride (r : RegSpec) : Nat := if r.n2 = 1 then r.s1 else Nat.gcd r.s1 r.s2

/-- Where the numbers of `r` lie in blocks of `g` bytes counted from the first offset of `x`. -/
def RegSpec.phase (r x : RegSpec) (g : Nat) : Nat := (r.base + (g - x.base % g)) % g

/-- The numbers of `r` lie before those of `x`, behind them, or always at places of a block that `x` does not use. -/
abbrev RegSpec.Apart (r x : RegSpec) : Prop :=
  r.base + r.n1 * r.s1 ≤ x.base ∨ x.base + x.n1 * x.s1 ≤ r.base ∨
  (if x.wide then 8 else 4) ≤ r.phase x (Nat.gcd r.stride (Nat.gcd x.s1 x.s2)) ∨ x.n2 * x.s2 ≤ r.phase x (Nat.gcd r.stride x.s1)

/-- Numbers of a register have room, as all of the map have. -/
abbrev RegSpec.Spaced (r : RegSpec) : Prop := 0 < r.s1 ∧ 0 < r.s2 ∧ r.n2 * r.s2 ≤ r.s1

section
variable {r x : RegSpec} {n g off : Nat}

theorem RegSpec.stride_dvd (r : RegSpec) (n : Nat) : r.stride ∣ r.addr n - r.base := by
  rw [RegSpec.addr, Nat.add_assoc, Nat.add_sub_cancel_left, RegSpec.stride]
  split
  · next one => rw [one, Nat.mod_one, Nat.zero_mul, Nat.add_zero]; exact Nat.dvd_mul_left ..
  · exact Nat.dvd_add (Dvd.dvd.mul_left (Nat.gcd_dvd_left ..) _) (Dvd.dvd.mul_left (Nat.gcd_dvd_right ..) _)

theorem RegSpec.addr_mod (positive : 0 < g) (hg : g ∣ r.stride) (hx : x.base ≤ r.addr n) : (r.addr n - x.base) % g = r.phase x g := by
  obtain ⟨k, hk⟩ := hg.trans (r.stride_dvd n)
  have base : r.base ≤ r.addr n := by rw [RegSpec.addr]; omega
  have place : r.addr n = r.base + g * k := by omega
  have within := Nat.mod_lt x.base positive
  have whole := Nat.div_add_mod x.base g
  have sum : r.addr n - x.base + g * (x.base / g + 1) = r.base + (g - x.base % g) + g * k := by
    rw [Nat.mul_add, Nat.mul_one]
    omega
  calc (r.addr n - x.base) % g = (r.addr n - x.base + g * (x.base / g + 1)) % g := (Nat.add_mul_mod_self_left ..).symm
    _ = r.phase x g := by rw [sum, Nat.add_mul_mod_self_left, RegSpec.phase]

theorem RegSpec.addr_lt_last (columns : 0 < r.s2) (hn : n < r.n1 * r.n2) : r.addr n < r.base + (r.n1 - 1) * r.s1 + r.n2 * r.s2 := by
  have positive : 0 < r.n2 := Nat.pos_of_ne_zero fun none => by simp [none] at hn
  have row : n / r.n2 < r.n1 := Nat.div_lt_of_lt_mul (Nat.mul_comm r.n1 r.n2 ▸ hn)
  have column : n % r.n2 * r.s2 < r.n2 * r.s2 := (Nat.mul_lt_mul_right columns).mpr (Nat.mod_lt n positive)
  have rows : n / r.n2 * r.s1 ≤ (r.n1 - 1) * r.s1 := Nat.mul_le_mul_right _ (Nat.le_sub_one_of_lt row)
  rw [RegSpec.addr]
  omega

theorem RegSpec.addr_lt (spaced : r.Spaced) (hn : n < r.n1 * r.n2) : r.addr n < r.base + r.n1 * r.s1 := by
  obtain ⟨-, columns, room⟩ := spaced
  have some : 1 ≤ r.n1 := Nat.pos_of_ne_zero fun none => by simp [none] at hn
  have last := RegSpec.addr_lt_last columns hn
  have rows : (r.n1 - 1) * r.s1 + r.s1 = r.n1 * r.s1 := by rw [← Nat.succ_mul, Nat.succ_eq_add_one, Nat.sub_add_cancel some]
  omega

/-- An offset at an unused place of the smallest block is not covered. -/
theorem RegSpec.instanceAt_between (h : x.base ≤ off → (if x.wide then 8 else 4) ≤ (off - x.base) % x.s1 % x.s2) :
    x.instanceAt off = none := by
  unfold RegSpec.instanceAt
  split
  · rfl
  · next reached =>
      have unused := Nat.not_lt.mpr (h (Nat.not_lt.mp reached))
      simp only [decide_eq_false unused, Bool.and_false, Bool.false_eq_true, if_false]

/-- A place in a block of `g` bytes is one in every block that is a multiple of it. -/
theorem RegSpec.phase_le_mod (positive : 0 < g) (hg : g ∣ r.stride) {block : Nat} (hb : g ∣ block) (hx : x.base ≤ r.addr n) :
    r.phase x g ≤ (r.addr n - x.base) % block := by
  rw [← RegSpec.addr_mod positive hg hx, ← Nat.mod_mod_of_dvd _ hb]
  exact Nat.mod_le ..

theorem RegSpec.instanceAt_apart (apart : r.Apart x) (spaced : r.Spaced) (spacedX : x.Spaced) (hn : n < r.n1 * r.n2) :
    x.instanceAt (r.addr n) = none := by
  have last := RegSpec.addr_lt spaced hn
  have first : r.base ≤ r.addr n := by rw [RegSpec.addr]; omega
  obtain ⟨rows, columns, -⟩ := spacedX
  rcases apart with before | behind | between | beside
  · exact RegSpec.instanceAt_before (by omega)
  · exact RegSpec.instanceAt_behind rows (by omega)
  · have inner : Nat.gcd r.stride (Nat.gcd x.s1 x.s2) ∣ Nat.gcd x.s1 x.s2 := Nat.gcd_dvd_right ..
    refine RegSpec.instanceAt_between fun hx => between.trans ?_
    have positive := Nat.gcd_pos_of_pos_right r.stride (Nat.gcd_pos_of_pos_left x.s2 rows)
    rw [← RegSpec.addr_mod positive (Nat.gcd_dvd_left ..) hx, ← Nat.mod_mod_of_dvd _ (inner.trans (Nat.gcd_dvd_left ..)),
      ← Nat.mod_mod_of_dvd _ (inner.trans (Nat.gcd_dvd_right ..))]
    exact Nat.mod_le ..
  · exact RegSpec.instanceAt_beside columns fun hx =>
      beside.trans (RegSpec.phase_le_mod (Nat.gcd_pos_of_pos_right _ rows) (Nat.gcd_dvd_left ..) (Nat.gcd_dvd_right ..) hx)

end

/-! ### The register at an offset -/

/-- The registers of a list all lie apart from `r`, but `r` itself. -/
abbrev RegSpec.Alone (r : RegSpec) (l : List RegSpec) : Prop := ∀ x ∈ l, x = r ∨ (r.Apart x ∧ x.Spaced)

section
variable {r : RegSpec} {n : Nat} {l : List RegSpec}

theorem locateIn_addr (listed : r ∈ l) (alone : r.Alone l) (spaced : r.Spaced) (hn : n < r.n1 * r.n2) :
    locateIn (r.addr n) l = some (r, n) := by
  have own : r.instanceAt (r.addr n) = some n := RegSpec.instanceAt_addr hn spaced.2.1 spaced.2.2
  induction l with
  | nil => simp at listed
  | cons x l ih =>
    rw [locateIn]
    rcases alone x (List.mem_cons_self ..) with same | ⟨apart, spacedX⟩
    · rw [same, own]
    · rw [RegSpec.instanceAt_apart apart spaced spacedX hn]
      have other : x ≠ r := fun same => by
        have none := RegSpec.instanceAt_apart apart spaced spacedX hn
        rw [same, own] at none
        cases none
      exact ih ((List.mem_cons.mp listed).resolve_left (Ne.symm other)) fun y hy => alone y (List.mem_cons_of_mem _ hy)

end

/-- The registers of ports lie in four blocks, the last two of them with those of channels. -/
theorem blockRegs_port {off : Nat} (low : 0x200000 ≤ off) (high : off < 0x600000) :
    blockRegs off = portRegs ∨ blockRegs off = portRegs ++ chanRegs := by
  have block : off / 0x100000 = 2 ∨ off / 0x100000 = 3 ∨ off / 0x100000 = 4 ∨ off / 0x100000 = 5 := by omega
  unfold blockRegs
  rcases block with hb | hb | hb | hb <;> rw [hb]
  · exact .inl rfl
  · exact .inl rfl
  · exact .inr rfl
  · exact .inr rfl

theorem blockRegs_system {off : Nat} (low : off < 0x100000) : blockRegs off = sysRegs := by
  have block : off / 0x100000 = 0 := Nat.div_eq_of_lt low
  unfold blockRegs
  rw [block]
  rfl

/-- A register of the system block, apart from the others. -/
abbrev RegSpec.OfSystem (r : RegSpec) : Prop := r ∈ sysRegs ∧ r.Alone sysRegs ∧ r.Spaced ∧ r.base + r.n1 * r.s1 ≤ 0x100000

/-- A register of ports, apart from the others and from those of channels. -/
abbrev RegSpec.OfPorts (r : RegSpec) : Prop :=
  r ∈ portRegs ∧ r.Alone (portRegs ++ chanRegs) ∧ r.Spaced ∧ 0x200000 ≤ r.base ∧ r.base + (r.n1 - 1) * r.s1 + r.n2 * r.s2 ≤ 0x600000

section
variable {r : RegSpec} {n : Nat}

theorem RegSpec.OfSystem.locate (h : r.OfSystem) (hn : n < r.n1 * r.n2) : locate (r.addr n) = some (r, n) := by
  obtain ⟨listed, alone, spaced, low⟩ := h
  rw [Machine.locate, blockRegs_system (lt_of_lt_of_le (RegSpec.addr_lt spaced hn) low)]
  exact locateIn_addr listed alone spaced hn

theorem RegSpec.OfPorts.locate (h : r.OfPorts) (hn : n < r.n1 * r.n2) : locate (r.addr n) = some (r, n) := by
  obtain ⟨listed, alone, spaced, low, high⟩ := h
  have first : r.base ≤ r.addr n := by rw [RegSpec.addr]; omega
  rw [Machine.locate]
  rcases blockRegs_port (low.trans first) (lt_of_lt_of_le (RegSpec.addr_lt_last spaced.2.1 hn) high) with block | block <;> rw [block]
  · exact locateIn_addr listed (fun x hx => alone x (List.mem_append_left _ hx)) spaced hn
  · exact locateIn_addr (List.mem_append_left _ listed) alone spaced hn

end

theorem oqTail_ofSystem : R.ORD_OQ_TAIL.OfSystem := by decide
theorem oqCplHead_ofSystem : R.ORD_OQ_CPL_HEAD.OfSystem := by decide
theorem oqSize_ofSystem : R.ORD_OQ_SIZE.OfSystem := by decide
theorem oqBase_ofSystem : R.ORD_OQ_BASE.OfSystem := by decide
theorem oqCplBase_ofSystem : R.ORD_OQ_CPL_BASE.OfSystem := by decide
theorem ringTail_ofSystem : R.HDMA_RING_TAIL.OfSystem := by decide
theorem ringSize_ofSystem : R.HDMA_RING_SIZE.OfSystem := by decide
theorem ringBase_ofSystem : R.HDMA_RING_BASE.OfSystem := by decide
theorem tbNs_ofSystem : R.TIME_TB_NS.OfSystem := by decide
theorem tsfRd_ofPorts : R.PORT_TSF_RD.OfPorts := by decide
theorem portEvt_ofPorts : R.PORT_EVT.OfPorts := by decide
theorem portCfg_ofPorts : R.PORT_CFG.OfPorts := by decide

end Sys2Proof.Machine
end

section
/-! PROOFS. Host accesses: writes to the registers that have a row of their own, snapshot requests, reads and bus errors (R436 to R440,
R459, R460, R469). -/

namespace Sys2Proof.Machine

/-! ### Writes of four bytes: the low word alone counts (R436) -/

theorem bits_congr_low {v w hi lo : Nat} (low : v % 2 ^ 32 = w % 2 ^ 32) (inside : hi < 32) : bits v hi lo = bits w hi lo := by
  apply Nat.eq_of_testBit_eq
  intro i
  rw [bits_testBit, bits_testBit]
  by_cases within : i < hi + 1 - lo
  · have bit (x : Nat) : x.testBit (lo + i) = (x % 2 ^ 32).testBit (lo + i) := by
      rw [Nat.testBit_mod_two_pow, decide_eq_true (by omega), Bool.true_and]
    rw [bit v, bit w, low]
  · rw [decide_eq_false within, Bool.false_and, Bool.false_and]

/-- A write of the first four bytes of a register leaves its low word as the value's. -/
theorem merged_low (old start value : Nat) : merged old start start 4 value % 2 ^ 32 = value % 2 ^ 32 := by
  have first : ¬ start = start + 4 := by omega
  rw [merged, if_neg (by decide), if_neg first, Nat.shiftLeft_eq]
  omega

theorem toNat_setWidth_low (v : Word64) : (v.setWidth 32).toNat % 2 ^ 32 = v.toNat % 2 ^ 32 := by
  rw [BitVec.toNat_setWidth, Nat.mod_mod]

section
variable (s : State) {v w : Nat} (low : v % 2 ^ 32 = w % 2 ^ 32)

theorem State.setFld_congr (f : Fld) (n : Nat) (same : v % 2 ^ (f.hi + 1 - f.lo) = w % 2 ^ (f.hi + 1 - f.lo)) :
    s.setFld f n v = s.setFld f n w := by
  rw [State.setFld, State.setFld, withBits, withBits, same]

include low

theorem State.setFld_congr_low (f : Fld) (n : Nat) (narrow : f.hi + 1 - f.lo ≤ 32) : s.setFld f n v = s.setFld f n w := by
  refine s.setFld_congr f n ?_
  rw [← Nat.mod_mod_of_dvd v (pow_dvd_pow 2 narrow), low, Nat.mod_mod_of_dvd w (pow_dvd_pow 2 narrow)]

theorem State.oqTail_congr (n : Nat) : s.oqTail n v = s.oqTail n w := by
  have index : v % 65536 = w % 65536 := by omega
  rw [State.oqTail, State.oqTail, index, s.setFld_congr_low low _ _ (by decide)]

theorem State.oqSize_congr (n : Nat) : s.oqSetup n .size v = s.oqSetup n .size w := by
  have size : v % 2 ^ 13 = w % 2 ^ 13 := by omega
  simp only [State.oqSetup, size, s.setFld_congr_low low R.ORD_OQ_SIZE_SIZE _ (by decide)]

theorem State.ringTail_congr (n : Nat) : s.ringTail n v = s.ringTail n w := by
  have index : v % 65536 = w % 65536 := by omega
  rw [State.ringTail, State.ringTail, index, s.setFld_congr_low low _ _ (by decide)]

theorem State.ringSize_congr (n : Nat) : s.ringSetup n .size v = s.ringSetup n .size w := by
  have size : v % 2 ^ 13 = w % 2 ^ 13 := by omega
  simp only [State.ringSetup, size, s.setFld_congr_low low R.HDMA_RING_SIZE_SIZE _ (by decide)]

theorem State.shadowTail_congr : s.shadowTail v = s.shadowTail w := by
  have index : v % 65536 = w % 65536 := by omega
  rw [State.shadowTail, State.shadowTail, index, s.setFld_congr_low low _ _ (by decide)]

theorem State.shadowSize_congr : s.shadowSetup .size v = s.shadowSetup .size w := by
  have size : v % 2 ^ 9 = w % 2 ^ 9 := by omega
  simp only [State.shadowSetup, size, s.setFld_congr_low low R.TBL_SHADOW_SIZE_SIZE _ (by decide)]

theorem State.evrSize_congr : s.evrSize v = s.evrSize w := by
  have size : v % 2 ^ 15 = w % 2 ^ 15 := by omega
  rw [State.evrSize, State.evrSize, size]

theorem State.evrHead_congr : s.evrHead v = s.evrHead w := by
  have index : v % 65536 = w % 65536 := by omega
  rw [State.evrHead, State.evrHead, index, s.setFld_congr_low low _ _ (by decide)]

theorem State.tsfRead_congr (p : Nat) : s.tsfRead p v = s.tsfRead p w := by
  have index : v % 65536 = w % 65536 := by omega
  rw [State.tsfRead, State.tsfRead, index, s.setFld_congr_low low _ _ (by decide)]

theorem State.msixWrite_congr (k : Nat) : s.msixWrite k v = s.msixWrite k w := by
  have bit : v % 2 = w % 2 := by omega
  rw [State.msixWrite, State.msixWrite, bit, low]

omit low in
/-- A write-back by its SEQ and the status bits that it acknowledges. -/
def State.writeBackOf (s : State) (r : RegSpec) (n seq clear : Nat) : State :=
  if seq != bits (s.reg r n) 31 24 then s
  else
    let old := s.reg r n
    let s := s.setReg r n (old &&& ((2 ^ 32 - 1) - clear))
    if r = R.DEV_EVT && clear.testBit 0 then s.setFld R.DEV_BUSERR_INFO_COUNT 0 0
    else if r = R.PORT_EVT && clear.testBit 7 then s.setFld R.PORT_CTR_HALF_HALF n 0
    else s

omit low in
theorem State.writeBack_eq (r : RegSpec) (n v : Nat) : s.writeBack r n v = s.writeBackOf r n (bits v 31 24) (r.seenBits v) := rfl

theorem RegSpec.seenBits_congr (r : RegSpec) : r.seenBits v = r.seenBits w := by
  apply Nat.eq_of_testBit_eq
  intro i
  refine Bool.eq_iff_iff.mpr ?_
  rw [testBit_seenBits, testBit_seenBits]
  refine and_congr_right fun ⟨f, _, _, below, _, within⟩ => ?_
  have bit (x : Nat) : x.testBit i = (x % 2 ^ 32).testBit i := by
    rw [Nat.testBit_mod_two_pow, decide_eq_true (by omega), Bool.true_and]
  rw [bit v, bit w, low]

theorem State.writeBack_congr (r : RegSpec) (n : Nat) : s.writeBack r n v = s.writeBack r n w := by
  rw [State.writeBack_eq, State.writeBack_eq, bits_congr_low low (by decide), RegSpec.seenBits_congr low]

end

/-! ### Legal accesses (R436 to R438) -/

section
variable {r : RegSpec} {n off q : Nat} {v : Word64}

/-- The first four bytes of a register with a writable field take a write. -/
theorem busCause_write4 (there : locate off = some (r, n)) (aligned : off % 4 = 0) (plain : isMsix off = false) (snap : off ≠ 0x18)
    (writable : r.fields.any (fun f => f.acc == .rw || f.acc == .wo || f.acc == .sq) = true) :
    busCause true { off := off, len := 4, be := 15, value := v, requester := q } = 0 := by
  simp [busCause, locationAt, there, aligned, plain, snap, writable]

/-- A wide register with a writable field takes a write of eight bytes. -/
theorem busCause_write8 (there : locate off = some (r, n)) (first : r.addr n = off) (wide : r.wide = true) (aligned : off % 8 = 0)
    (plain : isMsix off = false) (snap : off ≠ 0x18)
    (writable : r.fields.any (fun f => f.acc == .rw || f.acc == .wo || f.acc == .sq) = true) :
    busCause true { off := off, len := 8, be := 255, value := v, requester := q } = 0 := by
  simp [busCause, locationAt, there, first, wide, aligned, plain, snap, writable]

end

/-! ### Registers with a row of their own (R437) -/

section
variable {s : State} (acts : s.Acts)
include acts

theorem exec_hostRegisterWrite (a : Access) : exec (.hostRegisterWrite a) s = .next (s.hostWrite a) := by
  change execHostRegisterWrite a s = _
  rw [execHostRegisterWrite, State.awake_of_acts acts]

theorem exec_devSnapTrig (v : Word32) (q : Nat) : exec (.devSnapTrig v q) s =
    .next (s.hostWrite { off := 0x18, len := 4, be := 15, value := BitVec.ofNat 64 v.toNat, requester := q }) := by
  change execDevSnapTrig v q s = _
  rw [execDevSnapTrig, State.awake_of_acts acts]

theorem exec_unsupportedRequest (a : Access) : exec (.unsupportedRequest a) s = .next (s.hostRead a) := by
  change execUnsupportedRequest a s = _
  rw [execUnsupportedRequest, State.awake_of_acts acts]

end

section
variable {s : State} {a : Access}

theorem State.hostWrite_error (error : busCause true a ≠ 0) : s.hostWrite a = s.busError true (busCause true a) a :=
  if_pos (bne_iff_ne.mpr error)

theorem State.hostWrite_register {r : RegSpec} {n : Nat} (legal : busCause true a = 0) (plain : isMsix a.off = false)
    (there : locate a.off = some (r, n)) : s.hostWrite a = s.writeReg r n a.off a.len a.value.toNat := by
  rw [State.hostWrite, legal, plain, there]
  rfl

theorem State.hostWrite_msix (legal : busCause true a = 0) (table : isMsix a.off = true) (short : a.len = 4) :
    s.hostWrite a = s.msixWrite ((a.off - 0x8000) / 4) a.value.toNat := by
  rw [State.hostWrite, legal, table, short]
  rfl

end

/-- A register behind the MSI-X table whose numbers lie at multiples of `width`, and that software writes. -/
abbrev RegSpec.Takes (r : RegSpec) (width : Nat) : Prop := 0x9020 ≤ r.base ∧ width ∣ r.base ∧ width ∣ r.s1 ∧ width ∣ r.s2 ∧
  r.fields.any (fun f => f.acc == .rw || f.acc == .wo || f.acc == .sq) = true

theorem RegSpec.Takes.place {r : RegSpec} {width : Nat} (takes : r.Takes width) (n : Nat) :
    r.addr n % width = 0 ∧ isMsix (r.addr n) = false ∧ r.addr n ≠ 0x18 := by
  obtain ⟨behind, base, rows, columns, -⟩ := takes
  have first : r.base ≤ r.addr n := by rw [RegSpec.addr]; omega
  refine ⟨Nat.mod_eq_zero_of_dvd ?_, ?_, by omega⟩
  · exact Nat.dvd_add (Nat.dvd_add base (Dvd.dvd.mul_left rows _)) (Dvd.dvd.mul_left columns _)
  · have outside : ¬ r.addr n < 0x9020 := by omega
    rw [isMsix, decide_eq_false outside, Bool.and_false]

/-- The access that writes four bytes at an offset. -/
abbrev hostWrite4 (off : Nat) (v : Word64) (q : Nat) : Access := { off := off, len := 4, be := 15, value := v, requester := q }

/-- The access that writes eight bytes at an offset. -/
abbrev hostWrite8 (off : Nat) (v : Word64) (q : Nat) : Access := { off := off, len := 8, be := 255, value := v, requester := q }

/-- A legal write of the register has an operation of its own: it takes the register's word with the bytes written. -/
abbrev RegSpec.HasRow (r : RegSpec) (op : State → Nat → Nat → State) : Prop :=
  ∀ s n off len value, s.writeReg r n off len value = op s n (merged (s.reg r n) (r.addr n) off len value)

theorem oqTail_row : R.ORD_OQ_TAIL.HasRow State.oqTail := fun _ _ _ _ _ => by simp only [State.writeReg, R.ORD_OQ_TAIL]
theorem oqCplHead_row : R.ORD_OQ_CPL_HEAD.HasRow State.oqCplHead := fun _ _ _ _ _ => by simp only [State.writeReg, R.ORD_OQ_CPL_HEAD]
theorem oqSize_row : R.ORD_OQ_SIZE.HasRow (State.oqSetup · · .size) := fun _ _ _ _ _ => by simp only [State.writeReg, R.ORD_OQ_SIZE]
theorem oqBase_row : R.ORD_OQ_BASE.HasRow (State.oqSetup · · .base) := fun _ _ _ _ _ => by simp only [State.writeReg, R.ORD_OQ_BASE]
theorem oqCplBase_row : R.ORD_OQ_CPL_BASE.HasRow (State.oqSetup · · .cplBase) := fun _ _ _ _ _ => by simp only [State.writeReg, R.ORD_OQ_CPL_BASE]
theorem ringTail_row : R.HDMA_RING_TAIL.HasRow State.ringTail := fun _ _ _ _ _ => by simp only [State.writeReg, R.HDMA_RING_TAIL]
theorem ringSize_row : R.HDMA_RING_SIZE.HasRow (State.ringSetup · · .size) := fun _ _ _ _ _ => by simp only [State.writeReg, R.HDMA_RING_SIZE]
theorem ringBase_row : R.HDMA_RING_BASE.HasRow (State.ringSetup · · .base) := fun _ _ _ _ _ => by simp only [State.writeReg, R.HDMA_RING_BASE]
theorem shadowTail_row : R.TBL_SHADOW_TAIL.HasRow (fun s _ => s.shadowTail) := fun _ _ _ _ _ => by simp only [State.writeReg, R.TBL_SHADOW_TAIL]
theorem shadowSize_row : R.TBL_SHADOW_SIZE.HasRow (fun s _ => s.shadowSetup .size) := fun _ _ _ _ _ => by simp only [State.writeReg, R.TBL_SHADOW_SIZE]
theorem shadowBase_row : R.TBL_SHADOW_BASE.HasRow (fun s _ => s.shadowSetup .base) := fun _ _ _ _ _ => by simp only [State.writeReg, R.TBL_SHADOW_BASE]
theorem evrSize_row : R.HDMA_EVR_SIZE.HasRow (fun s _ => s.evrSize) := fun _ _ _ _ _ => by simp only [State.writeReg, R.HDMA_EVR_SIZE]
theorem evrHead_row : R.HDMA_EVR_HEAD.HasRow (fun s _ => s.evrHead) := fun _ _ _ _ _ => by simp only [State.writeReg, R.HDMA_EVR_HEAD]
theorem evrBase_row : R.HDMA_EVR_BASE.HasRow (fun s _ => s.evrBase) := fun _ _ _ _ _ => by simp only [State.writeReg, R.HDMA_EVR_BASE]
theorem tsfRd_row : R.PORT_TSF_RD.HasRow State.tsfRead := fun _ _ _ _ _ => by simp only [State.writeReg, R.PORT_TSF_RD]

section
variable {s : State} {r : RegSpec} {n q : Nat} {v : Word64} {op : State → Nat → Nat → State} (row : r.HasRow op) (acts : s.Acts)
  (there : locate (r.addr n) = some (r, n))
include row acts there

/-- A write of four bytes to a register whose row takes its low word. -/
theorem exec_write4 (takes : r.Takes 4) (congr : ∀ {v w : Nat}, v % 2 ^ 32 = w % 2 ^ 32 → op s n v = op s n w) {w : Nat}
    (low : v.toNat % 2 ^ 32 = w % 2 ^ 32) : exec (.hostRegisterWrite (hostWrite4 (r.addr n) v q)) s = .next (op s n w) := by
  obtain ⟨aligned, plain, snap⟩ := takes.place n
  obtain ⟨-, -, -, -, writable⟩ := takes
  rw [exec_hostRegisterWrite acts, State.hostWrite_register (busCause_write4 there aligned plain snap writable) plain there, row,
    congr ((merged_low ..).trans low)]

/-- A write of eight bytes to a wide register with a row. -/
theorem exec_write8 (takes : r.Takes 8) (wide : r.wide = true) :
    exec (.hostRegisterWrite (hostWrite8 (r.addr n) v q)) s = .next (op s n v.toNat) := by
  obtain ⟨aligned, plain, snap⟩ := takes.place n
  obtain ⟨-, -, -, -, writable⟩ := takes
  rw [exec_hostRegisterWrite acts, State.hostWrite_register (busCause_write8 there rfl wide aligned plain snap writable) plain there, row]
  rfl

end

section
variable {s : State} (acts : s.Acts) (v : Word64) (q : Nat)
include acts

theorem exec_write_orderRing (n : Fin 16) :
    exec (.hostRegisterWrite (hostWrite4 (R.ORD_OQ_TAIL.addr n.val) v q)) s = exec (.ordOqTail n (v.setWidth 32)) s ∧
    exec (.hostRegisterWrite (hostWrite4 (R.ORD_OQ_CPL_HEAD.addr n.val) v q)) s = exec (.ordOqCplHead n (v.setWidth 32)) s ∧
    exec (.hostRegisterWrite (hostWrite4 (R.ORD_OQ_SIZE.addr n.val) v q)) s = exec (.ordOqSize n .size v) s ∧
    exec (.hostRegisterWrite (hostWrite8 (R.ORD_OQ_BASE.addr n.val) v q)) s = exec (.ordOqSize n .base v) s ∧
    exec (.hostRegisterWrite (hostWrite8 (R.ORD_OQ_CPL_BASE.addr n.val) v q)) s = exec (.ordOqSize n .cplBase v) s := by
  have low := (toNat_setWidth_low v).symm
  have index {v w : Nat} (same : v % 2 ^ 32 = w % 2 ^ 32) : s.oqCplHead n.val v = s.oqCplHead n.val w :=
    s.setFld_congr_low same _ n.val (by decide)
  rw [exec_ordOqTail acts, exec_ordOqCplHead acts, exec_ordOqSize acts, exec_ordOqSize acts, exec_ordOqSize acts]
  exact ⟨exec_write4 oqTail_row acts (oqTail_ofSystem.locate n.isLt) (by decide) (fun same => s.oqTail_congr same n.val) low,
    exec_write4 oqCplHead_row acts (oqCplHead_ofSystem.locate n.isLt) (by decide) index low,
    exec_write4 oqSize_row acts (oqSize_ofSystem.locate n.isLt) (by decide) (fun same => s.oqSize_congr same n.val) rfl,
    exec_write8 oqBase_row acts (oqBase_ofSystem.locate n.isLt) (by decide) rfl,
    exec_write8 oqCplBase_row acts (oqCplBase_ofSystem.locate n.isLt) (by decide) rfl⟩

theorem exec_write_packetRing (n : Fin 128) :
    exec (.hostRegisterWrite (hostWrite4 (R.HDMA_RING_TAIL.addr n.val) v q)) s = exec (.hdmaRingTail n (v.setWidth 32)) s ∧
    exec (.hostRegisterWrite (hostWrite4 (R.HDMA_RING_SIZE.addr n.val) v q)) s = exec (.hdmaRingSize n .size v) s ∧
    exec (.hostRegisterWrite (hostWrite8 (R.HDMA_RING_BASE.addr n.val) v q)) s = exec (.hdmaRingSize n .base v) s := by
  have low := (toNat_setWidth_low v).symm
  rw [exec_hdmaRingTail acts, exec_hdmaRingSize acts, exec_hdmaRingSize acts]
  exact ⟨exec_write4 ringTail_row acts (ringTail_ofSystem.locate n.isLt) (by decide) (fun same => s.ringTail_congr same n.val) low,
    exec_write4 ringSize_row acts (ringSize_ofSystem.locate n.isLt) (by decide) (fun same => s.ringSize_congr same n.val) rfl,
    exec_write8 ringBase_row acts (ringBase_ofSystem.locate n.isLt) (by decide) rfl⟩

theorem exec_write_shadowRing :
    exec (.hostRegisterWrite (hostWrite4 (R.TBL_SHADOW_TAIL.addr 0) v q)) s = exec (.tblShadowTail (v.setWidth 32)) s ∧
    exec (.hostRegisterWrite (hostWrite4 (R.TBL_SHADOW_SIZE.addr 0) v q)) s = exec (.tblShadowSize .size v) s ∧
    exec (.hostRegisterWrite (hostWrite8 (R.TBL_SHADOW_BASE.addr 0) v q)) s = exec (.tblShadowSize .base v) s := by
  have low := (toNat_setWidth_low v).symm
  rw [exec_tblShadowTail acts, exec_tblShadowSize acts, exec_tblShadowSize acts]
  exact ⟨exec_write4 shadowTail_row acts (by decide) (by decide) (fun same => s.shadowTail_congr same) low,
    exec_write4 shadowSize_row acts (by decide) (by decide) (fun same => s.shadowSize_congr same) rfl,
    exec_write8 shadowBase_row acts (by decide) (by decide) rfl⟩

theorem exec_write_eventRing :
    exec (.hostRegisterWrite (hostWrite4 (R.HDMA_EVR_SIZE.addr 0) v q)) s = exec (.hdmaEvrSize (v.setWidth 32)) s ∧
    exec (.hostRegisterWrite (hostWrite4 (R.HDMA_EVR_HEAD.addr 0) v q)) s = exec (.hdmaEvrHead (v.setWidth 32)) s ∧
    exec (.hostRegisterWrite (hostWrite8 (R.HDMA_EVR_BASE.addr 0) v q)) s = exec (.hdmaEvrBase v) s := by
  have low := (toNat_setWidth_low v).symm
  rw [exec_hdmaEvrSize acts, exec_hdmaEvrHead acts, exec_hdmaEvrBase acts]
  exact ⟨exec_write4 evrSize_row acts (by decide) (by decide) (fun same => s.evrSize_congr same) low,
    exec_write4 evrHead_row acts (by decide) (by decide) (fun same => s.evrHead_congr same) low,
    exec_write8 evrBase_row acts (by decide) (by decide) rfl⟩

theorem exec_write_stampFifo (p : Fin 1024) :
    exec (.hostRegisterWrite (hostWrite4 (R.PORT_TSF_RD.addr p.val) v q)) s = exec (.portTsfRd p (v.setWidth 32)) s := by
  rw [exec_portTsfRd acts]
  exact exec_write4 tsfRd_row acts (tsfRd_ofPorts.locate p.isLt) (by decide) (fun same => s.tsfRead_congr same p.val)
    (toNat_setWidth_low v).symm

end

/-! ### The MSI-X table, sequence write-backs and snapshot requests (R432, R439, R460) -/

/-- The doublewords of the MSI-X table are writable locations. -/
theorem locationAt_msix (e : Fin 256) (d : Fin 4) :
    ∃ start wide, locationAt (0x8000 + 16 * e.val + 4 * d.val) = some ⟨start, wide, true⟩ := by
  have table : isMsix (0x8000 + 16 * e.val + 4 * d.val) = true := by
    rw [isMsix, decide_eq_true (by omega), decide_eq_true (by omega), Bool.and_self]
  rw [locationAt, if_pos table, if_neg (by omega)]
  split
  · exact ⟨_, _, rfl⟩
  · exact ⟨_, _, rfl⟩

theorem busCause_msix (e : Fin 256) (d : Fin 4) (v : Word64) (q : Nat) :
    busCause true (hostWrite4 (0x8000 + 16 * e.val + 4 * d.val) v q) = 0 := by
  obtain ⟨start, wide, there⟩ := locationAt_msix e d
  have aligned : (0x8000 + 16 * e.val + 4 * d.val) % 4 = 0 := by omega
  have snap : 0x8000 + 16 * e.val + 4 * d.val ≠ 0x18 := by omega
  simp [busCause, there, aligned, snap]

section
variable {s : State} (acts : s.Acts)
include acts

theorem exec_write_msix (v : Word64) (q : Nat) (e : Fin 256) (d : Fin 4) :
    exec (.hostRegisterWrite (hostWrite4 (0x8000 + 16 * e.val + 4 * d.val) v q)) s = exec (.msixTableWrite e d (v.setWidth 32)) s := by
  have table : isMsix (0x8000 + 16 * e.val + 4 * d.val) = true := by
    rw [isMsix, decide_eq_true (by omega), decide_eq_true (by omega), Bool.and_self]
  have entry : (0x8000 + 16 * e.val + 4 * d.val - 0x8000) / 4 = 4 * e.val + d.val := by omega
  rw [exec_hostRegisterWrite acts, exec_msixTableWrite acts, State.hostWrite_msix (busCause_msix e d v q) table rfl, entry,
    s.msixWrite_congr (toNat_setWidth_low v)]

/-- A narrow register without a row of its own takes a write-back. -/
theorem exec_write_back {r : RegSpec} {n : Nat} (v : Word64) (q : Nat) (there : locate (r.addr n) = some (r, n))
    (legal : busCause true (hostWrite4 (r.addr n) v q) = 0) (plain : isMsix (r.addr n) = false) (narrow : r.wide = false)
    (sq : r.fields.any (fun f => f.acc == .sq) = true)
    (row : ∀ off len value, s.writeReg r n off len value = s.writeBack r n value) :
    exec (.hostRegisterWrite (hostWrite4 (r.addr n) v q)) s = exec (.sequenceWriteBack (r.addr n) (v.setWidth 32)) s := by
  rw [exec_hostRegisterWrite acts, State.hostWrite_register legal plain there, row, exec_sequenceWriteBack acts there rfl narrow sq,
    s.writeBack_congr (toNat_setWidth_low v)]

theorem exec_write_deviceEvents (v : Word64) (q : Nat) :
    exec (.hostRegisterWrite (hostWrite4 (R.DEV_EVT.addr 0) v q)) s = exec (.sequenceWriteBack (R.DEV_EVT.addr 0) (v.setWidth 32)) s :=
  have there : locate (R.DEV_EVT.addr 0) = some (R.DEV_EVT, 0) := by decide
  exec_write_back acts v q there (busCause_write4 there rfl rfl (by decide) (by decide)) rfl rfl (by decide) (fun _ _ _ => rfl)

theorem exec_write_portEvents (v : Word64) (q : Nat) (p : Fin 1024) :
    exec (.hostRegisterWrite (hostWrite4 (R.PORT_EVT.addr p.val) v q)) s =
      exec (.sequenceWriteBack (R.PORT_EVT.addr p.val) (v.setWidth 32)) s := by
  have there := portEvt_ofPorts.locate p.isLt
  have takes : R.PORT_EVT.Takes 4 := by decide
  obtain ⟨aligned, plain, snap⟩ := takes.place p.val
  exact exec_write_back acts v q there (busCause_write4 there aligned plain snap (by decide)) plain rfl (by decide) (fun _ _ _ => rfl)

end

/-- The request that a value of DEV_SNAP_TRIG makes. -/
def snapAsked (v : Nat) : Nat × Nat := (bits v 23 16, bits v 11 0)

theorem locate_snapTrig : locate 0x18 = some (R.DEV_SNAP_TRIG, 0) := by decide

theorem busCause_snapTrig (v : Word64) (q : Nat) :
    busCause true (hostWrite4 0x18 v q) = if snapOk (snapAsked v.toNat).1 (snapAsked v.toNat).2 then 0 else 6 := by
  have there : locationAt 0x18 = some ⟨0x18, false, true⟩ := by decide
  cases ok : snapOk (snapAsked v.toNat).1 (snapAsked v.toNat).2 <;> simp_all [busCause, snapAsked]

theorem snapAsked_congr {v w : Nat} (low : v % 2 ^ 32 = w % 2 ^ 32) : snapAsked v = snapAsked w := by
  rw [snapAsked, snapAsked, bits_congr_low low (by decide), bits_congr_low low (by decide)]

section
variable {s : State} {v : Word64} {q : Nat}

theorem State.snapTrig_bad (bad : snapOk (snapAsked v.toNat).1 (snapAsked v.toNat).2 = false) :
    s.hostWrite (hostWrite4 0x18 v q) = s.busError true 6 (hostWrite4 0x18 v q) := by
  have cause := busCause_snapTrig v q
  rw [bad, if_neg Bool.false_ne_true] at cause
  rw [State.hostWrite_error (by rw [cause]; decide), cause]

theorem State.snapTrig_good (good : snapOk (snapAsked v.toNat).1 (snapAsked v.toNat).2 = true) :
    s.hostWrite (hostWrite4 0x18 v q) = s.snapAsk (snapAsked v.toNat).1 (snapAsked v.toNat).2 := by
  have cause := busCause_snapTrig v q
  rw [good, if_pos rfl] at cause
  exact State.hostWrite_register cause rfl locate_snapTrig

theorem State.snapTrig_congr {w : Word64} (low : v.toNat % 2 ^ 32 = w.toNat % 2 ^ 32) :
    s.hostWrite (hostWrite4 0x18 v q) = s.hostWrite (hostWrite4 0x18 w q) := by
  have same := snapAsked_congr low
  cases ok : snapOk (snapAsked v.toNat).1 (snapAsked v.toNat).2 with
  | true => rw [State.snapTrig_good ok, State.snapTrig_good (same ▸ ok), same]
  | false =>
    rw [State.snapTrig_bad ok, State.snapTrig_bad (same ▸ ok)]
    rfl

end

theorem toNat_word (v : Word32) : (BitVec.ofNat 64 v.toNat).toNat = v.toNat := by
  rw [BitVec.toNat_ofNat, Nat.mod_eq_of_lt (lt_trans v.isLt (by decide))]

section
variable {s : State}

theorem exec_write_snapTrig (acts : s.Acts) (v : Word64) (q : Nat) :
    exec (.hostRegisterWrite (hostWrite4 0x18 v q)) s = exec (.devSnapTrig (v.setWidth 32) q) s := by
  rw [exec_hostRegisterWrite acts, exec_devSnapTrig acts]
  exact congrArg _ (State.snapTrig_congr (by rw [toNat_word, toNat_setWidth_low]))

theorem exec_devSnapTrig_bad (acts : s.Acts) {v : Word32} (q : Nat) (bad : snapOk (bits v.toNat 23 16) (bits v.toNat 11 0) = false) :
    exec (.devSnapTrig v q) s = .next (s.busError true 6 (hostWrite4 0x18 (BitVec.ofNat 64 v.toNat) q)) :=
  (exec_devSnapTrig acts v q).trans (congrArg _ (State.snapTrig_bad (by rw [toNat_word]; exact bad)))

theorem exec_devSnapTrig_good (acts : s.Acts) {v : Word32} (q : Nat) (good : snapOk (bits v.toNat 23 16) (bits v.toNat 11 0) = true) :
    exec (.devSnapTrig v q) s = .next (s.snapAsk (bits v.toNat 23 16) (bits v.toNat 11 0)) := by
  have asked := State.snapTrig_good (s := s) (v := BitVec.ofNat 64 v.toNat) (q := q) (by rw [toNat_word]; exact good)
  rw [toNat_word] at asked
  exact (exec_devSnapTrig acts v q).trans (congrArg _ asked)

variable {block unit : Nat}

theorem State.snapAsk_there (there : (if s.epoch.cutoffDone then s.epoch.snapNext else s.epoch.snapNow).contains (block, unit) = true) :
    s.snapAsk block unit = s := if_pos there

theorem State.snapAsk_full (new : (if s.epoch.cutoffDone then s.epoch.snapNext else s.epoch.snapNow).contains (block, unit) = false)
    (full : 256 ≤ (if s.epoch.cutoffDone then s.epoch.snapNext else s.epoch.snapNow).length) :
    s.snapAsk block unit = s.raise EV_SNAP_OVF 0 :=
  (if_neg (by rw [new]; decide)).trans (if_pos full)

theorem State.snapAsk_now (early : s.epoch.cutoffDone = false) (new : s.epoch.snapNow.contains (block, unit) = false)
    (room : s.epoch.snapNow.length < 256) :
    s.snapAsk block unit = { s with epoch := { s.epoch with snapNow := s.epoch.snapNow ++ [(block, unit)] } } := by
  simp only [State.snapAsk, early, new, Nat.not_le.mpr room, Bool.false_eq_true, if_false]

theorem State.snapAsk_next (late : s.epoch.cutoffDone = true) (new : s.epoch.snapNext.contains (block, unit) = false)
    (room : s.epoch.snapNext.length < 256) :
    s.snapAsk block unit = { s with epoch := { s.epoch with snapNext := s.epoch.snapNext ++ [(block, unit)] } } := by
  simp only [State.snapAsk, late, new, Nat.not_le.mpr room, Bool.false_eq_true, if_false, if_true]

end

/-! ### Reads (R440, R441, R469) -/

section
variable {s : State}

theorem State.pcieRead_early (early : s.fld R.PWR_STAT_BOOT_STEP 0 < 6) (off len : Nat) :
    s.pcieRead off len = ((State.reset.readBar off len).1, s) := if_pos early

theorem State.pcieRead_late (late : 6 ≤ s.fld R.PWR_STAT_BOOT_STEP 0) (off len : Nat) : s.pcieRead off len = s.readBar off len :=
  if_neg (by omega)

theorem State.hostRead_error {a : Access} (error : busCause false a ≠ 0) :
    s.hostRead a = (s.busError false (busCause false a) a).emit .unsupported := if_pos (bne_iff_ne.mpr error)

theorem State.hostRead_legal {a : Access} (legal : busCause false a = 0) :
    s.hostRead a = (s.pcieRead a.off a.len).2.emit (.readData (BitVec.ofNat 64 (s.pcieRead a.off a.len).1)) := by
  rw [State.hostRead, legal]
  rfl

theorem exec_lhLowWordRead (acts : s.Acts) {off n : Nat} {r : RegSpec} (wide : Bool) (there : locate off = some (r, n))
    (first : r.addr n = off) (latching : r.fields.any (fun f => f.acc == .lh) = true) : exec (.lhLowWordRead off wide) s =
      .next ((s.pcieRead off (if wide then 8 else 4)).2.emit (.readData (BitVec.ofNat 64 (s.pcieRead off (if wide then 8 else 4)).1))) := by
  change execLhLowWordRead off wide s = _
  rw [execLhLowWordRead, State.awake_of_acts acts, there]
  simp only [first, latching, decide_true, Bool.and_self, if_true]

theorem State.onlyHost_loadLatch (s : State) (off v : Nat) : OnlyHost s (s.loadLatch off v) := rfl

theorem State.onlyHost_emit (s : State) (x : Out) : OnlyHost s (s.emit x) := rfl

/-- The low word of the free cells: their number now becomes the least one. -/
theorem State.readBar_freeCells (s : State) : s.readBar (R.CELL_FREE.addr 0) 4 = (s.view R.CELL_FREE 0 % 2 ^ 32,
    { s.loadLatch (R.CELL_FREE.addr 0) (s.view R.CELL_FREE 0 / 2 ^ 32) with minFree := s.freeCells }) := by
  have there : locate (R.CELL_FREE.addr 0) = some (R.CELL_FREE, 0) := by decide
  rw [State.readBar, there]
  rfl

theorem isMsix_behind {off : Nat} (behind : 0x9020 ≤ off) : isMsix off = false := by
  rw [isMsix, decide_eq_false (Nat.not_lt.mpr behind), Bool.and_false]


theorem tbNs_addr (b : Nat) : R.TIME_TB_NS.addr b = 0x40000 + b / 8 * 0x400 + b % 8 * 0x80 := rfl

theorem tbSec_addr (b : Nat) : R.TIME_TB_SEC.addr b = 0x40008 + b / 8 * 0x400 + b % 8 * 0x80 := rfl

theorem tbNs_apart_tbSec (b : Nat) : R.TIME_TB_NS.addr b ≠ R.TIME_TB_SEC.addr b := by
  rw [tbNs_addr, tbSec_addr]
  omega

/-- The low word of the nanoseconds of a time base latches the rest of its time. -/
theorem State.readBar_nanoseconds (s : State) (b : Fin 8) : s.readBar (R.TIME_TB_NS.addr b.val) 4 = (s.view R.TIME_TB_NS b.val % 2 ^ 32,
    (s.loadLatch (R.TIME_TB_NS.addr b.val) (s.view R.TIME_TB_NS b.val / 2 ^ 32)).loadLatch (R.TIME_TB_SEC.addr b.val)
      (s.view R.TIME_TB_SEC b.val)) := by
  have there := tbNs_ofSystem.locate b.isLt
  have low : (R.TIME_TB_NS.addr b.val == R.TIME_TB_NS.addr b.val + 4) = false := beq_false_of_ne (by omega)
  rw [State.readBar, isMsix_behind (by rw [tbNs_addr]; omega), there]
  dsimp only
  rw [low]
  rfl

theorem portCfg_addr (p : Nat) : R.PORT_CFG.addr p = 0x200008 + 0x1000 * p := by
  simp only [RegSpec.addr, R.PORT_CFG]
  omega

/-- A register without effects of reading reads as it stands. -/
theorem State.readBar_portConfig (s : State) (p : Fin 1024) :
    s.readBar (R.PORT_CFG.addr p.val) 4 = (s.reg R.PORT_CFG p.val % 2 ^ 32, s) := by
  have there := portCfg_ofPorts.locate p.isLt
  have low : (R.PORT_CFG.addr p.val == R.PORT_CFG.addr p.val + 4) = false := beq_false_of_ne (by omega)
  rw [State.readBar, isMsix_behind (by rw [portCfg_addr]; omega), there]
  dsimp only
  rw [low]
  rfl

end

theorem busCause_portConfig (p : Fin 1024) :
    busCause false { off := R.PORT_CFG.addr p.val, len := 4, be := 15, value := 0, requester := 0 } = 0 := by
  have aligned : R.PORT_CFG.addr p.val % 4 = 0 := by
    rw [portCfg_addr]
    omega
  have plain := isMsix_behind (off := R.PORT_CFG.addr p.val) (by rw [portCfg_addr]; omega)
  simp [busCause, locationAt, portCfg_ofPorts.locate p.isLt, aligned, plain]

/-! ### Bus errors (R437, R438) -/

section
variable (s : State) (write : Bool) (cause : Nat) (a : Access)

/-- INFO of a bus error. -/
def State.busInfo (s : State) (write : Bool) (cause : Nat) (a : Access) : Nat :=
  (a.requester % 65536) <<< 16 + (min 255 (s.fld R.DEV_BUSERR_INFO_COUNT 0 + 1)) <<< 8 + ofFlag write <<< 7 + cause <<< 4 + a.be % 16

theorem State.reg_raiseAt_other {s : State} {e : EvSpec} {f : Fld} {n unit m : Nat} {data : List Nat} {r : RegSpec} (bit : e.bit = some f)
    (apart : r.addr m ≠ f.reg.addr n) : (s.raiseAt e n unit data).reg r m = s.reg r m := by
  rw [State.reg, State.regs_raiseAt, State.markEvent, bit]
  exact State.reg_setReg_other _ _ apart

theorem State.busError_registers : (s.busError write cause a).reg R.DEV_BUSERR_INFO 0 = s.busInfo write cause a % 2 ^ 64 ∧
    (s.busError write cause a).reg R.DEV_BUSERR_ADDR 0 = a.off % 2 ^ 25 := by
  unfold State.busError
  dsimp only
  rw [State.reg_raiseAt_other rfl (by decide), State.reg_raiseAt_other rfl (by decide), State.reg_setReg_other _ _ (by decide),
    State.reg_setReg_same, State.reg_setReg_same]
  exact ⟨rfl, Nat.mod_eq_of_lt (lt_trans (Nat.mod_lt _ (by decide)) (by decide))⟩

theorem State.busInfo_fields (hc : cause < 8) : s.busInfo write cause a < 2 ^ 32 ∧
    bits (s.busInfo write cause a) 31 16 = a.requester % 65536 ∧
    bits (s.busInfo write cause a) 15 8 = min 255 (s.fld R.DEV_BUSERR_INFO_COUNT 0 + 1) ∧
    bits (s.busInfo write cause a) 7 7 = ofFlag write ∧ bits (s.busInfo write cause a) 6 4 = cause ∧
    bits (s.busInfo write cause a) 3 0 = a.be % 16 := by
  have flag : ofFlag write ≤ 1 := by cases write <;> decide
  simp only [State.busInfo, bits, Nat.shiftLeft_eq, Nat.shiftRight_eq_div_pow]
  omega

end

/-! ### The statement on host accesses -/

/-- What a snapshot request of the table does. -/
theorem exec_devSnapTrig_cases {s : State} (acts : s.Acts) {v : Word32} (q : Nat)
    (good : snapOk (bits v.toNat 23 16) (bits v.toNat 11 0) = true) :
    let ask := (bits v.toNat 23 16, bits v.toNat 11 0)
    let asked := if s.epoch.cutoffDone then s.epoch.snapNext else s.epoch.snapNow
    (s.epoch.cutoffDone = false → asked.contains ask = false → asked.length < 256 →
      exec (.devSnapTrig v q) s = .next { s with epoch := { s.epoch with snapNow := s.epoch.snapNow ++ [ask] } }) ∧
    (s.epoch.cutoffDone = true → asked.contains ask = false → asked.length < 256 →
      exec (.devSnapTrig v q) s = .next { s with epoch := { s.epoch with snapNext := s.epoch.snapNext ++ [ask] } }) ∧
    (asked.contains ask = true → exec (.devSnapTrig v q) s = .next s) ∧
    (asked.contains ask = false → 256 ≤ asked.length → exec (.devSnapTrig v q) s = .next (s.raise EV_SNAP_OVF 0)) := by
  intro ask asked
  have asks := exec_devSnapTrig_good acts q good
  refine ⟨fun early new room => asks.trans (congrArg _ (State.snapAsk_now early ?_ ?_)),
    fun late new room => asks.trans (congrArg _ (State.snapAsk_next late ?_ ?_)),
    fun there => asks.trans (congrArg _ (State.snapAsk_there there)),
    fun new full => asks.trans (congrArg _ (State.snapAsk_full new full))⟩
  · simpa only [asked, early, Bool.false_eq_true, if_false] using new
  · simpa only [asked, early, Bool.false_eq_true, if_false] using room
  · simpa only [asked, late, if_true] using new
  · simpa only [asked, late, if_true] using room

/-- Settles O21: writes by `exec_write4` and its like over `RegSpec.OfSystem.locate`, reads by `State.readBar`, and the rest by
`State.busError_registers` and `State.snapAsk`. -/
theorem hostAccesses : Obligations.HostAccesses := by
  refine ⟨⟨fun a s acts _ => ⟨fun error => ?_, ?_⟩, fun s v q acts bad => ⟨_, rfl, rfl, exec_devSnapTrig_bad acts q bad⟩,
      fun s write cause a low small => ?_⟩,
    fun s v q acts => ⟨exec_write_orderRing acts v q, exec_write_packetRing acts v q, exec_write_shadowRing acts v q,
      exec_write_eventRing acts v q, exec_write_stampFifo acts v q, exec_write_msix acts v q, exec_write_snapTrig acts v q,
      exec_write_deviceEvents acts v q, exec_write_portEvents acts v q⟩,
    fun a s acts legal plain r n there => ?_, fun s v q acts good => exec_devSnapTrig_cases acts q good,
    fun s off n r wide acts there first latching => ⟨fun late => ?_, fun early => ?_⟩,
    fun s acts late => ⟨?_, fun b => ?_⟩, fun s p acts late => ?_⟩
  · exact (exec_hostRegisterWrite acts a).trans (congrArg _ (State.hostWrite_error error))
  · rw [exec_unsupportedRequest acts]
    refine ⟨fun error => congrArg _ (State.hostRead_error error), fun legal => ?_⟩
    rw [State.hostRead_legal legal]
    exact ⟨fun early => by rw [State.pcieRead_early early], fun late => by rw [State.pcieRead_late late]⟩
  · obtain ⟨info, addr⟩ := s.busError_registers write cause a
    obtain ⟨narrow, fields⟩ := s.busInfo_fields write cause a small
    rw [Nat.mod_eq_of_lt (lt_trans narrow (by decide))] at info
    intro t
    rw [addr, info]
    exact ⟨Nat.mod_eq_of_lt low, fields⟩
  · exact (exec_hostRegisterWrite acts a).trans (congrArg _ (State.hostWrite_register legal plain there))
  · rw [exec_lhLowWordRead acts wide there first latching, State.pcieRead_late late]
  · rw [exec_lhLowWordRead acts wide there first latching, State.pcieRead_early early]
  · have reads := exec_lhLowWordRead acts (off := R.CELL_FREE.addr 0) (n := 0) (r := R.CELL_FREE) false (by decide) rfl (by decide)
    rw [State.pcieRead_late late, if_neg Bool.false_ne_true, State.readBar_freeCells] at reads
    exact ⟨_, reads, rfl, SMap.get_set_same .., rfl, rfl, rfl, rfl, rfl, rfl⟩
  · have reads := exec_lhLowWordRead acts false (tbNs_ofSystem.locate b.isLt) rfl (by decide)
    rw [State.pcieRead_late late, if_neg Bool.false_ne_true, State.readBar_nanoseconds] at reads
    refine ⟨_, reads, rfl, (SMap.get_set_other _ _ _ _ (tbNs_apart_tbSec b.val)).trans (SMap.get_set_same ..), SMap.get_set_same .., ?_⟩
    exact ((s.onlyHost_loadLatch ..).trans (State.onlyHost_loadLatch ..)).trans (State.onlyHost_emit ..)
  · rw [exec_unsupportedRequest acts, State.hostRead_legal (busCause_portConfig p), State.pcieRead_late late, State.readBar_portConfig]

end Sys2Proof.Machine
end
